-- ==== Sys2Proof/Word.lean ====
section
/-!
DEFINITION. Sys2Proof/Word.lean: the word and byte types of the register space (R8) and the plain table type.
-/
namespace Sys2Proof

/-- A register word: 32 bits (R8). -/
abbrev Word := BitVec 32

/-- One byte of a frame or of an image. -/
abbrev Byte := BitVec 8

/-- A sparse table: entries in strictly rising key order. -/
abbrev Tbl (α : Type) := List (Nat × α)

/-- A grouped table: a table of tables, each of 256 neighbouring keys. -/
abbrev Grp (α : Type) := List (Nat × List (Nat × α))

end Sys2Proof
end

