-- ==== Sys2Proof/Syntax.lean ====
section
/-!
DEFINITION. Sys2Proof/Syntax.lean: the commands of the block: one constructor of `Instr` per row of the opcode table, with its
operands, and the frames that some of them carry.
-/
namespace Sys2Proof

/-- One IEEE 802.1Q tag of a received frame (R423, R433). -/
structure VlanTag where
  vid : Nat
  dei : Bool
  deriving DecidableEq, Repr

/-- What the receive MACsec finds in a frame's SecTAG: the SCI if present, the AN, the packet number (the recovered 64-bit number
with XPN = 1), whether the payload is encrypted, and whether the ICV verifies (R428). -/
structure SecTag where
  sci : Option (BitVec 64)
  an : Nat
  pn : Nat
  encrypted : Bool
  icvOk : Bool
  deriving DecidableEq, Repr

/-- One Ethernet frame as it arrives at a management port: port, received length from destination address to FCS, FCS verdict,
pause, VLAN tag, SecTAG, DSCP of an IP header, whether its destination is the port's own address, whether it is an IP fragment,
and the PCS time stamp in picoseconds of device time (R128, R423, R424). -/
structure EthRx where
  port : Nat
  len : Nat
  fcsOk : Bool
  pause : Bool
  vlan : Option VlanTag
  sec : Option SecTag
  dscp : Option Nat
  toUs : Bool
  fragment : Bool
  pcsStamp : Nat
  deriving DecidableEq, Repr

/-- The kinds of non-Afisk frame that R424 tells apart. -/
inductive EthKind where
  | ptpL2 | ptpUdp | arpRequest | neighbourSolicit | echoRequest | other
  deriving DecidableEq, Repr

/-- How an Afisk frame reaches the device: a datagram of a management port with its source address and UDP ports, or the next posted
slot of the mailbox request ring (R398, R399). -/
inductive Via where
  | net (rx : EthRx) (src : BitVec 128) (srcUdp dstUdp : Nat)
  | mailbox
  deriving DecidableEq, Repr

/-- One received Afisk frame: the header fields of R396, the parameters as bytes, and the tag. `rcvd` is the number of bytes
received. -/
structure Frame where
  via : Via
  rcvd : Nat
  magic : Nat
  ver : Nat
  typ : Nat
  flags : Nat
  length : Nat
  session : Nat
  tenant : Nat
  seq : BitVec 64
  reqId : Nat
  opcode : Nat
  code : Nat
  stamp : BitVec 64
  params : List Byte
  tag : BitVec 128
  deriving DecidableEq, Repr

/-- The header of a boot or staged firmware image (R500) with the verdicts on its form and signature. -/
structure BootImage where
  wellFormed : Bool
  sigOk : Bool
  imgVer : Nat
  arbVer : Nat
  len : Nat
  deriving DecidableEq, Repr

/-- What a step of a recalibration finds (R366, R367, R373): whether its self-check passed, trim settings by trim index, and table words by
correction entry (step 3) or channel (step 4). -/
structure CalResult where
  ok : Bool
  trims : List (Nat × Int)
  words : List (Nat × Word)
  deriving DecidableEq, Repr

/-- The regions of SRAM that the scrubber reads (R490), each with the word's place in it: an element's record, a table word of a tile
(by correction table, or the key of the element and fast-drive tables), a slot-map bank, a program store, the capture buffer, the hub's
copied tables, the recorder ring, a tenant key, and a MACsec SA. -/
inductive EccWord where
  | element (e : Fin 81920)
  | channel (t : Fin 20) (q : Fin 8192)
  | slotMap (t : Fin 20)
  | program (t : Fin 20)
  | capture (t : Fin 20) (addr : Fin 262144)
  | hubTable (ddrCopyGood : Bool)
  | ring (slot : Fin 16384)
  | key (tenant : Fin 64)
  | sa (port : Fin 4) (dir : Fin 2) (an : Fin 4)
  deriving DecidableEq, Repr

/-- Instructions of the JTAG port (R531). -/
inductive JtagIns where
  | bypass | idcode | samplePreload | extest | other
  deriving DecidableEq, Repr

/-- What base camp finds in a tile (R506, R507): the readings of housekeeping channels 128 to 135 in its two rounds, whether step 1 passed,
the junction reading of step 1 in 0.01 °C, trims by trim index, correction entries, fast-drive channel entries, and whether a later step was
deferred. -/
structure BaseTile where
  supply : List (Fin 8 × BitVec 16 × BitVec 16)
  anchorOk : Bool
  temp : BitVec 16
  trims : List (Nat × Int)
  corr : List (Nat × Word)
  fd : List (Nat × Word)
  deferred : Bool
  deriving DecidableEq, Repr

/-- What the hardware behind a register write finds: whether the test block of the log store passed (R462), and whether each DDR channel
trained (R493). -/
structure WriteEnv where
  logStore : Bool
  ddr0 : Bool
  ddr1 : Bool
  deriving DecidableEq, Repr

/-- The commands: one constructor per row of the opcode table, with the values of its operands: what a write carries, which channel or instant
it concerns, and what the hardware finds where the spec leaves that to the world (a reading, a sense result, a verdict). -/
inductive Instr where
  /-- COLD_RESET (R3). Assertion of POR_N resets every domain, clears the retained region and latches every port dark on hold-up energy. -/
  | coldReset (width : Nat)
  /-- POR_RELEASE (R499). The rise of POR_N starts the start-up sequence at its LATCH stage. -/
  | porRelease (notDark : List (Fin 2048 × Fin 2))
  /-- BOOT_ROM (R501). The boot ROM selects, verifies and loads a valid boot image, or halts with BOOT_NO_IMAGE. -/
  | bootRom (a b : BootImage)
  /-- BOOT_WATCHDOG_EXPIRY (R502). The 10 s boot watchdog expires before RESTORE, so the ROM boots the other slot once or halts. -/
  | bootWatchdogExpiry (other : BootImage)
  /-- RESTORE_STAGE (R504). Firmware enables MEM and restores the configuration area, microcode, tables and wear counts. -/
  | restoreStage (ok0 ok1 : Bool)
  /-- BASECAMP_STAGE (R506). All twenty tiles run base camp calibration and supply checks at once. -/
  | basecampStage (tiles : Vector BaseTile 20)
  /-- ENABLE_STAGE (R509). Firmware sets the block enables in order, halting on a refusal of orders 1 to 4. -/
  | enableStage
  /-- VERIFY_STAGE (R510). Tiles 0 and 9 prove every latch by an open and a close, then the device enters READY. -/
  | verifyStage (failOpen failClose : List (Fin 2048))
  /-- WARM_RESET (R468). HUB_RST_N resets the control domain while the fabric and the retained region are kept. -/
  | warmReset (width : Nat)
  /-- HUB_WATCHDOG_EXPIRY (R471). The hub watchdog expires and causes a failover when a standby group is ready, or a warm reset otherwise. -/
  | hubWatchdogExpiry (freeze : Nat)
  /-- CONTROL_RESTART (R469). The control domain restarts after a warm reset and restores time, throttle, journal, placement, swaps, recorder
  and ports. -/
  | controlRestart (off : List (Fin 20 × Int))
  /-- SOFT_RESET (R470). A write of GLB_CTL.SOFT_RST starts a warm reset 100 us later, unless a firmware change runs. -/
  | softReset (v : Word)
  /-- POWER_FAIL (R512). PFAIL_N held low for 1 us starts the power-fail sequence: latches close, drive goes off and records are flushed. -/
  | powerFail (width : Nat) (torn : Bool)
  /-- EMERGENCY_CLOSE (R328). A VLATCH or VDD_TILE droop starts the hard-wired close of every latch in grouped pulses. -/
  | emergencyClose
  /-- PCIE_RESET (R427). A function-level reset, hot reset or link loss clears the mailbox enable and nothing else. -/
  | pcieReset
  /-- REFCLK_LOSS (R486). Loss of REFCLK clears REF_OK and VALID, and the tiles take the forwarded hub clock and enter holdover. -/
  | refclkLoss
  /-- REFCLK_RETURN (R488). A returning REFCLK relocks each PLL within 50 ms without a phase step. -/
  | refclkReturn
  /-- TILE_HOLDOVER_ENTRY (R486). A tile that has received no sync mark for 10 us enters holdover and self-strobes slot epochs. -/
  | tileHoldoverEntry (t : Fin 20)
  /-- HOLDOVER_FREEZE (R487). After 10 s of holdover each tile freezes the active schedule at the slot in force. -/
  | holdoverFreeze
  /-- HOLDOVER_FREEZE_END (R487). Once the hub has been in service with REF_OK for 1 s, the freeze ends at the next slot epoch. -/
  | holdoverFreezeEnd
  /-- PLAIN_REGISTER_WRITE (R538). A write to a register that has no row of its own, judged and taken or discarded whole. -/
  | plainRegisterWrite (a : Nat) (v : Word) (env : WriteEnv)
  /-- ACCESS_ERROR (R9). An unaligned or unmapped access, or a write to a read-only window, is discarded and raises EV 0. -/
  | accessError (write : Bool) (a : Nat)
  /-- GUARD_SAMPLE (R41). Every 250 ns the guard compares each input tap with IN_GUARD and updates its trip count. -/
  | guardSample (readings : List (Fin 1024 × Int))
  /-- GUARD_LATCH (R42). The guard count reaches 4,000, so the guard closes the port latch, darkens its circuits and raises EV 297. -/
  | guardLatch (p : Fin 1024)
  /-- GUARD_STS_CLEAR (R45). A host write of 1 to a TILE_FD_GUARD_STS_n bit releases the guard hold and clears the matching LAT bit. -/
  | guardStsClear (n : Fin 32) (v : Word)
  /-- GUARD_CFG_WRITE (R47). A write of IN_GUARD is either accepted or refused with PRT_GUARD_RANGE and EV 298. -/
  | guardCfgWrite (v : Word)
  /-- OWNER_WRITE (R65). A write of CMD_OWN_IN_n or CMD_OWN_OUT_n is judged field by field and changes port owners. -/
  | ownerWrite (out : Bool) (n : Fin 256) (v : Word)
  /-- CIRCUIT_PLACEMENT (R93). The placement engine takes the next queued request and places it incrementally, refuses it, or starts a
  rearrangement. -/
  | circuitPlacement
  /-- REARRANGE_RUN_END (R102). A background rearrangement run ends, and its solution is checked, accepted or rerun. -/
  | rearrangeRunEnd
  /-- CIRCUIT_ARM (R57). A PLACED circuit whose path is pre-positioned and whose latches are verified open becomes ARMED. -/
  | circuitArm (i : Fin 262144)
  /-- POINT_OF_NO_RETURN (R175). At E − 5 us of a transition, its circuits, stages or swap are verified and armed in the tiles. -/
  | pointOfNoReturn (cls : Bool) (e : Nat)
  /-- DECISION_INSTANT (R209). At E − 1,000 ns the device decides aborts, cancels and releases, and withdraws any load they undo. -/
  | decisionInstant (cls : Bool) (e : Nat)
  /-- BLANK_STROBE (R175). At G0, started by a hub mark or by the tile compare, the affected ports are blanked and moved circuits enter
  MOVING. -/
  | blankStrobe (cls : Bool) (e : Nat) (hub : Bool)
  /-- SELF_STROBE_DETECT (R165). No hub mark follows a tile's own compare within 4 ns, so the tile is self-strobed. -/
  | selfStrobeDetect (cls : Bool) (e : Nat) (tile : Fin 20)
  /-- SWITCH_STROBE (R175). At G0 + 100 ns every tile loads the fast-drive channels of its touched elements. -/
  | switchStrobe (cls : Bool) (e : Nat)
  /-- READY_SAMPLE (R179). At E − 300 ns tiles 0 and 9 sample the twenty ready lines. -/
  | readySample (cls : Bool) (e : Nat) (nak : List (Fin 20))
  /-- UNBLANK_STROBE (R178). At E − 250 ns the affected ports that R178 admits are released. -/
  | unblankStrobe (cls : Bool) (e : Nat)
  /-- REOFFER_UNBLANK (R180). A port left blanked is offered again at a later unblank strobe. -/
  | reofferUnblank (out : Bool) (p : Fin 1024) (e : Nat)
  /-- EPOCH_COMMIT (R175). At E the circuits commit, and contexts and SCHD_STS.SLOT follow. -/
  | epochCommit (cls : Bool) (e : Nat)
  /-- LOSS_CHECK_DEADLINE (R58). At E + 10 ms with fewer than ten check samples posted, the loss check passes. -/
  | lossCheckDeadline (i : Fin 262144)
  /-- CIRCUIT_LEASE_EXPIRY (R70). A circuit lease expires, and the circuit is released. -/
  | circuitLeaseExpiry (i : Fin 262144)
  /-- GRANT_LEASE_EXPIRY (R66). A grant lease expires, and every circuit using the grant is released. -/
  | grantLeaseExpiry (n : Fin 512)
  /-- SESSION_LEASE_EXPIRY (R69). A session lease expires, and the session is announced and closed. -/
  | sessionLeaseExpiry (i : Fin 32)
  /-- DEFERRED_RELEASE (R540). A deferred expiry or revocation acts at the point of no return of the first grid point after its cause ends. -/
  | deferredRelease
  /-- SCHEDULE_PLACEMENT_DONE (R148). Placement of a loaded schedule completes, and the entry becomes READY or FAILED. -/
  | schedulePlacementDone (n : Fin 64)
  /-- STALE_REPLACEMENT_DONE (R150). A background re-placement of a stale schedule completes, and the entry becomes READY or stays STALE. -/
  | staleReplacementDone (n : Fin 64)
  /-- REPAIR_RETRY (R110). A failed repair is retried 100 us after a release, a map change or an ENABLE. -/
  | repairRetry
  /-- PLC_CTL_WRITE (R112). A write of PLC_CTL enables or disables placement under the policy check. -/
  | plcCtlWrite (v : Word)
  /-- PLC_POLICY_WRITE (R112). A write of a PLC policy register is discarded with PLC_POLICY_LOCKED while ENABLE reads 1. -/
  | plcPolicyWrite (k : Fin 6) (v : Word)
  /-- TIME_INC_COMMIT (R117). A write of TIME_INC_LO commits or refuses the 32.32 increment in the hub and every tile. -/
  | timeIncCommit (v : Word)
  /-- TIME_VALID_SET (R121). The warden writes VALID_SET, and TIME_STS.VALID is set. -/
  | timeValidSet (v : Word)
  /-- TIME_VALID_CLR (R121). The warden writes VALID_CLR, and TIME_STS.VALID is cleared. -/
  | timeValidClr (v : Word)
  /-- TIME_STEP_ARM (R122). A write of TIME_ADJ_CTL.GO arms a phase step or refuses it. -/
  | timeStepArm (v : Word)
  /-- TIME_STEP_APPLY (R123). An armed phase step is applied at the first tick that the epoch engine allows. -/
  | timeStepApply
  /-- TIME_STEP_NO_WINDOW (R123). No window occurs within 1 ms of arming, so the step is discarded with TIM_ADJ_NO_WINDOW. -/
  | timeStepNoWindow
  /-- TIME_PTP_CFG_WRITE (R139). A write of TIME_PTP_CFG enables or disables the servo under its check. -/
  | timePtpCfgWrite (v : Word)
  /-- PTP_FRAME (R127). A received PTP message is taken by the servo, which may change servo state. -/
  | ptpFrame (rx : EthRx) (udp : Bool) (domain : Nat) (master : Bool) (offset : Option Int) (inc : Option Nat)
  /-- SERVO_HOLDOVER (R139). No usable Sync for 3 s while LOCKED puts the servo in HOLDOVER. -/
  | servoHoldover
  /-- PPS_CAPTURE (R131). A selected PPS_IN edge captures device time and raises EV 19. -/
  | ppsCapture (falling : Bool) (err : Int)
  /-- PPS_CAP_READ (R131). A read of TIME_PPS_CAP word 0 clears OVW. -/
  | ppsCapRead
  /-- PPS_OUT_PULSE (R132). PPS_OUT rises at NS equal to OUT_OFS us and stays high for OUT_WIDTH ms. -/
  | ppsOutPulse
  /-- TREF_GATE (R133). At the end of each 1 s gate the time clock is measured against TREF_IN. -/
  | trefGate (ppb : Int)
  /-- TREF_LOSS (R133). No TREF_IN edge for 1 ms clears TREF_OK and raises EV 18. -/
  | trefLoss
  /-- TIME_NOW_SNAPSHOT (R140). A read of TIME_NOW word 0 takes a snapshot of the counter. -/
  | timeNowSnapshot
  /-- SYNC_MARK (R135). Every 1 us the hub sends a sync mark, and tiles more than 1 ns off are reloaded. -/
  | syncMark (off : List (Fin 20 × Int))
  /-- SCH_LOAD_BEGIN (R412). Opcode 0x3001 starts loading a library entry with its slot durations. -/
  | schLoadBegin (f : Frame)
  /-- SCH_LOAD_SLOT (R412). Opcode 0x3002 writes circuit records into a slot of a loading entry. -/
  | schLoadSlot (f : Frame)
  /-- SCH_LOAD_END (R412). Opcode 0x3003 ends a load and starts validation and placement. -/
  | schLoadEnd (f : Frame)
  /-- SCH_ERASE (R412). Opcode 0x3004 empties a library entry. -/
  | schErase (f : Frame)
  /-- SCH_SWAP (R154). Opcode 0x3005 arms an activation, a swap or a deactivation at E_sw. -/
  | schSwap (f : Frame)
  /-- SCH_CANCEL (R158). Opcode 0x3006 cancels an armed swap or answers TRV_ABORT_LATE. -/
  | schCancel (f : Frame)
  /-- SCH_LOAD_TIMEOUT (R412). An entry left LOADING for 10 s with no load frame reads EMPTY. -/
  | schLoadTimeout (n : Fin 64)
  /-- SCHD_CTL_WRITE (R170). A write of SCHD_CTL enables or disables loads and swaps. -/
  | schdCtlWrite (v : Word)
  /-- EPO_CTL_WRITE (R169). A write of EPO_CTL enables or disables the epoch engine under its check. -/
  | epoCtlWrite (v : Word)
  /-- EPO_GB_WRITE (R166). A write of GB_SET is queued to become GB_USE, or discarded with SCH_GB_RANGE. -/
  | epoGbWrite (v : Word)
  /-- EPO_BELAY_CFG_WRITE (R195). A write of EPO_BELAY_CFG is accepted, or discarded with EPO_BELAY_RANGE. -/
  | epoBelayCfgWrite (v : Word)
  /-- EPO_NEXT_SNAPSHOT (R163). A read of EPO_NEXT word 0 takes a snapshot of the next epoch. -/
  | epoNextSnapshot
  /-- EPO_XLAST_SNAPSHOT (R179). A read of EPO_XLAST word 0 takes a snapshot of the last held-dark transition. -/
  | epoXlastSnapshot
  /-- SCHD_CYC_START_SNAPSHOT (R143). A read of SCHD_CYC_START_HI takes a snapshot of the cycle start. -/
  | schdCycStartSnapshot
  /-- HUB_JUNCTION_SAMPLE (R386). Every 1 ms the hub junction reading is taken and compared with the throttle and shutdown thresholds. -/
  | hubJunctionSample (r : BitVec 16)
  /-- FRAME_EDGE (R232). At a tile's loop frame edge, outputs transfer, records update, the monitor sequence starts and the engine serves
  elements. -/
  | frameEdge (t : Fin 20) (abandoned : List (Fin 4096))
  /-- BELAY_SUBSTEP (R189). At each of the 16 sub-steps of a frame the belay PIN phase is updated. -/
  | belaySubstep (t : Fin 20) (j : Fin 16)
  /-- BELAY_OVERRUN (R192). A belay not complete BELAY_MAX frames after its start overruns and is reported. -/
  | belayOverrun (e : Fin 81920)
  /-- FRAME_STRETCH (R252). Ten consecutive overrunning frames raise CFG_FRAME_BUDGET and may lengthen P_USE. -/
  | frameStretch (t : Fin 20)
  /-- HEATER_CLAMP_REPORT (R240). CLAMP stays set for CLAMP_FRAMES served frames, so the element is reported. -/
  | heaterClampReport (e : Fin 81920)
  /-- MIRROR_STREAM_END (R255). A tile's record stream of a frame closes with its CRC, and the hub keeps or rejects it. -/
  | mirrorStreamEnd (t : Fin 20) (ok : Bool)
  /-- UCODE_FALLBACK (R264). Ten consecutive frames with abandoned entries switch the tile to its other bank. -/
  | ucodeFallback (t : Fin 20)
  /-- TILE_LP_CTL_WRITE (R257). A write of TILE_LP_CTL enables or disables the tile loops under their checks. -/
  | tileLpCtlWrite (t : Fin 20) (v : Word)
  /-- LP_PERIOD_WRITE (R250). A write of P_SET is checked for range, budget and sequence fit. -/
  | lpPeriodWrite (t : Fin 20) (v : Word)
  /-- LP_PARAM_WRITE (R259). A write of an LP parameter register is accepted at the next frame edge or refused. -/
  | lpParamWrite (t : Fin 20) (k : Fin 6) (v : Word)
  /-- XT_TABLE_WRITE (R248). A write to the crosstalk table is accepted only while XT_EN reads 0. -/
  | xtTableWrite (e : Fin 81920) (j : Fin 16) (v : Word)
  /-- UCODE_COMMIT (R267). A write of TILE_LP_UCODE.COMMIT starts the CRC and signature checks of the standby bank. -/
  | ucodeCommit (t : Fin 20) (v : Word)
  /-- UCODE_CHECK_DONE (R267). The CRC and signature results arrive, and the commit check accepts the image or refuses it. -/
  | ucodeCheckDone (t : Fin 20) (sigOk : Bool)
  /-- UCODE_EXCHANGE (R268). The banks exchange at the first eligible frame edge. -/
  | ucodeExchange (t : Fin 20)
  /-- UCODE_COMMIT_TIMEOUT (R268). No eligible edge within 2,000 frames cancels the commit with CFG_UCODE_TIMEOUT. -/
  | ucodeCommitTimeout (t : Fin 20)
  /-- UCODE_CANCEL (R268). A write of TILE_LP_UCODE.CANCEL cancels a pending commit. -/
  | ucodeCancel (t : Fin 20) (v : Word)
  /-- UCODE_WINDOW_WRITE (R269). A write to the microcode window updates the standby bank and clears CRC_OK and SIG_OK. -/
  | ucodeWindowWrite (t : Fin 20) (n : Fin 32768) (v : Word)
  /-- LAW_SET_WRITE (R270). A write of LAW_SET is checked, then takes effect as LAW_USE at the next frame edge. -/
  | lawSetWrite (t : Fin 20) (v : Word)
  /-- PROBE_START (R271). A write of TILE_LP_PRB_CFG.START starts a probe or refuses it. -/
  | probeStart (t : Fin 20) (v : Word)
  /-- PROBE_STOP (R274). A write of STOP ends the probe at the next frame edge. -/
  | probeStop (t : Fin 20) (v : Word)
  /-- CAP_DATA_READ (R276). A read of TILE_LP_CAP_DATA returns a capture word and advances ADDR by 4. -/
  | capDataRead (t : Fin 20)
  /-- LEARN_START (R277). A write of TILE_LP_XL_CTL.START starts a crosstalk learning run or refuses it. -/
  | learnStart (t : Fin 20) (v : Word)
  /-- LEARN_ABORT (R279). A write of ABORT ends the learning run ABORTED. -/
  | learnAbort (t : Fin 20) (v : Word)
  /-- PWM_UPDATE_POINT (R292). At a bank's update point, duties activate, dither advances and runts are decided. -/
  | pwmUpdatePoint (t : Fin 20) (b : Fin 16)
  /-- PWM_BCTL_WRITE (R297). A write of TILE_PW_BCTL_b enables or disables a PWM bank under its check. -/
  | pwmBctlWrite (t : Fin 20) (b : Fin 16) (v : Word)
  /-- PWM_TOP_ARM (R298). A write of TILE_PW_BTOP_b.ARM arms a new TOP or refuses it. -/
  | pwmTopArm (t : Fin 20) (b : Fin 16) (v : Word)
  /-- PWM_TOP_DISCARD (R300). An armed TOP not taken by the 1,024th update point is discarded with PWM_SPLIT_DISCARDED. -/
  | pwmTopDiscard (t : Fin 20) (b : Fin 16)
  /-- PWM_DUTY_WRITE (R296). A host write of TILE_PW_DUTY_x sets a shadow or tagged duty, or is refused. -/
  | pwmDutyWrite (t : Fin 20) (x : Fin 4096) (v : Word)
  /-- PWM_CHCFG_WRITE (R288). A write of SWAP or INV takes effect at the next update point, unless the element is in use. -/
  | pwmChcfgWrite (t : Fin 20) (x : Fin 4096) (v : Word)
  /-- PWM_USET_WRITE (R299). A write of the update set is discarded with PWM_TOP_ARMED while a TOP is armed. -/
  | pwmUsetWrite (t : Fin 20) (b : Fin 16) (n : Fin 8) (v : Word)
  /-- FD_CODE_WRITE (R306). A host write of TILE_FD_CODE_q sets a pending shadow code and range, or is refused. -/
  | fdCodeWrite (t : Fin 20) (q : Fin 8192) (v : Word)
  /-- FD_BANK_STROBE (R306). A write of TILE_FD_BCTL_b.STB loads the pending shadows of a direct bank. -/
  | fdBankStrobe (t : Fin 20) (b : Fin 16) (v : Word)
  /-- FD_TILE_STROBE (R306). A write of TILE_FD_STB loads the pending shadows of every direct bank of the tile. -/
  | fdTileStrobe (t : Fin 20) (v : Word)
  /-- FD_BCTL_WRITE (R311). A write of TILE_FD_BCTL_b enables or disables a fast-drive bank under its check. -/
  | fdBctlWrite (t : Fin 20) (b : Fin 16) (v : Word)
  /-- BLK_CFG_WRITE (R316). A write of TILE_FD_BLK_CFG is accepted or discarded with PRT_BLANK_RANGE. -/
  | blkCfgWrite (out : Bool) (v : Word)
  /-- BLK_FORCE_WRITE (R314). A warden write of TILE_FD_BLK_FORCE_n forces or releases port blanking. -/
  | blkForceWrite (out : Bool) (n : Fin 32) (v : Word)
  /-- LATCH_CLOSE_SENSE (R320). 2 us after a close pulse the latch is sensed, and it is retried or set FAULT_OPEN. -/
  | latchCloseSense (out : Bool) (p : Fin 1024) (sense : Fin 3)
  /-- LATCH_OPEN_START (R321). A waiting open starts its pulse once fewer than OPEN_MAX opens are in progress. -/
  | latchOpenStart (out : Bool) (p : Fin 1024)
  /-- LATCH_OPEN_SENSE (R321). 170 us after an open pulse the latch is sensed, and it is retried or set FAULT_DARK. -/
  | latchOpenSense (out : Bool) (p : Fin 1024) (sense : Fin 3)
  /-- LATCH_AUDIT (R323). Every 100 ms each tile senses every latch and handles mismatches. -/
  | latchAudit (out : Bool) (senses : List (Fin 1024 × Fin 3))
  /-- WEAR_WRITE (R325). A warden write of TILE_FD_WEAR_p is accepted only while latch ENABLE reads 0. -/
  | wearWrite (out : Bool) (p : Fin 1024) (v : Word)
  /-- LAT_CFG_WRITE (R326). A write of TILE_FD_LAT_CFG enables or disables latch opens under its check. -/
  | latCfgWrite (out : Bool) (v : Word)
  /-- BANK_READOUT (R336). A bank readout of the monitor sequence converts and posts its corrected samples. -/
  | bankReadout (t : Fin 20) (codes : List (BitVec 14)) (refBad : Bool)
  /-- TAP_READOUT (R349). Tiles 0 and 9 convert a tap bank and post tap samples for LOSS and the loss check. -/
  | tapReadout (out : Bool) (codes : List (BitVec 14)) (refBad : Bool)
  /-- SPARE_ROTATION (R343). After ROT_FRAMES frames the next slice becomes the spare. -/
  | spareRotation (t : Fin 20) (ofs gerr : BitVec 12)
  /-- TRIG_IN_EDGE (R350). A selected TRIG_IN edge starts a triggered monitor sequence, or is ignored during one. -/
  | trigInEdge (falling : Bool)
  /-- SYNC_OUT_PULSE (R352). Tile 0 pulses SYNC_OUT at a grid point or at a sequence start. -/
  | syncOutPulse
  /-- MC_CTL_WRITE (R362). A write of TILE_MC_CTL enables or disables sequences or changes SRC under its checks. -/
  | mcCtlWrite (t : Fin 20) (v : Word)
  /-- MC_COMMIT (R339). A write of TILE_MC_CTL.COMMIT checks the shadow list and activates it. -/
  | mcCommit (t : Fin 20) (v : Word)
  /-- MC_HOLD_WRITE (R353). A write of TILE_MC_HOLD connects a bank to the calibration input or reconnects it. -/
  | mcHoldWrite (t : Fin 20) (v : Word)
  /-- CORR_DATA_WRITE (R345). A write of TILE_MC_CORR_DATA sets a correction entry and advances IDX. -/
  | corrDataWrite (t : Fin 20) (v : Word)
  /-- MC_TRIG_T_SNAPSHOT (R350). A read of TILE_MC_TRIG_T HI takes a snapshot of the trigger stamp. -/
  | mcTrigTSnapshot (t : Fin 20)
  /-- HK_CHANNEL_SLOT (R354). In its 50 us slot of the 10 ms round a housekeeping channel is converted and posted. -/
  | hkChannelSlot (t : Fin 20) (n : Fin 192) (value : BitVec 16)
  /-- HK_MASK_WRITE (R356). A write of TILE_HK_MASK_n is taken at the next round, except locked channels. -/
  | hkMaskWrite (t : Fin 20) (n : Fin 6) (v : Word)
  /-- ANCHOR_START (R359). A write of TILE_MC_ANC_CTL.START starts an anchor conversion or refuses it. -/
  | anchorStart (t : Fin 20) (v : Word)
  /-- ANCHOR_DONE (R359). The anchor converter posts RES, sets DONE and raises its event. -/
  | anchorDone (t : Fin 20) (res : BitVec 24)
  /-- CAL_AGE_TRIGGER (R372). AGE_MAX hours after the last recalibration a quick recalibration is triggered. -/
  | calAgeTrigger (t : Fin 20)
  /-- RECAL_START (R372). A queued recalibration starts when fewer than CAL_PAR are running. -/
  | recalStart
  /-- RECAL_STEP_DONE (R373). A recalibration step completes and writes its results, and the next step starts. -/
  | recalStepDone (t : Fin 20) (res : CalResult)
  /-- CAL_DEFER (R376). A bank or channel not eligible within 10 s is deferred. -/
  | calDefer (t : Fin 20)
  /-- CAL_CTL_WRITE (R393). A write of CAL_CTL enables or disables automatic triggers under its check. -/
  | calCtlWrite (v : Word)
  /-- CAL_GO (R393). A write of CAL_CMD.GO starts a quick recalibration or a full sweep. -/
  | calGo (v : Word)
  /-- CAL_ABORT (R392). A write of CAL_CMD.ABORT ends running recalibrations and the sweep. -/
  | calAbort (v : Word)
  /-- CAL_TABLE_WRITE (R371). A write of CAL_TBL_DATA updates a table word or refuses it, and advances ADDR. -/
  | calTableWrite (v : Word)
  /-- CAL_TABLE_READ (R371). A read of CAL_TBL_DATA returns a table word and advances ADDR. -/
  | calTableRead
  /-- SENSOR_REINSTATE (R385). A host write of 1 to a THM_FAIL_n bit reinstates a failed sensor. -/
  | sensorReinstate (n : Fin 80) (v : Word)
  /-- THM_WRITE (R394). A write of a THM register is accepted or discarded with THM_CONFIG. -/
  | thmWrite (k : Fin 5) (v : Word)
  /-- SES_CHALLENGE (R402). Opcode 0x1001 answers a fresh device nonce. -/
  | sesChallenge (f : Frame)
  /-- SES_OPEN (R402). Opcode 0x1002 opens a session and derives its key. -/
  | sesOpen (f : Frame)
  /-- SES_CLOSE (R410). Opcode 0x1003 closes the session after the reply. -/
  | sesClose (f : Frame)
  /-- SES_KEEPALIVE (R410). Opcode 0x1004 renews the session and returns its lease expiry. -/
  | sesKeepalive (f : Frame)
  /-- CIR_REQUEST (R411). Opcode 0x2001 requests a circuit, which is checked and queued for placement. -/
  | cirRequest (f : Frame)
  /-- CIR_RELEASE (R411). Opcode 0x2002 releases a circuit. -/
  | cirRelease (f : Frame)
  /-- CIR_ENABLE (R411). Opcode 0x2003 returns a DARK or FAILED circuit to PENDING. -/
  | cirEnable (f : Frame)
  /-- CIR_DISABLE (R411). Opcode 0x2004 darkens a circuit. -/
  | cirDisable (f : Frame)
  /-- CIR_ATTR (R72). Opcode 0x2005 changes the PINNED attribute of a circuit. -/
  | cirAttr (f : Frame)
  /-- CIR_LEASE (R70). Opcode 0x2006 extends a circuit lease. -/
  | cirLease (f : Frame)
  /-- CIR_READ (R73). Opcode 0x2007 returns circuit contexts as the reader may see them. -/
  | cirRead (f : Frame)
  /-- GRANT_CREATE (R411). Opcode 0x2008 creates a grant of a port to another tenant. -/
  | grantCreate (f : Frame)
  /-- GRANT_REVOKE (R66). Opcode 0x2009 revokes a grant and releases its circuits. -/
  | grantRevoke (f : Frame)
  /-- GRANT_LEASE (R70). Opcode 0x200A extends a grant lease. -/
  | grantLease (f : Frame)
  /-- TRV_REQUEST (R198). Opcode 0x4001 requests a host traverse of named circuits. -/
  | trvRequest (f : Frame)
  /-- TRV_ABORT (R208). Opcode 0x4002 aborts a traverse, or answers it is late or unknown. -/
  | trvAbort (f : Frame)
  /-- TRV_RESUME (R213). Opcode 0x4003 resumes a suspended traverse. -/
  | trvResume (f : Frame)
  /-- TRV_ROLLBACK (R213). Opcode 0x4004 rolls back the suspended traverse and drops the queued ones. -/
  | trvRollback (f : Frame)
  /-- TRAVERSE_TIMED (R202). A traverse reaching the head of the journal is timed, and its stage instants are set. -/
  | traverseTimed
  /-- TRV_CTL_WRITE (R228). A write of TRV_CTL enables or disables traverses under its check. -/
  | trvCtlWrite (v : Word)
  /-- TRV_SPEC_CFG_WRITE (R229). A write of TRV_SPEC_CFG enables or disables speculation under its check. -/
  | trvSpecCfgWrite (v : Word)
  /-- TRV_CUR_SNAPSHOT (R202). A read of TRV_CUR word 0 takes a snapshot of the head traverse. -/
  | trvCurSnapshot
  /-- TEL_ELEMENT (R415). Opcode 0x5001 returns element telemetry records. -/
  | telElement (f : Frame)
  /-- TEL_PORT (R415). Opcode 0x5002 returns port telemetry records. -/
  | telPort (f : Frame)
  /-- TEL_STATUS (R415). Opcode 0x5003 returns device status. -/
  | telStatus (f : Frame)
  /-- REG_READ (R416). Opcode 0x6001 reads registers as BAR0 reads do. -/
  | regRead (f : Frame)
  /-- REG_WRITE (R416). Opcode 0x6002 writes registers as BAR0 writes do. -/
  | regWrite (f : Frame) (env : WriteEnv)
  /-- MNT_IDENTITY (R417). Opcode 0x7001 returns part, revision, firmware version and serial number. -/
  | mntIdentity (f : Frame)
  /-- MNT_FW_STAGE (R417). Opcode 0x7002 writes image bytes into the staging region. -/
  | mntFwStage (f : Frame)
  /-- MNT_FW_ACTIVATE (R473). Opcode 0x7003 starts a firmware change in the standby group. -/
  | mntFwActivate (f : Frame)
  /-- FW_STANDBY_READY (R473). The standby group finishes loading, checking and starting the image, or the change fails. -/
  | fwStandbyReady (sigOk started : Bool)
  /-- FW_HANDOVER (R474). At instant H the standby group takes the hub, and the change completes or the old group resumes. -/
  | fwHandover (ok : Bool)
  /-- FW_KEEP_EXPIRY (R475). KEEP runs out, and the former group loads the active image. -/
  | fwKeepExpiry
  /-- MNT_CELL (R483). Opcode 0x7004 clears, watches or fences a cell of the crevasse map. -/
  | mntCell (f : Frame)
  /-- MNT_SOFT_RESET (R417). Opcode 0x7005 starts a control-domain reset after its reply. -/
  | mntSoftReset (f : Frame)
  /-- EVT_SUBSCRIBE (R454). Opcode 0x8001 subscribes the session to event sources. -/
  | evtSubscribe (f : Frame)
  /-- EVT_UNSUBSCRIBE (R418). Opcode 0x8002 drops subscriptions. -/
  | evtUnsubscribe (f : Frame)
  /-- EVT_READ (R452). Opcode 0x8003 returns recorder records from an index. -/
  | evtRead (f : Frame)
  /-- MBX_DOORBELL (R399). A write of CMD_MBX_REQ_TAIL posts request ring slots with one ingress time-stamp. -/
  | mbxDoorbell (v : Word)
  /-- MBX_CPL_HEAD_WRITE (R399). A write of CMD_MBX_CPL_HEAD frees completion slots, and held frames may follow. -/
  | mbxCplHeadWrite (v : Word)
  /-- MBX_STALL (R400). The completion ring stays full for 10 ms, and EV 37 is raised. -/
  | mbxStall
  /-- CMD_MBX_CFG_WRITE (R420). A write of CMD_MBX_CFG enables or disables the mailbox under its check. -/
  | cmdMbxCfgWrite (v : Word)
  /-- CMD_CTL_WRITE (R420). A write of CMD_CTL enables or disables network frames under its check. -/
  | cmdCtlWrite (v : Word)
  /-- KEY_SET (R401). A write of CMD_KEY_CTL.SET installs a tenant key and closes its sessions. -/
  | keySet (v : Word)
  /-- KEY_CLEAR (R401). A write of CMD_KEY_CTL.CLEAR removes a tenant key and closes its sessions. -/
  | keyClear (v : Word)
  /-- ETH_FRAME_RX (R424). A received non-Afisk Ethernet frame is validated, policed, and answered by firmware or dropped. -/
  | ethFrameRx (rx : EthRx) (kind : EthKind)
  /-- EGRESS_FRAME_START (R439). The head frame of an egress queue starts once its shaper and its gate allow. -/
  | egressFrameStart (port : Fin 4)
  /-- SAK_SET (R429). A write of CMD_SAK_CTL.SET installs a MACsec SA or refuses it. -/
  | sakSet (v : Word)
  /-- SAK_CLEAR (R429). A write of CMD_SAK_CTL.CLEAR removes a MACsec SA or refuses it. -/
  | sakClear (v : Word)
  /-- MSEC_TX_AN_WRITE (R430). A write of TX_AN changes the transmitting SA at the next frame start. -/
  | msecTxAnWrite (port : Fin 4) (v : Word)
  /-- POLICER_WRITE (R434). A write of a policer takes effect at once and fills or empties its buckets. -/
  | policerWrite (p : Fin 66) (k : Fin 4) (v : Word)
  /-- SHAPER_WRITE (R438). A write of a queue shaper takes effect at once and sets its bucket. -/
  | shaperWrite (port q k : Fin 4) (v : Word)
  /-- GATE_COMMIT (R440). A write of PORT_GATE_CTL.COMMIT checks the shadow gate list and arms it. -/
  | gateCommit (port : Fin 4) (v : Word)
  /-- GATE_LIST_APPLY (R440). At the shadow base the new gate list replaces the active one. -/
  | gateListApply (port : Fin 4)
  /-- QUEUE_SAMPLE (R442). At each interval's end the queue depth and delay samples are posted. -/
  | queueSample (port : Fin 4)
  /-- LINK_CHANGE (R445). A management port's link goes up or down, and EV 24 is raised. -/
  | linkChange (port : Fin 4) (up : Bool)
  /-- NET_CTL_WRITE (R444). A write of NET_CTL enables or disables policing and queueing under its check. -/
  | netCtlWrite (v : Word)
  /-- PORT_CTL_WRITE (R444). A write of PORT_CTL_n enables or disables a port under its check. -/
  | portCtlWrite (port : Fin 4) (v : Word)
  /-- RECORD_WRITE (R450). An open record is written with the occurrences joined since its previous write, at most once per 10 us. -/
  | recordWrite (src : Nat)
  /-- RECORD_CLOSE (R449). A coalescing record closes at T_FIRST + COAL ms. -/
  | recordClose (src : Nat)
  /-- FLUSH_START (R457). A flush of closed records to the log store starts. -/
  | flushStart
  /-- FLUSH_BLOCK_DONE (R457). A flushed block is read back and compared, and EVT_FLUSHED advances. -/
  | flushBlockDone (ok : Bool)
  /-- LOG_STORE_TIMEOUT (R461). An xSPI operation not complete within 10 ms fails the log store. -/
  | logStoreTimeout
  /-- EVT_RETRY (R462). A write of EVT_CTL.RETRY tests the log store and copies the mirror back on success. -/
  | evtRetry (v : Word) (passed : Bool)
  /-- EVT_PEND_CLEAR (R453). A write of 1 to an EVT_PEND_n bit clears it and may release ALERT_N. -/
  | evtPendClear (n : Nat) (v : Word)
  /-- CAIRN_HOST_WRITE (R464). A write of EVT_CAIRN_HOST_CTL.WRITE makes a host cairn record or refuses it. -/
  | cairnHostWrite (v : Word)
  /-- EVT_CTL_WRITE (R466). A write of EVT_CTL enables or disables flushing under its check. -/
  | evtCtlWrite (v : Word)
  /-- WEAR_SAVE (R459). Every 60 s firmware saves the latch wear counts into the wear area. -/
  | wearSave
  /-- ENGINE_DECLARE_FAILED (R476). The hub declares a tile's loop engine failed, for example when its heartbeat goes unanswered. -/
  | engineDeclareFailed (t : Fin 20)
  /-- SPARE_TAKEOVER (R478). At the next frame edge the hub fences the tile to a spare loaded from the mirror, or to none. -/
  | spareTakeover (t : Fin 20)
  /-- ENGINE_TEST (R481). A write of GLB_ENG_t.TEST starts a 10 ms self-test of a failed engine. -/
  | engineTest (t : Fin 20) (v : Word)
  /-- ENGINE_TEST_DONE (R481). The engine self-test ends and sets HEALTHY on a pass. -/
  | engineTestDone (t : Fin 20) (pass : Bool)
  /-- ENGINE_RETURN (R481). A write of GLB_ENG_t.RETURN fences the tile back to its own engine, or refuses. -/
  | engineReturn (t : Fin 20) (v : Word)
  /-- ECC_SCRUB (R490). The scrubber reads SRAM, corrects single errors and restores uncorrectable words. -/
  | eccScrub (w : EccWord) (correctable : Bool)
  /-- BIV_CLR (R491). A warden write of GLB_CTL.BIV_CLR ends the ECC bivouac or refuses. -/
  | bivClr (v : Word)
  /-- DDR_CHANNEL_LOSS (R493). A DDR channel fails, and its single regions are lost. -/
  | ddrChannelLoss (c : Fin 2)
  /-- MEM_RETRAIN (R493). A write of MEM_CTL.RETRAIN retrains the lost channels and restores their mirrored regions. -/
  | memRetrain (v : Word) (ok0 ok1 : Bool)
  /-- MEM_CTL_WRITE (R494). A write of MEM_CTL enables the DDR controllers or refuses. -/
  | memCtlWrite (v : Word) (ok0 ok1 : Bool)
  /-- CONFIG_AREA_SAVE (R504). 1 s after a saved register changes, firmware writes the older configuration copy. -/
  | configAreaSave (cut : Bool)
  /-- ARB_ADVANCE (R503). A warden write of GLB_ARB_CTL.ADVANCE raises ARB_MIN irreversibly. -/
  | arbAdvance (v : Word)
  /-- HUB_FATAL_FAULT (R471). A fatal fault of the active processor group causes a failover when STBY_READY is 1, or a warm reset otherwise.
  -/
  | hubFatalFault (freeze : Nat)
  /-- FAILOVER_FREEZE_END (R472). At the end of the failover freeze, the new active group arms the stages and swaps that were held and
  verifies circuits whose verification fell in the freeze. -/
  | failoverFreezeEnd (env : WriteEnv)
  /-- STANDBY_RELOAD_DONE (R475). The former group finishes loading the active image after KEEP runs out, and STBY_READY returns to 1. -/
  | standbyReloadDone
  /-- CELL_LOSS_REFRESH (R84). Every 1 s the placement engine refreshes each PLC_CELL_LOSS_n entry from the wanted monitors of lit elements.
  -/
  | cellLossRefresh (parts : List (Fin 20480 × Nat))
  /-- DDR_SCRUB (R492). Each DDR channel is scrubbed in full every 24 h, and corrections are counted in MEM_ECC_n. -/
  | ddrScrub (c : Fin 2) (corrected uncorrectable : Nat)
  /-- PPS_OK_TIMEOUT (R140). TIME_STS.PPS_OK falls to 0 when no PPS_IN edge has arrived for 1.1 s. -/
  | ppsOkTimeout
  /-- AFISK_FRAME_DROPPED (R405). A received Afisk datagram or mailbox frame that is policed red, is malformed, names no open session, or
  carries an unknown opcode is dropped or answered with SES_BAD_OPCODE. -/
  | afiskFrameDropped (f : Frame)
  /-- JTAG_INSTRUCTION (R531). An instruction loaded through the JTAG port is executed, or is loaded as BYPASS when STAGE does not allow it.
  -/
  | jtagInstruction (i : JtagIns)
  deriving DecidableEq, Repr

end Sys2Proof
end

