-- ==== Sys2Proof/Decode.lean ====
section
/-!
DEFINITION. Sys2Proof/Decode.lean: the commands that table words spell. Every row of the opcode table has an empty list of bits: commands
reach the block as register accesses, frames and pins (R8, R396), and no word of the table spells one.
-/
namespace Sys2Proof

/-- The command spelled by `w`: none. -/
def decodeTableWord (_nbits _w : Nat) : Option Instr := none

end Sys2Proof
end

