-- ==== Sys2Proof/Machine/Table.lean ====
section
/-!
DEFINITION. Sys2Proof/Machine/Table.lean: sparse tables in one canonical form (strictly rising keys), and bit fields of words.
-/
namespace Sys2Proof

/-- The entry of key `k`, if the table lists one. -/
def Tbl.look {α : Type} (m : List (Nat × α)) (k : Nat) : Option α :=
  match m with
  | [] => none
  | (j, v) :: r => if j = k then some v else Tbl.look r k

/-- The entry of key `k`, or `d` where the table lists none. -/
def Tbl.getD {α : Type} (m : List (Nat × α)) (k : Nat) (d : α) : α := (Tbl.look m k).getD d

/-- The table with `k` mapped to `v`, keys kept in rising order. -/
def Tbl.put {α : Type} (m : List (Nat × α)) (k : Nat) (v : α) : List (Nat × α) :=
  match m with
  | [] => [(k, v)]
  | (j, w) :: r => if k < j then (k, v) :: (j, w) :: r else if k = j then (k, v) :: r else (j, w) :: Tbl.put r k v

/-- The table without an entry of key `k`. -/
def Tbl.del {α : Type} (m : List (Nat × α)) (k : Nat) : List (Nat × α) := m.filter fun e => e.1 != k

/-- The table with `k` mapped to `v`, where `d` is what an unlisted key reads as: writing `d` removes the entry. -/
def Tbl.set {α : Type} [DecidableEq α] (d : α) (m : List (Nat × α)) (k : Nat) (v : α) : List (Nat × α) :=
  if v = d then Tbl.del m k else Tbl.put m k v

/-- The canonical form: keys strictly rising. -/
def Tbl.wf {α : Type} (m : List (Nat × α)) : Bool :=
  match m with
  | [] => true
  | (j, _) :: r => r.all (fun e => decide (j < e.1)) && Tbl.wf r

/-! ## Grouped tables: a table of tables, each of 256 neighbouring keys -/

/-- The entry of key `k`, or `d` where none is listed. -/
def Grp.getD {α : Type} (m : Grp α) (k : Nat) (d : α) : α := Tbl.getD (Tbl.getD m (k / 256) []) k d

/-- The grouped table with `k` mapped to `v`; writing what an unlisted key reads as removes the entry. -/
def Grp.set {α : Type} [DecidableEq α] (d : α) (m : Grp α) (k : Nat) (v : α) : Grp α :=
  match Tbl.set d (Tbl.getD m (k / 256) []) k v with
  | [] => Tbl.del m (k / 256)
  | g => Tbl.put m (k / 256) g

/-- All entries, by rising key. -/
def Grp.entries {α : Type} (m : Grp α) : List (Nat × α) := m.flatMap (·.2)

/-- The canonical form: groups and keys strictly rising, each key in its group, no group empty. -/
def Grp.wf {α : Type} (m : Grp α) : Bool :=
  Tbl.wf m && m.all fun g => Tbl.wf g.2 && !g.2.isEmpty && g.2.all fun e => e.1 / 256 == g.1

/-- Bits `hi:lo` of a word, as a number. -/
def bits (w : Word) (hi lo : Nat) : Nat := w.toNat / 2 ^ lo % 2 ^ (hi + 1 - lo)

/-- The word with bits `hi:lo` replaced by the low bits of `v`. -/
def setBits (w : Word) (hi lo v : Nat) : Word :=
  BitVec.ofNat 32 (w.toNat - bits w hi lo * 2 ^ lo + v % 2 ^ (hi + 1 - lo) * 2 ^ lo)

/-- Bit `i` of a word. -/
def bit (w : Word) (i : Nat) : Bool := w.toNat / 2 ^ i % 2 == 1

/-- A number as one bit. -/
def b2n (b : Bool) : Nat := if b then 1 else 0

/-- `n` low bits of `v` read as two's complement. -/
def sx (n v : Nat) : Int := let u := v % 2 ^ n; if 2 ^ (n - 1) ≤ u then (u : Int) - 2 ^ n else u

/-- An integer as `n` bits, two's complement. -/
def tc (n : Nat) (v : Int) : Nat := (v % (2 ^ n : Int)).toNat

/-- An integer saturated to `n` bits, two's complement. -/
def satInt (n : Nat) (v : Int) : Int := max (-(2 ^ (n - 1) : Int)) (min v (2 ^ (n - 1) - 1))

/-- Big-endian bytes as a number (R8). -/
def beNat (l : List Byte) : Nat := l.foldl (fun a b => a * 256 + b.toNat) 0

/-- A number as `n` big-endian bytes (R8). -/
def natBe (n v : Nat) : List Byte :=
  match n with
  | 0 => []
  | n + 1 => natBe n (v / 256) ++ [BitVec.ofNat 8 v]

/-- Counting up, stopping at the top of `n` bits. -/
def satInc (n v : Nat) : Nat := min (v + 1) (2 ^ n - 1)

end Sys2Proof
end

