-- ==== Sys2Proof/Machine/Curve.lean ====
section
/-!
DEFINITION. Sys2Proof/Machine/Curve.lean: the real functions the spec's formulas use, in fixed point: rounding to nearest, exp and sin
(R189, R238, R272) and the decibel (R58, R84).
-/
namespace Sys2Proof.Machine

/-- `n / d` rounded to nearest, halves upward; `d` is positive. -/
def roundDiv (n d : Int) : Int := (2 * n + d) / (2 * d)

/-- e^-x by its series for a small `x`, with `n` further terms from term `k`; `x` and the result in 2^-72. -/
def expSeries (x term : Int) (k n : Nat) : Int :=
  match n with
  | 0 => 0
  | n + 1 => term + expSeries x (-(term * x / 2 ^ 72) / (k + 1 : Int)) (k + 1) n

/-- A number of 2^-72 squared `n` times. -/
def squareTimes (x : Int) (n : Nat) : Int :=
  match n with
  | 0 => x
  | n + 1 => squareTimes (x * x / 2 ^ 72) n

/-- exp(-num/den) in 2^-48; 0 from an argument of 40 on. -/
def expNeg (num den : Nat) : Nat :=
  if 40 * den ≤ num then 0
  else (squareTimes (expSeries (((num : Int) * 2 ^ 72 / (max den 1 : Nat)) / 2 ^ 8) (2 ^ 72) 0 12) 8 / 2 ^ 24).toNat

/-- π in 2^-60. -/
def piFix : Nat := 3_622_009_729_038_561_421

/-- sin by its series; `x` and the result in 2^-60. -/
def sinSeries (x term : Int) (k n : Nat) : Int :=
  match n with
  | 0 => 0
  | n + 1 => term + sinSeries x (-(term * x / 2 ^ 60 * x / 2 ^ 60) / ((2 * k + 2) * (2 * k + 3) : Nat)) (k + 1) n

/-- sin(2π · num / den) in 2^-60. -/
def sinTurn (num : Int) (den : Nat) : Int :=
  let d : Int := max den 1
  let r := num % d
  let r := if d < 2 * r then r - d else r
  let x := 2 * (piFix : Int) * r / d
  sinSeries x x 0 20

/-- The whole part of the base-2 logarithm and the mantissa in 2^-60, from `m` in [1, 2) at 2^-60: `n` bits of log2. -/
def log2Bits (m : Nat) (n : Nat) : Nat :=
  match n with
  | 0 => 0
  | n + 1 =>
    let q := m * m / 2 ^ 60
    if 2 ^ 61 ≤ q then 2 ^ n + log2Bits (q / 2) n else log2Bits q n

/-- log2 of a positive number, in 2^-32. -/
def log2Fix (v : Nat) : Nat := Nat.log2 v * 2 ^ 32 + log2Bits (v * 2 ^ 60 / 2 ^ Nat.log2 v) 32

/-- 1000 · log10(num/den) rounded to nearest: a ratio of powers in 0.01 dB. log10 2 is 1,292,913,986.4918 · 2^-32. -/
def centiBel (num den : Nat) : Int :=
  roundDiv (((log2Fix (max num 1) : Int) - log2Fix (max den 1)) * 12_929_139_864_918 * 1_000) (2 ^ 64 * 10_000)

end Sys2Proof.Machine
end

