-- ==== Sys2Proof/Machine/Codes.lean ====
section
/-!
DEFINITION. Sys2Proof/Machine/Codes.lean: the reason codes of R421 (R14) and the event identifiers of the chapters' event tables
(R446, R467, R495, R515 and their like), by name.
-/
namespace Sys2Proof.Machine

def Code.DONE : Nat := 0x0000
def Code.ACCEPTED : Nat := 0x0001
def Code.SES_AUTH_FAIL : Nat := 0x0101
def Code.SES_REPLAY : Nat := 0x0102
def Code.SES_LIMIT : Nat := 0x0103
def Code.SES_NONCE : Nat := 0x0104
def Code.SES_OUTSTANDING : Nat := 0x0105
def Code.SES_REQ_ID_BUSY : Nat := 0x0106
def Code.SES_NOT_WARDEN : Nat := 0x0107
def Code.SES_BAD_OPCODE : Nat := 0x0108
def Code.SES_BAD_PARAM : Nat := 0x0109
def Code.SES_REG_DENIED : Nat := 0x010A
def Code.SES_KEY_CHANGED : Nat := 0x010B
def Code.SES_LEASE_EXPIRED : Nat := 0x010C
def Code.SES_CONFIG : Nat := 0x010D
def Code.CIR_NOT_OWNER : Nat := 0x0201
def Code.CIR_PORT_BUSY : Nat := 0x0202
def Code.CIR_VERIFY_FAIL : Nat := 0x0203
def Code.CIR_LOSS_FAIL : Nat := 0x0204
def Code.CIR_LEASE_EXPIRED : Nat := 0x0205
def Code.CIR_GRANT_REVOKED : Nat := 0x0206
def Code.CIR_BAD_STATE : Nat := 0x0207
def Code.CIR_GRANT_FULL : Nat := 0x0208
def Code.CIR_PORT_IN_USE : Nat := 0x0209
def Code.CIR_UNKNOWN : Nat := 0x020A
def Code.CIR_PORT_FAULT : Nat := 0x020B
def Code.CIR_GUARD_LATCHED : Nat := 0x020C
def Code.CIR_DISABLED : Nat := 0x020D
def Code.PLC_NO_PATH : Nat := 0x0301
def Code.PLC_NEEDS_MOVE : Nat := 0x0302
def Code.PLC_ISOLATION : Nat := 0x0303
def Code.PLC_PINNED_FENCED : Nat := 0x0304
def Code.PLC_CYCLING_LIMIT : Nat := 0x0305
def Code.PLC_LOSS_LIMIT : Nat := 0x0306
def Code.PLC_THERMAL_LIMIT : Nat := 0x0307
def Code.PLC_SEARCH_LIMIT : Nat := 0x0308
def Code.PLC_DISABLED : Nat := 0x0309
def Code.PLC_POLICY_LOCKED : Nat := 0x030A
def Code.PLC_POLICY_INVALID : Nat := 0x030B
def Code.PLC_QUEUE_FULL : Nat := 0x030C
def Code.PLC_NO_REPAIR : Nat := 0x030D
def Code.PLC_SCHED_STALE : Nat := 0x030E
def Code.PLC_SLOT_INFEASIBLE : Nat := 0x030F
def Code.PLC_MOVE_LIMIT : Nat := 0x0310
def Code.TIM_TOO_LATE : Nat := 0x0401
def Code.TIM_OUT_OF_HORIZON : Nat := 0x0402
def Code.TIM_INC_RANGE : Nat := 0x0403
def Code.TIM_STEP_RUNNING : Nat := 0x0404
def Code.TIM_NOT_VALID : Nat := 0x0405
def Code.TIM_ADJ_NO_WINDOW : Nat := 0x0406
def Code.TIM_PTP_CONFIG : Nat := 0x0407
def Code.TIM_ADJ_BUSY : Nat := 0x0408
def Code.TIM_ADJ_RANGE : Nat := 0x0409
def Code.SCH_GB_RANGE : Nat := 0x040A
def Code.SCH_NOT_READY : Nat := 0x040B
def Code.SCH_FORMAT : Nat := 0x040C
def Code.SCH_SWAP_ARMED : Nat := 0x040D
def Code.SCH_SWAP_NOT_READY : Nat := 0x040E
def Code.SCH_NO_ACTIVE : Nat := 0x040F
def Code.SCH_BAD_SLOT : Nat := 0x0410
def Code.SCH_PIN_BUDGET : Nat := 0x0411
def Code.SCH_ENTRY_BUSY : Nat := 0x0412
def Code.SCH_DISABLED : Nat := 0x0413
def Code.EPO_NOT_READY : Nat := 0x0414
def Code.SCH_SWAP_LOST : Nat := 0x0415
def Code.SCH_CONFIG : Nat := 0x0416
def Code.EPO_BELAY_RANGE : Nat := 0x0417
def Code.EPO_BELAY_OVERRUN : Nat := 0x0418
def Code.EPO_HELD_DARK : Nat := 0x0419
def Code.TRV_ABORTED : Nat := 0x0501
def Code.TRV_ABORT_LATE : Nat := 0x0502
def Code.TRV_BIVOUAC : Nat := 0x0503
def Code.TRV_QUEUE_FULL : Nat := 0x0504
def Code.TRV_UNKNOWN : Nat := 0x0505
def Code.TRV_PLAN_INVALID : Nat := 0x0506
def Code.TRV_PLAN_LIMIT : Nat := 0x0507
def Code.TRV_ROLLED_BACK : Nat := 0x0508
def Code.TRV_NOT_SUSPENDED : Nat := 0x0509
def Code.TRV_VERIFY_FAIL : Nat := 0x050A
def Code.TRV_CONFIG : Nat := 0x050B
def Code.TRV_SWAPPED_OUT : Nat := 0x050C
def Code.TRV_DISABLED : Nat := 0x050D
def Code.CFG_FRAME_BUDGET : Nat := 0x0601
def Code.CFG_PERIOD_RANGE : Nat := 0x0602
def Code.CFG_LOOP_PARAM : Nat := 0x0603
def Code.CFG_XT_LOCKED : Nat := 0x0604
def Code.CFG_LOOP_TABLES : Nat := 0x0605
def Code.CFG_TILE_IN_USE : Nat := 0x0606
def Code.CFG_UCODE_INVALID : Nat := 0x0607
def Code.CFG_UCODE_BUSY : Nat := 0x0608
def Code.CFG_PROBE_PARAM : Nat := 0x0609
def Code.CFG_PROBE_CONFLICT : Nat := 0x060A
def Code.CFG_CAPTURE_BUSY : Nat := 0x060B
def Code.CFG_UCODE_TIMEOUT : Nat := 0x060C
def Code.PWM_SPLIT_DISCARDED : Nat := 0x0701
def Code.PWM_TOP_ARMED : Nat := 0x0702
def Code.PWM_BANK_IN_USE : Nat := 0x0703
def Code.PWM_DUTY_RANGE : Nat := 0x0704
def Code.PWM_CONFIG : Nat := 0x0705
def Code.PWM_CFG_LOCKED : Nat := 0x0706
def Code.PWM_NOT_DIRECT : Nat := 0x0707
def Code.FD_RANGE_REFUSED : Nat := 0x0708
def Code.FD_NOT_DIRECT : Nat := 0x0709
def Code.FD_BANK_IN_USE : Nat := 0x070A
def Code.FD_CFG_LOCKED : Nat := 0x070B
def Code.FD_CONFIG : Nat := 0x070C
def Code.MC_SEQ_INVALID : Nat := 0x0801
def Code.MC_SEQ_BUDGET : Nat := 0x0802
def Code.MC_SEQ_COVER : Nat := 0x0803
def Code.MC_TILE_IN_USE : Nat := 0x0804
def Code.MC_CFG_LOCKED : Nat := 0x0805
def Code.MC_ANC_BUSY : Nat := 0x0806
def Code.MC_ANC_TARGET : Nat := 0x0807
def Code.HK_MASK_LOCKED : Nat := 0x0808
def Code.THM_THROTTLED : Nat := 0x0901
def Code.CAL_BUSY : Nat := 0x0902
def Code.CAL_CONFIG : Nat := 0x0903
def Code.CAL_TABLE_LOCKED : Nat := 0x0904
def Code.THM_CONFIG : Nat := 0x0905
def Code.THM_SHUTDOWN : Nat := 0x0906
def Code.CAL_TRIM_LIMIT : Nat := 0x0907
def Code.CAL_ANCHOR_FAULT : Nat := 0x0908
def Code.CAL_DEFERRED : Nat := 0x0909
def Code.PRT_GUARD_RANGE : Nat := 0x0A01
def Code.PRT_LATCH_OPEN_FAIL : Nat := 0x0A02
def Code.PRT_LATCH_CLOSE_FAIL : Nat := 0x0A03
def Code.PRT_LATCH_CONFIG : Nat := 0x0A04
def Code.PRT_WEAR_LOCKED : Nat := 0x0A05
def Code.PRT_BLANK_RANGE : Nat := 0x0A06
def Code.NET_CONFIG : Nat := 0x0A07
def Code.NET_CFG_LOCKED : Nat := 0x0A08
def Code.NET_SAK_REFUSED : Nat := 0x0A09
def Code.NET_GATE_INVALID : Nat := 0x0A0A
def Code.EVT_LOG_STORE_FAIL : Nat := 0x0B01
def Code.EVT_SUB_DENIED : Nat := 0x0B02
def Code.EVT_SUB_LIMIT : Nat := 0x0B03
def Code.EVT_RANGE : Nat := 0x0B04
def Code.EVT_CAIRN_FULL : Nat := 0x0B05
def Code.EVT_CONFIG : Nat := 0x0B06
def Code.SVC_IMAGE_INVALID : Nat := 0x0C01
def Code.SVC_IMAGE_ROLLBACK : Nat := 0x0C02
def Code.SVC_BUSY : Nat := 0x0C03
def Code.SVC_FENCE_REFUSED : Nat := 0x0C04
def Code.SVC_ENGINE_FAILED : Nat := 0x0C05
def Code.SVC_DDR_DEGRADED : Nat := 0x0C06
def Code.SVC_CONFIG : Nat := 0x0C07
def Code.BOOT_SIG_FAIL : Nat := 0x0D01
def Code.BOOT_ROLLBACK : Nat := 0x0D02
def Code.BOOT_NO_IMAGE : Nat := 0x0D03
def Code.BOOT_BASECAMP_FAIL : Nat := 0x0D04
def Code.BOOT_LATCH_VERIFY : Nat := 0x0D05
/-- EV 0. -/
def Ev.accessError : Nat := 0
/-- EV 1. -/
def Ev.controlDomainRestart : Nat := 1
/-- EV 2. -/
def Ev.firmwareChanged : Nat := 2
/-- EV 3. -/
def Ev.firmwareChangeFailed : Nat := 3
/-- EV 4. -/
def Ev.failover : Nat := 4
/-- EV 5. -/
def Ev.engineFailed : Nat := 5
/-- EV 6. -/
def Ev.engineOwnershipChanged : Nat := 6
/-- EV 7. -/
def Ev.noSpareEngine : Nat := 7
/-- EV 8. -/
def Ev.logStoreFailed : Nat := 8
/-- EV 9. -/
def Ev.logStoreRestored : Nat := 9
/-- EV 10. -/
def Ev.cairnWritten : Nat := 10
/-- EV 11. -/
def Ev.cairnFull : Nat := 11
/-- EV 12. -/
def Ev.tileEventsLost : Nat := 12
/-- EV 13. -/
def Ev.unflushedOverwrite : Nat := 13
/-- EV 14. -/
def Ev.recorderConfigurationRefused : Nat := 14
/-- EV 15. -/
def Ev.powerFailFlush : Nat := 15
/-- EV 16. -/
def Ev.timeStep : Nat := 16
/-- EV 17. -/
def Ev.timeRefusal : Nat := 17
/-- EV 18. -/
def Ev.referenceFault : Nat := 18
/-- EV 19. -/
def Ev.ppsCapture : Nat := 19
/-- EV 20. -/
def Ev.servoState : Nat := 20
/-- EV 21. -/
def Ev.tileResync : Nat := 21
/-- EV 22. -/
def Ev.pcieReset : Nat := 22
/-- EV 23. -/
def Ev.saChange : Nat := 23
/-- EV 24. -/
def Ev.link : Nat := 24
/-- EV 25. -/
def Ev.policerDrop : Nat := 25
/-- EV 26. -/
def Ev.pnWarning : Nat := 26
/-- EV 27. -/
def Ev.pnExhausted : Nat := 27
/-- EV 28. -/
def Ev.macsecValidation : Nat := 28
/-- EV 29. -/
def Ev.networkConfigurationRefused : Nat := 29
/-- EV 30. -/
def Ev.gateListApplied : Nat := 30
/-- EV 31. -/
def Ev.egressDrop : Nat := 31
/-- EV 32. -/
def Ev.authenticationFailure : Nat := 32
/-- EV 33. -/
def Ev.frameDropped : Nat := 33
/-- EV 34. -/
def Ev.sessionOpened : Nat := 34
/-- EV 35. -/
def Ev.sessionClosed : Nat := 35
/-- EV 36. -/
def Ev.keyChanged : Nat := 36
/-- EV 37. -/
def Ev.mailboxStalled : Nat := 37
/-- EV 38. -/
def Ev.commandConfigurationRefused : Nat := 38
/-- EV 39. -/
def Ev.completionDiscarded : Nat := 39
/-- EV 40. -/
def Ev.circuitFailed : Nat := 40
/-- EV 41. -/
def Ev.revocation : Nat := 41
/-- EV 42. -/
def Ev.ownershipRefusal : Nat := 42
/-- EV 48. -/
def Ev.repairStarted : Nat := 48
/-- EV 49. -/
def Ev.repairImpossible : Nat := 49
/-- EV 50. -/
def Ev.placementPolicyRefused : Nat := 50
/-- EV 51. -/
def Ev.schedulePlacementFailed : Nat := 51
/-- EV 52. -/
def Ev.searchLimit : Nat := 52
/-- EV 56. -/
def Ev.scheduleReady : Nat := 56
/-- EV 57. -/
def Ev.scheduleLoadFailed : Nat := 57
/-- EV 58. -/
def Ev.swapCommitted : Nat := 58
/-- EV 59. -/
def Ev.swapCancelled : Nat := 59
/-- EV 60. -/
def Ev.freeze : Nat := 60
/-- EV 61. -/
def Ev.selfStrobe : Nat := 61
/-- EV 62. -/
def Ev.epochConfigurationRefused : Nat := 62
/-- EV 63. -/
def Ev.transitionHeldDark : Nat := 63
/-- EV 64. -/
def Ev.belayOverrun : Nat := 64
/-- EV 72. -/
def Ev.traverseTimed : Nat := 72
/-- EV 73. -/
def Ev.stageCommitted : Nat := 73
/-- EV 74. -/
def Ev.traverseEnded : Nat := 74
/-- EV 75. -/
def Ev.abortHonoured : Nat := 75
/-- EV 76. -/
def Ev.traverseSuspended : Nat := 76
/-- EV 77. -/
def Ev.stageVerificationFailed : Nat := 77
/-- EV 78. -/
def Ev.speculationMaskHold : Nat := 78
/-- EV 79. -/
def Ev.traverseConfigurationRefused : Nat := 79
/-- EV 80. -/
def Ev.startUpStage : Nat := 80
/-- EV 81. -/
def Ev.imageFallback : Nat := 81
/-- EV 82. -/
def Ev.startUpFault : Nat := 82
/-- EV 83. -/
def Ev.latchVerification : Nat := 83
/-- EV 84. -/
def Ev.configurationAreaFault : Nat := 84
/-- EV 85. -/
def Ev.powerFailSequence : Nat := 85
/-- EV 88. -/
def Ev.recalibrationStarted : Nat := 88
/-- EV 89. -/
def Ev.recalibrationCompleted : Nat := 89
/-- EV 90. -/
def Ev.stepDeferred : Nat := 90
/-- EV 91. -/
def Ev.calibrationFault : Nat := 91
/-- EV 92. -/
def Ev.hottestSensorFailed : Nat := 92
/-- EV 93. -/
def Ev.throttleLevel : Nat := 93
/-- EV 94. -/
def Ev.protectiveShutdown : Nat := 94
/-- EV 95. -/
def Ev.calibrationOrThermalRefusal : Nat := 95
/-- EV 96. -/
def Ev.crevasseMapChanged : Nat := 96
/-- EV 97. -/
def Ev.eccCorrected : Nat := 97
/-- EV 98. -/
def Ev.eccUncorrectable : Nat := 98
/-- EV 99. -/
def Ev.ddrChannelLost : Nat := 99
/-- EV 100. -/
def Ev.holdoverFreeze : Nat := 100
/-- EV 101. -/
def Ev.serviceConfigurationRefused : Nat := 101
/-- EV 102. -/
def Ev.faultReport : Nat := 102
/-- EV 256 + 64·t + 0. -/
def Ev.frameOverrun (t : Nat) : Nat := 256 + 64 * t + 0
/-- EV 256 + 64·t + 1. -/
def Ev.frameBudget (t : Nat) : Nat := 256 + 64 * t + 1
/-- EV 256 + 64·t + 2. -/
def Ev.loopConfigurationRefused (t : Nat) : Nat := 256 + 64 * t + 2
/-- EV 256 + 64·t + 3. -/
def Ev.heaterClamp (t : Nat) : Nat := 256 + 64 * t + 3
/-- EV 256 + 64·t + 4. -/
def Ev.mirrorFailure (t : Nat) : Nat := 256 + 64 * t + 4
/-- EV 256 + 64·t + 5. -/
def Ev.lowLight (t : Nat) : Nat := 256 + 64 * t + 5
/-- EV 256 + 64·t + 8. -/
def Ev.entryAbandoned (t : Nat) : Nat := 256 + 64 * t + 8
/-- EV 256 + 64·t + 9. -/
def Ev.imageChange (t : Nat) : Nat := 256 + 64 * t + 9
/-- EV 256 + 64·t + 10. -/
def Ev.commitRefused (t : Nat) : Nat := 256 + 64 * t + 10
/-- EV 256 + 64·t + 11. -/
def Ev.probeEnded (t : Nat) : Nat := 256 + 64 * t + 11
/-- EV 256 + 64·t + 12. -/
def Ev.learningEnded (t : Nat) : Nat := 256 + 64 * t + 12
/-- EV 256 + 64·t + 16. -/
def Ev.heaterDriveRefusal (t : Nat) : Nat := 256 + 64 * t + 16
/-- EV 256 + 64·t + 17. -/
def Ev.splitDiscarded (t : Nat) : Nat := 256 + 64 * t + 17
/-- EV 256 + 64·t + 18. -/
def Ev.bankFenced (t : Nat) : Nat := 256 + 64 * t + 18
/-- EV 256 + 64·t + 20. -/
def Ev.fastDriveRefusal (t : Nat) : Nat := 256 + 64 * t + 20
/-- EV 256 + 64·t + 21. -/
def Ev.rangeLoadRefused (t : Nat) : Nat := 256 + 64 * t + 21
/-- EV 256 + 64·t + 24. -/
def Ev.conversionRefusal (t : Nat) : Nat := 256 + 64 * t + 24
/-- EV 256 + 64·t + 25. -/
def Ev.sliceRetired (t : Nat) : Nat := 256 + 64 * t + 25
/-- EV 256 + 64·t + 26. -/
def Ev.readoutTruncated (t : Nat) : Nat := 256 + 64 * t + 26
/-- EV 256 + 64·t + 27. -/
def Ev.triggerIgnored (t : Nat) : Nat := 256 + 64 * t + 27
/-- EV 256 + 64·t + 28. -/
def Ev.housekeepingLimit (t : Nat) : Nat := 256 + 64 * t + 28
/-- EV 256 + 64·t + 29. -/
def Ev.anchorDone (t : Nat) : Nat := 256 + 64 * t + 29
/-- EV 256 + 64·t + 30. -/
def Ev.spareLost (t : Nat) : Nat := 256 + 64 * t + 30
/-- EV 256 + 64·t + 32. -/
def Ev.sensorFailed (t : Nat) : Nat := 256 + 64 * t + 32
/-- EV 256 + 64·t + 33. -/
def Ev.sensorReinstated (t : Nat) : Nat := 256 + 64 * t + 33
/-- EV 256 + 64·t + 42. -/
def Ev.portDriveRefusal (t : Nat) : Nat := 256 + 64 * t + 42
/-- EV 256 + 64·t + 43. -/
def Ev.emergencyClose (t : Nat) : Nat := 256 + 64 * t + 43
/-- EV 256 + 64·t + 44. -/
def Ev.latchOpenFailed (t : Nat) : Nat := 256 + 64 * t + 44
/-- EV 256 + 64·t + 45. -/
def Ev.latchCloseFailed (t : Nat) : Nat := 256 + 64 * t + 45
/-- EV 256 + 64·t + 46. -/
def Ev.latchAuditMismatch (t : Nat) : Nat := 256 + 64 * t + 46
/-- EV 256 + 64·t + 47. -/
def Ev.latchWear (t : Nat) : Nat := 256 + 64 * t + 47
/-- EV 296. -/
def Ev.inputGuardBlank : Nat := 296
/-- EV 297. -/
def Ev.inputGuardLatch : Nat := 297
/-- EV 298. -/
def Ev.inputGuardRefusal : Nat := 298

end Sys2Proof.Machine
end

