-- ==== Sys2Proof/Config.lean ====
section
/-!
DEFINITION. Sys2Proof/Config.lean: what the manufacture of a module fixes, and the free values: constants with no body that stand
for every value the spec leaves open.
-/
namespace Sys2Proof

/-- Silicon revision fused at manufacture (R542). -/
opaque Config.srev : BitVec 16

/-- Serial number fused at manufacture (R542). -/
opaque Config.serial : BitVec 64

/-- Manufacture value of the cell loss of cell entry `i`, in 0.001 dB (R84, R91). -/
opaque Config.cellLoss : Nat → Nat

/-- The 8-byte nonce drawn from the hardware random source at draw number `n` (R402). -/
opaque Config.nonce : Nat → BitVec 64

/-- SEQ of a device frame sent outside any session; the spec gives it no value (R396, R403). -/
opaque Config.outsideSeq : Nat → BitVec 64

/-- AUX of an occurrence of source `src` for which its chapter states none (R448). -/
opaque Config.occAux : Nat → Nat → BitVec 16

/-- DATA of an occurrence of source `src` for which its chapter states none (R448). -/
opaque Config.occData : Nat → Nat → BitVec 32

/-- A value that the spec leaves open: `kind` names which, `n` is the draw. -/
opaque Config.free : Nat → Nat → Nat

end Sys2Proof
end

