-- ==== Sys2Proof/Machine/RegMap.lean ====
section
/-!
DEFINITION. Sys2Proof/Machine/RegMap.lean: the register tables of every chapter (R10, R11, R12, R16), one row per register of the
spec: name, offset, index strides, reset domain, and each field with its bits, access and reset value.
-/
namespace Sys2Proof.Machine

/-- Access types of R16. -/
inductive Acc where
  | rw | ro | wo | w1c | w1s | rwc
  deriving DecidableEq, Repr

/-- Reset domains of a register's introducing line (R2 to R6). -/
inductive Dom where
  | control | retained | fabric
  deriving DecidableEq, Repr

/-- Where a register stands: in the hub, in every tile, in tiles 0 and 9, or in tile 0 only (R12). -/
inductive Scope where
  | hub | tall | t09 | t0
  deriving DecidableEq, Repr

/-- One field of a register table: bits `hi:lo`, access and reset value. -/
structure RField where
  hi : Nat
  lo : Nat
  acc : Acc
  rst : Nat
  deriving DecidableEq, Repr

/-- One register table row: `base` is the absolute address of a hub register or the offset of a tile register; `s1`, `n1` and
`s2`, `n2` are the strides and counts of its indices (count 1 where it has none). -/
structure RegRow where
  name : String
  scope : Scope
  base : Nat
  s1 : Nat
  n1 : Nat
  s2 : Nat
  n2 : Nat
  dom : Dom
  fields : List RField
  deriving DecidableEq, Repr

/-- One named field at an absolute address. -/
structure Fld where
  addr : Nat
  hi : Nat
  lo : Nat
  deriving DecidableEq, Repr

/-- Base of the block of tile `t` (R11). -/
def tileBase (t : Nat) : Nat := 0x0100_0000 + t * 0x0010_0000

/-- Register tables of block Glb. -/
def regsGlb : List RegRow :=
  [⟨"GLB_PCI_ID", .hub, 0x0, 0x4, 1, 4, 1, .control, [⟨31, 16, .ro, 0x1024⟩, ⟨15, 0, .ro, 0x1F3C⟩]⟩,
   ⟨"GLB_REV", .hub, 0x4, 0x4, 1, 4, 1, .control, [⟨31, 24, .ro, 1⟩, ⟨23, 16, .ro, 1⟩, ⟨15, 0, .ro, 0⟩]⟩,
   ⟨"GLB_SERIAL_HI", .hub, 0x8, 0x4, 1, 4, 1, .control, [⟨31, 0, .ro, 0⟩]⟩,
   ⟨"GLB_SERIAL_LO", .hub, 0xC, 0x4, 1, 4, 1, .control, [⟨31, 0, .ro, 0⟩]⟩,
   ⟨"GLB_CTL", .hub, 0x10, 0x4, 1, 4, 1, .control, [⟨31, 16, .ro, 0⟩, ⟨1, 1, .w1s, 0⟩, ⟨0, 0, .w1s, 0⟩]⟩,
   ⟨"GLB_STS", .hub, 0x14, 0x4, 1, 4, 1, .fabric, [⟨31, 31, .ro, 0⟩, ⟨30, 28, .ro, 0⟩, ⟨27, 27, .ro, 0⟩, ⟨26, 26, .ro, 0⟩, ⟨19, 0, .w1c, 0⟩]⟩,
   ⟨"GLB_RST_CAUSE", .hub, 0x18, 0x4, 1, 4, 1, .retained, [⟨31, 28, .ro, 0⟩, ⟨15, 0, .ro, 0⟩]⟩,
   ⟨"GLB_WDT", .hub, 0x20, 0x4, 1, 4, 1, .control, [⟨13, 0, .rw, 0x64⟩]⟩,
   ⟨"GLB_FW_0", .hub, 0x30, 0x4, 1, 4, 1, .retained, [⟨31, 31, .ro, 0⟩, ⟨30, 30, .ro, 0⟩, ⟨29, 29, .ro, 0⟩, ⟨15, 0, .rw, 0x258⟩]⟩,
   ⟨"GLB_FW_1", .hub, 0x34, 0x4, 1, 4, 1, .retained, [⟨31, 16, .ro, 0⟩, ⟨15, 0, .ro, 0⟩]⟩,
   ⟨"GLB_FW_ARB", .hub, 0x38, 0x4, 1, 4, 1, .retained, [⟨15, 0, .ro, 0⟩]⟩,
   ⟨"GLB_ARB_CTL", .hub, 0x3C, 0x4, 1, 4, 1, .retained, [⟨23, 16, .ro, 0⟩, ⟨0, 0, .w1s, 0⟩]⟩] ++
  [⟨"GLB_BOOT", .hub, 0x40, 0x4, 1, 4, 1, .retained, [⟨31, 28, .ro, 0⟩, ⟨27, 27, .ro, 0⟩, ⟨26, 26, .ro, 0⟩, ⟨25, 25, .rw, 0⟩, ⟨15, 0, .ro, 0⟩]⟩,
   ⟨"GLB_ENG", .hub, 0x100, 0x4, 20, 4, 1, .control, [⟨31, 30, .ro, 0⟩, ⟨29, 29, .ro, 0⟩, ⟨28, 27, .ro, 0⟩, ⟨1, 1, .w1s, 0⟩, ⟨0, 0, .w1s, 0⟩]⟩,
   ⟨"GLB_FLT_CFG", .hub, 0x200, 0x4, 1, 4, 1, .retained, [⟨8, 8, .rw, 1⟩, ⟨7, 0, .rw, 3⟩]⟩,
   ⟨"GLB_ECC", .hub, 0x210, 0x4, 4, 4, 1, .control, [⟨31, 0, .ro, 0⟩]⟩,
   ⟨"GLB_PORT_FLT", .hub, 0x300, 0x4, 64, 4, 1, .retained, [⟨31, 0, .w1c, 0⟩]⟩,
   ⟨"GLB_CRV", .hub, 0x1000, 0x4, 1280, 4, 1, .retained, [⟨31, 0, .ro, 0⟩]⟩]

/-- Register tables of block Time. -/
def regsTime : List RegRow :=
  [⟨"TIME_CTL", .hub, 0x100000, 0x4, 1, 4, 1, .control, [⟨1, 1, .w1s, 0⟩, ⟨0, 0, .w1s, 0⟩]⟩,
   ⟨"TIME_STS", .hub, 0x100004, 0x4, 1, 4, 1, .control, [⟨31, 16, .ro, 0⟩, ⟨6, 5, .ro, 0⟩, ⟨4, 4, .ro, 0⟩, ⟨3, 3, .ro, 0⟩, ⟨2, 2, .ro, 0⟩, ⟨1, 1, .ro, 0⟩, ⟨0, 0, .ro, 0⟩]⟩,
   ⟨"TIME_NOW_0", .hub, 0x100010, 0x4, 1, 4, 1, .control, [⟨15, 0, .ro, 0⟩]⟩,
   ⟨"TIME_NOW_1", .hub, 0x100014, 0x4, 1, 4, 1, .control, [⟨31, 0, .ro, 0⟩]⟩,
   ⟨"TIME_NOW_2", .hub, 0x100018, 0x4, 1, 4, 1, .control, [⟨31, 0, .ro, 0⟩]⟩,
   ⟨"TIME_NOW_3", .hub, 0x10001C, 0x4, 1, 4, 1, .control, [⟨31, 0, .ro, 0⟩]⟩,
   ⟨"TIME_INC_HI", .hub, 0x100020, 0x4, 1, 4, 1, .control, [⟨31, 0, .rw, 1⟩]⟩,
   ⟨"TIME_INC_LO", .hub, 0x100024, 0x4, 1, 4, 1, .control, [⟨31, 0, .rw, 0⟩]⟩,
   ⟨"TIME_ADJ_S", .hub, 0x100030, 0x4, 1, 4, 1, .control, [⟨31, 0, .rw, 0⟩]⟩,
   ⟨"TIME_ADJ_NS", .hub, 0x100034, 0x4, 1, 4, 1, .control, [⟨31, 0, .rw, 0⟩]⟩,
   ⟨"TIME_ADJ_CTL", .hub, 0x100038, 0x4, 1, 4, 1, .control, [⟨1, 1, .ro, 0⟩, ⟨0, 0, .w1s, 0⟩]⟩,
   ⟨"TIME_PTP_CFG", .hub, 0x100040, 0x4, 1, 4, 1, .control, [⟨31, 24, .rwc, 0⟩, ⟨23, 12, .rwc, 0x64⟩, ⟨6, 6, .rwc, 0⟩, ⟨5, 4, .rwc, 0⟩, ⟨3, 2, .rwc, 0⟩, ⟨0, 0, .rw, 0⟩]⟩] ++
  [⟨"TIME_SRV_OFS", .hub, 0x100048, 0x4, 1, 4, 1, .control, [⟨31, 0, .ro, 0⟩]⟩,
   ⟨"TIME_PPS_CFG", .hub, 0x100050, 0x4, 1, 4, 1, .control, [⟨31, 22, .rw, 0⟩, ⟨21, 13, .rw, 0x64⟩, ⟨2, 2, .rw, 0⟩, ⟨1, 1, .rw, 0⟩, ⟨0, 0, .rw, 0⟩]⟩,
   ⟨"TIME_PPS_CAP_0", .hub, 0x100060, 0x4, 1, 4, 1, .control, [⟨31, 31, .ro, 0⟩, ⟨15, 0, .ro, 0⟩]⟩,
   ⟨"TIME_PPS_CAP_1", .hub, 0x100064, 0x4, 1, 4, 1, .control, [⟨31, 0, .ro, 0⟩]⟩,
   ⟨"TIME_PPS_CAP_2", .hub, 0x100068, 0x4, 1, 4, 1, .control, [⟨31, 0, .ro, 0⟩]⟩,
   ⟨"TIME_PPS_CAP_3", .hub, 0x10006C, 0x4, 1, 4, 1, .control, [⟨31, 0, .ro, 0⟩]⟩,
   ⟨"TIME_CLK_CFG", .hub, 0x100070, 0x4, 1, 4, 1, .control, [⟨31, 8, .ro, 0⟩, ⟨0, 0, .rw, 0⟩]⟩,
   ⟨"TIME_ASYM_IN", .hub, 0x100080, 0x8, 4, 4, 1, .control, [⟨31, 0, .rw, 0⟩]⟩,
   ⟨"TIME_ASYM_OUT", .hub, 0x100084, 0x8, 4, 4, 1, .control, [⟨31, 0, .rw, 0⟩]⟩,
   ⟨"TIME_TILE_STS", .hub, 0x1000A0, 0x4, 1, 4, 1, .control, [⟨19, 0, .w1c, 0⟩]⟩]

/-- Register tables of block Schd. -/
def regsSchd : List RegRow :=
  [⟨"SCHD_CTL", .hub, 0x200000, 0x4, 1, 4, 1, .control, [⟨31, 16, .ro, 0⟩, ⟨15, 2, .rwc, 0x1000⟩, ⟨0, 0, .rw, 0⟩]⟩,
   ⟨"SCHD_STS", .hub, 0x200004, 0x4, 1, 4, 1, .control, [⟨31, 31, .ro, 0⟩, ⟨30, 30, .ro, 0⟩, ⟨29, 29, .ro, 0⟩, ⟨28, 28, .ro, 0⟩, ⟨27, 22, .ro, 0⟩, ⟨15, 8, .ro, 0⟩, ⟨7, 0, .ro, 0⟩]⟩,
   ⟨"SCHD_CYC_START_HI", .hub, 0x200010, 0x4, 1, 4, 1, .control, [⟨15, 0, .ro, 0⟩]⟩,
   ⟨"SCHD_CYC_START_LO", .hub, 0x200014, 0x4, 1, 4, 1, .control, [⟨31, 0, .ro, 0⟩]⟩,
   ⟨"SCHD_CYC_CNT", .hub, 0x20001C, 0x4, 1, 4, 1, .control, [⟨31, 0, .ro, 0⟩]⟩,
   ⟨"SCHD_SWAP", .hub, 0x200020, 0x4, 1, 4, 1, .control, [⟨31, 16, .ro, 0⟩, ⟨15, 15, .ro, 0⟩, ⟨14, 14, .ro, 0⟩, ⟨13, 8, .ro, 0⟩]⟩,
   ⟨"SCHD_SWAP_T_HI", .hub, 0x200024, 0x4, 1, 4, 1, .control, [⟨15, 0, .ro, 0⟩]⟩,
   ⟨"SCHD_SWAP_T_LO", .hub, 0x200028, 0x4, 1, 4, 1, .control, [⟨31, 0, .ro, 0⟩]⟩,
   ⟨"SCHD_LIB_0", .hub, 0x201000, 0x8, 64, 4, 1, .control, [⟨31, 28, .ro, 0⟩, ⟨23, 16, .ro, 0⟩, ⟨15, 0, .ro, 0⟩]⟩,
   ⟨"SCHD_LIB_1", .hub, 0x201004, 0x8, 64, 4, 1, .control, [⟨31, 0, .ro, 0⟩]⟩]

/-- Register tables of block Plc. -/
def regsPlc : List RegRow :=
  [⟨"PLC_CTL", .hub, 0x300000, 0x4, 1, 4, 1, .retained, [⟨31, 16, .ro, 0⟩, ⟨4, 4, .rwc, 0⟩, ⟨3, 3, .rwc, 1⟩, ⟨2, 2, .rwc, 0⟩, ⟨1, 1, .rwc, 1⟩, ⟨0, 0, .rw, 0⟩]⟩,
   ⟨"PLC_W0", .hub, 0x300010, 0x4, 1, 4, 1, .retained, [⟨31, 24, .rwc, 4⟩, ⟨23, 16, .rwc, 0x40⟩, ⟨15, 8, .rwc, 2⟩, ⟨7, 0, .rwc, 0x40⟩]⟩,
   ⟨"PLC_W1", .hub, 0x300014, 0x4, 1, 4, 1, .retained, [⟨15, 8, .rwc, 0x80⟩, ⟨7, 0, .rwc, 0x40⟩]⟩,
   ⟨"PLC_LIM0", .hub, 0x300020, 0x4, 1, 4, 1, .retained, [⟨29, 24, .rwc, 4⟩, ⟨21, 16, .rwc, 8⟩, ⟨15, 0, .rwc, 0xBE⟩]⟩,
   ⟨"PLC_LIM1", .hub, 0x300024, 0x4, 1, 4, 1, .retained, [⟨31, 16, .rwc, 0x352⟩, ⟨15, 0, .rwc, 0x2BC⟩]⟩,
   ⟨"PLC_LIM2", .hub, 0x300028, 0x4, 1, 4, 1, .retained, [⟨23, 16, .rwc, 0x10⟩, ⟨15, 0, .rwc, 0x1000⟩]⟩,
   ⟨"PLC_LOSS_TGT", .hub, 0x30002C, 0x4, 1, 4, 1, .retained, [⟨15, 0, .rwc, 0xA0⟩]⟩,
   ⟨"PLC_STS", .hub, 0x300040, 0x4, 1, 4, 1, .control, [⟨31, 31, .ro, 0⟩, ⟨21, 16, .ro, 0⟩, ⟨15, 0, .ro, 0⟩]⟩,
   ⟨"PLC_LAST", .hub, 0x300048, 0x4, 1, 4, 1, .control, [⟨31, 16, .ro, 0⟩, ⟨15, 8, .ro, 0⟩, ⟨5, 0, .ro, 0⟩]⟩,
   ⟨"PLC_LAST_SCORE", .hub, 0x30004C, 0x4, 1, 4, 1, .control, [⟨31, 0, .ro, 0⟩]⟩,
   ⟨"PLC_CNT", .hub, 0x300060, 0x4, 4, 4, 1, .control, [⟨31, 0, .ro, 0⟩]⟩,
   ⟨"PLC_CELL_LOSS", .hub, 0x310000, 0x4, 10240, 4, 1, .retained, [⟨31, 16, .ro, 0⟩, ⟨15, 0, .ro, 0⟩]⟩]

/-- Register tables of block Epo. -/
def regsEpo : List RegRow :=
  [⟨"EPO_CTL", .hub, 0x400000, 0x4, 1, 4, 1, .control, [⟨31, 16, .ro, 0⟩, ⟨0, 0, .rw, 0⟩]⟩,
   ⟨"EPO_GB", .hub, 0x400004, 0x4, 1, 4, 1, .fabric, [⟨28, 16, .ro, 0x4B0⟩, ⟨12, 0, .rw, 0x4B0⟩]⟩,
   ⟨"EPO_NEXT_0", .hub, 0x400010, 0x4, 1, 4, 1, .control, [⟨31, 31, .ro, 0⟩, ⟨30, 30, .ro, 0⟩, ⟨29, 29, .ro, 0⟩, ⟨15, 0, .ro, 0⟩]⟩,
   ⟨"EPO_NEXT_1", .hub, 0x400014, 0x4, 1, 4, 1, .control, [⟨31, 0, .ro, 0⟩]⟩,
   ⟨"EPO_OUT_CFG", .hub, 0x400020, 0x4, 1, 4, 1, .fabric, [⟨15, 8, .rw, 0xA⟩, ⟨4, 4, .rw, 0⟩, ⟨2, 2, .rw, 0⟩, ⟨1, 1, .rw, 0⟩, ⟨0, 0, .rw, 0⟩]⟩,
   ⟨"EPO_BELAY_CFG", .hub, 0x400030, 0x4, 1, 4, 1, .fabric, [⟨31, 26, .rw, 0x18⟩, ⟨9, 0, .rw, 0x190⟩]⟩,
   ⟨"EPO_CNT", .hub, 0x400040, 0x4, 4, 4, 1, .fabric, [⟨31, 0, .ro, 0⟩]⟩,
   ⟨"EPO_XLAST_0", .hub, 0x400050, 0x4, 1, 4, 1, .fabric, [⟨31, 30, .ro, 0⟩, ⟨19, 0, .ro, 0⟩]⟩,
   ⟨"EPO_XLAST_1", .hub, 0x400054, 0x4, 1, 4, 1, .fabric, [⟨15, 0, .ro, 0⟩]⟩,
   ⟨"EPO_XLAST_2", .hub, 0x400058, 0x4, 1, 4, 1, .fabric, [⟨31, 0, .ro, 0⟩]⟩,
   ⟨"EPO_XCNT", .hub, 0x400060, 0x4, 4, 4, 1, .fabric, [⟨31, 0, .ro, 0⟩]⟩]

/-- Register tables of block Trv. -/
def regsTrv : List RegRow :=
  [⟨"TRV_CTL", .hub, 0x500000, 0x4, 1, 4, 1, .retained, [⟨31, 16, .ro, 0⟩, ⟨14, 8, .rwc, 0x10⟩, ⟨7, 4, .rwc, 2⟩, ⟨0, 0, .rw, 0⟩]⟩,
   ⟨"TRV_STS", .hub, 0x500004, 0x4, 1, 4, 1, .control, [⟨31, 31, .ro, 0⟩, ⟨30, 30, .ro, 0⟩, ⟨19, 16, .ro, 0⟩, ⟨15, 0, .ro, 0⟩]⟩,
   ⟨"TRV_CUR_0", .hub, 0x500010, 0x4, 1, 4, 1, .retained, [⟨31, 28, .ro, 0⟩, ⟨27, 26, .ro, 0⟩, ⟨25, 25, .ro, 0⟩, ⟨23, 16, .ro, 0⟩, ⟨15, 0, .ro, 0⟩]⟩,
   ⟨"TRV_CUR_1", .hub, 0x500014, 0x4, 1, 4, 1, .retained, [⟨31, 27, .ro, 0⟩, ⟨26, 22, .ro, 0⟩, ⟨21, 16, .ro, 0⟩, ⟨15, 0, .ro, 0⟩]⟩,
   ⟨"TRV_CUR_2", .hub, 0x500018, 0x4, 1, 4, 1, .retained, [⟨31, 25, .ro, 0⟩, ⟨15, 0, .ro, 0⟩]⟩,
   ⟨"TRV_CUR_3", .hub, 0x50001C, 0x4, 1, 4, 1, .retained, [⟨31, 0, .ro, 0⟩]⟩,
   ⟨"TRV_CNT", .hub, 0x500040, 0x4, 4, 4, 1, .retained, [⟨31, 0, .ro, 0⟩]⟩,
   ⟨"TRV_STAGE_0", .hub, 0x500100, 0x8, 16, 4, 1, .retained, [⟨31, 28, .ro, 0⟩, ⟨27, 21, .ro, 0⟩, ⟨15, 0, .ro, 0⟩]⟩,
   ⟨"TRV_STAGE_1", .hub, 0x500104, 0x8, 16, 4, 1, .retained, [⟨31, 0, .ro, 0⟩]⟩,
   ⟨"TRV_MOVE_0", .hub, 0x500200, 0x10, 65, 4, 1, .retained, [⟨31, 31, .ro, 0⟩, ⟨30, 27, .ro, 0⟩, ⟨26, 26, .ro, 0⟩, ⟨17, 0, .ro, 0⟩]⟩,
   ⟨"TRV_MOVE_1", .hub, 0x500204, 0x10, 65, 4, 1, .retained, [⟨19, 0, .ro, 0⟩]⟩,
   ⟨"TRV_MOVE_2", .hub, 0x500208, 0x10, 65, 4, 1, .retained, [⟨19, 0, .ro, 0⟩]⟩] ++
  [⟨"TRV_MOVE_3", .hub, 0x50020C, 0x10, 65, 4, 1, .retained, []⟩,
   ⟨"TRV_SPEC_CFG", .hub, 0x500800, 0x4, 1, 4, 1, .retained, [⟨15, 8, .rwc, 0x10⟩, ⟨4, 4, .rwc, 1⟩, ⟨3, 3, .rwc, 1⟩, ⟨2, 2, .rwc, 1⟩, ⟨1, 1, .rwc, 1⟩, ⟨0, 0, .rw, 0⟩]⟩,
   ⟨"TRV_SPEC_STS", .hub, 0x500804, 0x4, 1, 4, 1, .control, [⟨31, 31, .ro, 0⟩, ⟨16, 0, .ro, 0⟩]⟩,
   ⟨"TRV_SPEC_CNT", .hub, 0x500810, 0x4, 4, 4, 1, .control, [⟨31, 0, .ro, 0⟩]⟩]

/-- Register tables of block Cmd. -/
def regsCmd : List RegRow :=
  [⟨"CMD_CTL", .hub, 0x600000, 0x4, 1, 4, 1, .retained, [⟨31, 16, .ro, 0⟩, ⟨11, 8, .rwc, 6⟩, ⟨7, 4, .rwc, 0xF⟩, ⟨0, 0, .rw, 0⟩]⟩,
   ⟨"CMD_STS", .hub, 0x600004, 0x4, 1, 4, 1, .control, [⟨21, 16, .ro, 0⟩, ⟨12, 0, .ro, 0⟩]⟩,
   ⟨"CMD_UDP", .hub, 0x600008, 0x4, 1, 4, 1, .retained, [⟨15, 0, .rwc, 0x4744⟩]⟩,
   ⟨"CMD_CNT", .hub, 0x600010, 0x4, 8, 4, 1, .control, [⟨31, 0, .ro, 0⟩]⟩,
   ⟨"CMD_LEASE_CFG", .hub, 0x600100, 0x4, 1, 4, 1, .control, [⟨11, 0, .rw, 0xA⟩]⟩,
   ⟨"CMD_MBX_CFG", .hub, 0x600200, 0x4, 1, 4, 1, .control, [⟨31, 16, .ro, 0⟩, ⟨11, 8, .rwc, 6⟩, ⟨7, 4, .rwc, 6⟩, ⟨0, 0, .rw, 0⟩]⟩,
   ⟨"CMD_MBX_REQ_BASE_LO", .hub, 0x600204, 0x4, 1, 4, 1, .control, [⟨31, 0, .rwc, 0⟩]⟩,
   ⟨"CMD_MBX_REQ_BASE_HI", .hub, 0x600208, 0x4, 1, 4, 1, .control, [⟨31, 0, .rwc, 0⟩]⟩,
   ⟨"CMD_MBX_CPL_BASE_LO", .hub, 0x60020C, 0x4, 1, 4, 1, .control, [⟨31, 0, .rwc, 0⟩]⟩,
   ⟨"CMD_MBX_CPL_BASE_HI", .hub, 0x600210, 0x4, 1, 4, 1, .control, [⟨31, 0, .rwc, 0⟩]⟩,
   ⟨"CMD_MBX_REQ_TAIL", .hub, 0x600214, 0x4, 1, 4, 1, .control, [⟨15, 0, .rw, 0⟩]⟩,
   ⟨"CMD_MBX_REQ_HEAD", .hub, 0x600218, 0x4, 1, 4, 1, .control, [⟨15, 0, .ro, 0⟩]⟩] ++
  [⟨"CMD_MBX_CPL_TAIL", .hub, 0x60021C, 0x4, 1, 4, 1, .control, [⟨15, 0, .ro, 0⟩]⟩,
   ⟨"CMD_MBX_CPL_HEAD", .hub, 0x600220, 0x4, 1, 4, 1, .control, [⟨15, 0, .rw, 0⟩]⟩,
   ⟨"CMD_SES_0", .hub, 0x600400, 0x10, 32, 4, 1, .control, [⟨31, 31, .ro, 0⟩, ⟨29, 24, .ro, 0⟩, ⟨23, 16, .ro, 0⟩, ⟨15, 0, .ro, 0⟩]⟩,
   ⟨"CMD_SES_1", .hub, 0x600404, 0x10, 32, 4, 1, .control, [⟨31, 0, .ro, 0⟩]⟩,
   ⟨"CMD_SES_2", .hub, 0x600408, 0x10, 32, 4, 1, .control, [⟨31, 0, .ro, 0⟩]⟩,
   ⟨"CMD_SES_3", .hub, 0x60040C, 0x10, 32, 4, 1, .control, [⟨31, 0, .ro, 0⟩]⟩,
   ⟨"CMD_OWN_IN", .hub, 0x601000, 0x4, 256, 4, 1, .retained, [⟨29, 24, .rw, 0⟩, ⟨21, 16, .rw, 0⟩, ⟨13, 8, .rw, 0⟩, ⟨5, 0, .rw, 0⟩]⟩,
   ⟨"CMD_OWN_OUT", .hub, 0x601400, 0x4, 256, 4, 1, .retained, [⟨29, 24, .rw, 0⟩, ⟨21, 16, .rw, 0⟩, ⟨13, 8, .rw, 0⟩, ⟨5, 0, .rw, 0⟩]⟩,
   ⟨"CMD_OWN_REFUSE", .hub, 0x601800, 0x4, 1, 4, 1, .control, [⟨30, 27, .ro, 0⟩, ⟨26, 26, .ro, 0⟩, ⟨25, 16, .ro, 0⟩, ⟨15, 0, .ro, 0⟩]⟩,
   ⟨"CMD_GRANT_0", .hub, 0x602000, 0x8, 512, 4, 1, .retained, [⟨31, 31, .ro, 0⟩, ⟨30, 30, .ro, 0⟩, ⟨29, 20, .ro, 0⟩, ⟨19, 14, .ro, 0⟩, ⟨13, 8, .ro, 0⟩]⟩,
   ⟨"CMD_GRANT_1", .hub, 0x602004, 0x8, 512, 4, 1, .retained, [⟨31, 0, .ro, 0⟩]⟩,
   ⟨"CMD_KEY_STAGE", .hub, 0x603000, 0x4, 8, 4, 1, .retained, [⟨31, 0, .wo, 0⟩]⟩] ++
  [⟨"CMD_SAK_KEY", .hub, 0x603100, 0x4, 8, 4, 1, .retained, [⟨31, 0, .wo, 0⟩]⟩,
   ⟨"CMD_SAK_SALT", .hub, 0x603120, 0x4, 3, 4, 1, .retained, [⟨31, 0, .wo, 0⟩]⟩,
   ⟨"CMD_SAK_SSCI", .hub, 0x60312C, 0x4, 1, 4, 1, .retained, [⟨31, 0, .rw, 0⟩]⟩,
   ⟨"CMD_SAK_PN_HI", .hub, 0x603130, 0x4, 1, 4, 1, .retained, [⟨31, 0, .rw, 0⟩]⟩,
   ⟨"CMD_SAK_PN_LO", .hub, 0x603134, 0x4, 1, 4, 1, .retained, [⟨31, 0, .rw, 0⟩]⟩,
   ⟨"CMD_SAK_CTL", .hub, 0x603140, 0x4, 1, 4, 1, .retained, [⟨9, 8, .rw, 0⟩, ⟨4, 4, .rw, 0⟩, ⟨3, 2, .rw, 0⟩, ⟨1, 1, .w1s, 0⟩, ⟨0, 0, .w1s, 0⟩]⟩,
   ⟨"CMD_SAK_VALID", .hub, 0x603144, 0x4, 1, 4, 1, .retained, [⟨31, 0, .ro, 0⟩]⟩,
   ⟨"CMD_KEY_CTL", .hub, 0x603800, 0x4, 1, 4, 1, .retained, [⟨13, 8, .rw, 0⟩, ⟨1, 1, .w1s, 0⟩, ⟨0, 0, .w1s, 0⟩]⟩,
   ⟨"CMD_KEY_VALID_LO", .hub, 0x603808, 0x4, 1, 4, 1, .retained, [⟨31, 0, .ro, 0⟩]⟩,
   ⟨"CMD_KEY_VALID_HI", .hub, 0x60380C, 0x4, 1, 4, 1, .retained, [⟨31, 0, .ro, 0⟩]⟩]

/-- Register tables of block Net. -/
def regsNet : List RegRow :=
  [⟨"NET_CTL", .hub, 0x700000, 0x4, 1, 4, 1, .control, [⟨31, 16, .ro, 0⟩, ⟨13, 1, .rwc, 0xC00⟩, ⟨0, 0, .rw, 0⟩]⟩,
   ⟨"NET_DSCP_COL", .hub, 0x700100, 0x4, 4, 4, 1, .control, [⟨31, 0, .rw, 0⟩]⟩,
   ⟨"NET_TENQ", .hub, 0x700120, 0x4, 4, 4, 1, .control, [⟨31, 0, .rwc, 0x55555555⟩]⟩,
   ⟨"NET_TENQ4", .hub, 0x700130, 0x4, 1, 4, 1, .control, [⟨1, 0, .rwc, 2⟩]⟩,
   ⟨"NET_POL_0", .hub, 0x701000, 0x10, 66, 4, 1, .control, [⟨31, 31, .rw, 0⟩, ⟨30, 30, .rw, 1⟩, ⟨23, 0, .rw, 0⟩]⟩,
   ⟨"NET_POL_1", .hub, 0x701004, 0x10, 66, 4, 1, .control, [⟨23, 0, .rw, 0⟩]⟩,
   ⟨"NET_POL_2", .hub, 0x701008, 0x10, 66, 4, 1, .control, [⟨19, 0, .rw, 0x4000⟩]⟩,
   ⟨"NET_POL_3", .hub, 0x70100C, 0x10, 66, 4, 1, .control, [⟨19, 0, .rw, 0x10000⟩]⟩,
   ⟨"NET_POLC_0", .hub, 0x702000, 0x10, 66, 4, 1, .control, [⟨31, 0, .ro, 0⟩]⟩,
   ⟨"NET_POLC_1", .hub, 0x702004, 0x10, 66, 4, 1, .control, [⟨31, 0, .ro, 0⟩]⟩,
   ⟨"NET_POLC_2", .hub, 0x702008, 0x10, 66, 4, 1, .control, [⟨31, 0, .ro, 0⟩]⟩,
   ⟨"NET_POLC_3", .hub, 0x70200C, 0x10, 66, 4, 1, .control, [⟨31, 0, .ro, 0⟩]⟩]

/-- Register tables of block Evt. -/
def regsEvt : List RegRow :=
  [⟨"EVT_CTL", .hub, 0x800000, 0x4, 1, 4, 1, .control, [⟨31, 16, .ro, 0⟩, ⟨15, 8, .rwc, 0x64⟩, ⟨2, 2, .w1s, 0⟩, ⟨1, 1, .rwc, 0⟩, ⟨0, 0, .rw, 0⟩]⟩,
   ⟨"EVT_STS", .hub, 0x800004, 0x4, 1, 4, 1, .control, [⟨31, 30, .ro, 0⟩, ⟨29, 29, .ro, 0⟩, ⟨28, 28, .ro, 0⟩]⟩,
   ⟨"EVT_HEAD", .hub, 0x800008, 0x4, 1, 4, 1, .retained, [⟨31, 0, .ro, 0⟩]⟩,
   ⟨"EVT_FLUSHED", .hub, 0x80000C, 0x4, 1, 4, 1, .retained, [⟨31, 0, .ro, 0⟩]⟩,
   ⟨"EVT_LOST", .hub, 0x800010, 0x4, 1, 4, 1, .retained, [⟨31, 0, .ro, 0⟩]⟩,
   ⟨"EVT_TILE_LOST", .hub, 0x800014, 0x4, 1, 4, 1, .retained, [⟨31, 0, .ro, 0⟩]⟩,
   ⟨"EVT_LS_BASE", .hub, 0x800020, 0x4, 1, 4, 1, .control, [⟨31, 0, .rwc, 0⟩]⟩,
   ⟨"EVT_LS_SIZE", .hub, 0x800024, 0x4, 1, 4, 1, .control, [⟨31, 0, .rwc, 0⟩]⟩,
   ⟨"EVT_MIR_SIZE", .hub, 0x800028, 0x4, 1, 4, 1, .control, [⟨11, 0, .rwc, 0x40⟩]⟩,
   ⟨"EVT_CAIRN_STS", .hub, 0x800030, 0x4, 1, 4, 1, .retained, [⟨31, 16, .ro, 0⟩, ⟨8, 0, .ro, 0⟩]⟩,
   ⟨"EVT_CAIRN_HOST", .hub, 0x800040, 0x4, 3, 4, 1, .control, [⟨31, 0, .rw, 0⟩]⟩,
   ⟨"EVT_CAIRN_HOST_CTL", .hub, 0x80004C, 0x4, 1, 4, 1, .control, [⟨0, 0, .w1s, 0⟩]⟩] ++
  [⟨"EVT_PEND", .hub, 0x800100, 0x4, 48, 4, 1, .fabric, [⟨31, 0, .w1c, 0⟩]⟩,
   ⟨"EVT_SRC", .hub, 0x801000, 0x4, 1536, 4, 1, .retained, [⟨31, 31, .rw, 1⟩, ⟨30, 30, .rw, 0⟩, ⟨29, 29, .rw, 1⟩, ⟨28, 28, .rw, 0⟩, ⟨27, 27, .ro, 0⟩, ⟨7, 0, .rw, 0xA⟩]⟩]

/-- Register tables of block Thm. -/
def regsThm : List RegRow :=
  [⟨"THM_CTL", .hub, 0x900000, 0x4, 1, 4, 1, .control, [⟨31, 24, .rw, 0x50⟩, ⟨23, 16, .rw, 0x32⟩, ⟨15, 8, .rw, 0x1E⟩, ⟨2, 0, .rw, 0⟩]⟩,
   ⟨"THM_TIME", .hub, 0x900004, 0x4, 1, 4, 1, .control, [⟨31, 20, .rw, 0x3C⟩, ⟨19, 8, .rw, 0x64⟩, ⟨3, 0, .rw, 3⟩]⟩,
   ⟨"THM_PHO_A", .hub, 0x900010, 0x4, 1, 4, 1, .control, [⟨31, 16, .rw, 0x370⟩, ⟨15, 0, .rw, 0x352⟩]⟩,
   ⟨"THM_PHO_B", .hub, 0x900014, 0x4, 1, 4, 1, .control, [⟨31, 16, .rw, 0x3AC⟩, ⟨15, 0, .rw, 0x38E⟩]⟩,
   ⟨"THM_PHO_SD", .hub, 0x900018, 0x4, 1, 4, 1, .control, [⟨15, 0, .rw, 0x3E8⟩]⟩,
   ⟨"THM_STS", .hub, 0x900020, 0x4, 1, 4, 1, .control, [⟨31, 16, .ro, 0⟩, ⟨15, 15, .ro, 0⟩, ⟨14, 12, .ro, 0⟩, ⟨11, 10, .ro, 0⟩, ⟨9, 0, .ro, 0⟩]⟩,
   ⟨"THM_HOT", .hub, 0x900024, 0x4, 1, 4, 1, .control, [⟨31, 20, .ro, 0⟩, ⟨15, 0, .ro, 0⟩]⟩,
   ⟨"THM_JCT", .hub, 0x900028, 0x4, 1, 4, 1, .control, [⟨15, 0, .ro, 0⟩]⟩,
   ⟨"THM_FAIL", .hub, 0x900100, 0x4, 80, 4, 1, .fabric, [⟨31, 0, .w1c, 0⟩]⟩]

/-- Register tables of block Cal. -/
def regsCal : List RegRow :=
  [⟨"CAL_CTL", .hub, 0xA00000, 0x4, 1, 4, 1, .control, [⟨31, 16, .ro, 0⟩, ⟨12, 10, .rwc, 2⟩, ⟨9, 8, .rwc, 0⟩, ⟨7, 1, .rwc, 0x14⟩, ⟨0, 0, .rw, 0⟩]⟩,
   ⟨"CAL_LIM", .hub, 0xA00004, 0x4, 1, 4, 1, .control, [⟨31, 16, .rwc, 0xA8⟩, ⟨15, 8, .rwc, 0x10⟩, ⟨7, 4, .rwc, 1⟩, ⟨3, 0, .rwc, 4⟩]⟩,
   ⟨"CAL_CMD", .hub, 0xA00008, 0x4, 1, 4, 1, .control, [⟨12, 8, .rw, 0⟩, ⟨2, 2, .w1s, 0⟩, ⟨1, 1, .rw, 0⟩, ⟨0, 0, .w1s, 0⟩]⟩,
   ⟨"CAL_SWEEP", .hub, 0xA0000C, 0x4, 1, 4, 1, .retained, [⟨31, 31, .ro, 0⟩, ⟨30, 26, .ro, 0⟩, ⟨19, 0, .ro, 0⟩]⟩,
   ⟨"CAL_TILE_0", .hub, 0xA00100, 0x8, 20, 4, 1, .control, [⟨31, 28, .ro, 0⟩, ⟨27, 25, .ro, 0⟩, ⟨24, 24, .ro, 0⟩, ⟨23, 16, .ro, 0⟩, ⟨15, 0, .ro, 0⟩]⟩,
   ⟨"CAL_TILE_1", .hub, 0xA00104, 0x8, 20, 4, 1, .control, [⟨31, 16, .ro, 0⟩, ⟨15, 0, .ro, 0⟩]⟩,
   ⟨"CAL_TBL_SEL", .hub, 0xA00200, 0x4, 1, 4, 1, .control, [⟨31, 30, .rw, 0⟩, ⟨28, 24, .rw, 0⟩, ⟨15, 0, .rw, 0⟩]⟩,
   ⟨"CAL_TBL_DATA", .hub, 0xA00204, 0x4, 1, 4, 1, .control, [⟨31, 0, .rw, 0⟩]⟩,
   ⟨"CAL_CNT", .hub, 0xA00300, 0x4, 4, 4, 1, .control, [⟨31, 0, .ro, 0⟩]⟩]

/-- Register tables of block Port. -/
def regsPort : List RegRow :=
  [⟨"PORT_CTL", .hub, 0xB00000, 0x1000, 4, 4, 1, .control, [⟨31, 16, .ro, 0⟩, ⟨11, 11, .rwc, 0⟩, ⟨9, 8, .rwc, 0⟩, ⟨5, 4, .rwc, 2⟩, ⟨1, 1, .ro, 0⟩, ⟨0, 0, .rw, 0⟩]⟩,
   ⟨"PORT_MAC_HI", .hub, 0xB00008, 0x1000, 4, 4, 1, .control, [⟨15, 0, .rwc, 0⟩]⟩,
   ⟨"PORT_MAC_LO", .hub, 0xB0000C, 0x1000, 4, 4, 1, .control, [⟨31, 0, .rwc, 0⟩]⟩,
   ⟨"PORT_VLAN", .hub, 0xB00010, 0x1000, 4, 4, 1, .control, [⟨31, 31, .rwc, 0⟩, ⟨15, 13, .rwc, 0⟩, ⟨11, 0, .rwc, 0⟩]⟩,
   ⟨"PORT_IP4", .hub, 0xB00014, 0x1000, 4, 4, 1, .control, [⟨31, 0, .rwc, 0⟩]⟩,
   ⟨"PORT_IP6", .hub, 0xB00020, 0x1000, 4, 4, 4, .control, [⟨31, 0, .rwc, 0⟩]⟩,
   ⟨"PORT_CNT", .hub, 0xB00040, 0x1000, 4, 4, 8, .control, [⟨31, 0, .ro, 0⟩]⟩,
   ⟨"PORT_MSEC", .hub, 0xB00100, 0x1000, 4, 4, 1, .retained, [⟨5, 4, .rw, 0⟩, ⟨2, 2, .rwc, 0⟩, ⟨1, 1, .rwc, 1⟩, ⟨0, 0, .rwc, 0⟩]⟩,
   ⟨"PORT_MSEC_WIN", .hub, 0xB00104, 0x1000, 4, 4, 1, .retained, [⟨31, 0, .rwc, 0x40⟩]⟩,
   ⟨"PORT_SCI_HI", .hub, 0xB00108, 0x1000, 4, 4, 1, .retained, [⟨31, 0, .rwc, 0⟩]⟩,
   ⟨"PORT_SCI_LO", .hub, 0xB0010C, 0x1000, 4, 4, 1, .retained, [⟨31, 0, .rwc, 0⟩]⟩,
   ⟨"PORT_PSCI_HI", .hub, 0xB00110, 0x1000, 4, 4, 1, .retained, [⟨31, 0, .rwc, 0⟩]⟩] ++
  [⟨"PORT_PSCI_LO", .hub, 0xB00114, 0x1000, 4, 4, 1, .retained, [⟨31, 0, .rwc, 0⟩]⟩,
   ⟨"PORT_TXPN_HI", .hub, 0xB00120, 0x1000, 4, 8, 4, .retained, [⟨31, 0, .ro, 0⟩]⟩,
   ⟨"PORT_TXPN_LO", .hub, 0xB00124, 0x1000, 4, 8, 4, .retained, [⟨31, 0, .ro, 0⟩]⟩,
   ⟨"PORT_Q_0", .hub, 0xB00200, 0x1000, 4, 16, 4, .control, [⟨16, 0, .rwc, 0x6000⟩]⟩,
   ⟨"PORT_Q_1", .hub, 0xB00204, 0x1000, 4, 16, 4, .control, [⟨31, 31, .rw, 1⟩, ⟨23, 0, .rw, 0⟩]⟩,
   ⟨"PORT_Q_2", .hub, 0xB00208, 0x1000, 4, 16, 4, .control, [⟨19, 0, .rw, 0x4000⟩]⟩,
   ⟨"PORT_Q_3", .hub, 0xB0020C, 0x1000, 4, 16, 4, .control, [⟨5, 0, .rwc, 0x14⟩]⟩,
   ⟨"PORT_GATE_CTL", .hub, 0xB00300, 0x1000, 4, 4, 1, .control, [⟨31, 31, .ro, 0⟩, ⟨22, 16, .rw, 1⟩, ⟨15, 8, .ro, 0⟩, ⟨1, 1, .w1s, 0⟩, ⟨0, 0, .rw, 0⟩]⟩,
   ⟨"PORT_GATE_BASE_HI", .hub, 0xB00304, 0x1000, 4, 4, 1, .control, [⟨15, 0, .rw, 0⟩]⟩,
   ⟨"PORT_GATE_BASE_LO", .hub, 0xB00308, 0x1000, 4, 4, 1, .control, [⟨31, 0, .rw, 0⟩]⟩,
   ⟨"PORT_GATE_GUARD", .hub, 0xB0030C, 0x1000, 4, 4, 1, .control, [⟨10, 0, .rw, 0x64⟩]⟩,
   ⟨"PORT_GCL", .hub, 0xB00400, 0x1000, 4, 4, 64, .control, [⟨31, 28, .rw, 0xF⟩, ⟨23, 0, .rw, 0x1388⟩]⟩] ++
  [⟨"PORT_GCLA", .hub, 0xB00500, 0x1000, 4, 4, 64, .control, [⟨31, 28, .ro, 0xF⟩, ⟨23, 0, .ro, 0x1388⟩]⟩,
   ⟨"PORT_QS_CFG", .hub, 0xB00600, 0x1000, 4, 4, 1, .control, [⟨19, 0, .rw, 0x3E8⟩]⟩,
   ⟨"PORT_QSMP_0", .hub, 0xB00610, 0x1000, 4, 16, 4, .control, [⟨31, 16, .ro, 0⟩, ⟨15, 0, .ro, 0⟩]⟩,
   ⟨"PORT_QSMP_1", .hub, 0xB00614, 0x1000, 4, 16, 4, .control, [⟨31, 0, .ro, 0⟩]⟩,
   ⟨"PORT_QSMP_2", .hub, 0xB00618, 0x1000, 4, 16, 4, .control, [⟨31, 0, .ro, 0⟩]⟩,
   ⟨"PORT_QSMP_3", .hub, 0xB0061C, 0x1000, 4, 16, 4, .control, [⟨31, 0, .ro, 0⟩]⟩]

/-- Register tables of block Mem. -/
def regsMem : List RegRow :=
  [⟨"MEM_CTL", .hub, 0xC00000, 0x4, 1, 4, 1, .control, [⟨31, 16, .ro, 0⟩, ⟨3, 3, .w1s, 0⟩, ⟨2, 1, .rwc, 3⟩, ⟨0, 0, .rw, 0⟩]⟩,
   ⟨"MEM_STS", .hub, 0xC00004, 0x4, 1, 4, 1, .control, [⟨31, 30, .ro, 0⟩, ⟨29, 29, .ro, 0⟩]⟩,
   ⟨"MEM_ECC", .hub, 0xC00010, 0x4, 4, 4, 1, .control, [⟨31, 0, .ro, 0⟩]⟩]

/-- Register tables of block TileCommon. -/
def regsTileCommon : List RegRow :=
  [⟨"TILE_OWNER", .tall, 0x0, 0x4, 1, 4, 1, .fabric, [⟨1, 0, .ro, 0⟩]⟩]

/-- Register tables of block TileLp. -/
def regsTileLp : List RegRow :=
  [⟨"TILE_LP_CTL", .tall, 0x10000, 0x4, 1, 4, 1, .fabric, [⟨31, 16, .ro, 0⟩, ⟨12, 8, .rw, 0x10⟩, ⟨4, 4, .rw, 0⟩, ⟨3, 3, .rw, 1⟩, ⟨2, 2, .rw, 1⟩, ⟨1, 1, .rw, 1⟩, ⟨0, 0, .rw, 0⟩]⟩,
   ⟨"TILE_LP_PERIOD", .tall, 0x10004, 0x4, 1, 4, 1, .fabric, [⟨19, 16, .ro, 2⟩, ⟨3, 0, .rw, 2⟩]⟩,
   ⟨"TILE_LP_GAIN", .tall, 0x10008, 0x4, 1, 4, 1, .fabric, [⟨31, 16, .rw, 0x400⟩, ⟨15, 0, .rw, 0x800⟩]⟩,
   ⟨"TILE_LP_DITH", .tall, 0x1000C, 0x4, 1, 4, 1, .fabric, [⟨31, 24, .rw, 8⟩, ⟨15, 0, .rw, 0x106⟩]⟩,
   ⟨"TILE_LP_CLAMP", .tall, 0x10010, 0x4, 1, 4, 1, .fabric, [⟨31, 16, .rw, 0x7D0⟩, ⟨15, 0, .rw, 0xCCD⟩]⟩,
   ⟨"TILE_LP_PIN", .tall, 0x10014, 0x4, 1, 4, 1, .fabric, [⟨31, 16, .rw, 0x800⟩, ⟨15, 8, .rw, 0x40⟩, ⟨7, 0, .rw, 0x10⟩]⟩,
   ⟨"TILE_LP_VHTR", .tall, 0x10018, 0x4, 1, 4, 1, .fabric, [⟨31, 16, .ro, 0x9C4⟩, ⟨15, 0, .rw, 0x9C4⟩]⟩,
   ⟨"TILE_LP_LOW", .tall, 0x1001C, 0x4, 1, 4, 1, .fabric, [⟨15, 0, .rw, 0x40⟩]⟩,
   ⟨"TILE_LP_UCODE", .tall, 0x10020, 0x4, 1, 4, 1, .fabric, [⟨31, 16, .ro, 0⟩, ⟨15, 15, .ro, 0⟩, ⟨14, 14, .ro, 0⟩, ⟨13, 13, .ro, 0⟩, ⟨12, 12, .ro, 0⟩, ⟨9, 8, .ro, 0⟩, ⟨5, 4, .rw, 0⟩, ⟨1, 1, .w1s, 0⟩, ⟨0, 0, .w1s, 0⟩]⟩,
   ⟨"TILE_LP_PRB_CFG", .tall, 0x10024, 0x4, 1, 4, 1, .fabric, [⟨31, 23, .rw, 0⟩, ⟨9, 9, .rw, 0⟩, ⟨8, 8, .rw, 0⟩, ⟨4, 4, .rw, 0⟩, ⟨3, 2, .rw, 0⟩, ⟨1, 1, .w1s, 0⟩, ⟨0, 0, .w1s, 0⟩]⟩,
   ⟨"TILE_LP_PRB_AMP", .tall, 0x10028, 0x4, 1, 4, 1, .fabric, [⟨31, 16, .rw, 0x106⟩, ⟨15, 0, .rw, 0⟩]⟩,
   ⟨"TILE_LP_PRB_TIME", .tall, 0x1002C, 0x4, 1, 4, 1, .fabric, [⟨31, 16, .rw, 0x40⟩, ⟨15, 0, .rw, 8⟩]⟩] ++
  [⟨"TILE_LP_PRB_CHIRP", .tall, 0x10030, 0x4, 1, 4, 1, .fabric, [⟨31, 16, .rw, 0⟩, ⟨15, 0, .rw, 0⟩]⟩,
   ⟨"TILE_LP_PRB_STS", .tall, 0x10034, 0x4, 1, 4, 1, .fabric, [⟨31, 16, .ro, 0⟩, ⟨15, 14, .ro, 0⟩, ⟨13, 13, .ro, 0⟩, ⟨6, 0, .ro, 0⟩]⟩,
   ⟨"TILE_LP_CAP_WP", .tall, 0x10038, 0x4, 1, 4, 1, .fabric, [⟨16, 0, .ro, 0⟩]⟩,
   ⟨"TILE_LP_STS", .tall, 0x10040, 0x4, 1, 4, 1, .fabric, [⟨31, 31, .ro, 0⟩, ⟨30, 30, .ro, 0⟩, ⟨29, 29, .ro, 0⟩, ⟨27, 24, .ro, 0⟩, ⟨12, 0, .ro, 0⟩]⟩,
   ⟨"TILE_LP_LOAD", .tall, 0x10044, 0x4, 1, 4, 1, .fabric, [⟨31, 16, .ro, 0⟩, ⟨15, 0, .ro, 0⟩]⟩,
   ⟨"TILE_LP_FN", .tall, 0x10048, 0x4, 1, 4, 1, .fabric, [⟨31, 0, .ro, 0⟩]⟩,
   ⟨"TILE_LP_CAP_ADDR", .tall, 0x1004C, 0x4, 1, 4, 1, .fabric, [⟨19, 2, .rw, 0⟩]⟩,
   ⟨"TILE_LP_CAP_DATA", .tall, 0x10050, 0x4, 1, 4, 1, .fabric, [⟨31, 0, .ro, 0⟩]⟩,
   ⟨"TILE_LP_XL_CTL", .tall, 0x10054, 0x4, 1, 4, 1, .fabric, [⟨31, 16, .ro, 0⟩, ⟨15, 14, .ro, 0⟩, ⟨13, 12, .ro, 0⟩, ⟨11, 8, .ro, 0⟩, ⟨2, 2, .rw, 0⟩, ⟨1, 1, .w1s, 0⟩, ⟨0, 0, .w1s, 0⟩]⟩,
   ⟨"TILE_LP_XL_CFG", .tall, 0x10058, 0x4, 1, 4, 1, .fabric, [⟨31, 28, .rw, 0xF⟩, ⟨15, 0, .rw, 0x10⟩]⟩,
   ⟨"TILE_LP_CNT", .tall, 0x10060, 0x4, 4, 4, 1, .fabric, [⟨31, 0, .ro, 0⟩]⟩,
   ⟨"TILE_LP_PRB_SET", .tall, 0x10100, 0x4, 128, 4, 1, .fabric, [⟨31, 0, .rw, 0⟩]⟩] ++
  [⟨"TILE_LP_EST_0", .tall, 0x80000, 0x20, 4096, 4, 1, .fabric, [⟨31, 28, .ro, 3⟩, ⟨27, 27, .ro, 0⟩, ⟨26, 26, .ro, 0⟩, ⟨25, 25, .ro, 0⟩, ⟨24, 24, .ro, 0⟩, ⟨23, 23, .ro, 0⟩, ⟨22, 22, .ro, 0⟩, ⟨21, 21, .ro, 0⟩, ⟨20, 20, .ro, 0⟩, ⟨19, 19, .ro, 0⟩, ⟨15, 8, .ro, 0⟩, ⟨7, 0, .ro, 0⟩]⟩,
   ⟨"TILE_LP_EST_1", .tall, 0x80004, 0x20, 4096, 4, 1, .fabric, [⟨31, 0, .ro, 0⟩]⟩,
   ⟨"TILE_LP_EST_2", .tall, 0x80008, 0x20, 4096, 4, 1, .fabric, [⟨31, 0, .ro, 0⟩]⟩,
   ⟨"TILE_LP_EST_3", .tall, 0x8000C, 0x20, 4096, 4, 1, .fabric, [⟨31, 0, .ro, 0⟩]⟩,
   ⟨"TILE_LP_EST_4", .tall, 0x80010, 0x20, 4096, 4, 1, .fabric, [⟨31, 0, .ro, 0⟩]⟩,
   ⟨"TILE_LP_EST_5", .tall, 0x80014, 0x20, 4096, 4, 1, .fabric, [⟨31, 16, .ro, 0⟩, ⟨15, 8, .ro, 0xFF⟩, ⟨7, 0, .ro, 0xFF⟩]⟩,
   ⟨"TILE_LP_EST_6", .tall, 0x80018, 0x20, 4096, 4, 1, .fabric, [⟨31, 16, .ro, 0⟩, ⟨15, 0, .ro, 0⟩]⟩,
   ⟨"TILE_LP_EST_7", .tall, 0x8001C, 0x20, 4096, 4, 1, .fabric, [⟨31, 16, .ro, 0⟩, ⟨15, 0, .ro, 0⟩]⟩,
   ⟨"TILE_LP_XT", .tall, 0xA0000, 0x40, 4096, 4, 16, .fabric, [⟨31, 31, .rw, 0⟩, ⟨30, 30, .rw, 0⟩, ⟨27, 16, .rw, 0⟩, ⟨15, 0, .rw, 0⟩]⟩]

/-- Register tables of block TilePw. -/
def regsTilePw : List RegRow :=
  [⟨"TILE_PW_STS", .tall, 0x20000, 0x4, 1, 4, 1, .fabric, [⟨31, 16, .ro, 0⟩, ⟨15, 0, .ro, 0⟩]⟩,
   ⟨"TILE_PW_BCTL", .tall, 0x20100, 0x40, 16, 4, 1, .fabric, [⟨31, 16, .ro, 0⟩, ⟨5, 5, .rwc, 0⟩, ⟨4, 4, .rwc, 0⟩, ⟨3, 3, .rwc, 0⟩, ⟨0, 0, .rw, 1⟩]⟩,
   ⟨"TILE_PW_BTIM", .tall, 0x20104, 0x40, 16, 4, 1, .fabric, [⟨28, 16, .rwc, 0⟩, ⟨13, 8, .rwc, 4⟩, ⟨5, 0, .rwc, 8⟩]⟩,
   ⟨"TILE_PW_BTOP", .tall, 0x20108, 0x40, 16, 4, 1, .fabric, [⟨31, 31, .w1s, 0⟩, ⟨23, 16, .rw, 0⟩, ⟨11, 0, .rw, 0xFA⟩]⟩,
   ⟨"TILE_PW_BSTS", .tall, 0x2010C, 0x40, 16, 4, 1, .fabric, [⟨31, 31, .ro, 0⟩, ⟨28, 20, .ro, 0⟩, ⟨11, 0, .ro, 0xFA⟩]⟩,
   ⟨"TILE_PW_BAGE", .tall, 0x20110, 0x40, 16, 4, 1, .fabric, [⟨10, 0, .ro, 0⟩]⟩,
   ⟨"TILE_PW_BCNT", .tall, 0x20120, 0x40, 16, 4, 4, .fabric, [⟨31, 0, .ro, 0⟩]⟩,
   ⟨"TILE_PW_USET", .tall, 0x20800, 0x20, 16, 4, 8, .fabric, [⟨31, 0, .rw, 0⟩]⟩,
   ⟨"TILE_PW_DUTY", .tall, 0x21000, 0x4, 4096, 4, 1, .fabric, [⟨23, 16, .rw, 0⟩, ⟨15, 0, .rw, 0x8000⟩]⟩,
   ⟨"TILE_PW_CHCFG", .tall, 0x25000, 0x4, 4096, 4, 1, .fabric, [⟨1, 1, .rw, 0⟩, ⟨0, 0, .rw, 0⟩]⟩,
   ⟨"TILE_PW_ACT", .tall, 0x29000, 0x4, 4096, 4, 1, .fabric, [⟨31, 31, .ro, 0⟩, ⟨30, 30, .ro, 0⟩, ⟨29, 24, .ro, 0⟩, ⟨15, 0, .ro, 0x8000⟩]⟩]

/-- Register tables of block TileFd. -/
def regsTileFd : List RegRow :=
  [⟨"TILE_FD_STS", .tall, 0x30000, 0x4, 1, 4, 1, .fabric, [⟨31, 16, .ro, 0⟩, ⟨15, 0, .ro, 0⟩]⟩,
   ⟨"TILE_FD_STB", .tall, 0x30004, 0x4, 1, 4, 1, .fabric, [⟨0, 0, .w1s, 0⟩]⟩,
   ⟨"TILE_FD_CNT", .tall, 0x30010, 0x4, 4, 4, 1, .fabric, [⟨31, 0, .ro, 0⟩]⟩,
   ⟨"TILE_FD_BCTL", .tall, 0x30100, 0x10, 16, 4, 1, .fabric, [⟨31, 16, .ro, 0⟩, ⟨2, 2, .w1s, 0⟩, ⟨1, 1, .rwc, 0⟩, ⟨0, 0, .rw, 1⟩]⟩,
   ⟨"TILE_FD_BLK_CFG", .t09, 0x30600, 0x4, 1, 4, 1, .fabric, [⟨12, 8, .rw, 0xA⟩, ⟨7, 0, .rw, 0x1E⟩]⟩,
   ⟨"TILE_FD_BLK_FORCE", .t09, 0x30640, 0x4, 32, 4, 1, .fabric, [⟨31, 0, .rw, 0⟩]⟩,
   ⟨"TILE_FD_GUARD_CFG", .t0, 0x30800, 0x4, 1, 4, 1, .fabric, [⟨15, 0, .rw, 0xC8⟩]⟩,
   ⟨"TILE_FD_GUARD_REFUSE", .t0, 0x30804, 0x4, 1, 4, 1, .fabric, [⟨15, 0, .ro, 0⟩]⟩,
   ⟨"TILE_FD_GUARD_STS", .t0, 0x30900, 0x4, 32, 4, 1, .fabric, [⟨31, 0, .w1c, 0⟩]⟩,
   ⟨"TILE_FD_GUARD_LAT", .t0, 0x30980, 0x4, 32, 4, 1, .fabric, [⟨31, 0, .ro, 0⟩]⟩,
   ⟨"TILE_FD_GUARD_CNT", .t0, 0x30A00, 0x4, 1, 4, 1, .fabric, [⟨31, 0, .ro, 0⟩]⟩,
   ⟨"TILE_FD_LAT_CFG", .t09, 0x30B00, 0x4, 1, 4, 1, .fabric, [⟨31, 16, .ro, 0⟩, ⟨15, 8, .rwc, 0x80⟩, ⟨5, 4, .rwc, 2⟩, ⟨0, 0, .rw, 0⟩]⟩] ++
  [⟨"TILE_FD_LAT_WARN", .t09, 0x30B04, 0x4, 1, 4, 1, .fabric, [⟨31, 0, .rw, 0x4C4B400⟩]⟩,
   ⟨"TILE_FD_LAT_TIM", .t09, 0x30B08, 0x4, 1, 4, 1, .fabric, [⟨31, 24, .ro, 0x12⟩, ⟨23, 16, .ro, 0xF⟩, ⟨15, 8, .ro, 0x28⟩, ⟨7, 0, .ro, 0x96⟩]⟩,
   ⟨"TILE_FD_LAT_CNT", .t09, 0x30B10, 0x4, 4, 4, 1, .fabric, [⟨31, 0, .ro, 0⟩]⟩,
   ⟨"TILE_FD_PORT", .t09, 0x31000, 0x4, 1024, 4, 1, .fabric, [⟨31, 29, .ro, 0⟩, ⟨28, 27, .ro, 3⟩, ⟨26, 26, .ro, 0⟩, ⟨25, 25, .ro, 0⟩, ⟨24, 24, .ro, 0⟩, ⟨23, 23, .ro, 0⟩, ⟨22, 22, .ro, 0⟩, ⟨17, 16, .ro, 0⟩]⟩,
   ⟨"TILE_FD_WEAR", .t09, 0x32000, 0x4, 1024, 4, 1, .fabric, [⟨31, 0, .rw, 0⟩]⟩,
   ⟨"TILE_FD_CODE", .tall, 0x34000, 0x4, 8192, 4, 1, .fabric, [⟨31, 31, .ro, 0⟩, ⟨30, 30, .ro, 1⟩, ⟨29, 20, .ro, 0⟩, ⟨16, 16, .rw, 1⟩, ⟨9, 0, .rw, 0⟩]⟩]

/-- Register tables of block TileMc. -/
def regsTileMc : List RegRow :=
  [⟨"TILE_MC_CTL", .tall, 0x40000, 0x4, 1, 4, 1, .fabric, [⟨31, 16, .ro, 0⟩, ⟨3, 3, .rwc, 0⟩, ⟨2, 2, .rwc, 0⟩, ⟨1, 1, .w1s, 0⟩, ⟨0, 0, .rw, 0⟩]⟩,
   ⟨"TILE_MC_STS", .tall, 0x40004, 0x4, 1, 4, 1, .fabric, [⟨31, 31, .ro, 1⟩, ⟨30, 30, .ro, 0⟩, ⟨11, 8, .ro, 0xC⟩, ⟨7, 4, .ro, 0xC⟩]⟩,
   ⟨"TILE_MC_SEQ", .tall, 0x40100, 0x4, 16, 4, 1, .fabric, [⟨31, 31, .rw, 1⟩, ⟨30, 30, .rw, 0⟩, ⟨29, 28, .rw, 0⟩, ⟨27, 27, .rw, 1⟩, ⟨26, 25, .rw, 3⟩, ⟨19, 16, .rw, 0⟩, ⟨9, 0, .rw, 0⟩]⟩,
   ⟨"TILE_MC_SEQA", .tall, 0x40140, 0x4, 16, 4, 1, .fabric, [⟨31, 31, .ro, 1⟩, ⟨30, 30, .ro, 0⟩, ⟨29, 28, .ro, 0⟩, ⟨27, 27, .ro, 1⟩, ⟨26, 25, .ro, 3⟩, ⟨19, 16, .ro, 0⟩, ⟨9, 0, .ro, 0⟩]⟩,
   ⟨"TILE_MC_TAP_CFG", .t09, 0x40180, 0x4, 1, 4, 1, .fabric, [⟨31, 31, .rwc, 1⟩, ⟨26, 25, .rwc, 0⟩, ⟨9, 0, .rwc, 0x280⟩]⟩,
   ⟨"TILE_MC_TRIG_T_HI", .tall, 0x40190, 0x4, 1, 4, 1, .fabric, [⟨15, 0, .ro, 0⟩]⟩,
   ⟨"TILE_MC_TRIG_T_LO", .tall, 0x40194, 0x4, 1, 4, 1, .fabric, [⟨31, 0, .ro, 0⟩]⟩,
   ⟨"TILE_MC_HOLD", .tall, 0x401A0, 0x4, 1, 4, 1, .fabric, [⟨31, 31, .rw, 0⟩, ⟨30, 30, .ro, 0⟩, ⟨3, 0, .rw, 0⟩]⟩,
   ⟨"TILE_MC_ROT", .tall, 0x401B0, 0x4, 1, 4, 1, .fabric, [⟨15, 0, .rwc, 0xC8⟩]⟩,
   ⟨"TILE_MC_SLICE", .tall, 0x40200, 0x4, 13, 4, 1, .fabric, [⟨31, 30, .ro, 0⟩, ⟨23, 12, .ro, 0⟩, ⟨11, 0, .ro, 0⟩]⟩,
   ⟨"TILE_MC_CORR_ADDR", .tall, 0x40300, 0x4, 1, 4, 1, .fabric, [⟨15, 0, .rw, 0⟩]⟩,
   ⟨"TILE_MC_CORR_DATA", .tall, 0x40304, 0x4, 1, 4, 1, .fabric, [⟨31, 16, .rw, 0x4000⟩, ⟨15, 0, .rw, 0⟩]⟩] ++
  [⟨"TILE_MC_CNT", .tall, 0x40310, 0x4, 4, 4, 1, .fabric, [⟨31, 0, .ro, 0⟩]⟩,
   ⟨"TILE_MC_SYNC_CFG", .t0, 0x40400, 0x4, 1, 4, 1, .fabric, [⟨15, 8, .rw, 0xA⟩, ⟨7, 4, .rw, 2⟩, ⟨1, 1, .rw, 0⟩, ⟨0, 0, .rw, 0⟩]⟩,
   ⟨"TILE_MC_ANC_CTL", .tall, 0x40500, 0x4, 1, 4, 1, .fabric, [⟨31, 31, .ro, 0⟩, ⟨30, 30, .w1c, 0⟩, ⟨29, 28, .rw, 0⟩, ⟨27, 24, .rw, 0⟩, ⟨14, 1, .rw, 0⟩, ⟨0, 0, .w1s, 0⟩]⟩,
   ⟨"TILE_MC_ANC_RES", .tall, 0x40504, 0x4, 1, 4, 1, .fabric, [⟨23, 0, .ro, 0⟩]⟩,
   ⟨"TILE_MC_TAPS", .t09, 0x44000, 0x4, 1024, 4, 1, .fabric, [⟨31, 16, .ro, 0⟩, ⟨15, 15, .ro, 0⟩, ⟨14, 14, .ro, 0⟩, ⟨13, 13, .ro, 0⟩, ⟨12, 12, .ro, 0⟩, ⟨11, 10, .ro, 0⟩, ⟨9, 9, .ro, 0⟩, ⟨7, 0, .ro, 0⟩]⟩,
   ⟨"TILE_MC_SMP", .tall, 0x48000, 0x4, 8192, 4, 1, .fabric, [⟨31, 16, .ro, 0⟩, ⟨15, 15, .ro, 0⟩, ⟨14, 14, .ro, 0⟩, ⟨13, 13, .ro, 0⟩, ⟨12, 12, .ro, 0⟩, ⟨11, 10, .ro, 0⟩, ⟨9, 9, .ro, 0⟩, ⟨7, 0, .ro, 0⟩]⟩]

/-- Register tables of block TileHk. -/
def regsTileHk : List RegRow :=
  [⟨"TILE_HK_CTL", .tall, 0x50000, 0x4, 1, 4, 1, .fabric, [⟨31, 16, .ro, 0⟩, ⟨15, 8, .ro, 0⟩]⟩,
   ⟨"TILE_HK_MASK", .tall, 0x50010, 0x4, 6, 4, 1, .fabric, [⟨31, 0, .rw, 0xFFFFFFFF⟩]⟩,
   ⟨"TILE_HK_VAL", .tall, 0x50100, 0x4, 192, 4, 1, .fabric, [⟨31, 31, .ro, 0⟩, ⟨30, 30, .ro, 0⟩, ⟨23, 16, .ro, 0⟩, ⟨15, 0, .ro, 0⟩]⟩,
   ⟨"TILE_HK_LIM", .tall, 0x50400, 0x4, 64, 4, 1, .fabric, [⟨31, 16, .rw, 0x7FFF⟩, ⟨15, 0, .rw, 0x8000⟩]⟩]

/-- The row of one list that places a register at offset `a`. -/
def RegRow.covers (r : RegRow) (a : Nat) : Bool :=
  let d := a - r.base
  let rem := d % r.s1
  decide (r.base ≤ a) && decide (d / r.s1 < r.n1) &&
    (if r.n2 = 1 then rem == 0 else rem % r.s2 == 0 && decide (rem / r.s2 < r.n2))

/-- The rows of the hub block that holds address `a` (R11). -/
def hubRows (a : Nat) : List RegRow :=
  match a / 0x10_0000 with
  | 0 => regsGlb | 1 => regsTime | 2 => regsSchd | 3 => regsPlc | 4 => regsEpo | 5 => regsTrv | 6 => regsCmd
  | 7 => regsNet | 8 => regsEvt | 9 => regsThm | 10 => regsCal | 11 => regsPort | 12 => regsMem | _ => []

/-- The rows of the tile sub-block that holds offset `o` (R12). -/
def tileRows (o : Nat) : List RegRow :=
  match o / 0x1_0000 with
  | 0 => regsTileCommon | 1 => regsTileLp | 2 => regsTilePw | 3 => regsTileFd | 4 => regsTileMc | 5 => regsTileHk
  | 8 => regsTileLp | 9 => regsTileLp | 10 => regsTileLp | 11 => regsTileLp | 12 => regsTileLp | 13 => regsTileLp
  | _ => []

/-- Whether a register of scope `sc` stands in tile `t`. -/
def Scope.inTile (sc : Scope) (t : Nat) : Bool :=
  match sc with
  | .hub => false
  | .tall => true
  | .t09 => t == 0 || t == 9
  | .t0 => t == 0

/-- The register table row that places a register at address `a`, if any (R10, R11, R12). -/
def regRow (a : Nat) : Option RegRow :=
  if a < 0x0100_0000 then (hubRows a).find? (·.covers a)
  else if a < 0x0240_0000 then
    let t := (a - 0x0100_0000) / 0x10_0000
    let o := a % 0x10_0000
    (tileRows o).find? fun r => r.scope.inTile t && r.covers o
  else none

/-- Sources that R455 makes tenant-visible. -/
def tenantVisible (src : Nat) : Bool := [34, 35, 40, 41, 42, 58, 60, 73, 74, 75, 93, 296, 297].contains src

/-- Reset words that depend on the register's index, and identity words (their tables give the formula or "fused"). -/
def resetSpecial (a : Nat) (w : Word) : Word :=
  let t := (a - 0x0100_0000) / 0x10_0000
  let o := a % 0x10_0000
  if 0x0100_0000 ≤ a then
    if 0x2_0104 ≤ o ∧ o < 0x2_0500 ∧ o % 64 = 4 then setBits w 28 16 ((16 * t + (o - 0x2_0104) / 64) * 25 / 16)
    else if 0x4_0100 ≤ o ∧ o < 0x4_0180 then
      let n := (o - 0x4_0100) / 4 % 16
      setBits (setBits w 9 0 (min 0x280 (0x30 + 0x2C * n))) 19 16 n
    else if o = 0x4_0230 then setBits w 31 30 1
    else w
  else if a = 0x4 then setBits w 15 0 Config.srev.toNat
  else if a = 0x8 then BitVec.ofNat 32 (Config.serial.toNat / 2 ^ 32)
  else if a = 0xC then BitVec.ofNat 32 Config.serial.toNat
  else if 0x70_1000 ≤ a ∧ a < 0x70_1420 then
    let p := (a - 0x70_1000) / 16
    let cir := if p = 64 then 0xA else if p = 65 then 0x64 else 0x3E8
    if a % 16 = 0 then setBits w 23 0 cir else if a % 16 = 4 then setBits w 23 0 (4 * cir) else w
  else if 0x80_1000 ≤ a ∧ a < 0x80_2800 then
    let n := (a - 0x80_1000) / 4
    let hot := n == 8 || n == 92 || n == 94
    setBits (setBits (setBits w 30 30 (b2n hot)) 28 28 (b2n hot)) 27 27 (b2n (tenantVisible n))
  else if 0x31_0000 ≤ a ∧ a < 0x31_A000 then
    let i := (a - 0x31_0000) / 4
    setBits (setBits w 15 0 (Config.cellLoss (2 * i))) 31 16 (Config.cellLoss (2 * i + 1))
  else w

/-- The reset value of a register (the Reset column of its table). -/
def resetWord (a : Nat) : Word :=
  match regRow a with
  | none => 0
  | some r => resetSpecial a (r.fields.foldl (fun w f => setBits w f.hi f.lo f.rst) 0)

/-- What a host write of `v` leaves in a register (R15, R16): RW, RWC and WO fields take the written bits, a 1 clears a W1C bit,
RO fields and the actions of W1S bits leave the stored value. -/
def writeFields (fs : List RField) (old v : Word) : Word :=
  fs.foldl (fun w f =>
    match f.acc with
    | .rw | .rwc | .wo => setBits w f.hi f.lo (bits v f.hi f.lo)
    | .w1c => setBits w f.hi f.lo (bits (w &&& ~~~ v) f.hi f.lo)
    | .ro | .w1s => w) old

/-- What the host reads of a stored word: write-only fields read 0 (R16). -/
def readFields (fs : List RField) (w : Word) : Word :=
  fs.foldl (fun w f => if f.acc = .wo then setBits w f.hi f.lo 0 else w) w

/-- Whether a write of `v` would change some RWC field of the stored word (R538). -/
def changesRwc (fs : List RField) (old v : Word) : Bool :=
  fs.any fun f => f.acc == .rwc && bits old f.hi f.lo != bits v f.hi f.lo

end Sys2Proof.Machine
end

