-- ==== Sys2Proof/Machine/RegFields.lean ====
section
/-!
DEFINITION. Sys2Proof/Machine/RegFields.lean: addresses of the registers and of their fields, by the spec's names (the register
tables of every chapter).
-/
namespace Sys2Proof.Machine

def R.GLB_PCI_ID : Nat := 0x0
def R.GLB_PCI_ID_DEVICE_ID : Fld := ⟨R.GLB_PCI_ID, 31, 16⟩
def R.GLB_PCI_ID_VENDOR_ID : Fld := ⟨R.GLB_PCI_ID, 15, 0⟩
def R.GLB_REV : Nat := 0x4
def R.GLB_REV_FAMILY : Fld := ⟨R.GLB_REV, 31, 24⟩
def R.GLB_REV_MEMBER : Fld := ⟨R.GLB_REV, 23, 16⟩
def R.GLB_REV_SREV : Fld := ⟨R.GLB_REV, 15, 0⟩
def R.GLB_SERIAL_HI : Nat := 0x8
def R.GLB_SERIAL_LO : Nat := 0xC
def R.GLB_CTL : Nat := 0x10
def R.GLB_CTL_REFUSE : Fld := ⟨R.GLB_CTL, 31, 16⟩
def R.GLB_CTL_BIV_CLR : Fld := ⟨R.GLB_CTL, 1, 1⟩
def R.GLB_CTL_SOFT_RST : Fld := ⟨R.GLB_CTL, 0, 0⟩
def R.GLB_STS : Nat := 0x14
def R.GLB_STS_BIVOUAC : Fld := ⟨R.GLB_STS, 31, 31⟩
def R.GLB_STS_CAUSE : Fld := ⟨R.GLB_STS, 30, 28⟩
def R.GLB_STS_HOLDOVER : Fld := ⟨R.GLB_STS, 27, 27⟩
def R.GLB_STS_HO_FROZEN : Fld := ⟨R.GLB_STS, 26, 26⟩
def R.GLB_STS_ANCHOR : Fld := ⟨R.GLB_STS, 19, 0⟩
def R.GLB_RST_CAUSE : Nat := 0x18
def R.GLB_RST_CAUSE_CAUSE : Fld := ⟨R.GLB_RST_CAUSE, 31, 28⟩
def R.GLB_RST_CAUSE_COUNT : Fld := ⟨R.GLB_RST_CAUSE, 15, 0⟩
def R.GLB_WDT : Nat := 0x20
def R.GLB_WDT_PERIOD : Fld := ⟨R.GLB_WDT, 13, 0⟩
def R.GLB_FW_0 : Nat := 0x30
def R.GLB_FW_0_ACT_GRP : Fld := ⟨R.GLB_FW_0, 31, 31⟩
def R.GLB_FW_0_STBY_READY : Fld := ⟨R.GLB_FW_0, 30, 30⟩
def R.GLB_FW_0_BUSY : Fld := ⟨R.GLB_FW_0, 29, 29⟩
def R.GLB_FW_0_KEEP : Fld := ⟨R.GLB_FW_0, 15, 0⟩
def R.GLB_FW_1 : Nat := 0x34
def R.GLB_FW_1_VER_ACT : Fld := ⟨R.GLB_FW_1, 31, 16⟩
def R.GLB_FW_1_VER_STBY : Fld := ⟨R.GLB_FW_1, 15, 0⟩
def R.GLB_FW_ARB : Nat := 0x38
def R.GLB_FW_ARB_ARB_MIN : Fld := ⟨R.GLB_FW_ARB, 15, 0⟩
def R.GLB_ARB_CTL : Nat := 0x3C
def R.GLB_ARB_CTL_ARB_ACT : Fld := ⟨R.GLB_ARB_CTL, 23, 16⟩
def R.GLB_ARB_CTL_ADVANCE : Fld := ⟨R.GLB_ARB_CTL, 0, 0⟩
def R.GLB_BOOT : Nat := 0x40
def R.GLB_BOOT_STAGE : Fld := ⟨R.GLB_BOOT, 31, 28⟩
def R.GLB_BOOT_SLOT : Fld := ⟨R.GLB_BOOT, 27, 27⟩
def R.GLB_BOOT_FALLBACK : Fld := ⟨R.GLB_BOOT, 26, 26⟩
def R.GLB_BOOT_BC_MODE : Fld := ⟨R.GLB_BOOT, 25, 25⟩
def R.GLB_BOOT_CODE : Fld := ⟨R.GLB_BOOT, 15, 0⟩
def R.GLB_ENG (n : Nat) : Nat := 0x100 + 4 * n
def R.GLB_ENG_STATE (n : Nat) : Fld := ⟨(R.GLB_ENG n), 31, 30⟩
def R.GLB_ENG_HEALTHY (n : Nat) : Fld := ⟨(R.GLB_ENG n), 29, 29⟩
def R.GLB_ENG_OWNER (n : Nat) : Fld := ⟨(R.GLB_ENG n), 28, 27⟩
def R.GLB_ENG_RETURN (n : Nat) : Fld := ⟨(R.GLB_ENG n), 1, 1⟩
def R.GLB_ENG_TEST (n : Nat) : Fld := ⟨(R.GLB_ENG n), 0, 0⟩
def R.GLB_FLT_CFG : Nat := 0x200
def R.GLB_FLT_CFG_AUTO_FENCE : Fld := ⟨R.GLB_FLT_CFG, 8, 8⟩
def R.GLB_FLT_CFG_WATCH_FENCE : Fld := ⟨R.GLB_FLT_CFG, 7, 0⟩
def R.GLB_ECC (n : Nat) : Nat := 0x210 + 4 * n
def R.GLB_PORT_FLT (n : Nat) : Nat := 0x300 + 4 * n
def R.GLB_PORT_FLT_FLT (n : Nat) : Fld := ⟨(R.GLB_PORT_FLT n), 31, 0⟩
def R.GLB_CRV (n : Nat) : Nat := 0x1000 + 4 * n
def R.GLB_CRV_CELLS (n : Nat) : Fld := ⟨(R.GLB_CRV n), 31, 0⟩
def R.TIME_CTL : Nat := 0x100000
def R.TIME_CTL_VALID_CLR : Fld := ⟨R.TIME_CTL, 1, 1⟩
def R.TIME_CTL_VALID_SET : Fld := ⟨R.TIME_CTL, 0, 0⟩
def R.TIME_STS : Nat := 0x100004
def R.TIME_STS_REFUSE : Fld := ⟨R.TIME_STS, 31, 16⟩
def R.TIME_STS_SRV_STATE : Fld := ⟨R.TIME_STS, 6, 5⟩
def R.TIME_STS_PPS_OK : Fld := ⟨R.TIME_STS, 4, 4⟩
def R.TIME_STS_TREF_OK : Fld := ⟨R.TIME_STS, 3, 3⟩
def R.TIME_STS_REF_OK : Fld := ⟨R.TIME_STS, 2, 2⟩
def R.TIME_STS_RUNNING : Fld := ⟨R.TIME_STS, 1, 1⟩
def R.TIME_STS_VALID : Fld := ⟨R.TIME_STS, 0, 0⟩
def R.TIME_NOW_0 : Nat := 0x100010
def R.TIME_NOW_0_SEC : Fld := ⟨R.TIME_NOW_0, 15, 0⟩
def R.TIME_NOW_1 : Nat := 0x100014
def R.TIME_NOW_1_SEC : Fld := ⟨R.TIME_NOW_1, 31, 0⟩
def R.TIME_NOW_2 : Nat := 0x100018
def R.TIME_NOW_2_NS : Fld := ⟨R.TIME_NOW_2, 31, 0⟩
def R.TIME_NOW_3 : Nat := 0x10001C
def R.TIME_NOW_3_FR : Fld := ⟨R.TIME_NOW_3, 31, 0⟩
def R.TIME_INC_HI : Nat := 0x100020
def R.TIME_INC_HI_INC_NS : Fld := ⟨R.TIME_INC_HI, 31, 0⟩
def R.TIME_INC_LO : Nat := 0x100024
def R.TIME_INC_LO_INC_FR : Fld := ⟨R.TIME_INC_LO, 31, 0⟩
def R.TIME_ADJ_S : Nat := 0x100030
def R.TIME_ADJ_S_ADJ_S : Fld := ⟨R.TIME_ADJ_S, 31, 0⟩
def R.TIME_ADJ_NS : Nat := 0x100034
def R.TIME_ADJ_NS_ADJ_NS : Fld := ⟨R.TIME_ADJ_NS, 31, 0⟩
def R.TIME_ADJ_CTL : Nat := 0x100038
def R.TIME_ADJ_CTL_ARMED : Fld := ⟨R.TIME_ADJ_CTL, 1, 1⟩
def R.TIME_ADJ_CTL_GO : Fld := ⟨R.TIME_ADJ_CTL, 0, 0⟩
def R.TIME_PTP_CFG : Nat := 0x100040
def R.TIME_PTP_CFG_DOMAIN : Fld := ⟨R.TIME_PTP_CFG, 31, 24⟩
def R.TIME_PTP_CFG_LOCK_THR : Fld := ⟨R.TIME_PTP_CFG, 23, 12⟩
def R.TIME_PTP_CFG_DELAY_MECH : Fld := ⟨R.TIME_PTP_CFG, 6, 6⟩
def R.TIME_PTP_CFG_TRANSPORT : Fld := ⟨R.TIME_PTP_CFG, 5, 4⟩
def R.TIME_PTP_CFG_PORT : Fld := ⟨R.TIME_PTP_CFG, 3, 2⟩
def R.TIME_PTP_CFG_ENABLE : Fld := ⟨R.TIME_PTP_CFG, 0, 0⟩
def R.TIME_SRV_OFS : Nat := 0x100048
def R.TIME_SRV_OFS_OFFSET : Fld := ⟨R.TIME_SRV_OFS, 31, 0⟩
def R.TIME_PPS_CFG : Nat := 0x100050
def R.TIME_PPS_CFG_OUT_OFS : Fld := ⟨R.TIME_PPS_CFG, 31, 22⟩
def R.TIME_PPS_CFG_OUT_WIDTH : Fld := ⟨R.TIME_PPS_CFG, 21, 13⟩
def R.TIME_PPS_CFG_IN_EDGE : Fld := ⟨R.TIME_PPS_CFG, 2, 2⟩
def R.TIME_PPS_CFG_IN_EN : Fld := ⟨R.TIME_PPS_CFG, 1, 1⟩
def R.TIME_PPS_CFG_OUT_EN : Fld := ⟨R.TIME_PPS_CFG, 0, 0⟩
def R.TIME_PPS_CAP_0 : Nat := 0x100060
def R.TIME_PPS_CAP_0_OVW : Fld := ⟨R.TIME_PPS_CAP_0, 31, 31⟩
def R.TIME_PPS_CAP_0_SEC : Fld := ⟨R.TIME_PPS_CAP_0, 15, 0⟩
def R.TIME_PPS_CAP_1 : Nat := 0x100064
def R.TIME_PPS_CAP_1_SEC : Fld := ⟨R.TIME_PPS_CAP_1, 31, 0⟩
def R.TIME_PPS_CAP_2 : Nat := 0x100068
def R.TIME_PPS_CAP_2_NS : Fld := ⟨R.TIME_PPS_CAP_2, 31, 0⟩
def R.TIME_PPS_CAP_3 : Nat := 0x10006C
def R.TIME_PPS_CAP_3_FR : Fld := ⟨R.TIME_PPS_CAP_3, 31, 0⟩
def R.TIME_CLK_CFG : Nat := 0x100070
def R.TIME_CLK_CFG_TREF_PPB : Fld := ⟨R.TIME_CLK_CFG, 31, 8⟩
def R.TIME_CLK_CFG_TREF_EN : Fld := ⟨R.TIME_CLK_CFG, 0, 0⟩
def R.TIME_ASYM_IN (n : Nat) : Nat := 0x100080 + 8 * n
def R.TIME_ASYM_IN_ASYM_IN (n : Nat) : Fld := ⟨(R.TIME_ASYM_IN n), 31, 0⟩
def R.TIME_ASYM_OUT (n : Nat) : Nat := 0x100084 + 8 * n
def R.TIME_ASYM_OUT_ASYM_OUT (n : Nat) : Fld := ⟨(R.TIME_ASYM_OUT n), 31, 0⟩
def R.TIME_TILE_STS : Nat := 0x1000A0
def R.TIME_TILE_STS_RESYNC : Fld := ⟨R.TIME_TILE_STS, 19, 0⟩
def R.SCHD_CTL : Nat := 0x200000
def R.SCHD_CTL_REFUSE : Fld := ⟨R.SCHD_CTL, 31, 16⟩
def R.SCHD_CTL_CYC_TOTAL_MAX : Fld := ⟨R.SCHD_CTL, 15, 2⟩
def R.SCHD_CTL_ENABLE : Fld := ⟨R.SCHD_CTL, 0, 0⟩
def R.SCHD_STS : Nat := 0x200004
def R.SCHD_STS_ACTIVE_V : Fld := ⟨R.SCHD_STS, 31, 31⟩
def R.SCHD_STS_FROZEN : Fld := ⟨R.SCHD_STS, 30, 30⟩
def R.SCHD_STS_SWAP_ARMED : Fld := ⟨R.SCHD_STS, 29, 29⟩
def R.SCHD_STS_SELF : Fld := ⟨R.SCHD_STS, 28, 28⟩
def R.SCHD_STS_ACTIVE : Fld := ⟨R.SCHD_STS, 27, 22⟩
def R.SCHD_STS_SLOT : Fld := ⟨R.SCHD_STS, 15, 8⟩
def R.SCHD_STS_NSLOTS_M1 : Fld := ⟨R.SCHD_STS, 7, 0⟩
def R.SCHD_CYC_START_HI : Nat := 0x200010
def R.SCHD_CYC_START_HI_START : Fld := ⟨R.SCHD_CYC_START_HI, 15, 0⟩
def R.SCHD_CYC_START_LO : Nat := 0x200014
def R.SCHD_CYC_START_LO_START : Fld := ⟨R.SCHD_CYC_START_LO, 31, 0⟩
def R.SCHD_CYC_CNT : Nat := 0x20001C
def R.SCHD_SWAP : Nat := 0x200020
def R.SCHD_SWAP_REASON : Fld := ⟨R.SCHD_SWAP, 31, 16⟩
def R.SCHD_SWAP_ARMED : Fld := ⟨R.SCHD_SWAP, 15, 15⟩
def R.SCHD_SWAP_TO_NONE : Fld := ⟨R.SCHD_SWAP, 14, 14⟩
def R.SCHD_SWAP_TARGET : Fld := ⟨R.SCHD_SWAP, 13, 8⟩
def R.SCHD_SWAP_T_HI : Nat := 0x200024
def R.SCHD_SWAP_T_HI_ESW : Fld := ⟨R.SCHD_SWAP_T_HI, 15, 0⟩
def R.SCHD_SWAP_T_LO : Nat := 0x200028
def R.SCHD_SWAP_T_LO_ESW : Fld := ⟨R.SCHD_SWAP_T_LO, 31, 0⟩
def R.SCHD_LIB_0 (n : Nat) : Nat := 0x201000 + 8 * n
def R.SCHD_LIB_0_LSTATE (n : Nat) : Fld := ⟨(R.SCHD_LIB_0 n), 31, 28⟩
def R.SCHD_LIB_0_NSLOTS_M1 (n : Nat) : Fld := ⟨(R.SCHD_LIB_0 n), 23, 16⟩
def R.SCHD_LIB_0_REASON (n : Nat) : Fld := ⟨(R.SCHD_LIB_0 n), 15, 0⟩
def R.SCHD_LIB_1 (n : Nat) : Nat := 0x201004 + 8 * n
def R.SCHD_LIB_1_CYC_LEN (n : Nat) : Fld := ⟨(R.SCHD_LIB_1 n), 31, 0⟩
def R.PLC_CTL : Nat := 0x300000
def R.PLC_CTL_REFUSE : Fld := ⟨R.PLC_CTL, 31, 16⟩
def R.PLC_CTL_CRV_FORBID : Fld := ⟨R.PLC_CTL, 4, 4⟩
def R.PLC_CTL_REPAIR_EN : Fld := ⟨R.PLC_CTL, 3, 3⟩
def R.PLC_CTL_LOSS_MODE : Fld := ⟨R.PLC_CTL, 2, 2⟩
def R.PLC_CTL_ISO_MODE : Fld := ⟨R.PLC_CTL, 1, 1⟩
def R.PLC_CTL_ENABLE : Fld := ⟨R.PLC_CTL, 0, 0⟩
def R.PLC_W0 : Nat := 0x300010
def R.PLC_W0_W_LOSS : Fld := ⟨R.PLC_W0, 31, 24⟩
def R.PLC_W0_W_CYC : Fld := ⟨R.PLC_W0, 23, 16⟩
def R.PLC_W0_W_THM : Fld := ⟨R.PLC_W0, 15, 8⟩
def R.PLC_W0_W_CRV : Fld := ⟨R.PLC_W0, 7, 0⟩
def R.PLC_W1 : Nat := 0x300014
def R.PLC_W1_W_ISO : Fld := ⟨R.PLC_W1, 15, 8⟩
def R.PLC_W1_W_DIST : Fld := ⟨R.PLC_W1, 7, 0⟩
def R.PLC_LIM0 : Nat := 0x300020
def R.PLC_LIM0_CYC_MAX : Fld := ⟨R.PLC_LIM0, 29, 24⟩
def R.PLC_LIM0_CYC_REGION_MAX : Fld := ⟨R.PLC_LIM0, 21, 16⟩
def R.PLC_LIM0_LOSS_MAX : Fld := ⟨R.PLC_LIM0, 15, 0⟩
def R.PLC_LIM1 : Nat := 0x300024
def R.PLC_LIM1_HOT_LIMIT : Fld := ⟨R.PLC_LIM1, 31, 16⟩
def R.PLC_LIM1_HOT_SOFT : Fld := ⟨R.PLC_LIM1, 15, 0⟩
def R.PLC_LIM2 : Nat := 0x300028
def R.PLC_LIM2_MOVE_MAX : Fld := ⟨R.PLC_LIM2, 23, 16⟩
def R.PLC_LIM2_SEARCH_BUDGET : Fld := ⟨R.PLC_LIM2, 15, 0⟩
def R.PLC_LOSS_TGT : Nat := 0x30002C
def R.PLC_LOSS_TGT_LOSS_TGT : Fld := ⟨R.PLC_LOSS_TGT, 15, 0⟩
def R.PLC_STS : Nat := 0x300040
def R.PLC_STS_BUSY : Fld := ⟨R.PLC_STS, 31, 31⟩
def R.PLC_STS_QUEUE : Fld := ⟨R.PLC_STS, 21, 16⟩
def R.PLC_STS_SHARED : Fld := ⟨R.PLC_STS, 15, 0⟩
def R.PLC_LAST : Nat := 0x300048
def R.PLC_LAST_REASON : Fld := ⟨R.PLC_LAST, 31, 16⟩
def R.PLC_LAST_MOVES : Fld := ⟨R.PLC_LAST, 15, 8⟩
def R.PLC_LAST_CYCLING : Fld := ⟨R.PLC_LAST, 5, 0⟩
def R.PLC_LAST_SCORE : Nat := 0x30004C
def R.PLC_LAST_SCORE_SCORE : Fld := ⟨R.PLC_LAST_SCORE, 31, 0⟩
def R.PLC_CNT (n : Nat) : Nat := 0x300060 + 4 * n
def R.PLC_CELL_LOSS (n : Nat) : Nat := 0x310000 + 4 * n
def R.PLC_CELL_LOSS_LOSS_HI (n : Nat) : Fld := ⟨(R.PLC_CELL_LOSS n), 31, 16⟩
def R.PLC_CELL_LOSS_LOSS_LO (n : Nat) : Fld := ⟨(R.PLC_CELL_LOSS n), 15, 0⟩
def R.EPO_CTL : Nat := 0x400000
def R.EPO_CTL_REFUSE : Fld := ⟨R.EPO_CTL, 31, 16⟩
def R.EPO_CTL_ENABLE : Fld := ⟨R.EPO_CTL, 0, 0⟩
def R.EPO_GB : Nat := 0x400004
def R.EPO_GB_GB_USE : Fld := ⟨R.EPO_GB, 28, 16⟩
def R.EPO_GB_GB_SET : Fld := ⟨R.EPO_GB, 12, 0⟩
def R.EPO_NEXT_0 : Nat := 0x400010
def R.EPO_NEXT_0_SLOT : Fld := ⟨R.EPO_NEXT_0, 31, 31⟩
def R.EPO_NEXT_0_PERS : Fld := ⟨R.EPO_NEXT_0, 30, 30⟩
def R.EPO_NEXT_0_BOUND : Fld := ⟨R.EPO_NEXT_0, 29, 29⟩
def R.EPO_NEXT_0_T : Fld := ⟨R.EPO_NEXT_0, 15, 0⟩
def R.EPO_NEXT_1 : Nat := 0x400014
def R.EPO_NEXT_1_T : Fld := ⟨R.EPO_NEXT_1, 31, 0⟩
def R.EPO_OUT_CFG : Nat := 0x400020
def R.EPO_OUT_CFG_WIDTH : Fld := ⟨R.EPO_OUT_CFG, 15, 8⟩
def R.EPO_OUT_CFG_MARK : Fld := ⟨R.EPO_OUT_CFG, 4, 4⟩
def R.EPO_OUT_CFG_SEL_BOUND : Fld := ⟨R.EPO_OUT_CFG, 2, 2⟩
def R.EPO_OUT_CFG_SEL_PERS : Fld := ⟨R.EPO_OUT_CFG, 1, 1⟩
def R.EPO_OUT_CFG_SEL_SLOT : Fld := ⟨R.EPO_OUT_CFG, 0, 0⟩
def R.EPO_BELAY_CFG : Nat := 0x400030
def R.EPO_BELAY_CFG_BELAY_MAX : Fld := ⟨R.EPO_BELAY_CFG, 31, 26⟩
def R.EPO_BELAY_CFG_BELAY_US : Fld := ⟨R.EPO_BELAY_CFG, 9, 0⟩
def R.EPO_CNT (n : Nat) : Nat := 0x400040 + 4 * n
def R.EPO_XLAST_0 : Nat := 0x400050
def R.EPO_XLAST_0_KIND : Fld := ⟨R.EPO_XLAST_0, 31, 30⟩
def R.EPO_XLAST_0_NRDY : Fld := ⟨R.EPO_XLAST_0, 19, 0⟩
def R.EPO_XLAST_1 : Nat := 0x400054
def R.EPO_XLAST_1_E : Fld := ⟨R.EPO_XLAST_1, 15, 0⟩
def R.EPO_XLAST_2 : Nat := 0x400058
def R.EPO_XLAST_2_E : Fld := ⟨R.EPO_XLAST_2, 31, 0⟩
def R.EPO_XCNT (n : Nat) : Nat := 0x400060 + 4 * n
def R.TRV_CTL : Nat := 0x500000
def R.TRV_CTL_REFUSE : Fld := ⟨R.TRV_CTL, 31, 16⟩
def R.TRV_CTL_STAGE_MOVES : Fld := ⟨R.TRV_CTL, 14, 8⟩
def R.TRV_CTL_STAGE_GAP : Fld := ⟨R.TRV_CTL, 7, 4⟩
def R.TRV_CTL_ENABLE : Fld := ⟨R.TRV_CTL, 0, 0⟩
def R.TRV_STS : Nat := 0x500004
def R.TRV_STS_BIVOUAC : Fld := ⟨R.TRV_STS, 31, 31⟩
def R.TRV_STS_RUNNING : Fld := ⟨R.TRV_STS, 30, 30⟩
def R.TRV_STS_QUEUE : Fld := ⟨R.TRV_STS, 19, 16⟩
def R.TRV_STS_ID : Fld := ⟨R.TRV_STS, 15, 0⟩
def R.TRV_CUR_0 : Nat := 0x500010
def R.TRV_CUR_0_STATE : Fld := ⟨R.TRV_CUR_0, 31, 28⟩
def R.TRV_CUR_0_ORIGIN : Fld := ⟨R.TRV_CUR_0, 27, 26⟩
def R.TRV_CUR_0_SCOPE : Fld := ⟨R.TRV_CUR_0, 25, 25⟩
def R.TRV_CUR_0_SLOT : Fld := ⟨R.TRV_CUR_0, 23, 16⟩
def R.TRV_CUR_0_ID : Fld := ⟨R.TRV_CUR_0, 15, 0⟩
def R.TRV_CUR_1 : Nat := 0x500014
def R.TRV_CUR_1_NSTAGES : Fld := ⟨R.TRV_CUR_1, 31, 27⟩
def R.TRV_CUR_1_DONE : Fld := ⟨R.TRV_CUR_1, 26, 22⟩
def R.TRV_CUR_1_TENANT : Fld := ⟨R.TRV_CUR_1, 21, 16⟩
def R.TRV_CUR_1_REASON : Fld := ⟨R.TRV_CUR_1, 15, 0⟩
def R.TRV_CUR_2 : Nat := 0x500018
def R.TRV_CUR_2_MOVES : Fld := ⟨R.TRV_CUR_2, 31, 25⟩
def R.TRV_CUR_2_E_LAST : Fld := ⟨R.TRV_CUR_2, 15, 0⟩
def R.TRV_CUR_3 : Nat := 0x50001C
def R.TRV_CUR_3_E_LAST : Fld := ⟨R.TRV_CUR_3, 31, 0⟩
def R.TRV_CNT (n : Nat) : Nat := 0x500040 + 4 * n
def R.TRV_STAGE_0 (n : Nat) : Nat := 0x500100 + 8 * n
def R.TRV_STAGE_0_SSTATE (n : Nat) : Fld := ⟨(R.TRV_STAGE_0 n), 31, 28⟩
def R.TRV_STAGE_0_NMOVE (n : Nat) : Fld := ⟨(R.TRV_STAGE_0 n), 27, 21⟩
def R.TRV_STAGE_0_E (n : Nat) : Fld := ⟨(R.TRV_STAGE_0 n), 15, 0⟩
def R.TRV_STAGE_1 (n : Nat) : Nat := 0x500104 + 8 * n
def R.TRV_STAGE_1_E (n : Nat) : Fld := ⟨(R.TRV_STAGE_1 n), 31, 0⟩
def R.TRV_MOVE_0 (n : Nat) : Nat := 0x500200 + 16 * n
def R.TRV_MOVE_0_VALID (n : Nat) : Fld := ⟨(R.TRV_MOVE_0 n), 31, 31⟩
def R.TRV_MOVE_0_STAGE (n : Nat) : Fld := ⟨(R.TRV_MOVE_0 n), 30, 27⟩
def R.TRV_MOVE_0_NEW (n : Nat) : Fld := ⟨(R.TRV_MOVE_0 n), 26, 26⟩
def R.TRV_MOVE_0_CTX (n : Nat) : Fld := ⟨(R.TRV_MOVE_0 n), 17, 0⟩
def R.TRV_MOVE_1 (n : Nat) : Nat := 0x500204 + 16 * n
def R.TRV_MOVE_1_OLD_ROUTE (n : Nat) : Fld := ⟨(R.TRV_MOVE_1 n), 19, 0⟩
def R.TRV_MOVE_2 (n : Nat) : Nat := 0x500208 + 16 * n
def R.TRV_MOVE_2_NEW_ROUTE (n : Nat) : Fld := ⟨(R.TRV_MOVE_2 n), 19, 0⟩
def R.TRV_MOVE_3 (n : Nat) : Nat := 0x50020C + 16 * n
def R.TRV_SPEC_CFG : Nat := 0x500800
def R.TRV_SPEC_CFG_PIN_MAX : Fld := ⟨R.TRV_SPEC_CFG, 15, 8⟩
def R.TRV_SPEC_CFG_RAMP_EN : Fld := ⟨R.TRV_SPEC_CFG, 4, 4⟩
def R.TRV_SPEC_CFG_SRC_TRV : Fld := ⟨R.TRV_SPEC_CFG, 3, 3⟩
def R.TRV_SPEC_CFG_SRC_SLOT : Fld := ⟨R.TRV_SPEC_CFG, 2, 2⟩
def R.TRV_SPEC_CFG_SRC_PEND : Fld := ⟨R.TRV_SPEC_CFG, 1, 1⟩
def R.TRV_SPEC_CFG_ENABLE : Fld := ⟨R.TRV_SPEC_CFG, 0, 0⟩
def R.TRV_SPEC_STS : Nat := 0x500804
def R.TRV_SPEC_STS_THROTTLED : Fld := ⟨R.TRV_SPEC_STS, 31, 31⟩
def R.TRV_SPEC_STS_PROV : Fld := ⟨R.TRV_SPEC_STS, 16, 0⟩
def R.TRV_SPEC_CNT (n : Nat) : Nat := 0x500810 + 4 * n
def R.CMD_CTL : Nat := 0x600000
def R.CMD_CTL_REFUSE : Fld := ⟨R.CMD_CTL, 31, 16⟩
def R.CMD_CTL_REPLAY_W : Fld := ⟨R.CMD_CTL, 11, 8⟩
def R.CMD_CTL_PORT_EN : Fld := ⟨R.CMD_CTL, 7, 4⟩
def R.CMD_CTL_ENABLE : Fld := ⟨R.CMD_CTL, 0, 0⟩
def R.CMD_STS : Nat := 0x600004
def R.CMD_STS_OPEN : Fld := ⟨R.CMD_STS, 21, 16⟩
def R.CMD_STS_INQ : Fld := ⟨R.CMD_STS, 12, 0⟩
def R.CMD_UDP : Nat := 0x600008
def R.CMD_UDP_UDP_PORT : Fld := ⟨R.CMD_UDP, 15, 0⟩
def R.CMD_CNT (n : Nat) : Nat := 0x600010 + 4 * n
def R.CMD_LEASE_CFG : Nat := 0x600100
def R.CMD_LEASE_CFG_SES_LEASE : Fld := ⟨R.CMD_LEASE_CFG, 11, 0⟩
def R.CMD_MBX_CFG : Nat := 0x600200
def R.CMD_MBX_CFG_REFUSE : Fld := ⟨R.CMD_MBX_CFG, 31, 16⟩
def R.CMD_MBX_CFG_LOG2_REQ : Fld := ⟨R.CMD_MBX_CFG, 11, 8⟩
def R.CMD_MBX_CFG_LOG2_CPL : Fld := ⟨R.CMD_MBX_CFG, 7, 4⟩
def R.CMD_MBX_CFG_ENABLE : Fld := ⟨R.CMD_MBX_CFG, 0, 0⟩
def R.CMD_MBX_REQ_BASE_LO : Nat := 0x600204
def R.CMD_MBX_REQ_BASE_LO_BASE : Fld := ⟨R.CMD_MBX_REQ_BASE_LO, 31, 0⟩
def R.CMD_MBX_REQ_BASE_HI : Nat := 0x600208
def R.CMD_MBX_REQ_BASE_HI_BASE : Fld := ⟨R.CMD_MBX_REQ_BASE_HI, 31, 0⟩
def R.CMD_MBX_CPL_BASE_LO : Nat := 0x60020C
def R.CMD_MBX_CPL_BASE_LO_BASE : Fld := ⟨R.CMD_MBX_CPL_BASE_LO, 31, 0⟩
def R.CMD_MBX_CPL_BASE_HI : Nat := 0x600210
def R.CMD_MBX_CPL_BASE_HI_BASE : Fld := ⟨R.CMD_MBX_CPL_BASE_HI, 31, 0⟩
def R.CMD_MBX_REQ_TAIL : Nat := 0x600214
def R.CMD_MBX_REQ_TAIL_INDEX : Fld := ⟨R.CMD_MBX_REQ_TAIL, 15, 0⟩
def R.CMD_MBX_REQ_HEAD : Nat := 0x600218
def R.CMD_MBX_REQ_HEAD_INDEX : Fld := ⟨R.CMD_MBX_REQ_HEAD, 15, 0⟩
def R.CMD_MBX_CPL_TAIL : Nat := 0x60021C
def R.CMD_MBX_CPL_TAIL_INDEX : Fld := ⟨R.CMD_MBX_CPL_TAIL, 15, 0⟩
def R.CMD_MBX_CPL_HEAD : Nat := 0x600220
def R.CMD_MBX_CPL_HEAD_INDEX : Fld := ⟨R.CMD_MBX_CPL_HEAD, 15, 0⟩
def R.CMD_SES_0 (n : Nat) : Nat := 0x600400 + 16 * n
def R.CMD_SES_0_OPEN (n : Nat) : Fld := ⟨(R.CMD_SES_0 n), 31, 31⟩
def R.CMD_SES_0_TENANT (n : Nat) : Fld := ⟨(R.CMD_SES_0 n), 29, 24⟩
def R.CMD_SES_0_OUTST (n : Nat) : Fld := ⟨(R.CMD_SES_0 n), 23, 16⟩
def R.CMD_SES_0_LAST (n : Nat) : Fld := ⟨(R.CMD_SES_0 n), 15, 0⟩
def R.CMD_SES_1 (n : Nat) : Nat := 0x600404 + 16 * n
def R.CMD_SES_1_LEASE (n : Nat) : Fld := ⟨(R.CMD_SES_1 n), 31, 0⟩
def R.CMD_SES_2 (n : Nat) : Nat := 0x600408 + 16 * n
def R.CMD_SES_2_SEQ_H (n : Nat) : Fld := ⟨(R.CMD_SES_2 n), 31, 0⟩
def R.CMD_SES_3 (n : Nat) : Nat := 0x60040C + 16 * n
def R.CMD_SES_3_SEQ_H (n : Nat) : Fld := ⟨(R.CMD_SES_3 n), 31, 0⟩
def R.CMD_OWN_IN (n : Nat) : Nat := 0x601000 + 4 * n
def R.CMD_OWN_IN_OWN3 (n : Nat) : Fld := ⟨(R.CMD_OWN_IN n), 29, 24⟩
def R.CMD_OWN_IN_OWN2 (n : Nat) : Fld := ⟨(R.CMD_OWN_IN n), 21, 16⟩
def R.CMD_OWN_IN_OWN1 (n : Nat) : Fld := ⟨(R.CMD_OWN_IN n), 13, 8⟩
def R.CMD_OWN_IN_OWN0 (n : Nat) : Fld := ⟨(R.CMD_OWN_IN n), 5, 0⟩
def R.CMD_OWN_OUT (n : Nat) : Nat := 0x601400 + 4 * n
def R.CMD_OWN_OUT_OWN3 (n : Nat) : Fld := ⟨(R.CMD_OWN_OUT n), 29, 24⟩
def R.CMD_OWN_OUT_OWN2 (n : Nat) : Fld := ⟨(R.CMD_OWN_OUT n), 21, 16⟩
def R.CMD_OWN_OUT_OWN1 (n : Nat) : Fld := ⟨(R.CMD_OWN_OUT n), 13, 8⟩
def R.CMD_OWN_OUT_OWN0 (n : Nat) : Fld := ⟨(R.CMD_OWN_OUT n), 5, 0⟩
def R.CMD_OWN_REFUSE : Nat := 0x601800
def R.CMD_OWN_REFUSE_REFUSED : Fld := ⟨R.CMD_OWN_REFUSE, 30, 27⟩
def R.CMD_OWN_REFUSE_DIR : Fld := ⟨R.CMD_OWN_REFUSE, 26, 26⟩
def R.CMD_OWN_REFUSE_PORT : Fld := ⟨R.CMD_OWN_REFUSE, 25, 16⟩
def R.CMD_OWN_REFUSE_REFUSE : Fld := ⟨R.CMD_OWN_REFUSE, 15, 0⟩
def R.CMD_GRANT_0 (n : Nat) : Nat := 0x602000 + 8 * n
def R.CMD_GRANT_0_VALID (n : Nat) : Fld := ⟨(R.CMD_GRANT_0 n), 31, 31⟩
def R.CMD_GRANT_0_DIR (n : Nat) : Fld := ⟨(R.CMD_GRANT_0 n), 30, 30⟩
def R.CMD_GRANT_0_PORT (n : Nat) : Fld := ⟨(R.CMD_GRANT_0 n), 29, 20⟩
def R.CMD_GRANT_0_GRANTEE (n : Nat) : Fld := ⟨(R.CMD_GRANT_0 n), 19, 14⟩
def R.CMD_GRANT_0_OWNER (n : Nat) : Fld := ⟨(R.CMD_GRANT_0 n), 13, 8⟩
def R.CMD_GRANT_1 (n : Nat) : Nat := 0x602004 + 8 * n
def R.CMD_GRANT_1_LEASE (n : Nat) : Fld := ⟨(R.CMD_GRANT_1 n), 31, 0⟩
def R.CMD_KEY_STAGE (n : Nat) : Nat := 0x603000 + 4 * n
def R.CMD_KEY_STAGE_KEY (n : Nat) : Fld := ⟨(R.CMD_KEY_STAGE n), 31, 0⟩
def R.CMD_SAK_KEY (n : Nat) : Nat := 0x603100 + 4 * n
def R.CMD_SAK_KEY_KEY (n : Nat) : Fld := ⟨(R.CMD_SAK_KEY n), 31, 0⟩
def R.CMD_SAK_SALT (n : Nat) : Nat := 0x603120 + 4 * n
def R.CMD_SAK_SALT_SALT (n : Nat) : Fld := ⟨(R.CMD_SAK_SALT n), 31, 0⟩
def R.CMD_SAK_SSCI : Nat := 0x60312C
def R.CMD_SAK_SSCI_SSCI : Fld := ⟨R.CMD_SAK_SSCI, 31, 0⟩
def R.CMD_SAK_PN_HI : Nat := 0x603130
def R.CMD_SAK_PN_HI_PN : Fld := ⟨R.CMD_SAK_PN_HI, 31, 0⟩
def R.CMD_SAK_PN_LO : Nat := 0x603134
def R.CMD_SAK_PN_LO_PN : Fld := ⟨R.CMD_SAK_PN_LO, 31, 0⟩
def R.CMD_SAK_CTL : Nat := 0x603140
def R.CMD_SAK_CTL_PORT : Fld := ⟨R.CMD_SAK_CTL, 9, 8⟩
def R.CMD_SAK_CTL_DIR : Fld := ⟨R.CMD_SAK_CTL, 4, 4⟩
def R.CMD_SAK_CTL_AN : Fld := ⟨R.CMD_SAK_CTL, 3, 2⟩
def R.CMD_SAK_CTL_CLEAR : Fld := ⟨R.CMD_SAK_CTL, 1, 1⟩
def R.CMD_SAK_CTL_SET : Fld := ⟨R.CMD_SAK_CTL, 0, 0⟩
def R.CMD_SAK_VALID : Nat := 0x603144
def R.CMD_SAK_VALID_VALID : Fld := ⟨R.CMD_SAK_VALID, 31, 0⟩
def R.CMD_KEY_CTL : Nat := 0x603800
def R.CMD_KEY_CTL_TENANT : Fld := ⟨R.CMD_KEY_CTL, 13, 8⟩
def R.CMD_KEY_CTL_CLEAR : Fld := ⟨R.CMD_KEY_CTL, 1, 1⟩
def R.CMD_KEY_CTL_SET : Fld := ⟨R.CMD_KEY_CTL, 0, 0⟩
def R.CMD_KEY_VALID_LO : Nat := 0x603808
def R.CMD_KEY_VALID_LO_VALID : Fld := ⟨R.CMD_KEY_VALID_LO, 31, 0⟩
def R.CMD_KEY_VALID_HI : Nat := 0x60380C
def R.CMD_KEY_VALID_HI_VALID : Fld := ⟨R.CMD_KEY_VALID_HI, 31, 0⟩
def R.NET_CTL : Nat := 0x700000
def R.NET_CTL_REFUSE : Fld := ⟨R.NET_CTL, 31, 16⟩
def R.NET_CTL_YEL_THR : Fld := ⟨R.NET_CTL, 13, 1⟩
def R.NET_CTL_ENABLE : Fld := ⟨R.NET_CTL, 0, 0⟩
def R.NET_DSCP_COL (n : Nat) : Nat := 0x700100 + 4 * n
def R.NET_DSCP_COL_COL (n : Nat) : Fld := ⟨(R.NET_DSCP_COL n), 31, 0⟩
def R.NET_TENQ (n : Nat) : Nat := 0x700120 + 4 * n
def R.NET_TENQ_Q (n : Nat) : Fld := ⟨(R.NET_TENQ n), 31, 0⟩
def R.NET_TENQ4 : Nat := 0x700130
def R.NET_TENQ4_NOTICE_Q : Fld := ⟨R.NET_TENQ4, 1, 0⟩
def R.NET_POL_0 (n : Nat) : Nat := 0x701000 + 16 * n
def R.NET_POL_0_MODE (n : Nat) : Fld := ⟨(R.NET_POL_0 n), 31, 31⟩
def R.NET_POL_0_TOK_RST (n : Nat) : Fld := ⟨(R.NET_POL_0 n), 30, 30⟩
def R.NET_POL_0_CIR (n : Nat) : Fld := ⟨(R.NET_POL_0 n), 23, 0⟩
def R.NET_POL_1 (n : Nat) : Nat := 0x701004 + 16 * n
def R.NET_POL_1_PIR (n : Nat) : Fld := ⟨(R.NET_POL_1 n), 23, 0⟩
def R.NET_POL_2 (n : Nat) : Nat := 0x701008 + 16 * n
def R.NET_POL_2_CBS (n : Nat) : Fld := ⟨(R.NET_POL_2 n), 19, 0⟩
def R.NET_POL_3 (n : Nat) : Nat := 0x70100C + 16 * n
def R.NET_POL_3_PBS (n : Nat) : Fld := ⟨(R.NET_POL_3 n), 19, 0⟩
def R.NET_POLC_0 (n : Nat) : Nat := 0x702000 + 16 * n
def R.NET_POLC_1 (n : Nat) : Nat := 0x702004 + 16 * n
def R.NET_POLC_2 (n : Nat) : Nat := 0x702008 + 16 * n
def R.NET_POLC_3 (n : Nat) : Nat := 0x70200C + 16 * n
def R.EVT_CTL : Nat := 0x800000
def R.EVT_CTL_REFUSE : Fld := ⟨R.EVT_CTL, 31, 16⟩
def R.EVT_CTL_FLUSH_MS : Fld := ⟨R.EVT_CTL, 15, 8⟩
def R.EVT_CTL_RETRY : Fld := ⟨R.EVT_CTL, 2, 2⟩
def R.EVT_CTL_LS_EN : Fld := ⟨R.EVT_CTL, 1, 1⟩
def R.EVT_CTL_ENABLE : Fld := ⟨R.EVT_CTL, 0, 0⟩
def R.EVT_STS : Nat := 0x800004
def R.EVT_STS_LS_STATE : Fld := ⟨R.EVT_STS, 31, 30⟩
def R.EVT_STS_MIRROR : Fld := ⟨R.EVT_STS, 29, 29⟩
def R.EVT_STS_ALERT : Fld := ⟨R.EVT_STS, 28, 28⟩
def R.EVT_HEAD : Nat := 0x800008
def R.EVT_FLUSHED : Nat := 0x80000C
def R.EVT_LOST : Nat := 0x800010
def R.EVT_TILE_LOST : Nat := 0x800014
def R.EVT_LS_BASE : Nat := 0x800020
def R.EVT_LS_SIZE : Nat := 0x800024
def R.EVT_MIR_SIZE : Nat := 0x800028
def R.EVT_MIR_SIZE_MB : Fld := ⟨R.EVT_MIR_SIZE, 11, 0⟩
def R.EVT_CAIRN_STS : Nat := 0x800030
def R.EVT_CAIRN_STS_DROP : Fld := ⟨R.EVT_CAIRN_STS, 31, 16⟩
def R.EVT_CAIRN_STS_USED : Fld := ⟨R.EVT_CAIRN_STS, 8, 0⟩
def R.EVT_CAIRN_HOST (n : Nat) : Nat := 0x800040 + 4 * n
def R.EVT_CAIRN_HOST_CTL : Nat := 0x80004C
def R.EVT_CAIRN_HOST_CTL_WRITE : Fld := ⟨R.EVT_CAIRN_HOST_CTL, 0, 0⟩
def R.EVT_PEND (n : Nat) : Nat := 0x800100 + 4 * n
def R.EVT_PEND_PEND (n : Nat) : Fld := ⟨(R.EVT_PEND n), 31, 0⟩
def R.EVT_SRC (n : Nat) : Nat := 0x801000 + 4 * n
def R.EVT_SRC_REC (n : Nat) : Fld := ⟨(R.EVT_SRC n), 31, 31⟩
def R.EVT_SRC_ALERT (n : Nat) : Fld := ⟨(R.EVT_SRC n), 30, 30⟩
def R.EVT_SRC_NOTIFY (n : Nat) : Fld := ⟨(R.EVT_SRC n), 29, 29⟩
def R.EVT_SRC_FLUSH (n : Nat) : Fld := ⟨(R.EVT_SRC n), 28, 28⟩
def R.EVT_SRC_TVIS (n : Nat) : Fld := ⟨(R.EVT_SRC n), 27, 27⟩
def R.EVT_SRC_COAL (n : Nat) : Fld := ⟨(R.EVT_SRC n), 7, 0⟩
def R.THM_CTL : Nat := 0x900000
def R.THM_CTL_XCHK_DT : Fld := ⟨R.THM_CTL, 31, 24⟩
def R.THM_CTL_SUB_ADD : Fld := ⟨R.THM_CTL, 23, 16⟩
def R.THM_CTL_HYST : Fld := ⟨R.THM_CTL, 15, 8⟩
def R.THM_CTL_FLOOR : Fld := ⟨R.THM_CTL, 2, 0⟩
def R.THM_TIME : Nat := 0x900004
def R.THM_TIME_SUB_HOLD : Fld := ⟨R.THM_TIME, 31, 20⟩
def R.THM_TIME_DN_ROUNDS : Fld := ⟨R.THM_TIME, 19, 8⟩
def R.THM_TIME_XCHK_N : Fld := ⟨R.THM_TIME, 3, 0⟩
def R.THM_PHO_A : Nat := 0x900010
def R.THM_PHO_A_T2 : Fld := ⟨R.THM_PHO_A, 31, 16⟩
def R.THM_PHO_A_T1 : Fld := ⟨R.THM_PHO_A, 15, 0⟩
def R.THM_PHO_B : Nat := 0x900014
def R.THM_PHO_B_T4 : Fld := ⟨R.THM_PHO_B, 31, 16⟩
def R.THM_PHO_B_T3 : Fld := ⟨R.THM_PHO_B, 15, 0⟩
def R.THM_PHO_SD : Nat := 0x900018
def R.THM_PHO_SD_SD : Fld := ⟨R.THM_PHO_SD, 15, 0⟩
def R.THM_STS : Nat := 0x900020
def R.THM_STS_REFUSE : Fld := ⟨R.THM_STS, 31, 16⟩
def R.THM_STS_SHUTDOWN : Fld := ⟨R.THM_STS, 15, 15⟩
def R.THM_STS_LEVEL : Fld := ⟨R.THM_STS, 14, 12⟩
def R.THM_STS_SRC : Fld := ⟨R.THM_STS, 11, 10⟩
def R.THM_STS_HOLD_S : Fld := ⟨R.THM_STS, 9, 0⟩
def R.THM_HOT : Nat := 0x900024
def R.THM_HOT_SENSOR : Fld := ⟨R.THM_HOT, 31, 20⟩
def R.THM_HOT_VALUE : Fld := ⟨R.THM_HOT, 15, 0⟩
def R.THM_JCT : Nat := 0x900028
def R.THM_JCT_HUB : Fld := ⟨R.THM_JCT, 15, 0⟩
def R.THM_FAIL (n : Nat) : Nat := 0x900100 + 4 * n
def R.THM_FAIL_FAILED (n : Nat) : Fld := ⟨(R.THM_FAIL n), 31, 0⟩
def R.CAL_CTL : Nat := 0xA00000
def R.CAL_CTL_REFUSE : Fld := ⟨R.CAL_CTL, 31, 16⟩
def R.CAL_CTL_CAL_PAR : Fld := ⟨R.CAL_CTL, 12, 10⟩
def R.CAL_CTL_MAINS_SEL : Fld := ⟨R.CAL_CTL, 9, 8⟩
def R.CAL_CTL_CAL_DT : Fld := ⟨R.CAL_CTL, 7, 1⟩
def R.CAL_CTL_ENABLE : Fld := ⟨R.CAL_CTL, 0, 0⟩
def R.CAL_LIM : Nat := 0xA00004
def R.CAL_LIM_AGE_MAX : Fld := ⟨R.CAL_LIM, 31, 16⟩
def R.CAL_LIM_ABANDON_MAX : Fld := ⟨R.CAL_LIM, 15, 8⟩
def R.CAL_LIM_FD_QUICK : Fld := ⟨R.CAL_LIM, 7, 4⟩
def R.CAL_LIM_FD_FULL : Fld := ⟨R.CAL_LIM, 3, 0⟩
def R.CAL_CMD : Nat := 0xA00008
def R.CAL_CMD_TILE : Fld := ⟨R.CAL_CMD, 12, 8⟩
def R.CAL_CMD_ABORT : Fld := ⟨R.CAL_CMD, 2, 2⟩
def R.CAL_CMD_FULL : Fld := ⟨R.CAL_CMD, 1, 1⟩
def R.CAL_CMD_GO : Fld := ⟨R.CAL_CMD, 0, 0⟩
def R.CAL_SWEEP : Nat := 0xA0000C
def R.CAL_SWEEP_RUN : Fld := ⟨R.CAL_SWEEP, 31, 31⟩
def R.CAL_SWEEP_TILE : Fld := ⟨R.CAL_SWEEP, 30, 26⟩
def R.CAL_SWEEP_DONE : Fld := ⟨R.CAL_SWEEP, 19, 0⟩
def R.CAL_TILE_0 (n : Nat) : Nat := 0xA00100 + 8 * n
def R.CAL_TILE_0_STATE (n : Nat) : Fld := ⟨(R.CAL_TILE_0 n), 31, 28⟩
def R.CAL_TILE_0_STEP (n : Nat) : Fld := ⟨(R.CAL_TILE_0 n), 27, 25⟩
def R.CAL_TILE_0_TBL_VALID (n : Nat) : Fld := ⟨(R.CAL_TILE_0 n), 24, 24⟩
def R.CAL_TILE_0_DEFER (n : Nat) : Fld := ⟨(R.CAL_TILE_0 n), 23, 16⟩
def R.CAL_TILE_0_T_CAL (n : Nat) : Fld := ⟨(R.CAL_TILE_0 n), 15, 0⟩
def R.CAL_TILE_1 (n : Nat) : Nat := 0xA00104 + 8 * n
def R.CAL_TILE_1_REASON (n : Nat) : Fld := ⟨(R.CAL_TILE_1 n), 31, 16⟩
def R.CAL_TILE_1_AGE (n : Nat) : Fld := ⟨(R.CAL_TILE_1 n), 15, 0⟩
def R.CAL_TBL_SEL : Nat := 0xA00200
def R.CAL_TBL_SEL_TBL : Fld := ⟨R.CAL_TBL_SEL, 31, 30⟩
def R.CAL_TBL_SEL_TILE : Fld := ⟨R.CAL_TBL_SEL, 28, 24⟩
def R.CAL_TBL_SEL_ADDR : Fld := ⟨R.CAL_TBL_SEL, 15, 0⟩
def R.CAL_TBL_DATA : Nat := 0xA00204
def R.CAL_TBL_DATA_DATA : Fld := ⟨R.CAL_TBL_DATA, 31, 0⟩
def R.CAL_CNT (n : Nat) : Nat := 0xA00300 + 4 * n
def R.PORT_CTL (n : Nat) : Nat := 0xB00000 + 4096 * n
def R.PORT_CTL_REFUSE (n : Nat) : Fld := ⟨(R.PORT_CTL n), 31, 16⟩
def R.PORT_CTL_MARK (n : Nat) : Fld := ⟨(R.PORT_CTL n), 11, 11⟩
def R.PORT_CTL_FEC (n : Nat) : Fld := ⟨(R.PORT_CTL n), 9, 8⟩
def R.PORT_CTL_SPEED (n : Nat) : Fld := ⟨(R.PORT_CTL n), 5, 4⟩
def R.PORT_CTL_LINK (n : Nat) : Fld := ⟨(R.PORT_CTL n), 1, 1⟩
def R.PORT_CTL_ENABLE (n : Nat) : Fld := ⟨(R.PORT_CTL n), 0, 0⟩
def R.PORT_MAC_HI (n : Nat) : Nat := 0xB00008 + 4096 * n
def R.PORT_MAC_HI_MAC (n : Nat) : Fld := ⟨(R.PORT_MAC_HI n), 15, 0⟩
def R.PORT_MAC_LO (n : Nat) : Nat := 0xB0000C + 4096 * n
def R.PORT_MAC_LO_MAC (n : Nat) : Fld := ⟨(R.PORT_MAC_LO n), 31, 0⟩
def R.PORT_VLAN (n : Nat) : Nat := 0xB00010 + 4096 * n
def R.PORT_VLAN_VLAN_EN (n : Nat) : Fld := ⟨(R.PORT_VLAN n), 31, 31⟩
def R.PORT_VLAN_PCP (n : Nat) : Fld := ⟨(R.PORT_VLAN n), 15, 13⟩
def R.PORT_VLAN_VID (n : Nat) : Fld := ⟨(R.PORT_VLAN n), 11, 0⟩
def R.PORT_IP4 (n : Nat) : Nat := 0xB00014 + 4096 * n
def R.PORT_IP4_IP4 (n : Nat) : Fld := ⟨(R.PORT_IP4 n), 31, 0⟩
def R.PORT_IP6 (n k : Nat) : Nat := 0xB00020 + 4096 * n + 4 * k
def R.PORT_IP6_IP6 (n k : Nat) : Fld := ⟨(R.PORT_IP6 n k), 31, 0⟩
def R.PORT_CNT (n k : Nat) : Nat := 0xB00040 + 4096 * n + 4 * k
def R.PORT_MSEC (n : Nat) : Nat := 0xB00100 + 4096 * n
def R.PORT_MSEC_TX_AN (n : Nat) : Fld := ⟨(R.PORT_MSEC n), 5, 4⟩
def R.PORT_MSEC_PTP_CLEAR (n : Nat) : Fld := ⟨(R.PORT_MSEC n), 2, 2⟩
def R.PORT_MSEC_XPN (n : Nat) : Fld := ⟨(R.PORT_MSEC n), 1, 1⟩
def R.PORT_MSEC_MS_EN (n : Nat) : Fld := ⟨(R.PORT_MSEC n), 0, 0⟩
def R.PORT_MSEC_WIN (n : Nat) : Nat := 0xB00104 + 4096 * n
def R.PORT_MSEC_WIN_REPLAY_WIN (n : Nat) : Fld := ⟨(R.PORT_MSEC_WIN n), 31, 0⟩
def R.PORT_SCI_HI (n : Nat) : Nat := 0xB00108 + 4096 * n
def R.PORT_SCI_HI_SCI (n : Nat) : Fld := ⟨(R.PORT_SCI_HI n), 31, 0⟩
def R.PORT_SCI_LO (n : Nat) : Nat := 0xB0010C + 4096 * n
def R.PORT_SCI_LO_SCI (n : Nat) : Fld := ⟨(R.PORT_SCI_LO n), 31, 0⟩
def R.PORT_PSCI_HI (n : Nat) : Nat := 0xB00110 + 4096 * n
def R.PORT_PSCI_HI_SCI (n : Nat) : Fld := ⟨(R.PORT_PSCI_HI n), 31, 0⟩
def R.PORT_PSCI_LO (n : Nat) : Nat := 0xB00114 + 4096 * n
def R.PORT_PSCI_LO_SCI (n : Nat) : Fld := ⟨(R.PORT_PSCI_LO n), 31, 0⟩
def R.PORT_TXPN_HI (n k : Nat) : Nat := 0xB00120 + 4096 * n + 8 * k
def R.PORT_TXPN_LO (n k : Nat) : Nat := 0xB00124 + 4096 * n + 8 * k
def R.PORT_Q_0 (n k : Nat) : Nat := 0xB00200 + 4096 * n + 16 * k
def R.PORT_Q_0_QMAX (n k : Nat) : Fld := ⟨(R.PORT_Q_0 n k), 16, 0⟩
def R.PORT_Q_1 (n k : Nat) : Nat := 0xB00204 + 4096 * n + 16 * k
def R.PORT_Q_1_TOK_RST (n k : Nat) : Fld := ⟨(R.PORT_Q_1 n k), 31, 31⟩
def R.PORT_Q_1_CIR (n k : Nat) : Fld := ⟨(R.PORT_Q_1 n k), 23, 0⟩
def R.PORT_Q_2 (n k : Nat) : Nat := 0xB00208 + 4096 * n + 16 * k
def R.PORT_Q_2_CBS (n k : Nat) : Fld := ⟨(R.PORT_Q_2 n k), 19, 0⟩
def R.PORT_Q_3 (n k : Nat) : Nat := 0xB0020C + 4096 * n + 16 * k
def R.PORT_Q_3_OVH (n k : Nat) : Fld := ⟨(R.PORT_Q_3 n k), 5, 0⟩
def R.PORT_GATE_CTL (n : Nat) : Nat := 0xB00300 + 4096 * n
def R.PORT_GATE_CTL_PENDING (n : Nat) : Fld := ⟨(R.PORT_GATE_CTL n), 31, 31⟩
def R.PORT_GATE_CTL_NENT (n : Nat) : Fld := ⟨(R.PORT_GATE_CTL n), 22, 16⟩
def R.PORT_GATE_CTL_CUR (n : Nat) : Fld := ⟨(R.PORT_GATE_CTL n), 15, 8⟩
def R.PORT_GATE_CTL_COMMIT (n : Nat) : Fld := ⟨(R.PORT_GATE_CTL n), 1, 1⟩
def R.PORT_GATE_CTL_GATE_EN (n : Nat) : Fld := ⟨(R.PORT_GATE_CTL n), 0, 0⟩
def R.PORT_GATE_BASE_HI (n : Nat) : Nat := 0xB00304 + 4096 * n
def R.PORT_GATE_BASE_HI_B (n : Nat) : Fld := ⟨(R.PORT_GATE_BASE_HI n), 15, 0⟩
def R.PORT_GATE_BASE_LO (n : Nat) : Nat := 0xB00308 + 4096 * n
def R.PORT_GATE_BASE_LO_B (n : Nat) : Fld := ⟨(R.PORT_GATE_BASE_LO n), 31, 0⟩
def R.PORT_GATE_GUARD (n : Nat) : Nat := 0xB0030C + 4096 * n
def R.PORT_GATE_GUARD_GUARD_NS (n : Nat) : Fld := ⟨(R.PORT_GATE_GUARD n), 10, 0⟩
def R.PORT_GCL (n k : Nat) : Nat := 0xB00400 + 4096 * n + 4 * k
def R.PORT_GCL_GATES (n k : Nat) : Fld := ⟨(R.PORT_GCL n k), 31, 28⟩
def R.PORT_GCL_DUR (n k : Nat) : Fld := ⟨(R.PORT_GCL n k), 23, 0⟩
def R.PORT_GCLA (n k : Nat) : Nat := 0xB00500 + 4096 * n + 4 * k
def R.PORT_GCLA_GATES (n k : Nat) : Fld := ⟨(R.PORT_GCLA n k), 31, 28⟩
def R.PORT_GCLA_DUR (n k : Nat) : Fld := ⟨(R.PORT_GCLA n k), 23, 0⟩
def R.PORT_QS_CFG (n : Nat) : Nat := 0xB00600 + 4096 * n
def R.PORT_QS_CFG_INTERVAL (n : Nat) : Fld := ⟨(R.PORT_QS_CFG n), 19, 0⟩
def R.PORT_QSMP_0 (n k : Nat) : Nat := 0xB00610 + 4096 * n + 16 * k
def R.PORT_QSMP_0_GEN (n k : Nat) : Fld := ⟨(R.PORT_QSMP_0 n k), 31, 16⟩
def R.PORT_QSMP_0_FRAMES (n k : Nat) : Fld := ⟨(R.PORT_QSMP_0 n k), 15, 0⟩
def R.PORT_QSMP_1 (n k : Nat) : Nat := 0xB00614 + 4096 * n + 16 * k
def R.PORT_QSMP_1_DEPTH_MAX (n k : Nat) : Fld := ⟨(R.PORT_QSMP_1 n k), 31, 0⟩
def R.PORT_QSMP_2 (n k : Nat) : Nat := 0xB00618 + 4096 * n + 16 * k
def R.PORT_QSMP_2_DELAY_MAX (n k : Nat) : Fld := ⟨(R.PORT_QSMP_2 n k), 31, 0⟩
def R.PORT_QSMP_3 (n k : Nat) : Nat := 0xB0061C + 4096 * n + 16 * k
def R.PORT_QSMP_3_DEPTH_END (n k : Nat) : Fld := ⟨(R.PORT_QSMP_3 n k), 31, 0⟩
def R.MEM_CTL : Nat := 0xC00000
def R.MEM_CTL_REFUSE : Fld := ⟨R.MEM_CTL, 31, 16⟩
def R.MEM_CTL_RETRAIN : Fld := ⟨R.MEM_CTL, 3, 3⟩
def R.MEM_CTL_CH_EN : Fld := ⟨R.MEM_CTL, 2, 1⟩
def R.MEM_CTL_ENABLE : Fld := ⟨R.MEM_CTL, 0, 0⟩
def R.MEM_STS : Nat := 0xC00004
def R.MEM_STS_CH_OK : Fld := ⟨R.MEM_STS, 31, 30⟩
def R.MEM_STS_LIB_OK : Fld := ⟨R.MEM_STS, 29, 29⟩
def R.MEM_ECC (n : Nat) : Nat := 0xC00010 + 4 * n
def R.TILE_OWNER (t : Nat) : Nat := tileBase t + 0x0
def R.TILE_OWNER_OWNER (t : Nat) : Fld := ⟨(R.TILE_OWNER t), 1, 0⟩
def R.TILE_LP_CTL (t : Nat) : Nat := tileBase t + 0x10000
def R.TILE_LP_CTL_REFUSE (t : Nat) : Fld := ⟨(R.TILE_LP_CTL t), 31, 16⟩
def R.TILE_LP_CTL_NB (t : Nat) : Fld := ⟨(R.TILE_LP_CTL t), 12, 8⟩
def R.TILE_LP_CTL_XT_EN (t : Nat) : Fld := ⟨(R.TILE_LP_CTL t), 4, 4⟩
def R.TILE_LP_CTL_VFF_EN (t : Nat) : Fld := ⟨(R.TILE_LP_CTL t), 3, 3⟩
def R.TILE_LP_CTL_DITH_EN (t : Nat) : Fld := ⟨(R.TILE_LP_CTL t), 2, 2⟩
def R.TILE_LP_CTL_STRETCH_EN (t : Nat) : Fld := ⟨(R.TILE_LP_CTL t), 1, 1⟩
def R.TILE_LP_CTL_ENABLE (t : Nat) : Fld := ⟨(R.TILE_LP_CTL t), 0, 0⟩
def R.TILE_LP_PERIOD (t : Nat) : Nat := tileBase t + 0x10004
def R.TILE_LP_PERIOD_P_USE (t : Nat) : Fld := ⟨(R.TILE_LP_PERIOD t), 19, 16⟩
def R.TILE_LP_PERIOD_P_SET (t : Nat) : Fld := ⟨(R.TILE_LP_PERIOD t), 3, 0⟩
def R.TILE_LP_GAIN (t : Nat) : Nat := tileBase t + 0x10008
def R.TILE_LP_GAIN_KP (t : Nat) : Fld := ⟨(R.TILE_LP_GAIN t), 31, 16⟩
def R.TILE_LP_GAIN_KI (t : Nat) : Fld := ⟨(R.TILE_LP_GAIN t), 15, 0⟩
def R.TILE_LP_DITH (t : Nat) : Nat := tileBase t + 0x1000C
def R.TILE_LP_DITH_DEMOD_AGE (t : Nat) : Fld := ⟨(R.TILE_LP_DITH t), 31, 24⟩
def R.TILE_LP_DITH_DITH_AMP (t : Nat) : Fld := ⟨(R.TILE_LP_DITH t), 15, 0⟩
def R.TILE_LP_CLAMP (t : Nat) : Nat := tileBase t + 0x10010
def R.TILE_LP_CLAMP_CLAMP_FRAMES (t : Nat) : Fld := ⟨(R.TILE_LP_CLAMP t), 31, 16⟩
def R.TILE_LP_CLAMP_STEP_MAX (t : Nat) : Fld := ⟨(R.TILE_LP_CLAMP t), 15, 0⟩
def R.TILE_LP_PIN (t : Nat) : Nat := tileBase t + 0x10014
def R.TILE_LP_PIN_KI_PIN (t : Nat) : Fld := ⟨(R.TILE_LP_PIN t), 31, 16⟩
def R.TILE_LP_PIN_TRIM_MAX (t : Nat) : Fld := ⟨(R.TILE_LP_PIN t), 15, 8⟩
def R.TILE_LP_PIN_TRIM_DONE (t : Nat) : Fld := ⟨(R.TILE_LP_PIN t), 7, 0⟩
def R.TILE_LP_VHTR (t : Nat) : Nat := tileBase t + 0x10018
def R.TILE_LP_VHTR_V_HTR (t : Nat) : Fld := ⟨(R.TILE_LP_VHTR t), 31, 16⟩
def R.TILE_LP_VHTR_V_NOM (t : Nat) : Fld := ⟨(R.TILE_LP_VHTR t), 15, 0⟩
def R.TILE_LP_LOW (t : Nat) : Nat := tileBase t + 0x1001C
def R.TILE_LP_LOW_LOW_THR (t : Nat) : Fld := ⟨(R.TILE_LP_LOW t), 15, 0⟩
def R.TILE_LP_UCODE (t : Nat) : Nat := tileBase t + 0x10020
def R.TILE_LP_UCODE_IMG_VER (t : Nat) : Fld := ⟨(R.TILE_LP_UCODE t), 31, 16⟩
def R.TILE_LP_UCODE_PENDING (t : Nat) : Fld := ⟨(R.TILE_LP_UCODE t), 15, 15⟩
def R.TILE_LP_UCODE_SIG_OK (t : Nat) : Fld := ⟨(R.TILE_LP_UCODE t), 14, 14⟩
def R.TILE_LP_UCODE_CRC_OK (t : Nat) : Fld := ⟨(R.TILE_LP_UCODE t), 13, 13⟩
def R.TILE_LP_UCODE_BANK (t : Nat) : Fld := ⟨(R.TILE_LP_UCODE t), 12, 12⟩
def R.TILE_LP_UCODE_LAW_USE (t : Nat) : Fld := ⟨(R.TILE_LP_UCODE t), 9, 8⟩
def R.TILE_LP_UCODE_LAW_SET (t : Nat) : Fld := ⟨(R.TILE_LP_UCODE t), 5, 4⟩
def R.TILE_LP_UCODE_CANCEL (t : Nat) : Fld := ⟨(R.TILE_LP_UCODE t), 1, 1⟩
def R.TILE_LP_UCODE_COMMIT (t : Nat) : Fld := ⟨(R.TILE_LP_UCODE t), 0, 0⟩
def R.TILE_LP_PRB_CFG (t : Nat) : Nat := tileBase t + 0x10024
def R.TILE_LP_PRB_CFG_SEED (t : Nat) : Fld := ⟨(R.TILE_LP_PRB_CFG t), 31, 23⟩
def R.TILE_LP_PRB_CFG_CAP_WRAP (t : Nat) : Fld := ⟨(R.TILE_LP_PRB_CFG t), 9, 9⟩
def R.TILE_LP_PRB_CFG_CAP_EN (t : Nat) : Fld := ⟨(R.TILE_LP_PRB_CFG t), 8, 8⟩
def R.TILE_LP_PRB_CFG_TARGET (t : Nat) : Fld := ⟨(R.TILE_LP_PRB_CFG t), 4, 4⟩
def R.TILE_LP_PRB_CFG_WAVE (t : Nat) : Fld := ⟨(R.TILE_LP_PRB_CFG t), 3, 2⟩
def R.TILE_LP_PRB_CFG_STOP (t : Nat) : Fld := ⟨(R.TILE_LP_PRB_CFG t), 1, 1⟩
def R.TILE_LP_PRB_CFG_START (t : Nat) : Fld := ⟨(R.TILE_LP_PRB_CFG t), 0, 0⟩
def R.TILE_LP_PRB_AMP (t : Nat) : Nat := tileBase t + 0x10028
def R.TILE_LP_PRB_AMP_LIT_MAX (t : Nat) : Fld := ⟨(R.TILE_LP_PRB_AMP t), 31, 16⟩
def R.TILE_LP_PRB_AMP_AMP (t : Nat) : Fld := ⟨(R.TILE_LP_PRB_AMP t), 15, 0⟩
def R.TILE_LP_PRB_TIME (t : Nat) : Nat := tileBase t + 0x1002C
def R.TILE_LP_PRB_TIME_LEN (t : Nat) : Fld := ⟨(R.TILE_LP_PRB_TIME t), 31, 16⟩
def R.TILE_LP_PRB_TIME_DELAY (t : Nat) : Fld := ⟨(R.TILE_LP_PRB_TIME t), 15, 0⟩
def R.TILE_LP_PRB_CHIRP (t : Nat) : Nat := tileBase t + 0x10030
def R.TILE_LP_PRB_CHIRP_F1 (t : Nat) : Fld := ⟨(R.TILE_LP_PRB_CHIRP t), 31, 16⟩
def R.TILE_LP_PRB_CHIRP_F0 (t : Nat) : Fld := ⟨(R.TILE_LP_PRB_CHIRP t), 15, 0⟩
def R.TILE_LP_PRB_STS (t : Nat) : Nat := tileBase t + 0x10034
def R.TILE_LP_PRB_STS_END (t : Nat) : Fld := ⟨(R.TILE_LP_PRB_STS t), 31, 16⟩
def R.TILE_LP_PRB_STS_STATE (t : Nat) : Fld := ⟨(R.TILE_LP_PRB_STS t), 15, 14⟩
def R.TILE_LP_PRB_STS_FULL (t : Nat) : Fld := ⟨(R.TILE_LP_PRB_STS t), 13, 13⟩
def R.TILE_LP_PRB_STS_NSET (t : Nat) : Fld := ⟨(R.TILE_LP_PRB_STS t), 6, 0⟩
def R.TILE_LP_CAP_WP (t : Nat) : Nat := tileBase t + 0x10038
def R.TILE_LP_CAP_WP_WP (t : Nat) : Fld := ⟨(R.TILE_LP_CAP_WP t), 16, 0⟩
def R.TILE_LP_STS (t : Nat) : Nat := tileBase t + 0x10040
def R.TILE_LP_STS_STRETCHED (t : Nat) : Fld := ⟨(R.TILE_LP_STS t), 31, 31⟩
def R.TILE_LP_STS_SKIP_ACT (t : Nat) : Fld := ⟨(R.TILE_LP_STS t), 30, 30⟩
def R.TILE_LP_STS_MIRROR_OK (t : Nat) : Fld := ⟨(R.TILE_LP_STS t), 29, 29⟩
def R.TILE_LP_STS_OVR_RUN (t : Nat) : Fld := ⟨(R.TILE_LP_STS t), 27, 24⟩
def R.TILE_LP_STS_STALE (t : Nat) : Fld := ⟨(R.TILE_LP_STS t), 12, 0⟩
def R.TILE_LP_LOAD (t : Nat) : Nat := tileBase t + 0x10044
def R.TILE_LP_LOAD_PEAK (t : Nat) : Fld := ⟨(R.TILE_LP_LOAD t), 31, 16⟩
def R.TILE_LP_LOAD_LAST (t : Nat) : Fld := ⟨(R.TILE_LP_LOAD t), 15, 0⟩
def R.TILE_LP_FN (t : Nat) : Nat := tileBase t + 0x10048
def R.TILE_LP_FN_FN (t : Nat) : Fld := ⟨(R.TILE_LP_FN t), 31, 0⟩
def R.TILE_LP_CAP_ADDR (t : Nat) : Nat := tileBase t + 0x1004C
def R.TILE_LP_CAP_ADDR_ADDR (t : Nat) : Fld := ⟨(R.TILE_LP_CAP_ADDR t), 19, 2⟩
def R.TILE_LP_CAP_DATA (t : Nat) : Nat := tileBase t + 0x10050
def R.TILE_LP_CAP_DATA_DATA (t : Nat) : Fld := ⟨(R.TILE_LP_CAP_DATA t), 31, 0⟩
def R.TILE_LP_XL_CTL (t : Nat) : Nat := tileBase t + 0x10054
def R.TILE_LP_XL_CTL_END (t : Nat) : Fld := ⟨(R.TILE_LP_XL_CTL t), 31, 16⟩
def R.TILE_LP_XL_CTL_STATE (t : Nat) : Fld := ⟨(R.TILE_LP_XL_CTL t), 15, 14⟩
def R.TILE_LP_XL_CTL_PASS (t : Nat) : Fld := ⟨(R.TILE_LP_XL_CTL t), 13, 12⟩
def R.TILE_LP_XL_CTL_REP (t : Nat) : Fld := ⟨(R.TILE_LP_XL_CTL t), 11, 8⟩
def R.TILE_LP_XL_CTL_AUTO_APPLY (t : Nat) : Fld := ⟨(R.TILE_LP_XL_CTL t), 2, 2⟩
def R.TILE_LP_XL_CTL_ABORT (t : Nat) : Fld := ⟨(R.TILE_LP_XL_CTL t), 1, 1⟩
def R.TILE_LP_XL_CTL_START (t : Nat) : Fld := ⟨(R.TILE_LP_XL_CTL t), 0, 0⟩
def R.TILE_LP_XL_CFG (t : Nat) : Nat := tileBase t + 0x10058
def R.TILE_LP_XL_CFG_REPS_M1 (t : Nat) : Fld := ⟨(R.TILE_LP_XL_CFG t), 31, 28⟩
def R.TILE_LP_XL_CFG_MIN (t : Nat) : Fld := ⟨(R.TILE_LP_XL_CFG t), 15, 0⟩
def R.TILE_LP_CNT (t n : Nat) : Nat := tileBase t + 0x10060 + 4 * n
def R.TILE_LP_PRB_SET (t n : Nat) : Nat := tileBase t + 0x10100 + 4 * n
def R.TILE_LP_PRB_SET_SET (t n : Nat) : Fld := ⟨(R.TILE_LP_PRB_SET t n), 31, 0⟩
def R.TILE_PW_STS (t : Nat) : Nat := tileBase t + 0x20000
def R.TILE_PW_STS_DIRECT (t : Nat) : Fld := ⟨(R.TILE_PW_STS t), 31, 16⟩
def R.TILE_PW_STS_RUN (t : Nat) : Fld := ⟨(R.TILE_PW_STS t), 15, 0⟩
def R.TILE_PW_BCTL (t n : Nat) : Nat := tileBase t + 0x20100 + 64 * n
def R.TILE_PW_BCTL_REFUSE (t n : Nat) : Fld := ⟨(R.TILE_PW_BCTL t n), 31, 16⟩
def R.TILE_PW_BCTL_SRC (t n : Nat) : Fld := ⟨(R.TILE_PW_BCTL t n), 5, 5⟩
def R.TILE_PW_BCTL_MODE (t n : Nat) : Fld := ⟨(R.TILE_PW_BCTL t n), 4, 4⟩
def R.TILE_PW_BCTL_UPD (t n : Nat) : Fld := ⟨(R.TILE_PW_BCTL t n), 3, 3⟩
def R.TILE_PW_BCTL_ENABLE (t n : Nat) : Fld := ⟨(R.TILE_PW_BCTL t n), 0, 0⟩
def R.TILE_PW_BTIM (t n : Nat) : Nat := tileBase t + 0x20104 + 64 * n
def R.TILE_PW_BTIM_PHASE (t n : Nat) : Fld := ⟨(R.TILE_PW_BTIM t n), 28, 16⟩
def R.TILE_PW_BTIM_MINP (t n : Nat) : Fld := ⟨(R.TILE_PW_BTIM t n), 13, 8⟩
def R.TILE_PW_BTIM_DEAD (t n : Nat) : Fld := ⟨(R.TILE_PW_BTIM t n), 5, 0⟩
def R.TILE_PW_BTOP (t n : Nat) : Nat := tileBase t + 0x20108 + 64 * n
def R.TILE_PW_BTOP_ARM (t n : Nat) : Fld := ⟨(R.TILE_PW_BTOP t n), 31, 31⟩
def R.TILE_PW_BTOP_TAG (t n : Nat) : Fld := ⟨(R.TILE_PW_BTOP t n), 23, 16⟩
def R.TILE_PW_BTOP_TOP_SET (t n : Nat) : Fld := ⟨(R.TILE_PW_BTOP t n), 11, 0⟩
def R.TILE_PW_BSTS (t n : Nat) : Nat := tileBase t + 0x2010C + 64 * n
def R.TILE_PW_BSTS_ARMED (t n : Nat) : Fld := ⟨(R.TILE_PW_BSTS t n), 31, 31⟩
def R.TILE_PW_BSTS_OUT (t n : Nat) : Fld := ⟨(R.TILE_PW_BSTS t n), 28, 20⟩
def R.TILE_PW_BSTS_TOP_USE (t n : Nat) : Fld := ⟨(R.TILE_PW_BSTS t n), 11, 0⟩
def R.TILE_PW_BAGE (t n : Nat) : Nat := tileBase t + 0x20110 + 64 * n
def R.TILE_PW_BAGE_AGE (t n : Nat) : Fld := ⟨(R.TILE_PW_BAGE t n), 10, 0⟩
def R.TILE_PW_BCNT (t n k : Nat) : Nat := tileBase t + 0x20120 + 64 * n + 4 * k
def R.TILE_PW_USET (t n k : Nat) : Nat := tileBase t + 0x20800 + 32 * n + 4 * k
def R.TILE_PW_USET_SET (t n k : Nat) : Fld := ⟨(R.TILE_PW_USET t n k), 31, 0⟩
def R.TILE_PW_DUTY (t n : Nat) : Nat := tileBase t + 0x21000 + 4 * n
def R.TILE_PW_DUTY_TAG (t n : Nat) : Fld := ⟨(R.TILE_PW_DUTY t n), 23, 16⟩
def R.TILE_PW_DUTY_DUTY (t n : Nat) : Fld := ⟨(R.TILE_PW_DUTY t n), 15, 0⟩
def R.TILE_PW_CHCFG (t n : Nat) : Nat := tileBase t + 0x25000 + 4 * n
def R.TILE_PW_CHCFG_INV (t n : Nat) : Fld := ⟨(R.TILE_PW_CHCFG t n), 1, 1⟩
def R.TILE_PW_CHCFG_SWAP (t n : Nat) : Fld := ⟨(R.TILE_PW_CHCFG t n), 0, 0⟩
def R.TILE_PW_ACT (t n : Nat) : Nat := tileBase t + 0x29000 + 4 * n
def R.TILE_PW_ACT_CENTRE_B (t n : Nat) : Fld := ⟨(R.TILE_PW_ACT t n), 31, 31⟩
def R.TILE_PW_ACT_TAGGED (t n : Nat) : Fld := ⟨(R.TILE_PW_ACT t n), 30, 30⟩
def R.TILE_PW_ACT_ACC (t n : Nat) : Fld := ⟨(R.TILE_PW_ACT t n), 29, 24⟩
def R.TILE_PW_ACT_DUTY_USE (t n : Nat) : Fld := ⟨(R.TILE_PW_ACT t n), 15, 0⟩
def R.TILE_FD_STS (t : Nat) : Nat := tileBase t + 0x30000
def R.TILE_FD_STS_DIRECT (t : Nat) : Fld := ⟨(R.TILE_FD_STS t), 31, 16⟩
def R.TILE_FD_STS_RUN (t : Nat) : Fld := ⟨(R.TILE_FD_STS t), 15, 0⟩
def R.TILE_FD_STB (t : Nat) : Nat := tileBase t + 0x30004
def R.TILE_FD_STB_STB (t : Nat) : Fld := ⟨(R.TILE_FD_STB t), 0, 0⟩
def R.TILE_FD_CNT (t n : Nat) : Nat := tileBase t + 0x30010 + 4 * n
def R.TILE_FD_BCTL (t n : Nat) : Nat := tileBase t + 0x30100 + 16 * n
def R.TILE_FD_BCTL_REFUSE (t n : Nat) : Fld := ⟨(R.TILE_FD_BCTL t n), 31, 16⟩
def R.TILE_FD_BCTL_STB (t n : Nat) : Fld := ⟨(R.TILE_FD_BCTL t n), 2, 2⟩
def R.TILE_FD_BCTL_SRC (t n : Nat) : Fld := ⟨(R.TILE_FD_BCTL t n), 1, 1⟩
def R.TILE_FD_BCTL_ENABLE (t n : Nat) : Fld := ⟨(R.TILE_FD_BCTL t n), 0, 0⟩
def R.TILE_FD_BLK_CFG (t : Nat) : Nat := tileBase t + 0x30600
def R.TILE_FD_BLK_CFG_I_HOLD (t : Nat) : Fld := ⟨(R.TILE_FD_BLK_CFG t), 12, 8⟩
def R.TILE_FD_BLK_CFG_KICK_W (t : Nat) : Fld := ⟨(R.TILE_FD_BLK_CFG t), 7, 0⟩
def R.TILE_FD_BLK_FORCE (t n : Nat) : Nat := tileBase t + 0x30640 + 4 * n
def R.TILE_FD_BLK_FORCE_FORCE (t n : Nat) : Fld := ⟨(R.TILE_FD_BLK_FORCE t n), 31, 0⟩
def R.TILE_FD_GUARD_CFG : Nat := tileBase 0 + 0x30800
def R.TILE_FD_GUARD_CFG_IN_GUARD : Fld := ⟨R.TILE_FD_GUARD_CFG, 15, 0⟩
def R.TILE_FD_GUARD_REFUSE : Nat := tileBase 0 + 0x30804
def R.TILE_FD_GUARD_REFUSE_REFUSE : Fld := ⟨R.TILE_FD_GUARD_REFUSE, 15, 0⟩
def R.TILE_FD_GUARD_STS (n : Nat) : Nat := tileBase 0 + 0x30900 + 4 * n
def R.TILE_FD_GUARD_STS_BLOCKED (n : Nat) : Fld := ⟨(R.TILE_FD_GUARD_STS n), 31, 0⟩
def R.TILE_FD_GUARD_LAT (n : Nat) : Nat := tileBase 0 + 0x30980 + 4 * n
def R.TILE_FD_GUARD_LAT_LATCHED (n : Nat) : Fld := ⟨(R.TILE_FD_GUARD_LAT n), 31, 0⟩
def R.TILE_FD_GUARD_CNT : Nat := tileBase 0 + 0x30A00
def R.TILE_FD_GUARD_CNT_TRIPS : Fld := ⟨R.TILE_FD_GUARD_CNT, 31, 0⟩
def R.TILE_FD_LAT_CFG (t : Nat) : Nat := tileBase t + 0x30B00
def R.TILE_FD_LAT_CFG_REFUSE (t : Nat) : Fld := ⟨(R.TILE_FD_LAT_CFG t), 31, 16⟩
def R.TILE_FD_LAT_CFG_OPEN_MAX (t : Nat) : Fld := ⟨(R.TILE_FD_LAT_CFG t), 15, 8⟩
def R.TILE_FD_LAT_CFG_OPEN_RETRY (t : Nat) : Fld := ⟨(R.TILE_FD_LAT_CFG t), 5, 4⟩
def R.TILE_FD_LAT_CFG_ENABLE (t : Nat) : Fld := ⟨(R.TILE_FD_LAT_CFG t), 0, 0⟩
def R.TILE_FD_LAT_WARN (t : Nat) : Nat := tileBase t + 0x30B04
def R.TILE_FD_LAT_WARN_WEAR_WARN (t : Nat) : Fld := ⟨(R.TILE_FD_LAT_WARN t), 31, 0⟩
def R.TILE_FD_LAT_TIM (t : Nat) : Nat := tileBase t + 0x30B08
def R.TILE_FD_LAT_TIM_I_CLOSE (t : Nat) : Fld := ⟨(R.TILE_FD_LAT_TIM t), 31, 24⟩
def R.TILE_FD_LAT_TIM_CLOSE_W (t : Nat) : Fld := ⟨(R.TILE_FD_LAT_TIM t), 23, 16⟩
def R.TILE_FD_LAT_TIM_I_OPEN (t : Nat) : Fld := ⟨(R.TILE_FD_LAT_TIM t), 15, 8⟩
def R.TILE_FD_LAT_TIM_OPEN_W (t : Nat) : Fld := ⟨(R.TILE_FD_LAT_TIM t), 7, 0⟩
def R.TILE_FD_LAT_CNT (t n : Nat) : Nat := tileBase t + 0x30B10 + 4 * n
def R.TILE_FD_PORT (t n : Nat) : Nat := tileBase t + 0x31000 + 4 * n
def R.TILE_FD_PORT_LSTATE (t n : Nat) : Fld := ⟨(R.TILE_FD_PORT t n), 31, 29⟩
def R.TILE_FD_PORT_SENSE (t n : Nat) : Fld := ⟨(R.TILE_FD_PORT t n), 28, 27⟩
def R.TILE_FD_PORT_BLK (t n : Nat) : Fld := ⟨(R.TILE_FD_PORT t n), 26, 26⟩
def R.TILE_FD_PORT_SRC_EPO (t n : Nat) : Fld := ⟨(R.TILE_FD_PORT t n), 25, 25⟩
def R.TILE_FD_PORT_SRC_GRD (t n : Nat) : Fld := ⟨(R.TILE_FD_PORT t n), 24, 24⟩
def R.TILE_FD_PORT_SRC_FLT (t n : Nat) : Fld := ⟨(R.TILE_FD_PORT t n), 23, 23⟩
def R.TILE_FD_PORT_SRC_FRC (t n : Nat) : Fld := ⟨(R.TILE_FD_PORT t n), 22, 22⟩
def R.TILE_FD_PORT_TRIES (t n : Nat) : Fld := ⟨(R.TILE_FD_PORT t n), 17, 16⟩
def R.TILE_FD_WEAR (t n : Nat) : Nat := tileBase t + 0x32000 + 4 * n
def R.TILE_FD_WEAR_PULSES (t n : Nat) : Fld := ⟨(R.TILE_FD_WEAR t n), 31, 0⟩
def R.TILE_FD_CODE (t n : Nat) : Nat := tileBase t + 0x34000 + 4 * n
def R.TILE_FD_CODE_PEND (t n : Nat) : Fld := ⟨(R.TILE_FD_CODE t n), 31, 31⟩
def R.TILE_FD_CODE_RANGE_USE (t n : Nat) : Fld := ⟨(R.TILE_FD_CODE t n), 30, 30⟩
def R.TILE_FD_CODE_CODE_USE (t n : Nat) : Fld := ⟨(R.TILE_FD_CODE t n), 29, 20⟩
def R.TILE_FD_CODE_RANGE (t n : Nat) : Fld := ⟨(R.TILE_FD_CODE t n), 16, 16⟩
def R.TILE_FD_CODE_CODE (t n : Nat) : Fld := ⟨(R.TILE_FD_CODE t n), 9, 0⟩
def R.TILE_MC_CTL (t : Nat) : Nat := tileBase t + 0x40000
def R.TILE_MC_CTL_REFUSE (t : Nat) : Fld := ⟨(R.TILE_MC_CTL t), 31, 16⟩
def R.TILE_MC_CTL_TRIG_EDGE (t : Nat) : Fld := ⟨(R.TILE_MC_CTL t), 3, 3⟩
def R.TILE_MC_CTL_SRC (t : Nat) : Fld := ⟨(R.TILE_MC_CTL t), 2, 2⟩
def R.TILE_MC_CTL_COMMIT (t : Nat) : Fld := ⟨(R.TILE_MC_CTL t), 1, 1⟩
def R.TILE_MC_CTL_ENABLE (t : Nat) : Fld := ⟨(R.TILE_MC_CTL t), 0, 0⟩
def R.TILE_MC_STS (t : Nat) : Nat := tileBase t + 0x40004
def R.TILE_MC_STS_SPARE_OK (t : Nat) : Fld := ⟨(R.TILE_MC_STS t), 31, 31⟩
def R.TILE_MC_STS_TRUNC (t : Nat) : Fld := ⟨(R.TILE_MC_STS t), 30, 30⟩
def R.TILE_MC_STS_SPARE (t : Nat) : Fld := ⟨(R.TILE_MC_STS t), 11, 8⟩
def R.TILE_MC_STS_NA (t : Nat) : Fld := ⟨(R.TILE_MC_STS t), 7, 4⟩
def R.TILE_MC_SEQ (t n : Nat) : Nat := tileBase t + 0x40100 + 4 * n
def R.TILE_MC_SEQ_VALID (t n : Nat) : Fld := ⟨(R.TILE_MC_SEQ t n), 31, 31⟩
def R.TILE_MC_SEQ_DIV3 (t n : Nat) : Fld := ⟨(R.TILE_MC_SEQ t n), 30, 30⟩
def R.TILE_MC_SEQ_PH (t n : Nat) : Fld := ⟨(R.TILE_MC_SEQ t n), 29, 28⟩
def R.TILE_MC_SEQ_ROLE (t n : Nat) : Fld := ⟨(R.TILE_MC_SEQ t n), 27, 27⟩
def R.TILE_MC_SEQ_GAIN (t n : Nat) : Fld := ⟨(R.TILE_MC_SEQ t n), 26, 25⟩
def R.TILE_MC_SEQ_BANK (t n : Nat) : Fld := ⟨(R.TILE_MC_SEQ t n), 19, 16⟩
def R.TILE_MC_SEQ_TINT (t n : Nat) : Fld := ⟨(R.TILE_MC_SEQ t n), 9, 0⟩
def R.TILE_MC_SEQA (t n : Nat) : Nat := tileBase t + 0x40140 + 4 * n
def R.TILE_MC_SEQA_VALID (t n : Nat) : Fld := ⟨(R.TILE_MC_SEQA t n), 31, 31⟩
def R.TILE_MC_SEQA_DIV3 (t n : Nat) : Fld := ⟨(R.TILE_MC_SEQA t n), 30, 30⟩
def R.TILE_MC_SEQA_PH (t n : Nat) : Fld := ⟨(R.TILE_MC_SEQA t n), 29, 28⟩
def R.TILE_MC_SEQA_ROLE (t n : Nat) : Fld := ⟨(R.TILE_MC_SEQA t n), 27, 27⟩
def R.TILE_MC_SEQA_GAIN (t n : Nat) : Fld := ⟨(R.TILE_MC_SEQA t n), 26, 25⟩
def R.TILE_MC_SEQA_BANK (t n : Nat) : Fld := ⟨(R.TILE_MC_SEQA t n), 19, 16⟩
def R.TILE_MC_SEQA_TINT (t n : Nat) : Fld := ⟨(R.TILE_MC_SEQA t n), 9, 0⟩
def R.TILE_MC_TAP_CFG (t : Nat) : Nat := tileBase t + 0x40180
def R.TILE_MC_TAP_CFG_TAP_EN (t : Nat) : Fld := ⟨(R.TILE_MC_TAP_CFG t), 31, 31⟩
def R.TILE_MC_TAP_CFG_TAP_GAIN (t : Nat) : Fld := ⟨(R.TILE_MC_TAP_CFG t), 26, 25⟩
def R.TILE_MC_TAP_CFG_TAP_TINT (t : Nat) : Fld := ⟨(R.TILE_MC_TAP_CFG t), 9, 0⟩
def R.TILE_MC_TRIG_T_HI (t : Nat) : Nat := tileBase t + 0x40190
def R.TILE_MC_TRIG_T_HI_T (t : Nat) : Fld := ⟨(R.TILE_MC_TRIG_T_HI t), 15, 0⟩
def R.TILE_MC_TRIG_T_LO (t : Nat) : Nat := tileBase t + 0x40194
def R.TILE_MC_TRIG_T_LO_T (t : Nat) : Fld := ⟨(R.TILE_MC_TRIG_T_LO t), 31, 0⟩
def R.TILE_MC_HOLD (t : Nat) : Nat := tileBase t + 0x401A0
def R.TILE_MC_HOLD_HOLD (t : Nat) : Fld := ⟨(R.TILE_MC_HOLD t), 31, 31⟩
def R.TILE_MC_HOLD_USE (t : Nat) : Fld := ⟨(R.TILE_MC_HOLD t), 30, 30⟩
def R.TILE_MC_HOLD_BANK (t : Nat) : Fld := ⟨(R.TILE_MC_HOLD t), 3, 0⟩
def R.TILE_MC_ROT (t : Nat) : Nat := tileBase t + 0x401B0
def R.TILE_MC_ROT_ROT_FRAMES (t : Nat) : Fld := ⟨(R.TILE_MC_ROT t), 15, 0⟩
def R.TILE_MC_SLICE (t n : Nat) : Nat := tileBase t + 0x40200 + 4 * n
def R.TILE_MC_SLICE_STATE (t n : Nat) : Fld := ⟨(R.TILE_MC_SLICE t n), 31, 30⟩
def R.TILE_MC_SLICE_OFS (t n : Nat) : Fld := ⟨(R.TILE_MC_SLICE t n), 23, 12⟩
def R.TILE_MC_SLICE_GERR (t n : Nat) : Fld := ⟨(R.TILE_MC_SLICE t n), 11, 0⟩
def R.TILE_MC_CORR_ADDR (t : Nat) : Nat := tileBase t + 0x40300
def R.TILE_MC_CORR_ADDR_IDX (t : Nat) : Fld := ⟨(R.TILE_MC_CORR_ADDR t), 15, 0⟩
def R.TILE_MC_CORR_DATA (t : Nat) : Nat := tileBase t + 0x40304
def R.TILE_MC_CORR_DATA_GCOR (t : Nat) : Fld := ⟨(R.TILE_MC_CORR_DATA t), 31, 16⟩
def R.TILE_MC_CORR_DATA_OFS (t : Nat) : Fld := ⟨(R.TILE_MC_CORR_DATA t), 15, 0⟩
def R.TILE_MC_CNT (t n : Nat) : Nat := tileBase t + 0x40310 + 4 * n
def R.TILE_MC_SYNC_CFG : Nat := tileBase 0 + 0x40400
def R.TILE_MC_SYNC_CFG_WIDTH : Fld := ⟨R.TILE_MC_SYNC_CFG, 15, 8⟩
def R.TILE_MC_SYNC_CFG_SP : Fld := ⟨R.TILE_MC_SYNC_CFG, 7, 4⟩
def R.TILE_MC_SYNC_CFG_SEL : Fld := ⟨R.TILE_MC_SYNC_CFG, 1, 1⟩
def R.TILE_MC_SYNC_CFG_EN : Fld := ⟨R.TILE_MC_SYNC_CFG, 0, 0⟩
def R.TILE_MC_ANC_CTL (t : Nat) : Nat := tileBase t + 0x40500
def R.TILE_MC_ANC_CTL_BUSY (t : Nat) : Fld := ⟨(R.TILE_MC_ANC_CTL t), 31, 31⟩
def R.TILE_MC_ANC_CTL_DONE (t : Nat) : Fld := ⟨(R.TILE_MC_ANC_CTL t), 30, 30⟩
def R.TILE_MC_ANC_CTL_MAINS_SEL (t : Nat) : Fld := ⟨(R.TILE_MC_ANC_CTL t), 29, 28⟩
def R.TILE_MC_ANC_CTL_SEL (t : Nat) : Fld := ⟨(R.TILE_MC_ANC_CTL t), 27, 24⟩
def R.TILE_MC_ANC_CTL_IDX (t : Nat) : Fld := ⟨(R.TILE_MC_ANC_CTL t), 14, 1⟩
def R.TILE_MC_ANC_CTL_START (t : Nat) : Fld := ⟨(R.TILE_MC_ANC_CTL t), 0, 0⟩
def R.TILE_MC_ANC_RES (t : Nat) : Nat := tileBase t + 0x40504
def R.TILE_MC_ANC_RES_RES (t : Nat) : Fld := ⟨(R.TILE_MC_ANC_RES t), 23, 0⟩
def R.TILE_MC_TAPS (t n : Nat) : Nat := tileBase t + 0x44000 + 4 * n
def R.TILE_MC_TAPS_SAMPLE (t n : Nat) : Fld := ⟨(R.TILE_MC_TAPS t n), 31, 16⟩
def R.TILE_MC_TAPS_OVR (t n : Nat) : Fld := ⟨(R.TILE_MC_TAPS t n), 15, 15⟩
def R.TILE_MC_TAPS_UNR (t n : Nat) : Fld := ⟨(R.TILE_MC_TAPS t n), 14, 14⟩
def R.TILE_MC_TAPS_SETTLE (t n : Nat) : Fld := ⟨(R.TILE_MC_TAPS t n), 13, 13⟩
def R.TILE_MC_TAPS_CAL (t n : Nat) : Fld := ⟨(R.TILE_MC_TAPS t n), 12, 12⟩
def R.TILE_MC_TAPS_GAIN (t n : Nat) : Fld := ⟨(R.TILE_MC_TAPS t n), 11, 10⟩
def R.TILE_MC_TAPS_TRG (t n : Nat) : Fld := ⟨(R.TILE_MC_TAPS t n), 9, 9⟩
def R.TILE_MC_TAPS_FNL (t n : Nat) : Fld := ⟨(R.TILE_MC_TAPS t n), 7, 0⟩
def R.TILE_MC_SMP (t n : Nat) : Nat := tileBase t + 0x48000 + 4 * n
def R.TILE_MC_SMP_SAMPLE (t n : Nat) : Fld := ⟨(R.TILE_MC_SMP t n), 31, 16⟩
def R.TILE_MC_SMP_OVR (t n : Nat) : Fld := ⟨(R.TILE_MC_SMP t n), 15, 15⟩
def R.TILE_MC_SMP_UNR (t n : Nat) : Fld := ⟨(R.TILE_MC_SMP t n), 14, 14⟩
def R.TILE_MC_SMP_SETTLE (t n : Nat) : Fld := ⟨(R.TILE_MC_SMP t n), 13, 13⟩
def R.TILE_MC_SMP_CAL (t n : Nat) : Fld := ⟨(R.TILE_MC_SMP t n), 12, 12⟩
def R.TILE_MC_SMP_GAIN (t n : Nat) : Fld := ⟨(R.TILE_MC_SMP t n), 11, 10⟩
def R.TILE_MC_SMP_TRG (t n : Nat) : Fld := ⟨(R.TILE_MC_SMP t n), 9, 9⟩
def R.TILE_MC_SMP_FNL (t n : Nat) : Fld := ⟨(R.TILE_MC_SMP t n), 7, 0⟩
def R.TILE_HK_CTL (t : Nat) : Nat := tileBase t + 0x50000
def R.TILE_HK_CTL_REFUSE (t : Nat) : Fld := ⟨(R.TILE_HK_CTL t), 31, 16⟩
def R.TILE_HK_CTL_RND (t : Nat) : Fld := ⟨(R.TILE_HK_CTL t), 15, 8⟩
def R.TILE_HK_MASK (t n : Nat) : Nat := tileBase t + 0x50010 + 4 * n
def R.TILE_HK_MASK_MASK (t n : Nat) : Fld := ⟨(R.TILE_HK_MASK t n), 31, 0⟩
def R.TILE_HK_VAL (t n : Nat) : Nat := tileBase t + 0x50100 + 4 * n
def R.TILE_HK_VAL_VALID (t n : Nat) : Fld := ⟨(R.TILE_HK_VAL t n), 31, 31⟩
def R.TILE_HK_VAL_LIM (t n : Nat) : Fld := ⟨(R.TILE_HK_VAL t n), 30, 30⟩
def R.TILE_HK_VAL_RND (t n : Nat) : Fld := ⟨(R.TILE_HK_VAL t n), 23, 16⟩
def R.TILE_HK_VAL_VALUE (t n : Nat) : Fld := ⟨(R.TILE_HK_VAL t n), 15, 0⟩
def R.TILE_HK_LIM (t n : Nat) : Nat := tileBase t + 0x50400 + 4 * n
def R.TILE_HK_LIM_HI (t n : Nat) : Fld := ⟨(R.TILE_HK_LIM t n), 31, 16⟩
def R.TILE_HK_LIM_LO (t n : Nat) : Fld := ⟨(R.TILE_HK_LIM t n), 15, 0⟩
def R.TILE_LP_EST_0 (t n : Nat) : Nat := tileBase t + 0x80000 + 32 * n
def R.TILE_LP_EST_0_STATUS (t n : Nat) : Fld := ⟨(R.TILE_LP_EST_0 t n), 31, 28⟩
def R.TILE_LP_EST_0_HOME (t n : Nat) : Fld := ⟨(R.TILE_LP_EST_0 t n), 27, 27⟩
def R.TILE_LP_EST_0_CMD (t n : Nat) : Fld := ⟨(R.TILE_LP_EST_0 t n), 26, 26⟩
def R.TILE_LP_EST_0_LOWLIGHT (t n : Nat) : Fld := ⟨(R.TILE_LP_EST_0 t n), 25, 25⟩
def R.TILE_LP_EST_0_CLAMP (t n : Nat) : Fld := ⟨(R.TILE_LP_EST_0 t n), 24, 24⟩
def R.TILE_LP_EST_0_SKIP (t n : Nat) : Fld := ⟨(R.TILE_LP_EST_0 t n), 23, 23⟩
def R.TILE_LP_EST_0_DSIGN (t n : Nat) : Fld := ⟨(R.TILE_LP_EST_0 t n), 22, 22⟩
def R.TILE_LP_EST_0_TRIMMED (t n : Nat) : Fld := ⟨(R.TILE_LP_EST_0 t n), 21, 21⟩
def R.TILE_LP_EST_0_PSIGN (t n : Nat) : Fld := ⟨(R.TILE_LP_EST_0 t n), 20, 20⟩
def R.TILE_LP_EST_0_HSIGN (t n : Nat) : Fld := ⟨(R.TILE_LP_EST_0 t n), 19, 19⟩
def R.TILE_LP_EST_0_BFRAME (t n : Nat) : Fld := ⟨(R.TILE_LP_EST_0 t n), 15, 8⟩
def R.TILE_LP_EST_0_GEN (t n : Nat) : Fld := ⟨(R.TILE_LP_EST_0 t n), 7, 0⟩
def R.TILE_LP_EST_1 (t n : Nat) : Nat := tileBase t + 0x80004 + 32 * n
def R.TILE_LP_EST_1_HTR_TGT (t n : Nat) : Fld := ⟨(R.TILE_LP_EST_1 t n), 31, 0⟩
def R.TILE_LP_EST_2 (t n : Nat) : Nat := tileBase t + 0x80008 + 32 * n
def R.TILE_LP_EST_2_INTEG (t n : Nat) : Fld := ⟨(R.TILE_LP_EST_2 t n), 31, 0⟩
def R.TILE_LP_EST_3 (t n : Nat) : Nat := tileBase t + 0x8000C + 32 * n
def R.TILE_LP_EST_3_FF_X (t n : Nat) : Fld := ⟨(R.TILE_LP_EST_3 t n), 31, 0⟩
def R.TILE_LP_EST_4 (t n : Nat) : Nat := tileBase t + 0x80010 + 32 * n
def R.TILE_LP_EST_4_PIN_PH (t n : Nat) : Fld := ⟨(R.TILE_LP_EST_4 t n), 31, 0⟩
def R.TILE_LP_EST_5 (t n : Nat) : Nat := tileBase t + 0x80014 + 32 * n
def R.TILE_LP_EST_5_PIN_TRIM (t n : Nat) : Fld := ⟨(R.TILE_LP_EST_5 t n), 31, 16⟩
def R.TILE_LP_EST_5_AGE_H (t n : Nat) : Fld := ⟨(R.TILE_LP_EST_5 t n), 15, 8⟩
def R.TILE_LP_EST_5_AGE_P (t n : Nat) : Fld := ⟨(R.TILE_LP_EST_5 t n), 7, 0⟩
def R.TILE_LP_EST_6 (t n : Nat) : Nat := tileBase t + 0x80018 + 32 * n
def R.TILE_LP_EST_6_RAT_HOME (t n : Nat) : Fld := ⟨(R.TILE_LP_EST_6 t n), 31, 16⟩
def R.TILE_LP_EST_6_RAT_PIN (t n : Nat) : Fld := ⟨(R.TILE_LP_EST_6 t n), 15, 0⟩
def R.TILE_LP_EST_7 (t n : Nat) : Nat := tileBase t + 0x8001C + 32 * n
def R.TILE_LP_EST_7_W_LAST (t n : Nat) : Fld := ⟨(R.TILE_LP_EST_7 t n), 31, 16⟩
def R.TILE_LP_EST_7_DUTY_A (t n : Nat) : Fld := ⟨(R.TILE_LP_EST_7 t n), 15, 0⟩
def R.TILE_LP_XT (t n k : Nat) : Nat := tileBase t + 0xA0000 + 64 * n + 4 * k
def R.TILE_LP_XT_VALID (t n k : Nat) : Fld := ⟨(R.TILE_LP_XT t n k), 31, 31⟩
def R.TILE_LP_XT_KIND (t n k : Nat) : Fld := ⟨(R.TILE_LP_XT t n k), 30, 30⟩
def R.TILE_LP_XT_NBR (t n k : Nat) : Fld := ⟨(R.TILE_LP_XT t n k), 27, 16⟩
def R.TILE_LP_XT_COEF (t n k : Nat) : Fld := ⟨(R.TILE_LP_XT t n k), 15, 0⟩

end Sys2Proof.Machine
end

