-- ==== Sys2Proof/Machine/State.lean ====
section
/-!
DEFINITION. Sys2Proof/Machine/State.lean: the state of the block as plain data, and the state right after reset.
-/
namespace Sys2Proof.Machine

/-- Why a step stops with a fault. No meaning of this model raises one: every effect the spec gives is modelled. -/
inductive Fault where
  /-- Raised by no meaning; it stands for a step outside the spec. Safe. -/
  | outsideSpec
  deriving DecidableEq, Repr

/-- Why a step is refused. -/
inductive Refusal where
  /-- The row of the opcode table has no meaning yet. Safe: the model stops where the hardware goes on. -/
  | notModelled (mnemonic : String)
  deriving DecidableEq, Repr

/-- Who asked: the session (32 for the mailbox), its unique opening number, tenant, request id, opcode and
ingress stamp (R396), and the port (4 for the mailbox), address and UDP port that sent the request (R398). -/
structure Requester where
  sess : Nat
  uid : Nat
  tenant : Nat
  reqId : Nat
  opcode : Nat
  stamp : Nat
  port : Nat
  addr : BitVec 128
  udp : Nat
  deriving DecidableEq, Repr

/-- TYPE of a frame the device sends (R397). -/
inductive OutKind where
  | reply | completion | notice
  deriving DecidableEq, Repr

/-- The key and IV prefix of an outgoing tag (R403): none (mailbox), a tenant key with a nonce, or a session key. -/
inductive TagKey where
  | none
  | tenant (key : BitVec 256) (prefixWord : Nat) (nonce : BitVec 64)
  | session (key : BitVec 256)
  deriving DecidableEq, Repr

/-- A frame the device will send, before its SEQ and tag are fixed at its departure. `port` 4 is the mailbox. -/
structure OutMsg where
  kind : OutKind
  final : Bool
  sess : Nat
  uid : Nat
  tenant : Nat
  reqId : Nat
  opcode : Nat
  code : Nat
  stamp : Nat
  params : List Byte
  key : TagKey
  port : Nat
  addr : BitVec 128
  udp : Nat
  deriving DecidableEq, Repr

/-- A frame that has left the device, with its SEQ, tag and instant (R396, R403). -/
structure SentFrame where
  msg : OutMsg
  seq : BitVec 64
  tag : BitVec 128
  at_ : Nat
  deriving DecidableEq, Repr

/-- An open session (R68, R402, R404). -/
structure Session where
  uid : Nat
  tenant : Nat
  key : BitVec 256
  high : Nat
  seen : List Nat
  lease : Nat
  port : Nat
  addr : BitVec 128
  udp : Nat
  outstanding : List Nat
  subs : List Nat
  last : Nat
  deriving DecidableEq, Repr

/-- An outstanding challenge of a tenant (R402). -/
structure Nonce where
  nonce : BitVec 64
  issued : Nat
  deriving DecidableEq, Repr

/-- Command-protocol state: keys, sessions, challenges, mailbox rings and frames waiting in the hub ("The Afisk command
protocol"). -/
structure CmdSt where
  keys : Tbl (BitVec 256)
  sessions : Tbl Session
  nextUid : Nat
  txSeq : Tbl Nat
  nonces : Tbl Nonce
  /-- request-ring slots posted and not yet read, each with its ingress stamp (R399) -/
  posted : List (Nat × Nat)
  /-- REQ_IDs of the mailbox session awaiting a final completion -/
  mbxOutstanding : List Nat
  /-- sources the mailbox session is subscribed to -/
  mbxSubs : List Nat
  /-- the opening number of the mailbox session; it changes when the mailbox is disabled -/
  mbxUid : Nat
  /-- replies and completions held while the completion ring is full (R400) -/
  held : List OutMsg
  /-- since when the completion ring is full, and whether EV 37 has been raised for it -/
  fullSince : Option Nat
  stallReported : Bool
  /-- instants of the MSI-X signals of vectors 0 and 1 (R399, R453) -/
  msixCompletion : List Nat
  msixAlert : List Nat
  /-- frames that arrived in a freeze of the hub and wait in the ingress queue (R472) -/
  ingress : List (Frame × Nat)
  /-- frames made in the current step, before they enter their queues -/
  outQ : List OutMsg
  /-- every frame that has left, oldest first -/
  sent : List SentFrame
  deriving DecidableEq, Repr

/-- One recorder record (R448). -/
structure Rec where
  src : Nat
  tenant : Nat
  subj : Nat
  open_ : Bool
  vol : Bool
  pfail : Bool
  gen : Nat
  seq : Nat
  rep : Nat
  first : Nat
  last : Nat
  code : Nat
  aux : Nat
  idx : Nat
  data : Nat
  deriving DecidableEq, Repr

/-- An open record: the record as last written, the occurrences joined since, and the instants of opening and last write. -/
structure OpenRec where
  rec_ : Rec
  openedAt : Nat
  writtenAt : Nat
  joined : Nat
  lastJoin : Nat
  deriving DecidableEq, Repr

/-- An occurrence of an event source (R446, R448). `aux` and `data` are `none` where the chapter states no value. -/
structure Occ where
  src : Nat
  tenant : Nat
  subj : Nat
  idx : Nat
  code : Nat
  aux : Option Nat
  data : Option Nat
  deriving DecidableEq, Repr

/-- One cairn slot (R463); `torn` marks a slot whose CRC fails. -/
structure Cairn where
  torn : Bool
  kind : Nat
  code : Nat
  sec : Nat
  ns : Nat
  src : Nat
  idx : Nat
  w4 : Nat
  w5 : Nat
  w6 : Nat
  deriving DecidableEq, Repr

/-- A block being flushed: first SEQ, number of records, block number, failed read-backs so far, and whether it goes to the mirror
(R457, R461, R462). -/
structure FlushBlk where
  first : Nat
  count : Nat
  number : Nat
  fails : Nat
  mirror : Bool
  deriving DecidableEq, Repr

/-- Recorder state ("Events and the recorder"). -/
structure EvtSt where
  ring : Tbl Rec
  opens : List OpenRec
  /-- occurrences that wait in the tile queues, each with its instant (R460) -/
  tileQ : List (Occ × Nat)
  lostRun : Bool
  lastFlush : Nat
  flushDue : Option Nat
  block : Option FlushBlk
  blockNumber : Nat
  /-- blocks written to the log store since start-up: first SEQ and count -/
  logBlocks : List (Nat × Nat)
  /-- records held in the volatile mirror, each with VOL = 1 (R462) -/
  mirror : List Rec
  /-- last instant of each event that is raised at most once per second, by source and index -/
  rate : Tbl Nat
  lastWearSave : Nat
  /-- `EVT_TILE_LOST` when the hub left service (R460) -/
  tileLostAt : Nat
  deriving DecidableEq, Repr

/-- One policer's two buckets in micro-bytes, and the instant they were last filled (R432). -/
structure Policer where
  tc : Nat
  tp : Nat
  at_ : Nat
  deriving DecidableEq, Repr

/-- What waits in an egress queue: an Afisk frame of the hub, or a PTP or control reply (R435). -/
inductive EgressItem where
  | afisk (m : OutMsg)
  | control (ptp : Bool)
  deriving DecidableEq, Repr

/-- One frame of an egress queue: its transmitted length and its entry instant. -/
structure EgressFrame where
  item : EgressItem
  len : Nat
  entered : Nat
  deriving DecidableEq, Repr

/-- One egress queue with its shaper bucket in micro-bytes and its measurement (R435 to R442). -/
structure EgressQ where
  frames : List EgressFrame
  waiting : List EgressFrame
  tokens : Int
  at_ : Nat
  started : Nat
  depthMax : Nat
  delayMax : Nat
  deriving DecidableEq, Repr

/-- A port's time-gate state: the active list's base and number of entries, and the base of a pending change with its number of
entries and words (R439, R440). -/
structure Gate where
  base : Nat
  nent : Nat
  pending : Option (Nat × Nat × List Word)
  deriving DecidableEq, Repr

/-- One MACsec secure association: key, salt, SSCI, cipher and packet number (next to send, or next expected), and the lowest PN
accepted (R428, R429). -/
structure Sa where
  key : BitVec 256
  salt : BitVec 96
  ssci : BitVec 32
  xpn : Bool
  pn : Nat
  lowest : Nat
  warned : Bool
  deriving DecidableEq, Repr

/-- Management-port state ("Management ports and traffic control"). -/
structure NetSt where
  policers : Tbl Policer
  queues : Tbl EgressQ
  gates : Tbl Gate
  sas : Tbl Sa
  /-- instant to which each port's line is busy -/
  lineBusy : Tbl Nat
  deriving DecidableEq, Repr

/-- A frame or image kept by a processor group: its versions. -/
structure FwImage where
  imgVer : Nat
  arbVer : Nat
  deriving DecidableEq, Repr

/-- A firmware change in progress (R473): 1 loading, checking and starting, 3 waiting for H; SIZE, the image, whether it is the kept one,
its requester, and STBY_READY as it read before. -/
structure FwChange where
  step : Nat
  size : Nat
  image : FwImage
  kept : Bool
  req : Requester
  wasReady : Bool
  deriving DecidableEq, Repr

/-- Service state: resets, processor groups, engines, the crevasse map and holdover ("Staying in service"). -/
structure SvcSt where
  /-- level of POR_N: true while the module is released -/
  por : Bool
  /-- the control domain is in reset -/
  ctrlReset : Bool
  /-- firmware runs (from RESTORE on) -/
  fwRuns : Bool
  /-- a control-domain reset that begins at an instant, with its cause (R470) -/
  resetAt : Option (Nat × Nat)
  /-- end of a failover freeze in progress (R472) -/
  freezeEnd : Option Nat
  /-- when the hub last left service, and when HUB_RST_N rises (R529) -/
  outAt : Nat
  rstRise : Nat
  bootStart : Nat
  bootTries : Nat
  /-- code of a slot refused by the boot ROM, raised once the recorder runs (R501) -/
  bootRefused : Nat
  pfail : Bool
  pfailAt : Nat
  active : FwImage
  standby : FwImage
  /-- the instant of the change since which the former group keeps the previous image (R475) -/
  keptSince : Option Nat
  fw : Option FwChange
  /-- bytes staged by MNT_FW_STAGE, by offset -/
  staged : Tbl Byte
  /-- the tile each spare engine serves (R476) -/
  spare0 : Option Nat
  spare1 : Option Nat
  /-- fences waiting for a tile's next frame edge: new owner (R477) -/
  fence : Tbl Nat
  /-- engine self-tests in progress: start instant (R481) -/
  engTest : Tbl Nat
  crvHost : Tbl Nat
  crvAuto : Tbl Nat
  /-- instants of further reports on watched cells (R484) -/
  reports : Tbl (List Nat)
  /-- causes of bivouac in force, the one that began first in front: 1 traverse, 2 THR4, 3 ECC (R216) -/
  causes : List Nat
  eccBiv : Bool
  refLost : Bool
  /-- tiles in holdover, each with the instant it entered (R486) -/
  holdover : Tbl Nat
  /-- tiles whose schedule R487 or R489 has frozen -/
  frozenTiles : List Nat
  /-- since when the hub has been in service with REF_OK = 1 -/
  refGoodSince : Option Nat
  lastMark : Nat
  /-- DDR channels whose training or access has failed; the registers hold the rest -/
  ddrLost0 : Bool
  ddrLost1 : Bool
  /-- the instruction that the JTAG port has loaded, and what its data register holds (R531) -/
  jtag : JtagIns
  jtagDr : Word
  deriving DecidableEq, Repr

/-- One copy of the configuration area (R504): saved registers and crevasse map, and whether its CRC passes. -/
structure CfgCopy where
  gen : Nat
  good : Bool
  regs : Tbl Word
  crvHost : Tbl Nat
  crvAuto : Tbl Nat
  deriving DecidableEq, Repr

/-- One copy of the wear area (R459): generation, second of the save, whether its CRC passes, and the counts by tile and port. -/
structure WearCopy where
  gen : Nat
  sec : Nat
  good : Bool
  counts : Tbl Nat
  deriving DecidableEq, Repr

/-- What survives the loss of power: fuses, boot flash and log store. -/
structure NvSt where
  arbMin : Nat
  cfgA : CfgCopy
  cfgB : CfgCopy
  wearA : WearCopy
  wearB : WearCopy
  cairn : List Cairn
  /-- calibration area: whether a completed recalibration of a tile is held, and its tables (R378, R505) -/
  calHeld : Bool
  calArea : Tbl Word
  /-- highest SEQ found in the log region plus one (R457) -/
  logNext : Nat
  /-- an emergency close took place before this start-up (R328) -/
  emergency : Bool
  deriving DecidableEq, Repr

/-- Time state ("Network time"): the 32.32 increment in force in every counter, a held high word (R117), an armed phase step in ns with
the instant it was armed (R122), whether a PTP master is selected, consecutive Sync intervals below LOCK_THR, the last usable Sync,
the last PPS_IN edge, whether a capture is unread (R131), and the end of a PPS_OUT pulse (R132). -/
structure TimeSt where
  inc : Nat
  heldHi : Option Word
  step : Option (Int × Nat)
  master : Bool
  lockRun : Nat
  lastSync : Nat
  lastPps : Option Nat
  ppsUnread : Bool
  ppsHighUntil : Option Nat
  deriving DecidableEq, Repr

/-! ## Fabric: elements, ports and transitions -/

/-- A belay (R188 to R192): frames since its start (0 in the capture frame), ramp frames n, overrun limit, heater phase the plan starts
from and phase step (LPU), τ_m in 0.1 µs and frame period at its start, the correction on the PIN sub-step series, consecutive
complete frames, whether it has overrun, and whether it starts from the phase reached by an earlier movement (R193). -/
structure Belay where
  reached : Bool
  frames : Nat
  ramp : Nat
  limit : Nat
  phi0 : Int
  dphi : Int
  tau : Nat
  period : Nat
  corr : Int
  good : Nat
  overrun : Bool
  deriving DecidableEq, Repr

/-- The source of a speculative position (R218): a pending circuit, a stage of a traverse, or the next slot of the schedule. -/
inductive Source where
  | circuit (ctx : Nat)
  | stage (id k : Nat)
  | slot (n : Nat)
  deriving DecidableEq, Repr

/-- A speculative position (R218 to R225): its source, the cell state it prepares, whether it is a pre-ramp, frames of the ramp so far,
ramp frames, start phase and step, and whether it is being reverted. -/
structure Prov where
  source : Source
  cross : Bool
  ramp : Bool
  k : Nat
  n : Nat
  phi0 : Int
  dphi : Int
  reverting : Bool
  deriving DecidableEq, Repr

/-- The words of an element's record that the loop writes at an output transfer (R254): targets and phases in LPU, ratios in 2^-32, ages
in frames; `dflip` tells that the dither sign differs from the one that the element
starts with; `drv` is the heater target driven, with dither and injection; `perr` is the error of the proportional term; `clampRun` and
`trimRun` count served frames of clamp and consecutive small PIN errors; `pinCode` is the code of a PIN probe. -/
structure ElemRec where
  lowlight : Bool
  clamp : Bool
  skip : Bool
  dflip : Bool
  trimmed : Bool
  psign : Bool
  hsign : Bool
  htr : Int
  integ : Int
  ffx : Int
  pinTrim : Int
  ageH : Nat
  ageP : Nat
  ratHome : Int
  ratPin : Int
  wLast : Nat
  duty : Nat
  drv : Int
  perr : Int
  clampRun : Nat
  trimRun : Nat
  pinCode : Option Int
  deriving DecidableEq, Repr

/-- The live state of one element (R244, R254): its record, home and status parts, the PIN phase in force, and the modelled heater phase at
the last frame edge in 2^-16 LPU. `since` is the last epoch whose transition touched it, `pinOff` the instant at
which its last PIN current ended; `out` is the record that the frame in
progress has computed. -/
structure Elem extends ElemRec where
  home : Bool
  stale : Bool
  belay : Option Belay
  /-- a belay toward a new home starts at the next frame boundary (R188) -/
  belayDue : Bool
  prov : Option Prov
  gen : Nat
  pinPh : Int
  hmod : Int
  clampTold : Bool
  since : Nat
  pinOff : Nat
  out : Option ElemRec
  deriving DecidableEq, Repr

/-- One port of tile 0 or 9: latch state and its last sense, blanking requests of the epoch logic and of a latch fault, retries, the
start of the pulse in progress, and whether the wear event has been raised (R314, R317 to R324). -/
structure Port where
  lstate : Nat
  sense : Nat
  epo : Bool
  flt : Bool
  tries : Nat
  pulse : Option Nat
  worn : Bool
  deriving DecidableEq, Repr

/-- An open that waits for its pulse: port key, ingress of the request that caused it, instant at which it falls due (R321). -/
structure OpenWait where
  port : Nat
  ingress : Nat
  due : Nat
  deriving DecidableEq, Repr

/-- One transition (R175): class (true for slot epochs, slot-scope stages and swaps), epoch E, guard band, the phase reached (0 verified,
1 blanked, 2 switched, 3 sampled, 4 unblanked), contexts that commit, the stage of the running traverse it carries, whether it carries
the swap, affected ports, touched cell positions with their new state, tiles that refused a load, tiles not ready at the ready sample,
whether it is held dark, tiles that run it self-strobed, and the PIN phase and speculative position that each touched element held
before the switch strobe (R209). -/
structure Trans where
  slotClass : Bool
  e : Nat
  gb : Nat
  phase : Nat
  lights : List Nat
  stage : Option Nat
  swap : Bool
  ports : List Nat
  loads : Tbl Bool
  refused : List Nat
  notReady : List Nat
  dark : Bool
  selfs : List Nat
  undo : Tbl (Int × Option Prov)
  deriving DecidableEq, Repr

/-- Fabric state: cell positions in CROSS (an unlisted position is in BAR, R27), elements, ports, waiting opens, the guard's counters by
input (consecutive samples above, count toward the latch), transitions in progress, speculation mask holds, and the pins of tile 0
that pulse. -/
structure FabSt where
  /-- no latch opens since an emergency close (R328) -/
  noOpen : Bool
  cells : Tbl Bool
  elems : Grp Elem
  ports : Tbl Port
  waits : List OpenWait
  guard : Tbl (Nat × Nat)
  trans : List Trans
  selfRun : List Nat
  /-- the three words of the last transition held dark (`EPO_XLAST`) -/
  xlast : Nat × Nat × Nat
  epochOut : Option (Nat × Nat)
  syncOut : Option (Nat × Nat)
  deriving DecidableEq, Repr

/-! ## Circuits, grants and placement -/

/-- What waits for a circuit's commit (R61): a release or DISABLE with its requester, or the code of an expiry or revocation; `withdraw`
tells that it came before the point of no return and withdraws the commit at the decision instant. -/
structure After where
  disable : Bool
  withdraw : Bool
  code : Nat
  req : Option Requester
  deriving DecidableEq, Repr

/-- A circuit context (R55). `route` is the committed route; `placed` the route placed and not yet committed; `eplan` the epoch it is
to commit at; `mayMove` of its request; `check` the loss check's start and failed samples (R58); `after` what R61 leaves for the
commit. -/
structure Ctx where
  state : Nat
  scheduled : Bool
  pinned : Bool
  tenant : Nat
  reason : Nat
  input : Nat
  cycling : Nat
  route : Option Nat
  reqId : Nat
  epoch : Nat
  sched : Nat
  lease : Nat
  grantIn : Option Nat
  grantOut : Option Nat
  loss : Nat
  outPwr : Nat
  moves : Nat
  gen : Nat
  litS : Nat
  ingress : Nat
  ses : Nat
  placed : Option Nat
  moved : Nat
  traverse : Option Nat
  eplan : Nat
  target : Option Nat
  mayMove : Bool
  req : Option Requester
  check : Option (Nat × Nat)
  after : Option After
  opened : List Nat
  deriving DecidableEq, Repr

/-- A circuit that has left a lit state (R59, R79): its context index, input, path, whether it was scheduled (with its slot), and the
epoch at whose G0 its ports are blanked. -/
structure Leave where
  ctx : Nat
  input : Nat
  route : Nat
  scheduled : Bool
  slot : Nat
  e : Nat
  deriving DecidableEq, Repr

/-- A deferred release (R540): the circuit or grant it concerns and the code it carries. -/
structure Deferred where
  grant : Bool
  index : Nat
  code : Nat
  deriving DecidableEq, Repr

/-- A grant (R66). -/
structure Grant where
  out : Bool
  port : Nat
  grantee : Nat
  owner : Nat
  lease : Nat
  deriving DecidableEq, Repr

/-- What a rearrangement run solves (R95, R102, R109): a circuit request, or the repair of a cell entry in a scope. -/
inductive Goal where
  | request (ctx : Nat)
  | repair (entry : Nat) (slot : Option Nat)
  deriving DecidableEq, Repr

/-- A reservation of lines (R79): the context, its input, the route, whether it holds in one slot only (and which), its tenant, and whether
it is the path the circuit keeps, so that it counts toward cycling. -/
structure Resv where
  ctx : Nat
  input : Nat
  route : Nat
  scheduled : Bool
  slot : Nat
  tenant : Nat
  live : Bool
  deriving DecidableEq, Repr

/-- A rearrangement run (R102): its goal, runs so far, the reservations of its snapshot and the circuits in scope. -/
structure Run where
  goal : Goal
  runs : Nat
  snap : List Resv
  scope : List Nat
  deriving DecidableEq, Repr

/-- Circuit and placement state. The queue holds context indices in order of ingress (R100). -/
structure CirSt where
  ctxs : Tbl Ctx
  grants : Tbl Grant
  leaves : List Leave
  deferred : List Deferred
  deferUntil : Option Nat
  queue : List Nat
  run : Option Run
  waitRuns : List Goal
  /-- repairs found impossible, retried under R110, and whether a retry is due -/
  noRepair : List (Nat × Option Nat)
  retryAt : Option Nat
  /-- grant revocations waiting for their circuits to be released -/
  revokes : List (Nat × Requester)
  /-- policy words in force since the last accepted ENABLE of placement (R97, R112) -/
  policy : Tbl Word
  deriving DecidableEq, Repr

/-! ## Schedules -/

/-- A circuit of a schedule as loaded (R142), at a list position. -/
structure SchRec where
  input : Nat
  output : Nat
  tenant : Nat
  pinned : Bool
  deriving DecidableEq, Repr

/-- A circuit kept in a library entry (R51, R151): its slot, record, route, CYCLING, state kept (0 lights, 8 DARK, 9 FAILED), REASON,
lease and grants. -/
structure SchCir where
  slot : Nat
  rec_ : SchRec
  route : Option Nat
  cycling : Nat
  state : Nat
  reason : Nat
  lease : Nat
  grantIn : Option Nat
  grantOut : Option Nat
  deriving DecidableEq, Repr

/-- A library entry (R147): LSTATE, durations, records by slot·1024 + position, circuits placed, first failure, the load's requester and
the instant of its last frame. The circuits of the ACTIVE entry stand in the circuit table (R51). -/
structure LibEntry where
  lstate : Nat
  durs : List Nat
  recs : Tbl SchRec
  circuits : List SchCir
  reason : Nat
  req : Option Requester
  touched : Nat
  deriving DecidableEq, Repr

/-- The active schedule: entry, durations, start of the current cycle, slot in force, E of the last slot epoch, whether no slot epoch has taken place yet, the slot
frozen, a freeze due at the end of the transition in progress (R185), and the instant from which it may resume (R143, R161, R162). -/
structure Active where
  entry : Nat
  durs : List Nat
  start : Nat
  slot : Nat
  lastE : Nat
  first : Bool
  frozen : Option Nat
  freezeDue : Bool
  resumeAt : Option Nat
  deriving DecidableEq, Repr

/-- An armed swap (R154 to R158). -/
structure Swap where
  target : Option Nat
  esw : Nat
  req : Requester
  opened : List Nat
  past : Bool
  /-- tiles whose standby slot-map bank is not complete -/
  banksMissing : List Nat
  /-- an honoured cancel decided after the point of no return, to act at the decision instant -/
  cancelled : Bool
  deriving DecidableEq, Repr

structure SchSt where
  lib : Tbl LibEntry
  active : Option Active
  swap : Option Swap
  /-- instant of a write of GB_SET that has not become GB_USE (R166) -/
  gbWait : Option Nat
  /-- the last epoch of any kind (R123) -/
  lastE : Nat
  /-- SELF of `SCHD_STS` (R165) -/
  selfs : Bool
  deriving DecidableEq, Repr

/-! ## Traverses -/

/-- One move of a stage (R201): context, old and new route, and whether it is the new circuit of a request. -/
structure Move where
  ctx : Nat
  old : Nat
  new : Nat
  isNew : Bool
  deriving DecidableEq, Repr

/-- One stage (R205): its moves, instant, SSTATE, and waits so far. -/
structure Stage where
  moves : List Move
  e : Nat
  sstate : Nat
  waits : Nat
  deriving DecidableEq, Repr

/-- A traverse of the journal (R197 to R213). `state` is coded as TRV_CUR.STATE; `back` tells that it reverses; `code` is the final code
toward which it runs; `commits` counts stages committed, forward and reverse; `lastK` and `lastE` are those of the last one. -/
structure Trav where
  id : Nat
  origin : Nat
  slotScope : Bool
  slot : Nat
  tenant : Nat
  req : Option Requester
  progress : Option Requester
  state : Nat
  stages : List Stage
  done : Nat
  target : Option Nat
  timed : Bool
  elast : Nat
  back : Bool
  code : Nat
  reason : Nat
  commits : Nat
  lastK : Nat
  lastE : Nat
  suspendDue : Bool
  abortDue : Bool
  deriving DecidableEq, Repr

structure TrvSt where
  journal : List Trav
  last : Option Trav
  nextId : Nat
  rollback : Option Requester
  deriving DecidableEq, Repr

/-! ## Loops -/

/-- A probe in progress (R271 to R276): frame counter, set elements with whether each was lit at START, and the words of its
configuration at START. -/
structure Probe where
  k : Nat
  set : List (Nat × Bool)
  cfg : Word
  amp : Word
  time : Word
  chirp : Word
  deriving DecidableEq, Repr

/-- A learning run (R277 to R279): frame within the pass, pass, repetition, the transmitters that have stopped injecting, the sums s_eh
and s_hh by receiver and candidate (key receiver · 4,096 + candidate), the injection phases of each transmitter in 2^-16 LPU (this frame,
one and two frames ago), and the elements ever lit in the run. -/
structure Learn where
  k : Nat
  pass : Nat
  rep : Nat
  dead : List Nat
  sums : Tbl (Int × Int)
  hist : Tbl (Int × Int × Int)
  deriving DecidableEq, Repr

/-- The loop parameters in force in a tile since its last frame edge (R248, R259). -/
structure LpUse where
  ctl : Word
  gain : Word
  dith : Word
  clamp : Word
  pin : Word
  vhtr : Word
  low : Word
  deriving DecidableEq, Repr

/-- One tile's loop and conversion state. -/
structure TileSt where
  /-- start of the frame in progress, and its end where that has been fixed before its edge (R252) -/
  edge : Nat
  endAt : Option Nat
  /-- a write of P_SET waits for the next edge (R231, R259) -/
  periodDue : Bool
  /-- the loops drive (from the first edge after ENABLE to the first after its clear) -/
  drives : Bool
  /-- the loops have started since POR_N, elements of odd m at dither sign −1 (R237) -/
  signed : Bool
  use : LpUse
  /-- image banks by 32-bit word of the window, and whether each passed its commit check (R264, R267) -/
  bankA : Tbl Word
  bankB : Tbl Word
  passA : Bool
  passB : Bool
  /-- consecutive frames with an abandoned entry (R264), start of the commit checks in progress, frames since PENDING (R268) -/
  abandonRun : Nat
  checking : Option Nat
  pendingFrames : Nat
  probe : Option Probe
  stopDue : Bool
  learn : Option Learn
  applyDue : Bool
  cap : Tbl Word
  xt : Tbl Word
  /-- elements whose output of the frame in progress will not be written (R251) -/
  missed : List Nat
  /-- the hub's mirror, FN of the last stream that ended plus one, and failed streams in a row (R255) -/
  mirror : Tbl Elem
  mirrorK : Nat
  streamFails : Nat
  /-- throttle level in force since the last edge, and table words waiting for the next one (R371, R387) -/
  level : Nat
  tblWait : Tbl Word
  /-- monitor sequence: its start, its run (entry numbers, 16 for the taps) with the list's words and the active slices, its next position,
  whether it is triggered and its FNL; an accepted list that waits; triggered sequences, and the instant of the last trigger (R336, R339,
  R350) -/
  seqStart : Nat
  seqRun : List Nat
  seqList : List Word
  seqSlices : List Nat
  seqNext : Nat
  seqTrig : Bool
  seqFn : Nat
  truncRun : Bool
  listWait : Option (List Word)
  trigCount : Nat
  trigT : Nat
  rotFrames : Nat
  retireDue : Option Nat
  /-- reference checks made without a spare, and consecutive failed checks by slice (R485) -/
  refCount : Nat
  refBad : Tbl Nat
  /-- start and end of the last window of each bank, with its sequence's start -/
  windows : Tbl (Nat × Nat × Nat)
  /-- integrator channels whose next sample carries SETTLE, and slices whose next conversion does (R347, R348, R353) -/
  settle : List Nat
  sliceSettle : List Nat
  smp : Tbl Word
  taps : Tbl Word
  tapWin : Tbl (Nat × Nat × Nat)
  corr : Tbl Word
  corrWait : List (Nat × Word × Nat)
  /-- housekeeping: start of the round, masks in force, rounds in a row that a channel has read outside its limits; sensors: suspect counts, substitutes, last readings
  with their instants, and sensors whose reading of this round has been posted -/
  round : Nat
  mask : List Word
  supplyOut : Tbl Nat
  suspect : Tbl Nat
  subst : Tbl Int
  reading : Tbl Int
  readAt : Tbl Nat
  prevReading : Tbl Int
  posted : List Nat
  anchor : Option Nat
  deriving DecidableEq, Repr

/-! ## Drive -/

/-- A heater channel (R288 to R300): shadow with its last tag and, while it waits, the instant from which it may act; active duty; tagged
duty held with the instant it arrived; SWAP and INV in force; carried on-time; whether arm B is centred; widths emitted in the window
on HTA and HTB. -/
structure HtrCh where
  shadow : Nat
  tag : Nat
  wait : Option Nat
  active : Nat
  tagged : Option (Nat × Nat)
  swap : Bool
  inv : Bool
  acc : Nat
  centreB : Bool
  wA : Nat
  wB : Nat
  deriving DecidableEq, Repr

/-- A heater bank: whether its carrier runs, the instant of its next update point, dither step, armed TOP with its tag, update points since
the arming, and a clear of ENABLE that waits (R284, R291, R297 to R300). -/
structure HtrBank where
  runs : Bool
  next : Nat
  step : Nat
  armed : Option (Nat × Nat)
  age : Nat
  offDue : Bool
  deriving DecidableEq, Repr

/-- A fast-drive channel (R304 to R313): shadow and active code and range, and the instant of a host write that waits for
its strobe. -/
structure FdCh where
  code : Nat
  range : Nat
  active : Nat
  rangeUse : Nat
  pend : Option Nat
  deriving DecidableEq, Repr

structure DrvSt where
  htr : Grp HtrCh
  banks : Tbl HtrBank
  fd : Grp FdCh
  /-- every PWM and fast-drive output has been turned off by a shutdown or a power failure -/
  off : Bool
  deriving DecidableEq, Repr

/-! ## Calibration and thermal management -/

/-- A recalibration of a tile (R373 to R376): full or quick, its step, the bank in progress in steps 3 and 4, channels of that bank measured,
abandonments of the part in progress, the instant since which the step or part waits, the start of its hold, the fast-drive channel held,
banks deferred, channels measured in step 4, and the junction reading of step 1. -/
structure Recal where
  full : Bool
  step : Nat
  part : Nat
  count : Nat
  abandoned : Nat
  since : Nat
  started : Option Nat
  held : Option Nat
  skipped : List Nat
  done : List Nat
  temp : Int
  deriving DecidableEq, Repr

structure CalSt where
  queue : List Nat
  recal : Tbl Recal
  lastDone : Tbl Nat
  /-- table words by tile·2^18 + table·2^16 + address; an unlisted word reads as manufacture gave it -/
  tables : Tbl Word
  fdNext : Tbl Nat
  /-- base camp has been completed by these tiles since POR_N -/
  camped : List Nat
  loaded : Bool
  deriving DecidableEq, Repr

/-- Throttle state (R382 to R391): quiet rounds in a row, the last sensor failure, the values in use at each tile's last check, the highest
of them in the last whole round, sensors whose count of suspect rounds began when they were the hottest (with their last good reading), the
highest hub reading since the last round, whether a sensor was suspect in this round, the tiles checked in it, and policy words in force
where they differ from the registers, with the accepted writes that wait for the next round (R394). -/
structure ThmSt where
  quiet : Nat
  lastFail : Option Nat
  useLast : Tbl Int
  hotMax : Int
  firstHot : Tbl Int
  hubMax : Int
  suspectRound : Bool
  seen : List Nat
  pol : Tbl Word
  polWait : List (Nat × Word × Nat)
  deriving DecidableEq, Repr

/-- The state of the block: waiting commands, device time in 2^-32 ns, draws of free values, registers, the last word read, and the
state of each chapter. -/
structure State where
  pending : List Instr
  t : Nat
  free : Nat
  regs : Tbl Word
  bus : Word
  tm : TimeSt
  cmd : CmdSt
  evt : EvtSt
  net : NetSt
  svc : SvcSt
  nv : NvSt
  fab : FabSt
  cir : CirSt
  sch : SchSt
  trv : TrvSt
  tiles : Tbl TileSt
  drv : DrvSt
  cal : CalSt
  thm : ThmSt
  deriving DecidableEq, Repr

/-! ## Reset -/

def TimeSt.reset : TimeSt :=
  { inc := 2 ^ 32, heldHi := none, step := none, master := false, lockRun := 0, lastSync := 0, lastPps := none, ppsUnread := false,
    ppsHighUntil := none }

def CmdSt.reset : CmdSt :=
  { keys := [], sessions := [], nextUid := 1, txSeq := [], nonces := [], posted := [], mbxOutstanding := [], mbxSubs := [], mbxUid := 0,
    held := [], fullSince := none, stallReported := false, msixCompletion := [], msixAlert := [], ingress := [], outQ := [], sent := [] }

def EvtSt.reset : EvtSt :=
  { ring := [], opens := [], tileQ := [], lostRun := false, lastFlush := 0, flushDue := none, block := none, blockNumber := 0, logBlocks := [],
    mirror := [], rate := [], lastWearSave := 0, tileLostAt := 0 }

def NetSt.reset : NetSt := { policers := [], queues := [], gates := [], sas := [], lineBusy := [] }

/-- The module with POR_N low: no processor group has booted. -/
def SvcSt.reset : SvcSt :=
  { por := false, ctrlReset := false, fwRuns := false, resetAt := none, freezeEnd := none, outAt := 0, rstRise := 0, bootStart := 0,
    bootTries := 0, bootRefused := 0, pfail := false, pfailAt := 0, active := ⟨0, 0⟩, standby := ⟨0, 0⟩, keptSince := none, fw := none,
    staged := [], spare0 := none, spare1 := none, fence := [], engTest := [], crvHost := [], crvAuto := [], reports := [], causes := [],
    eccBiv := false, refLost := false, holdover := [], frozenTiles := [], refGoodSince := none, lastMark := 0, ddrLost0 := false,
    ddrLost1 := false, jtag := .bypass, jtagDr := 0 }

/-- Fuses, flash and log store as a module leaves manufacture (DESIGN CHOICE: the spec gives their contents no value). -/
def NvSt.reset : NvSt :=
  { arbMin := 0, cfgA := ⟨0, true, [], [], []⟩, cfgB := ⟨0, true, [], [], []⟩, wearA := ⟨0, 0, true, []⟩, wearB := ⟨0, 0, true, []⟩,
    cairn := [], calHeld := false, calArea := [], logNext := 0, emergency := false }

def FabSt.reset : FabSt :=
  { noOpen := true, cells := [], elems := [], ports := [], waits := [], guard := [], trans := [], selfRun := [], xlast := (0, 0, 0),
    epochOut := none, syncOut := none }

def CirSt.reset : CirSt :=
  { ctxs := [], grants := [], leaves := [], deferred := [], deferUntil := none, queue := [], run := none, waitRuns := [], noRepair := [],
    retryAt := none, revokes := [], policy := [] }

def SchSt.reset : SchSt := { lib := [], active := none, swap := none, gbWait := none, lastE := 0, selfs := false }

def TrvSt.reset : TrvSt := { journal := [], last := none, nextId := 0, rollback := none }

def DrvSt.reset : DrvSt := { htr := [], banks := [], fd := [], off := false }

def CalSt.reset : CalSt := { queue := [], recal := [], lastDone := [], tables := [], fdNext := [], camped := [], loaded := false }

def ThmSt.reset : ThmSt :=
  { quiet := 0, lastFail := none, useLast := [], hotMax := -32_768, firstHot := [], hubMax := -32_768, suspectRound := false, seen := [],
    pol := [], polWait := [] }

/-- What a cold reset leaves (R3, R6): every domain reset and the retained region cleared, POR_N low; fuses, flash and log store as given. -/
def State.cold (nv : NvSt) : State :=
  { pending := [], t := 0, free := 0, regs := [], bus := 0, tm := .reset, cmd := .reset, evt := .reset, net := .reset, svc := .reset,
    nv := nv, fab := .reset, cir := .reset, sch := .reset, trv := .reset, tiles := [], drv := .reset, cal := .reset, thm := .reset }

/-- The machine right after reset: POR_N low, every register at the Reset value of its table. -/
def State.reset : State := .cold .reset

end Sys2Proof.Machine
end

