-- ==== Sys2Proof/Machine/Ops.lean ====
section
/-!
DEFINITION. Sys2Proof/Machine/Ops.lean: the operations every chapter shares: registers and their fields, device time, occurrences of
event sources and the recorder ring (R446 to R456), and the frames the device sends.
-/
namespace Sys2Proof.Machine

/-! ## Registers -/

/-- The stored word of a register; an unlisted register holds its reset value. -/
def State.rd (s : State) (a : Nat) : Word := Tbl.getD s.regs a (resetWord a)

/-- The state with a register's stored word replaced. -/
def State.wr (s : State) (a : Nat) (w : Word) : State := { s with regs := Tbl.set (resetWord a) s.regs a w }

/-- The value of a field. -/
def State.get (s : State) (f : Fld) : Nat := bits (s.rd f.addr) f.hi f.lo

/-- Whether a one-bit field reads 1. -/
def State.flag (s : State) (f : Fld) : Bool := s.get f == 1

/-- The state with a field set. -/
def State.put (s : State) (f : Fld) (v : Nat) : State := s.wr f.addr (setBits (s.rd f.addr) f.hi f.lo v)

/-- A counter field counted up once, saturating. -/
def State.count (s : State) (f : Fld) : State := s.put f (satInc (f.hi + 1 - f.lo) (s.get f))

/-- A counter field counted up `k` times, saturating. -/
def State.countN (s : State) (f : Fld) (k : Nat) : State := s.put f (min (s.get f + k) (2 ^ (f.hi + 1 - f.lo) - 1))

/-- A whole register as one field. -/
def whole (a : Nat) : Fld := ⟨a, 31, 0⟩

/-- The fields of the register at `a`. -/
def fieldsAt (a : Nat) : List RField := match regRow a with
  | none => []
  | some r => r.fields

/-- A host write taken by the register at `a` (R15, R16). -/
def State.take (s : State) (a : Nat) (v : Word) : State := s.wr a (writeFields (fieldsAt a) (s.rd a) v)

/-- Whether a write of `v` at `a` would change an RWC field (R538). -/
def State.rwcHit (s : State) (a : Nat) (v : Word) : Bool := changesRwc (fieldsAt a) (s.rd a) v

/-- Whether a write at `a` sets the action bit `f` of its register to 1. -/
def asks (f : Fld) (v : Word) : Bool := bits v f.hi f.lo == 1

/-! ## Device time (R116, R118, R119) -/

/-- Device time in whole nanoseconds, SEC · 10^9 + NS. -/
def State.now (s : State) : Nat := s.t / 2 ^ 32

/-- Schedule time of an instant (R118). -/
def sched (n : Nat) : Nat := n % 2 ^ 48

/-- TAI second of an instant (R116). -/
def tai (n : Nat) : Nat := n / 1_000_000_000

/-- The signed 48-bit difference target − now of R119. -/
def d48 (target now : Nat) : Int :=
  let d : Nat := (target % 2 ^ 48 + 2 ^ 48 - now % 2 ^ 48) % 2 ^ 48
  if 2 ^ 47 ≤ d then (d : Int) - (2 : Int) ^ 48 else (d : Int)

/-- Device time brought up to an instant, never back: the instant at which a timed step takes place. -/
def State.advanceTo (s : State) (n : Nat) : State := { s with t := max s.t (n * 2 ^ 32) }

/-- The instant nearest to `now` with the given schedule time (R120). -/
def nearest (target now : Nat) : Nat := ((now : Int) + d48 target now).toNat

/-- A draw of a free value: the counter is advanced. -/
def State.draw (s : State) : State := { s with free := s.free + 1 }

/-! ## Where the device stands -/

/-- The stage of `GLB_BOOT`.STAGE (R499). -/
def State.stage (s : State) : Nat := s.get R.GLB_BOOT_STAGE

/-- The hub is in service: firmware runs, the control domain is out of reset and no failover freeze holds it (R460, R472). -/
def State.hubIn (s : State) : Bool :=
  s.svc.por && s.svc.fwRuns && !s.svc.ctrlReset && s.svc.freezeEnd.isNone

/-- The control domain runs: as `hubIn`, a freeze included. -/
def State.ctrlUp (s : State) : Bool := s.svc.por && s.svc.fwRuns && !s.svc.ctrlReset

/-- Requests are accepted (R499: READY). -/
def State.ready (s : State) : Bool := s.ctrlUp && s.stage == 6

/-! ## Frames the device sends (R396, R397, R408) -/

/-- A frame made by the current step; `flushOut` puts it into its queue at the end of the step. -/
def State.emit (s : State) (m : OutMsg) : State := { s with cmd.outQ := s.cmd.outQ ++ [m] }

/-- The mailbox runs (R420). -/
def State.mbxOn (s : State) : Bool := s.flag R.CMD_MBX_CFG_ENABLE

/-! ## The record (R448) -/

/-- The eight words of a record (R448). -/
def Rec.words (r : Rec) : List Nat :=
  [ r.src % 2 ^ 11 * 2 ^ 21 + r.tenant % 64 * 2 ^ 15 + r.subj % 4 * 2 ^ 13 + b2n r.open_ * 2 ^ 12 + b2n r.vol * 2 ^ 11 +
      b2n r.pfail * 2 ^ 10 + r.gen % 256,
    r.seq % 2 ^ 32,
    r.rep % 2 ^ 16 * 2 ^ 16 + sched r.first / 2 ^ 32,
    sched r.first % 2 ^ 32,
    sched r.last % 2 ^ 32,
    r.code % 2 ^ 16 * 2 ^ 16 + r.aux % 2 ^ 16,
    r.idx % 2 ^ 18,
    r.data % 2 ^ 32 ]

/-- A slot of the ring that no record has taken. -/
def Rec.empty : Rec := ⟨0, 0, 0, false, false, false, 0, 0, 0, 0, 0, 0, 0, 0, 0⟩

/-- A record as bytes, big-endian word by word (R448). -/
def Rec.bytes (r : Rec) : List Byte := r.words.flatMap (natBe 4)

/-- Whether session `x` receives a notice of the record (R454, NOTIFY apart). -/
def noticeFor (subs : List Nat) (tenant : Nat) (r : Rec) : Bool :=
  subs.contains r.src && (tenant == 0 || tenantVisible r.src && (r.tenant == tenant || r.subj == 0))

/-- A notice frame to an open session (R418, R398: to the source of its SES_OPEN). -/
def noticeTo (i : Nat) (x : Session) (code at_ : Nat) (params : List Byte) : OutMsg :=
  { kind := .notice, final := true, sess := i, uid := x.uid, tenant := x.tenant, reqId := 0, opcode := 0x8000, code := code,
    stamp := at_, params := params, key := .session x.key, port := x.port, addr := x.addr, udp := x.udp }

/-- A notice to the mailbox session (R400). -/
def noticeMbx (uid code at_ : Nat) (params : List Byte) : OutMsg :=
  { kind := .notice, final := true, sess := 32, uid := uid, tenant := 0, reqId := 0, opcode := 0x8000, code := code,
    stamp := at_, params := params, key := .none, port := 4, addr := 0, udp := 0 }

/-- The notices of a record, one to each session that R454 admits, or to every session with a subscription (R461). -/
def State.notify (s : State) (r : Rec) (at_ : Nat) (every : Bool) : State :=
  let want (subs : List Nat) (tenant : Nat) : Bool := if every then !subs.isEmpty else noticeFor subs tenant r
  let s := s.cmd.sessions.foldl (fun s e =>
    if want e.2.subs e.2.tenant then s.emit (noticeTo e.1 e.2 r.code at_ r.bytes) else s) s
  if s.mbxOn && want s.cmd.mbxSubs 0 then s.emit (noticeMbx s.cmd.mbxUid r.code at_ r.bytes) else s

/-- A record written into its slot: GEN counts the writes of the slot (R448, R450). -/
def State.writeSlot (s : State) (r : Rec) : State × Rec :=
  let slot := r.seq % 16_384
  let r' := { r with gen := ((Tbl.getD s.evt.ring slot Rec.empty).gen + 1) % 256 }
  ({ s with evt.ring := Tbl.put s.evt.ring slot r' }, r')

/-- An open record written with what has joined since its previous write (R450). -/
def State.writeOpen (s : State) (o : OpenRec) (close : Bool) (at_ : Nat) : State × OpenRec :=
  let r := { o.rec_ with rep := min (o.rec_.rep + o.joined) 0xFFFF, last := if o.joined = 0 then o.rec_.last else o.lastJoin,
                         open_ := !close }
  let (s, r) := s.writeSlot r
  (s, { o with rec_ := r, writtenAt := at_, joined := 0 })

/-- The close of the open record of a source: written at once, with a second notice when REPEAT exceeds 1 (R449, R450). -/
def State.closeRec (s : State) (src at_ : Nat) : State :=
  match s.evt.opens.find? (·.rec_.src == src) with
  | none => s
  | some o =>
    let (s, o') := s.writeOpen o true at_
    let s := { s with evt.opens := s.evt.opens.filter (·.rec_.src != src) }
    if o'.rec_.rep > 1 && s.flag (R.EVT_SRC_NOTIFY src) then s.notify o'.rec_ at_ false else s

/-- A new record of an occurrence (R448, R456): it takes the slot of `EVT_HEAD`. The Boolean tells whether it overwrote an
unflushed record. -/
def State.newRecord (s : State) (o : Occ) (at_ : Nat) (open_ pfail : Bool) : State × Rec × Bool :=
  let head := s.get (whole R.EVT_HEAD)
  let flushed := s.get (whole R.EVT_FLUSHED)
  let full := decide (16_384 ≤ (head + 2 ^ 32 - flushed) % 2 ^ 32)
  let r : Rec := { src := o.src, tenant := o.tenant, subj := o.subj, open_ := open_, vol := false, pfail := pfail, gen := 0,
                   seq := head, rep := 1, first := at_, last := at_, code := o.code,
                   aux := o.aux.getD (Config.occAux o.src s.free).toNat, idx := o.idx,
                   data := o.data.getD (Config.occData o.src s.free).toNat }
  let (s, r) := s.draw.writeSlot r
  let s := s.put (whole R.EVT_HEAD) (head + 1)
  let s := if full then (s.count (whole R.EVT_LOST)).put (whole R.EVT_FLUSHED) (flushed + 1) else s
  (s, r, full)

/-- A flush of the ring due by an instant (R457). -/
def State.flushBy (s : State) (n : Nat) : State :=
  { s with evt.flushDue := some (match s.evt.flushDue with
    | none => n
    | some m => min m n) }

/-- What the ALERT and FLUSH bits of a source do at a first occurrence (R447, R450, R453, R457). -/
def State.alertFlush (s : State) (src at_ : Nat) : State :=
  let s := if s.flag (R.EVT_SRC_ALERT src) then
      let f : Fld := ⟨R.EVT_PEND (src / 32), src % 32, src % 32⟩
      s.put f 1
    else s
  if s.flag (R.EVT_SRC_FLUSH src) then s.flushBy (at_ + 1_000_000) else s

/-- One occurrence recorded, signalled and notified at instant `at_` (R447, R449, R450, R453, R454);
EV 8 is sent to every session that holds a subscription (R461). The Boolean tells whether
an unflushed record was overwritten. -/
def State.recordOcc (s : State) (o : Occ) (at_ : Nat) : State × Bool :=
  let coal := s.get (R.EVT_SRC_COAL o.src) * 1_000_000
  let every := o.src == Ev.logStoreFailed
  let notifyOn := s.flag (R.EVT_SRC_NOTIFY o.src) || every
  if s.flag (R.EVT_SRC_REC o.src) = false then
    let s := s.alertFlush o.src at_
    let r : Rec := { Rec.empty with
      src := o.src, tenant := o.tenant, subj := o.subj, rep := 1, first := at_, last := at_, code := o.code,
      aux := o.aux.getD (Config.occAux o.src s.free).toNat, idx := o.idx,
      data := o.data.getD (Config.occData o.src s.free).toNat }
    (if notifyOn then s.draw.notify r at_ every else s.draw, false)
  else if coal = 0 then
    let (s, r, full) := s.newRecord o at_ false false
    let s := s.alertFlush o.src at_
    (if notifyOn then s.notify r at_ every else s, full)
  else
    match s.evt.opens.find? (fun x => x.rec_.src == o.src && x.rec_.subj == o.subj && x.rec_.idx == o.idx &&
        x.rec_.code == o.code && decide (at_ < x.openedAt + coal)) with
    | some x =>
      ({ s with evt.opens := s.evt.opens.map fun y =>
          if y.rec_.src == x.rec_.src then { y with joined := y.joined + 1, lastJoin := at_ } else y }, false)
    | none =>
      let s := s.closeRec o.src at_
      let (s, r, full) := s.newRecord o at_ true false
      let s := { s with evt.opens := s.evt.opens ++ [OpenRec.mk r at_ at_ 0 at_] }
      let s := s.alertFlush o.src at_
      (if notifyOn then s.notify r at_ every else s, full)

/-- An occurrence of an event source with no stated AUX or DATA. -/
def occ (src : Nat) (code : Nat := 0) : Occ := ⟨src, 0, 0, 0, code, none, none⟩

/-- One occurrence taken by the recorder; the first unflushed overwrite of a run raises EV 13 (R456). -/
def State.record (s : State) (o : Occ) (at_ : Nat) : State :=
  let (s, full) := s.recordOcc o at_
  if full then
    if s.evt.lostRun then s
    else ({ s with evt.lostRun := true }.recordOcc (occ Ev.unflushedOverwrite) at_).1
  else { s with evt.lostRun := false }

/-- An occurrence of an event source now (R446, R460): recorded while the hub is in service; otherwise a tile occurrence waits in
its tile's queue of 512 and is counted lost beyond it, and a hub occurrence is lost. -/
def State.raise (s : State) (o : Occ) : State :=
  if s.hubIn then s.record o s.now
  else if o.src < 256 then s
  else
    let tile := (o.src - 256) / 64
    if (s.evt.tileQ.filter fun q => (q.1.src - 256) / 64 == tile).length < 512 then
      { s with evt.tileQ := s.evt.tileQ ++ [(o, s.now)] }
    else s.count (whole R.EVT_TILE_LOST)

/-- An occurrence carrying a reason code only. -/
def State.ev (s : State) (src : Nat) (code : Nat := 0) : State := s.raise (occ src code)

/-- A refusal: its code in a REFUSE field, and its event (R13, R538). -/
def State.refuse (s : State) (f : Fld) (src code : Nat) : State := (s.put f code).ev src code

/-- A host write of a register whose RWC fields are locked while `en` reads 1: discarded whole with `code`, or taken (R538). -/
def State.lockedWrite (s : State) (a : Nat) (en re : Fld) (src code : Nat) (v : Word) : State :=
  if s.flag en && s.rwcHit a v then s.refuse re src code else s.take a v

/-- A host write of a register that holds an ENABLE bit (R13, R538): a change of an RWC field while ENABLE reads 1 is discarded whole
with `lock`; setting ENABLE runs the consistency check, and a refusal leaves the other fields and ENABLE at 0. -/
def State.ctlWrite (s : State) (a : Nat) (en re : Fld) (src lock : Nat) (check : State → Option Nat) (v : Word) : State :=
  if s.flag en && s.rwcHit a v then s.refuse re src lock
  else
    let was := s.flag en
    let s := s.take a v
    if !was && s.flag en then
      match check s with
      | none => s
      | some code => (s.put en 0).refuse re src code
    else s

/-- An occurrence about a circuit context (R448: SUBJ 0b01). -/
def State.evCtx (s : State) (src ctx tenant : Nat) (code : Nat := 0) : State :=
  s.raise { occ src code with subj := 1, idx := ctx, tenant := tenant }

/-- An occurrence about a port; output ports have bit 10 of the index set (R448: SUBJ 0b10). -/
def State.evPort (s : State) (src : Nat) (out : Bool) (port tenant : Nat) (code : Nat := 0) : State :=
  s.raise { occ src code with subj := 2, idx := port + b2n out * 1024, tenant := tenant }

/-- An occurrence about an element (R448: SUBJ 0b11). -/
def State.evElem (s : State) (src e : Nat) (code : Nat := 0) : State :=
  s.raise { occ src code with subj := 3, idx := e }

/-- An occurrence raised at most once per second per source and index. -/
def State.evOncePerSecond (s : State) (src key : Nat) (o : Occ) : State :=
  let k := src * 2 ^ 12 + key
  let lastAt := Tbl.getD s.evt.rate k 0
  if lastAt = 0 || decide (lastAt + 1_000_000_000 ≤ s.now + 1) then
    { s.raise o with evt.rate := Tbl.put s.evt.rate k (s.now + 1) }
  else s

/-! ## Completions (R407, R408) -/

/-- Whether the session of a requester is still open (R408). -/
def State.sessionLive (s : State) (r : Requester) : Bool :=
  if r.sess = 32 then s.mbxOn && r.uid == s.cmd.mbxUid
  else match Tbl.look s.cmd.sessions r.sess with
    | none => false
    | some x => x.uid == r.uid

/-- The request no longer awaits a final completion. -/
def State.endRequest (s : State) (r : Requester) : State :=
  if r.sess = 32 then { s with cmd.mbxOutstanding := s.cmd.mbxOutstanding.erase r.reqId }
  else match Tbl.look s.cmd.sessions r.sess with
    | none => s
    | some x => { s with cmd.sessions := Tbl.put s.cmd.sessions r.sess { x with outstanding := x.outstanding.erase r.reqId } }

/-- The frame that answers a requester: its route, key and echoes (R396, R398, R403). -/
def State.answer (s : State) (r : Requester) (kind : OutKind) (final : Bool) (code : Nat) (params : List Byte) : OutMsg :=
  let x := Tbl.look s.cmd.sessions r.sess
  let key := match x with
    | some x => TagKey.session x.key
    | none => TagKey.none
  { kind := kind, final := final, sess := r.sess, uid := r.uid, tenant := r.tenant, reqId := r.reqId, opcode := r.opcode,
    code := code, stamp := r.stamp, params := params, key := if r.sess = 32 then .none else key,
    port := r.port, addr := r.addr, udp := r.udp }

/-- A completion of a request (R407). One whose session has closed is discarded and counted, and EV 39 is raised (R408). -/
def State.complete (s : State) (r : Requester) (final : Bool) (code : Nat) (params : List Byte) : State :=
  if s.sessionLive r then
    let s := s.emit (s.answer r .completion final code params)
    if final then s.endRequest r else s
  else (s.count (whole (R.CMD_CNT 5))).ev Ev.completionDiscarded

/-- A completion of a request that may have no requester (the device's own work). -/
def State.completeOpt (s : State) (r : Option Requester) (final : Bool) (code : Nat) (params : List Byte) : State :=
  match r with
  | none => s
  | some r => s.complete r final code params

end Sys2Proof.Machine
end

