-- ==== Sys2Proof/Machine/Plant.lean ====
section
/-!
DEFINITION. Sys2Proof/Machine/Plant.lean: the geometry of the photonic plant: lines, stages, cells, elements, endpoints and paths
(R17 to R32, R77), and the grid of instants (R125).
-/
namespace Sys2Proof.Machine

/-- Stage bit b(s) (R19). -/
def stageBit (s : Nat) : Nat := if s = 0 then 0 else if s ≤ 9 then 10 - s else s - 10

/-- Bit `b` of a line, as a Boolean. -/
def lineBit (l b : Nat) : Bool := l / 2 ^ b % 2 == 1

/-- A line with bit `b` replaced (R21). -/
def lineSet (l b : Nat) (v : Bool) : Nat := l - l / 2 ^ b % 2 * 2 ^ b + b2n v * 2 ^ b

/-- The cell in which a line lies at a stage: the line with its stage bit removed (R22). -/
def cellOf (s l : Nat) : Nat := let b := stageBit s; l / 2 ^ (b + 1) * 2 ^ b + l % 2 ^ b

/-- The line of a cell on a side (R22): `low` for the lower side. -/
def lineOf (s c : Nat) (low : Bool) : Nat := let b := stageBit s; c / 2 ^ b * 2 ^ (b + 1) + b2n low * 2 ^ b + c % 2 ^ b

/-- One stage of a path: cell position s·512 + c, whether it enters and leaves on the lower side, and the line it leaves on. -/
structure Hop where
  pos : Nat
  enter : Bool
  leave : Bool
  line : Nat
  deriving DecidableEq, Repr

/-- The state a hop needs of its cell: true for CROSS (R21). -/
def Hop.cross (h : Hop) : Bool := h.enter != h.leave

/-- The hops of a route word from stage `s`, starting on line `l` (R20 to R22). -/
def hopsFrom (route : Nat) (n s l : Nat) : List Hop :=
  match n with
  | 0 => []
  | n + 1 =>
    let out := lineBit route s
    let l' := lineSet l (stageBit s) out
    ⟨s * 512 + cellOf s l, lineBit l (stageBit s), out, l'⟩ :: hopsFrom route n (s + 1) l'

/-- The path of a route word from input `i`, the same in both planes (R18, R20). -/
def path (i route : Nat) : List Hop := hopsFrom route 20 0 i

/-- The route word of a middle line to output `j` (R23, R77). -/
def routeOf (j m : Nat) : Nat :=
  j * 1024 + m % 2 + ((List.range 9).foldl (fun a k => a + b2n (lineBit m (9 - k)) * 2 ^ (k + 1)) 0)

/-- The middle line of a route word (R77). -/
def middleOf (route : Nat) : Nat :=
  route % 2 + ((List.range 9).foldl (fun a k => a + b2n (lineBit route (k + 1)) * 2 ^ (9 - k)) 0)

/-- Elements of a plane, and of the module. -/
def planeElems : Nat := 40_960

/-- Element index of cell position `pos`, member `m`, in plane `p` (R18). -/
def elemOf (p pos m : Nat) : Nat := p * planeElems + pos * 4 + m

/-- Cell position of an element, without its plane. -/
def posOf (e : Nat) : Nat := e % planeElems / 4

/-- Tile of an element (R31). -/
def tileOf (e : Nat) : Nat := e / 4096

/-- Tile of a cell position in a plane. -/
def tileOfPos (p pos : Nat) : Nat := p * 10 + pos / 1024

/-- Cell entry of `PLC_CELL_LOSS_n` and of the crevasse map (R114). -/
def cellEntry (p pos : Nat) : Nat := p * 10_240 + pos

/-- Sensor over an element (R32). -/
def sensorOf (e : Nat) : Nat := e / 32

/-- The splitter and the combiner that a hop uses (R26). -/
def Hop.members (h : Hop) : List Nat := [b2n h.enter, 2 + b2n h.leave]

/-- The light-carrying elements of a path in one plane (R26). -/
def pathElems (p : Nat) (hs : List Hop) : List Nat := hs.flatMap fun h => h.members.map (elemOf p h.pos)

/-- The light-carrying elements of a path in both planes. -/
def pathAll (hs : List Hop) : List Nat := pathElems 0 hs ++ pathElems 1 hs

/-- Whether the wanted monitor of an element is MDX: a splitter in CROSS (R28). -/
def wantedX (e : Nat) (cross : Bool) : Bool := cross && decide (e % 4 < 2)

/-- Endpoint index of an element's endpoint of kind `k` (R29, R30). -/
def elemEndpoint (e k : Nat) : Nat := 6 * e + k

/-- Endpoint index of a port's tap, blanker or latch (R30). -/
def portEndpoint (out : Bool) (p k : Nat) : Nat := (if out then 494_592 else 491_520) + 3 * p + k

/-- Endpoint index of a temperature sensor (R30). -/
def sensorEndpoint (n : Nat) : Nat := 497_664 + n

/-- Tile of an endpoint (R31). -/
def endpointTile (x : Nat) : Nat :=
  if x < 491_520 then x / 24_576 else if x < 494_592 then 0 else if x < 497_664 then 9 else (x - 497_664) / 128

/-! ## The grid (R125) -/

/-- Whether a schedule time is a grid point of period `p`. -/
def isGrid (p n : Nat) : Bool :=
  let t := n % 2 ^ 48
  t % p == 0 && !(decide (2 ^ 48 % p < p / 2) && t != 0 && t == 2 ^ 48 - 2 ^ 48 % p)

/-- The first grid point of period `p` at or after an instant. -/
def gridFrom (p n : Nat) : Nat :=
  let base := n / 2 ^ 48 * 2 ^ 48
  let k := (n - base + p - 1) / p * p
  if 2 ^ 48 ≤ k then base + 2 ^ 48
  else if isGrid p k then base + k
  else base + 2 ^ 48

/-- The grid of persistent epochs (R125, R163). -/
def persGrid : Nat := 50_000

/-- Key of a port: outputs stand 1,024 above inputs. -/
def portKey (out : Bool) (p : Nat) : Nat := b2n out * 1024 + p

end Sys2Proof.Machine
end

