-- ==== Sys2Proof/Machine/Fabric.lean ====
section
/-!
DEFINITION. Sys2Proof/Machine/Fabric.lean: cells, elements, ports and circuits as every chapter reads and writes them: light on the
fabric, home states, element status (R244), the crevasse map (R482), blanking sources (R314), latch pulses (R317 to R324), the guard
(R41 to R47), fault reports (R484), and the switch-element side of the fast drive (R186, R370).
-/
namespace Sys2Proof.Machine

/-! ## Defaults -/

/-- An element as POR_N leaves it: DARKHOLD in BAR, AGE_H and AGE_P at 0xFF (TILE_LP_EST table). -/
def Elem.reset : Elem :=
  { lowlight := false, clamp := false, skip := false, dflip := false, trimmed := false, psign := false, hsign := false, htr := 0,
    integ := 0, ffx := 0, pinTrim := 0, ageH := 255, ageP := 255, ratHome := 0, ratPin := 0, wLast := 0, duty := 0, drv := 0,
    perr := 0, clampRun := 0, trimRun := 0, pinCode := none, home := false, stale := false, belay := none, belayDue := false,
    prov := none, gen := 0, pinPh := 0, hmod := 0, clampTold := false, since := 0, pinOff := 0, out := none }

/-- A port as POR_N leaves it: LSTATE DARK, not sensed, no request (TILE_FD_PORT table). -/
def Port.reset : Port := { lstate := 0, sense := 3, epo := false, flt := false, tries := 0, pulse := none, worn := false }

/-- An idle context (R55). -/
def Ctx.idle : Ctx :=
  { state := 0, scheduled := false, pinned := false, tenant := 0, reason := 0, input := 0, cycling := 0, route := none, reqId := 0,
    epoch := 0, sched := 0, lease := 0, grantIn := none, grantOut := none, loss := 0, outPwr := 0, moves := 0, gen := 0, litS := 0,
    ingress := 0, ses := 0, placed := none, moved := 0, traverse := none, eplan := 0, target := none, mayMove := false, req := none,
    check := none, after := none, opened := [] }

/-- A tile's loop and conversion state at POR_N: parameter registers and lists at their reset values. -/
def TileSt.reset : TileSt :=
  { edge := 0, endAt := none, periodDue := false, drives := false, signed := false,
    use := ⟨resetWord (R.TILE_LP_CTL 0), resetWord (R.TILE_LP_GAIN 0), resetWord (R.TILE_LP_DITH 0), resetWord (R.TILE_LP_CLAMP 0),
            resetWord (R.TILE_LP_PIN 0), resetWord (R.TILE_LP_VHTR 0), resetWord (R.TILE_LP_LOW 0)⟩,
    bankA := [], bankB := [], passA := false, passB := false, abandonRun := 0, checking := none, pendingFrames := 0, probe := none,
    stopDue := false, learn := none, applyDue := false, cap := [], xt := [], missed := [], mirror := [], mirrorK := 0, streamFails := 0,
    level := 0, tblWait := [], seqStart := 0, seqRun := [], seqList := [], seqSlices := [], seqNext := 0, seqTrig := false, seqFn := 0, truncRun := false,
    listWait := none, trigCount := 0, trigT := 0, rotFrames := 0, retireDue := none, refCount := 0, refBad := [], windows := [], settle := [], sliceSettle := [], smp := [],
    taps := [], tapWin := [], corr := [], corrWait := [], round := 0, mask := List.replicate 6 0xFFFF_FFFF,
    supplyOut := [], suspect := [], subst := [], reading := [], readAt := [], prevReading := [], posted := [], anchor := none }

/-! ## Access -/

def State.elem (s : State) (e : Nat) : Elem := Grp.getD s.fab.elems e Elem.reset
def State.setElem (s : State) (e : Nat) (x : Elem) : State := { s with fab.elems := Grp.set Elem.reset s.fab.elems e x }

/-- The listed elements, and those of a tile. -/
def State.elems (s : State) : List (Nat × Elem) := Grp.entries s.fab.elems
def State.elemsOf (s : State) (t : Nat) : List (Nat × Elem) := Grp.entries (s.fab.elems.filter fun g => g.1 / 16 == t)

def State.port (s : State) (k : Nat) : Port := Tbl.getD s.fab.ports k Port.reset
def State.setPort (s : State) (k : Nat) (x : Port) : State := { s with fab.ports := Tbl.set Port.reset s.fab.ports k x }
def State.ctx (s : State) (i : Nat) : Ctx := Tbl.getD s.cir.ctxs i Ctx.idle
def State.tile (s : State) (t : Nat) : TileSt := Tbl.getD s.tiles t TileSt.reset
def State.setTile (s : State) (t : Nat) (x : TileSt) : State := { s with tiles := Tbl.set TileSt.reset s.tiles t x }

/-- A circuit context written: GEN increments at every update (R54). -/
def State.setCtx (s : State) (i : Nat) (c : Ctx) : State :=
  { s with cir.ctxs := Tbl.set Ctx.idle s.cir.ctxs i { c with gen := (c.gen + 1) % 65_536 } }

/-- A context back to IDLE; GEN is kept counting (R54, R57). -/
def State.idleCtx (s : State) (i : Nat) : State := s.setCtx i { Ctx.idle with gen := (s.ctx i).gen }

/-- The commanded state of a cell position (R27): true for CROSS. -/
def State.cell (s : State) (pos : Nat) : Bool := Tbl.getD s.fab.cells pos false

def State.setCell (s : State) (pos : Nat) (x : Bool) : State := { s with fab.cells := Tbl.set false s.fab.cells pos x }

/-- STATE codes of R56. -/
def Cs.idle : Nat := 0
def Cs.pending : Nat := 1
def Cs.placed : Nat := 2
def Cs.armed : Nat := 3
def Cs.lit : Nat := 4
def Cs.belay : Nat := 5
def Cs.held : Nat := 6
def Cs.moving : Nat := 7
def Cs.dark : Nat := 8
def Cs.failed : Nat := 9

/-- Output port and slot of a context index (R50). -/
def ctxOut (i : Nat) : Nat := i / 256
def ctxSlot (i : Nat) : Nat := i % 256

/-- A circuit that stands committed on the fabric. -/
def Ctx.lit (c : Ctx) : Bool := decide (4 ≤ c.state) && decide (c.state ≤ 7)

/-- A circuit that waits for its commit. -/
def Ctx.waits (c : Ctx) : Bool := c.state == Cs.pending || c.state == Cs.placed || c.state == Cs.armed

/-- The hops of a circuit's committed path. -/
def Ctx.hops (c : Ctx) : List Hop := match c.route with
  | none => []
  | some r => path c.input r

/-- The hops of a circuit's placed path. -/
def Ctx.newHops (c : Ctx) : List Hop := match c.placed with
  | none => []
  | some r => path c.input r

/-- The hops that a circuit gives the cycle of the active schedule (R85, R187): its committed path while it is lit, and its placed path while it
came in with the swap and waits for its own slot epoch (R159). -/
def Ctx.cycleHops (c : Ctx) : List Hop :=
  if c.lit then c.hops else if c.scheduled && c.state == Cs.armed && c.req.isNone then c.newHops else []

/-! ## Light (R145, R244, R245) -/

/-- The slot whose circuits are lit: the frozen slot while the schedule is frozen (R162). -/
def State.slotLit (s : State) : Nat := match s.sch.active with
  | none => 0
  | some a => a.frozen.getD a.slot

/-- A circuit lit in the slot now in force. -/
def State.litNow (s : State) (i : Nat) (c : Ctx) : Bool := c.lit && (!c.scheduled || ctxSlot i == s.slotLit)

/-- Elements on the path of some circuit that passes `p`, with the circuit's context. -/
def State.users (s : State) (p : Nat → Ctx → Bool) : List (Nat × Nat) :=
  s.cir.ctxs.flatMap fun e => if p e.1 e.2 then (pathAll e.2.hops).map fun x => (x, e.1) else []

/-- The element carries committed light now. -/
def State.carries (s : State) (e : Nat) : Bool := (s.users s.litNow).any (·.1 == e)

/-- The element carries committed light in some slot or on a persistent path. -/
def State.used (s : State) (e : Nat) : Bool := (s.users fun _ c => c.lit).any (·.1 == e)

/-- The states that the circuits of the cycle need of a cell position, with their slots; persistent circuits need it in every slot. -/
def State.needs (s : State) (pos : Nat) : List (Option Nat × Bool) :=
  s.cir.ctxs.flatMap fun e =>
    (e.2.cycleHops.filter (·.pos == pos)).map fun h => (if e.2.scheduled then some (ctxSlot e.1) else none, h.cross)

/-- The state of a cell position in each slot of a cycle (R27): that of the circuits lit in it, else the state last held. -/
def slotStates (need : List (Option Nat × Bool)) (slots : Nat) (held : Bool) : List Bool :=
  let at_ (n : Nat) (prev : Bool) : Bool := match need.find? (fun x => x.1 == none || x.1 == some n) with
    | none => prev
    | some x => x.2
  let once (start : Bool) : List Bool × Bool := (List.range slots).foldl (fun (l, prev) n => (l ++ [at_ n prev], at_ n prev)) ([], start)
  (once (once held).2).1

/-- Whether a cell position is cycling over the active schedule (R85, R187). A frozen schedule makes none (R162). -/
def State.cycling (s : State) (pos : Nat) : Bool :=
  match s.sch.active with
  | none => false
  | some a =>
    a.frozen.isNone && (let l := slotStates (s.needs pos) a.durs.length (s.cell pos)
      l.contains true && l.contains false)

/-- Home state of a cell position (R187). -/
def State.homeOf (s : State) (pos : Nat) : Bool :=
  match s.sch.active with
  | none => s.cell pos
  | some a =>
    if s.cycling pos then
      let l := (slotStates (s.needs pos) a.durs.length (s.cell pos)).zip a.durs
      let sum (x : Bool) : Nat := ((l.filter (·.1 == x)).map (·.2)).sum
      decide (sum false < sum true)
    else s.cell pos

/-! ## The crevasse map (R482) -/

/-- Whether a bank of a tile holds a transient fence: a heater, fast-drive or monitor bank that is disabled or direct (R295, R309,
R351). -/
def State.bankFenced (s : State) (t b : Nat) : Bool :=
  !s.flag (R.TILE_PW_BCTL_ENABLE t b) || s.flag (R.TILE_PW_BCTL_SRC t b) || !s.flag (R.TILE_FD_BCTL_ENABLE t b) ||
    s.flag (R.TILE_FD_BCTL_SRC t b) || s.flag (R.TILE_MC_CTL_SRC t)

/-- Effective state of a cell entry as `GLB_CRV_n` shows it: 0 clear, 1 watched, 2 fenced by host or fault handling, 3 fenced
transiently only. -/
def State.crv (s : State) (entry : Nat) : Nat :=
  let m := max (Tbl.getD s.svc.crvHost entry 0) (Tbl.getD s.svc.crvAuto entry 0)
  let e := entry * 4
  if 2 ≤ m then 2 else if s.bankFenced (tileOf e) (e % 4096 / 256) then 3 else m

/-- A cell position counts as fenced when it is fenced in either plane (R87). -/
def State.fenced (s : State) (pos : Nat) : Bool := decide (2 ≤ s.crv (cellEntry 0 pos)) || decide (2 ≤ s.crv (cellEntry 1 pos))

/-- Watched planes of a cell position (R87). -/
def State.watched (s : State) (pos : Nat) : Nat := b2n (s.crv (cellEntry 0 pos) == 1) + b2n (s.crv (cellEntry 1 pos) == 1)

/-- The element's cell is fenced (R244). -/
def State.elemFenced (s : State) (e : Nat) : Bool := decide (2 ≤ s.crv (e / 4))

/-! ## Status (R244) -/

/-- The bank of the tile whose integrators are held for calibration (R353). -/
def State.heldBank (s : State) (t : Nat) : Option Nat :=
  if s.flag (R.TILE_MC_HOLD_USE t) then some (s.get (R.TILE_MC_HOLD_BANK t)) else none

/-- The fast-drive channel of the tile that a calibration hold has taken (R374). -/
def State.heldChannel (s : State) (t : Nat) : Option Nat := match Tbl.look s.cal.recal t with
  | none => none
  | some r => if r.step = 4 then r.held.map (· / 2) else none

/-- An element reads STALE: its output is not its loop's (R251, R478, R490), or it is under a calibration hold (R353, R374). -/
def State.isStale (s : State) (e : Nat) : Bool :=
  (s.elem e).stale || s.heldBank (tileOf e) == some (e % 4096 / 256) || s.heldChannel (tileOf e) == some (e % 4096)

/-- STATUS of an element (R244), coded as in `TILE_LP_EST_e`. -/
def State.status (s : State) (e : Nat) : Nat :=
  let x := s.elem e
  if s.elemFenced e then 6
  else if s.isStale e then 2
  else if x.prov.isSome then 1
  else if x.belay.isSome || x.belayDue then 4
  else if s.cycling (posOf e) then 5
  else if !s.used e then 3
  else 0

/-- The law an element runs: the first of PROV to OK that applies (R244). -/
def State.law (s : State) (e : Nat) : Nat :=
  let x := s.elem e
  if x.prov.isSome then 1
  else if x.belay.isSome || x.belayDue then 4
  else if s.cycling (posOf e) then 5
  else if !s.used e then 3
  else 0

/-- Some element of a tile passes a test; `lo` and `n` bound the local indices. -/
def State.anyElem (s : State) (t lo n : Nat) (p : State → Nat → Bool) : Bool := (List.range n).any fun i => p s (t * 4096 + lo + i)

/-- An element holds its bank in use: committed light, BELAY or PROV (R288, R297, R311). -/
def State.inUse (s : State) (e : Nat) : Bool :=
  s.carries e || (s.elem e).belay.isSome || (s.elem e).belayDue || (s.elem e).prov.isSome

/-! ## Fault handling (R484) -/

/-- The crevasse map has changed (R483): EV 96. -/
def State.crvChanged (s : State) : State := s.ev Ev.crevasseMapChanged

/-- A latch fault report (R484): the port's bit of `GLB_PORT_FLT_n`, and SRC_FLT. -/
def State.reportPort (s : State) (k : Nat) : State :=
  let s := s.put ⟨R.GLB_PORT_FLT (k / 32), k % 32, k % 32⟩ 1
  s.evPort Ev.faultReport (decide (1024 ≤ k)) (k % 1024) 0

/-! ## Ports and latches -/

/-- Tile that drives a port's blanker and latch (R31). -/
def portTile (k : Nat) : Nat := if k < 1024 then 0 else 9

/-- The guard holds the input (R43). -/
def State.guarded (s : State) (k : Nat) : Bool :=
  decide (k < 1024) && s.get ⟨R.TILE_FD_GUARD_STS (k / 32), k % 32, k % 32⟩ == 1

/-- The guard latches the input (R43). -/
def State.guardLatched (s : State) (k : Nat) : Bool :=
  decide (k < 1024) && s.get ⟨R.TILE_FD_GUARD_LAT (k / 32), k % 32, k % 32⟩ == 1

/-- A forced blank (R314). -/
def State.forced (s : State) (k : Nat) : Bool :=
  s.get ⟨R.TILE_FD_BLK_FORCE (portTile k) (k % 1024 / 32), k % 32, k % 32⟩ == 1

/-- The blanker is driven while a source requests it (R314), and from a protective shutdown on (R391). -/
def State.blanked (s : State) (k : Nat) : Bool :=
  (s.port k).epo || s.guarded k || (s.port k).flt || s.forced k || s.flag R.THM_STS_SHUTDOWN

/-- A port verified open (R317). -/
def State.isOpen (s : State) (k : Nat) : Bool := (s.port k).lstate == 2

/-- No light passes: blanked or latched dark (R145, R219). -/
def State.portDark (s : State) (k : Nat) : Bool := s.blanked k || (s.port k).lstate == 0

/-- The epoch logic's blanking request (R314). -/
def State.setEpo (s : State) (k : Nat) (b : Bool) : State := s.setPort k { s.port k with epo := b }

/-- A close pulse of a latch starting at `start`: counted, with the wear event once per port (R324). -/
def State.closePulse (s : State) (k start : Nat) (state tries : Nat) : State :=
  let t := portTile k
  let p := k % 1024
  let s := ((s.count (whole (R.TILE_FD_LAT_CNT t 1))).count (whole (R.TILE_FD_WEAR t p))).setPort k
    { s.port k with lstate := state, pulse := some start, tries := tries }
  if s.get (whole (R.TILE_FD_LAT_WARN t)) ≤ s.get (whole (R.TILE_FD_WEAR t p)) ∧ (s.port k).worn = false then
    (s.setPort k { s.port k with worn := true }).evPort (Ev.latchWear t) (decide (1024 ≤ k)) p 0
  else s

/-- Closes that fall due at one instant: groups of 256 in ascending port, 180 ns apart (R320). A port already dark takes none; a waiting
or running open ends (R322, R330). `every` pulses each latch whatever its state (R328). -/
def State.closeAll (s : State) (ks : List Nat) (due : Nat) (every : Bool) : State :=
  let s := { s with fab.waits := s.fab.waits.filter fun w => !ks.contains w.port }
  let ks := ks.filter fun k => every || ((s.port k).lstate != 0 && (s.port k).lstate != 4)
  let group (tile : Nat) : List (Nat × Nat) :=
    let l := ks.filter (portTile · == tile)
    l.zip ((List.range l.length).map fun i => due + i / 256 * 180)
  (group 0 ++ group 9).foldl (fun s x => s.closePulse x.1 x.2 3 0) s

/-- A close of the ports given, due now. -/
def State.close (s : State) (ks : List Nat) : State := s.closeAll ks s.now false

/-- An open falls due for a port latched dark (R321): it is blanked before the pulse and waits for its start; an open in progress, an
open latch and a FAULT_OPEN latch take none. -/
def State.wantOpen (s : State) (k ingress : Nat) : State :=
  let l := (s.port k).lstate
  if l = 0 ∨ l = 3 ∨ l = 4 then
    let s := s.setEpo k true
    if s.fab.waits.any (·.port == k) then s
    else { s with fab.waits := s.fab.waits ++ [OpenWait.mk k ingress s.now] }
  else if l = 1 then s.setEpo k true
  else s

/-- Opens in progress in a tile. -/
def State.opening (s : State) (t : Nat) : List Nat := (s.fab.ports.filter fun e => portTile e.1 == t && e.2.lstate == 1).map (·.1)

/-- The instant by which an open of the port starts, from the opens in progress and waiting (R60, R321, R322); `none` where the port
takes no open. Each open holds its place for 170 µs. -/
def State.openBy (s : State) (k : Nat) : Option Nat :=
  let p := s.port k
  let now := s.now
  if p.lstate = 1 then some (p.pulse.getD now)
  else if p.lstate = 0 ∨ p.lstate = 4 ∨ p.lstate = 3 then
    let t := portTile k
    let busy := (s.opening t).map fun j => ((s.port j).pulse.getD now) + 170_000
    let ahead := (s.fab.waits.filter fun w => portTile w.port == t && w.port != k).length
    let m := s.get (R.TILE_FD_LAT_CFG_OPEN_MAX t)
    let free (b : List Nat) : Nat := if b.length < m then now else b.foldl min (b.headD now)
    let busy := (List.range ahead).foldl (fun b _ => let f := free b; (if b.length < m then b else b.erase f) ++ [max f now + 170_000]) busy
    let ready := if p.lstate = 3 then p.pulse.getD now + 2_000 else now
    some (max ready (free busy) + 20)
  else none

/-- Whether any tile's holdover stops latch opens of this tile (R486). -/
def State.inHoldover (s : State) (t : Nat) : Bool := (Tbl.look s.svc.holdover t).isSome

/-- The next waiting open of a tile starts its pulse (R321): latch ENABLE, fewer than OPEN_MAX in progress, in ingress order; one held by
the guard (R321) or by a latch still closing (R322) is passed over. No open starts in holdover (R486) or after an emergency close (R328). -/
def State.openStart (s : State) (k : Nat) : State :=
  let t := portTile k
  let can (w : OpenWait) : Bool :=
    portTile w.port == t && !s.guardLatched w.port && ((s.port w.port).lstate == 0 || (s.port w.port).lstate == 4)
  let first := (s.fab.waits.filter can).foldl (fun (b : Option OpenWait) w => match b with
    | none => some w
    | some x => if w.ingress < x.ingress then some w else some x) none
  match first with
  | none => s
  | some w =>
    if w.port = k ∧ s.flag (R.TILE_FD_LAT_CFG_ENABLE t) = true ∧ (s.opening t).length < s.get (R.TILE_FD_LAT_CFG_OPEN_MAX t) ∧
        s.inHoldover t = false ∧ s.fab.noOpen = false ∧ s.flag R.THM_STS_SHUTDOWN = false then
      let s := { s with fab.waits := s.fab.waits.filter (·.port != k) }
      (s.count (whole (R.TILE_FD_LAT_CNT t 0))).setPort k { s.port k with lstate := 1, pulse := some s.now, tries := 0, epo := true }
    else s

/-- The pulse of a waiting open starts (R321). -/
def doLatchOpenStart (out : Bool) (p : Fin 1024) (s : State) : State := s.openStart (portKey out p.val)

/-- No latch is open or moves any more (DARK, or a fault of either kind): the outputs of a shutdown go off (R391). -/
def State.shutdownOff (s : State) : State :=
  if s.flag R.THM_STS_SHUTDOWN && s.fab.ports.all (fun e => e.2.lstate == 0 || 4 ≤ e.2.lstate) then { s with drv.off := true } else s

/-- 2 µs after a close pulse the latch is sensed: DARK, or pulsed again up to three times, or FAULT_OPEN (R320, R323). -/
def doLatchCloseSense (out : Bool) (p : Fin 1024) (sense : Fin 3) (s : State) : State :=
  let k := portKey out p.val
  let t := portTile k
  let x := s.port k
  if x.lstate = 3 then
    let s := s.advanceTo (x.pulse.getD s.now + 2_000)
    let x := { x with sense := sense.val }
    if sense.val = 2 then (s.setPort k { x with lstate := 0, pulse := none, flt := false }).shutdownOff
    else
      let s := (s.count (whole (R.TILE_FD_LAT_CNT t 2))).setPort k x
      if x.tries < 3 then s.closePulse k s.now 3 (x.tries + 1)
      else
        let s := s.setPort k { s.port k with lstate := 5, pulse := none, flt := true }
        ((s.evPort (Ev.latchCloseFailed t) out p.val 0 Code.PRT_LATCH_CLOSE_FAIL).reportPort k).shutdownOff
  else s

/-- One latch sensed by the audit of R323. -/
def State.auditOne (s : State) (k sense : Nat) : State :=
  let t := portTile k
  let s := s.setPort k { s.port k with sense := sense }
  let x := s.port k
  let mismatch (s : State) : State := s.evPort (Ev.latchAuditMismatch t) (decide (1024 ≤ k)) (k % 1024) 0
  if x.lstate = 0 ∧ sense ≠ 2 then
    ((mismatch s).setPort k { x with flt := true, lstate := 5 }).reportPort k |>.close [k]
  else if x.lstate = 2 ∧ sense ≠ 0 then mismatch s
  else if x.lstate = 5 then s.close [k]
  else s

/-- Every 100 ms tiles 0 and 9 sense every latch of their ports (R323). -/
def doLatchAudit (out : Bool) (senses : List (Fin 1024 × Fin 3)) (s : State) : State :=
  senses.foldl (fun s x => s.auditOne (portKey out x.1.val) x.2.val) s

/-- A refusal of a blanker, latch or wear write in tile 0 or 9 (R316, R325, R326). -/
def State.latRefuse (s : State) (t code : Nat) : State := s.refuse (R.TILE_FD_LAT_CFG_REFUSE t) (Ev.portDriveRefusal t) code

/-- Tile of the ports of a side: 0 for inputs, 9 for outputs. -/
def sideTile (out : Bool) : Nat := if out then 9 else 0

/-- A write of `TILE_FD_WEAR_p`, accepted only while latch ENABLE reads 0 (R325). -/
def doWearWrite (out : Bool) (p : Fin 1024) (v : Word) (s : State) : State :=
  let t := sideTile out
  if s.flag (R.TILE_FD_LAT_CFG_ENABLE t) then s.latRefuse t Code.PRT_WEAR_LOCKED
  else (s.wr (R.TILE_FD_WEAR t p.val) v).put (R.TILE_FD_LAT_CFG_REFUSE t) 0

/-- A write of `TILE_FD_LAT_CFG` (R326). -/
def doLatCfgWrite (out : Bool) (v : Word) (s : State) : State :=
  let t := sideTile out
  let a := R.TILE_FD_LAT_CFG t
  let busy := s.fab.ports.any fun e => portTile e.1 == t && (e.2.lstate == 1 || e.2.lstate == 2)
  if s.flag (R.TILE_FD_LAT_CFG_ENABLE t) && ((bits v 0 0 == 0 && busy) || s.rwcHit a v) then s.latRefuse t Code.PRT_LATCH_CONFIG
  else
    let check (s : State) : Option Nat :=
      let m := s.get (R.TILE_FD_LAT_CFG_OPEN_MAX t)
      if 1 ≤ m ∧ m ≤ 128 ∧ s.get (R.TILE_FD_LAT_CFG_OPEN_RETRY t) ≤ 3 then none else some Code.PRT_LATCH_CONFIG
    let s := s.put (R.TILE_FD_LAT_CFG_REFUSE t) 0
    s.ctlWrite a (R.TILE_FD_LAT_CFG_ENABLE t) (R.TILE_FD_LAT_CFG_REFUSE t) (Ev.portDriveRefusal t) Code.PRT_LATCH_CONFIG check v

/-- A write of `TILE_FD_BLK_CFG` (R316). -/
def doBlkCfgWrite (out : Bool) (v : Word) (s : State) : State :=
  let t := sideTile out
  let h := bits v 12 8
  let k := bits v 7 0
  if h < 8 ∨ 20 < h ∨ k < 20 ∨ 60 < k then s.latRefuse t Code.PRT_BLANK_RANGE
  else (s.take (R.TILE_FD_BLK_CFG t) v).put (R.TILE_FD_LAT_CFG_REFUSE t) 0

/-- A warden write of `TILE_FD_BLK_FORCE_n` (R314). -/
def doBlkForceWrite (out : Bool) (n : Fin 32) (v : Word) (s : State) : State := s.wr (R.TILE_FD_BLK_FORCE (sideTile out) n.val) v

/-! ## The input guard (R41 to R47) -/

/-- One reading of an input tap against IN_GUARD, in 0.01 dBm at the ferrule (R41, R42). -/
def State.guardOne (s : State) (p : Nat) (reading : Int) : State :=
  let thr := sx 16 (s.get R.TILE_FD_GUARD_CFG_IN_GUARD) * 10
  let (above, cnt) := Tbl.getD s.fab.guard p (0, 0)
  let isAbove := decide (thr < reading)
  let isBelow := decide (reading < thr - 50)
  let above' := if isAbove then min (above + 1) 2 else 0
  let trip := isAbove && above == 1
  let cnt' := if isBelow then 0
    else if 0 < cnt then cnt + 1
    else if trip then 2
    else if isAbove && s.guarded p then 1
    else 0
  let s := { s with fab.guard := Tbl.set (0, 0) s.fab.guard p (above', cnt') }
  if trip && !s.guarded p then
    let s := (s.put ⟨R.TILE_FD_GUARD_STS (p / 32), p % 32, p % 32⟩ 1).count (whole R.TILE_FD_GUARD_CNT)
    s.evPort Ev.inputGuardBlank false p 0
  else s

/-- Every 250 ns the guard compares each input tap with IN_GUARD (R41, R42). -/
def doGuardSample (readings : List (Fin 1024 × Int)) (s : State) : State :=
  readings.foldl (fun s r => s.guardOne r.1.val r.2) (s.advanceTo ((s.now / 250 + 1) * 250))

/-- A write of 1 to a bit of `TILE_FD_GUARD_STS_n` releases the guard's hold and clears LAT (R45); an open held back by the guard falls
due (R321). -/
def doGuardStsClear (n : Fin 32) (v : Word) (s : State) : State :=
  let a := R.TILE_FD_GUARD_STS n.val
  let l := R.TILE_FD_GUARD_LAT n.val
  let clr := s.rd a &&& v
  let s := (s.wr a (s.rd a &&& ~~~ v)).wr l (s.rd l &&& ~~~ clr)
  { s with fab.guard := s.fab.guard.filter (fun e => !(e.1 / 32 == n.val && bit clr (e.1 % 32))),
           fab.waits := s.fab.waits.map fun w => if w.port / 32 == n.val && bit clr (w.port % 32) then { w with due := s.now } else w }

/-- A write of `TILE_FD_GUARD_CFG` (R47). -/
def doGuardCfgWrite (v : Word) (s : State) : State :=
  let g := bits v 15 0
  if g < 0x64 ∨ 0xDC < g then s.refuse R.TILE_FD_GUARD_REFUSE_REFUSE Ev.inputGuardRefusal Code.PRT_GUARD_RANGE
  else (s.take R.TILE_FD_GUARD_CFG v).put R.TILE_FD_GUARD_REFUSE_REFUSE 0

/-- `TILE_FD_PORT_p` as it reads (R314, R317, R319). -/
def State.portWord (s : State) (k : Nat) : Word :=
  let x := s.port k
  BitVec.ofNat 32 (x.lstate * 2 ^ 29 + x.sense * 2 ^ 27 + b2n (s.blanked k) * 2 ^ 26 + b2n x.epo * 2 ^ 25 + b2n (s.guarded k) * 2 ^ 24 +
    b2n x.flt * 2 ^ 23 + b2n (s.forced k) * 2 ^ 22 + x.tries % 4 * 2 ^ 16)

/-! ## Calibrated tables (R368 to R370) -/

/-- Word `w` of an element's record; a word never written reads as manufacture gave it (R368). -/
def State.tblWord (s : State) (e w : Nat) : Word :=
  let k := tileOf e * 2 ^ 18 + e % 4096 * 8 + w
  match Tbl.look s.cal.tables k with
  | some v => v
  | none => BitVec.ofNat 32 (Config.free 1 k)

/-- Φ(e, state, T) of R368, T in 0.01 °C, rounded to nearest. -/
def State.phi (s : State) (e : Nat) (cross : Bool) (temp : Int) : Int :=
  sx 32 (s.tblWord e (b2n cross)).toNat + (sx 16 (bits (s.tblWord e 2) 31 16) * (temp - 2500) + 50) / 100

/-- The tile's heater model time constant of the element in 0.1 µs (R368). -/
def State.tau (s : State) (e : Nat) : Nat := max 1 (bits (s.tblWord e 2) 15 0)

/-- Frame period of a tile in ns (R231). -/
def State.period (s : State) (t : Nat) : Nat := s.get (R.TILE_LP_PERIOD_P_USE t) * 25_000

/-- The modelled heater phase of an element at an instant, in 2^-16 LPU: it follows the driven target with τ_m from the last frame edge. -/
def State.hmodAt (s : State) (e at_ : Nat) : Int :=
  let x := s.elem e
  let dt := at_ - (s.tile (tileOf e)).edge
  let goal := x.drv * 65_536
  goal - (goal - x.hmod) * (expNeg dt (s.tau e * 100) : Int) / 2 ^ 48

/-- Modelled heater phase now, in LPU rounded to nearest. -/
def State.heater (s : State) (e : Nat) : Int := roundDiv (s.hmodAt e s.now) 65_536

/-- Current of a PIN phase in 0.25 µA: linear between the points of R370, extended beyond π; `ph` in LPU, not negative. -/
def State.pinCurrent (s : State) (e : Nat) (ph : Nat) : Nat :=
  let pt (k : Nat) : Nat := if k = 0 then 0 else bits (s.tblWord e (4 + (k - 1) / 2)) (if k % 2 = 1 then 31 else 15) (if k % 2 = 1 then 16 else 0)
  let k := min (ph / 8192) 7
  let a := pt k
  a + ((pt (k + 1) - a) * (ph - k * 8192) + 4096) / 8192

/-- Entry of the fast-drive channel table: GCOR and OFS in 0.01 µA (CAL_TBL table). -/
def State.fdEntry (s : State) (t q : Nat) : Nat × Int :=
  let k := t * 2 ^ 18 + 2 ^ 16 + q
  let w := match Tbl.look s.cal.tables k with
    | some v => v
    | none => BitVec.ofNat 32 (Config.free 1 k)
  (bits w 31 16, sx 16 (bits w 15 0))

/-- Code of the 8 mA range for a current (R370): (I − OFS) / (7.8125 µA · GCOR), rounded to nearest, 0 to 1,023. The current is in
0.25 µA. -/
def State.fdCode (s : State) (t q current : Nat) : Nat :=
  let (g, ofs) := s.fdEntry t q
  let i100 : Int := (current : Int) * 25 - ofs
  let den : Int := 78125 * (max g 1 : Nat)
  if current = 0 then 0
  else (max 0 (min 1023 ((i100 * 100 * 16384 * 2 + den) / (2 * den)))).toNat

/-! ## The fast-drive channels of an element (R304, R306, R313) -/

/-- A heater channel as POR_N leaves it (R288, R296). -/
def HtrCh.reset : HtrCh := ⟨0x8000, 0, none, 0x8000, none, false, false, 0, false, 0, 0⟩

/-- Heater channel of element `e` (R282). -/
def State.htr (s : State) (e : Nat) : HtrCh := Grp.getD s.drv.htr e HtrCh.reset
def State.setHtr (s : State) (e : Nat) (x : HtrCh) : State := { s with drv.htr := Grp.set HtrCh.reset s.drv.htr e x }

/-- A channel as POR_N leaves it (R310). -/
def FdCh.reset : FdCh := ⟨0, 1, 0, 1, none⟩

def State.fdch (s : State) (k : Nat) : FdCh := Grp.getD s.drv.fd k FdCh.reset
def State.setFd (s : State) (k : Nat) (x : FdCh) : State := { s with drv.fd := Grp.set FdCh.reset s.drv.fd k x }

/-- Key of channel `q` of tile `t`. -/
def fdKey (t q : Nat) : Nat := t * 8192 + q

/-- A bank held at 0 µA (R310). -/
def State.fdHeld (s : State) (t b : Nat) : Bool :=
  !s.flag (R.TILE_FD_BCTL_ENABLE t b) || (!s.flag (R.TILE_FD_BCTL_SRC t b) && !s.flag (R.TILE_LP_CTL_ENABLE t)) || s.drv.off

/-- A load of a channel at a strobe: a range change loads only between codes of 0 (R313). The Boolean tells whether it loaded. -/
def State.fdLoad (s : State) (k code range : Nat) : State × Bool :=
  let x := s.fdch k
  let t := k / 8192
  if range != x.rangeUse && !(code == 0 && x.active == 0) then
    (((s.setFd k { x with pend := none }).count (whole (R.TILE_FD_CNT t 0))).ev (Ev.rangeLoadRefused t), false)
  else (s.setFd k { x with code := code, range := range, active := code, rangeUse := range, pend := none }, true)

/-- The switching value of an element for a PIN phase (R186): a positive phase on arm A, a negative one on arm B, on the 8 mA range. -/
def State.pinCodes (s : State) (e : Nat) (ph trim : Int) : Nat × Nat :=
  let t := tileOf e
  let q := e % 4096 * 2
  let code (q : Nat) : Nat := (max 0 (min 1023 ((s.fdCode t q (s.pinCurrent e ph.natAbs) : Int) + trim))).toNat
  if ph = 0 then (0, 0) else if 0 < ph then (code q, 0) else (0, code (q + 1))

/-- Both channels of an element loaded at a strobe with the value of a PIN phase. The Boolean tells whether both loaded. -/
def State.loadPin (s : State) (e : Nat) (ph trim : Int) : State × Bool :=
  let t := tileOf e
  let q := e % 4096 * 2
  let (ca, cb) := s.pinCodes e ph trim
  let (s, a) := s.fdLoad (fdKey t q) ca 1
  let (s, b) := s.fdLoad (fdKey t (q + 1)) cb 1
  let x := s.elem e
  (s.setElem e { x with pinPh := ph, pinOff := if x.pinPh = 0 then x.pinOff else s.now }, a && b && !s.fdHeld t (q / 512))

end Sys2Proof.Machine
end

