-- ==== Sys2Proof/Machine/Placement.lean ====
section
/-!
DEFINITION. Sys2Proof/Machine/Placement.lean: what the placement engine decides: free lines, isolation, cost, limits, and joint solutions
(R77 to R95, R105, R106, R109, R198). Everything here reads the state and changes none of it.
-/
namespace Sys2Proof.Machine

/-! ## Policy -/

/-- The policy in force since the last accepted ENABLE (R97, R112). -/
def State.pol (s : State) (f : Fld) : Nat := bits (Tbl.getD s.cir.policy f.addr (resetWord f.addr)) f.hi f.lo

/-- Registers of the placement policy. -/
def polRegs : List Nat := [R.PLC_CTL, R.PLC_W0, R.PLC_W1, R.PLC_LIM0, R.PLC_LIM1, R.PLC_LIM2, R.PLC_LOSS_TGT]

/-! ## Reservations (R79, R80, R204) -/

def Resv.hops (r : Resv) : List Hop := path r.input r.route

/-- Lines that a circuit reserves by its state (R79). -/
def ctxResv (i : Nat) (c : Ctx) : List Resv :=
  let mk (live : Bool) (r : Nat) : Resv := ⟨i, c.input, r, c.scheduled, ctxSlot i, c.tenant, live⟩
  if c.lit then
    (c.route.toList.map (mk true)) ++ (if c.state = Cs.moving then c.placed.toList.map (mk true) else [])
  else if c.state = Cs.placed ∨ c.state = Cs.armed then c.placed.toList.map (mk true)
  else []

/-- Lines that a traverse holds beside those of its circuits (R204): new paths of circuits not yet moved, old paths of those moved. -/
def travResv (s : State) (t : Trav) : List Resv :=
  t.stages.flatMap fun g => g.moves.flatMap fun m =>
    let c := s.ctx m.ctx
    let mk (r : Nat) : Resv := ⟨m.ctx, c.input, r, c.scheduled, ctxSlot m.ctx, c.tenant, false⟩
    if m.isNew then [] else if g.sstate = 2 ∨ (g.sstate = 1 ∧ t.back = true) then [mk m.old] else if g.sstate = 5 then [] else [mk m.new]

/-- Every reservation in force (R79, R204). -/
def State.resvs (s : State) : List Resv :=
  s.cir.ctxs.flatMap (fun e => ctxResv e.1 e.2) ++
  s.cir.leaves.map (fun l => ⟨l.ctx, l.input, l.route, l.scheduled, l.slot, 0, false⟩) ++
  s.trv.journal.flatMap (travResv s)

/-- Two circuits meet in some slot (R80). -/
def Resv.meets (a b : Resv) : Bool := !a.scheduled || !b.scheduled || a.slot == b.slot

/-- Two paths use one line after one of the stages 0 to 18 (R78). -/
def sameLine (a b : List Hop) : Bool := (((a.zip b).take 19).any fun x => x.1.line == x.2.line)

/-- Cells in which two paths meet: both lines lit (R88). -/
def sharedCells (a b : List Hop) : Nat := ((a.zip b).filter fun x => x.1.pos == x.2.pos).length

/-- No cell on the path is fenced in either plane, nor watched under CRV_FORBID (R78, R87). -/
def State.cellsOk (s : State) (h : List Hop) : Bool :=
  h.all fun x => !s.fenced x.pos && !(s.pol R.PLC_CTL_CRV_FORBID == 1 && s.watched x.pos != 0)

/-! ## Cycling, loss and heat (R84 to R86) -/

/-- What decides cycling in a placement: given the circuits laid out, whether a cell position cycles. -/
abbrev CycOf := List Resv → Nat → Bool

/-- Cycling over the active schedule (R85). -/
def State.cycActive (s : State) : CycOf := fun rs pos =>
  match s.sch.active with
  | none => false
  | some a =>
    let need := (rs.filter (·.live)).flatMap fun r =>
      ((r.hops.filter (·.pos == pos)).map fun h => (if r.scheduled then some r.slot else none, h.cross))
    let l := slotStates need a.durs.length (s.cell pos)
    l.contains true && l.contains false

/-- Cycling cell positions on a path. -/
def cycCells (cyc : CycOf) (rs : List Resv) (h : List Hop) : List Nat := (h.map (·.pos)).filter (cyc rs)

/-- Value in use of a temperature sensor in 0.01 °C (R381, R383). -/
def State.sensor (s : State) (n : Nat) : Int :=
  let x := s.tile (n / 128)
  match Tbl.look x.subst (n % 128) with
  | some v => v
  | none => Tbl.getD x.reading (n % 128) 0

/-- Value in use of a sensor in 0.1 °C, rounded to nearest. -/
def State.sensor10 (s : State) (n : Nat) : Int := (s.sensor n + 5) / 10

/-- Cell loss entry in 0.001 dB (R84, R114). -/
def State.cellLoss (s : State) (entry : Nat) : Nat :=
  match Tbl.look s.regs (R.PLC_CELL_LOSS (entry / 2)) with
  | some w => if entry % 2 = 0 then bits w 15 0 else bits w 31 16
  | none => Config.cellLoss entry % 65_536

/-- L of a path in 0.01 dB (R84). -/
def State.lossOf (s : State) (h : List Hop) : Nat :=
  ((h.map fun x => s.cellLoss (cellEntry 0 x.pos) + s.cellLoss (cellEntry 1 x.pos)).sum + 10) / 20

/-- The path's elements in its cycling cells, both planes (R85, R86). -/
def cycElems (cyc : CycOf) (rs : List Resv) (h : List Hop) : List Nat := pathAll (h.filter fun x => cyc rs x.pos)

/-- H of a path in 0.1 °C (R86). -/
def State.heatOf (s : State) (es : List Nat) : Nat :=
  (es.map fun e => (max 0 (s.sensor10 (sensorOf e) - (s.pol R.PLC_LIM1_HOT_SOFT : Int))).toNat).sum

/-- Cycling elements under a sensor, four to a cell (R86, R187). -/
def regionCount (cyc : CycOf) (rs : List Resv) (sensor : Nat) : Nat :=
  (((List.range 8).map fun i => (sensor * 8 + i) % 10_240).filter (cyc rs)).length * 4

/-! ## One circuit to place -/

/-- A circuit to be placed: its context (or a number of its own), ports, tenant, slot, and the route it leaves. -/
structure Item where
  ctx : Nat
  input : Nat
  output : Nat
  tenant : Nat
  scheduled : Bool
  slot : Nat
  old : Option Nat
  deriving DecidableEq, Repr

def Item.at_ (i : Item) (m : Nat) : Resv := ⟨i.ctx, i.input, routeOf i.output m, i.scheduled, i.slot, i.tenant, true⟩

/-- Score of a path without its moves (R82); `rs` are all circuits laid out, this one included. -/
def State.score (s : State) (cyc : CycOf) (rs : List Resv) (r : Resv) : Nat :=
  let h := r.hops
  let l := s.lossOf h
  let tgt := s.pol R.PLC_LOSS_TGT_LOSS_TGT
  let lt := if s.pol R.PLC_CTL_LOSS_MODE = 1 then (if l < tgt then tgt - l else l - tgt) else l
  let ncyc := 2 * (cycCells cyc rs h).length
  let nw := (h.map fun x => s.watched x.pos).sum
  let ns := if s.pol R.PLC_CTL_ISO_MODE = 1 then 0
    else (h.filter fun x => rs.any fun o => o.ctx != r.ctx && o.tenant != r.tenant && o.meets r && o.hops.any (·.pos == x.pos)).length
  (s.pol R.PLC_W0_W_LOSS * lt + s.pol R.PLC_W0_W_CYC * ncyc + s.pol R.PLC_W0_W_THM * s.heatOf (cycElems cyc rs h) +
    s.pol R.PLC_W0_W_CRV * nw + s.pol R.PLC_W1_W_ISO * ns) % 2 ^ 32

/-- Free against a list of reservations (R78). -/
def Resv.free (r : Resv) (rs : List Resv) : Bool := rs.all fun o => o.ctx == r.ctx || !o.meets r || !sameLine o.hops r.hops

/-- Strict isolation against a list of circuits (R88). -/
def State.isolated (s : State) (r : Resv) (rs : List Resv) : Bool :=
  s.pol R.PLC_CTL_ISO_MODE != 1 || rs.all fun o => o.ctx == r.ctx || o.tenant == r.tenant || !o.meets r || sharedCells o.hops r.hops == 0

/-- The partner ports of a request are lit by no other tenant in an overlapping slot (R89): the cells of stages 0 and 19 are shared by
every route. -/
def State.partnersOk (s : State) (r : Resv) (rs : List Resv) : Bool :=
  s.pol R.PLC_CTL_ISO_MODE != 1 || rs.all fun o => o.ctx == r.ctx || o.tenant == r.tenant || !o.meets r ||
    ((o.hops.map (·.pos)).headD 0 != (r.hops.map (·.pos)).headD 0 && (o.hops.map (·.pos)).getLastD 0 != (r.hops.map (·.pos)).getLastD 0)

/-- CYC_MAX on this and on every other scheduled circuit, and CYC_REGION_MAX under each sensor of its path (R81, R86). -/
def State.cycOk (s : State) (cyc : CycOf) (before rs : List Resv) (r : Resv) : Bool :=
  let m := s.pol R.PLC_LIM0_CYC_MAX
  let g := s.pol R.PLC_LIM0_CYC_REGION_MAX
  decide (2 * (cycCells cyc rs r.hops).length ≤ m) &&
  (rs.all fun o => !o.live || !o.scheduled || decide (2 * (cycCells cyc rs o.hops).length ≤ m) ||
    (cycCells cyc rs o.hops).length == (cycCells cyc before o.hops).length) &&
  (r.hops.all fun h => (List.range 2).all fun p =>
    let n := sensorOf (elemOf p h.pos 0)
    decide (regionCount cyc rs n ≤ g) || decide (regionCount cyc rs n ≤ regionCount cyc before n))

def State.lossOk (s : State) (r : Resv) : Bool := decide (s.lossOf r.hops ≤ s.pol R.PLC_LIM0_LOSS_MAX)

/-- No cycling element under a sensor above HOT_LIMIT (R86). -/
def State.hotOk (s : State) (cyc : CycOf) (rs : List Resv) (r : Resv) : Bool :=
  (cycElems cyc rs r.hops).all fun e => decide (s.sensor10 (sensorOf e) ≤ (s.pol R.PLC_LIM1_HOT_LIMIT : Int))

/-- The lowest by a key, the first among equals. -/
def minBy {α : Type} (key : α → Nat) (l : List α) : Option α :=
  l.foldl (fun b x => match b with
    | none => some x
    | some y => if key x < key y then some x else some y) none

/-- What incremental placement decides (R93). -/
inductive Placed where
  | ok (m score ncyc : Nat)
  | refuse (code : Nat)
  | search (c5 : List Nat)
  deriving DecidableEq, Repr

/-- Incremental placement of one circuit by the filters of R93, with the circuits of `scope` movable. -/
def State.place (s : State) (cyc : CycOf) (all : List Resv) (scope : List Nat) (it : Item) : Placed :=
  let all := all.filter (·.ctx != it.ctx)
  let fixed := all.filter fun r => !scope.contains r.ctx
  let movable := all.filter fun r => scope.contains r.ctx
  let c1 := (List.range 1024).filter fun m => (it.at_ m).free fixed && s.cellsOk (it.at_ m).hops
  let c2 := c1.filter fun m => s.isolated (it.at_ m) fixed && s.partnersOk (it.at_ m) all
  let c3 := c2.filter fun m => s.cycOk cyc all (all ++ [it.at_ m]) (it.at_ m)
  let c4 := c3.filter fun m => s.lossOk (it.at_ m)
  let c5 := c4.filter fun m => s.hotOk cyc (all ++ [it.at_ m]) (it.at_ m)
  let c6 := c5.filter fun m => (it.at_ m).free movable && s.isolated (it.at_ m) movable
  if c1.isEmpty then .refuse Code.PLC_NO_PATH
  else if c2.isEmpty then .refuse Code.PLC_ISOLATION
  else if c3.isEmpty then .refuse Code.PLC_CYCLING_LIMIT
  else if c4.isEmpty then .refuse Code.PLC_LOSS_LIMIT
  else if c5.isEmpty then .refuse Code.PLC_THERMAL_LIMIT
  else match minBy (fun m => s.score cyc (all ++ [it.at_ m]) (it.at_ m)) c6 with
    | some m => .ok m (s.score cyc (all ++ [it.at_ m]) (it.at_ m)) (2 * (cycCells cyc (all ++ [it.at_ m]) (it.at_ m).hops).length)
    | none => .search c5

/-! ## Joint solutions (R95) -/

/-- One layout of several circuits: their middle lines, in the order of the items. -/
abbrev Layout := List (Item × Nat)

/-- Every layout of the items on lines that fit the fixed circuits and one another. -/
def State.layouts (s : State) (fixed : List Resv) (cands : Item → List Nat) (items : List Item) : List Layout :=
  match items with
  | [] => [[]]
  | it :: rest =>
    let tails := s.layouts fixed cands rest
    (cands it).flatMap fun m =>
      let r := it.at_ m
      if r.free fixed && s.cellsOk r.hops && s.isolated r fixed then
        (tails.filter fun t => r.free (t.map fun x => x.1.at_ x.2) && s.isolated r (t.map fun x => x.1.at_ x.2)).map fun t => (it, m) :: t
      else []

/-- A layout within every limit of c3 to c5 (R95). -/
def State.layoutOk (s : State) (cyc : CycOf) (fixed : List Resv) (l : Layout) : Bool :=
  let rs := fixed ++ l.map fun x => x.1.at_ x.2
  l.all fun x => let r := x.1.at_ x.2; s.cycOk cyc fixed rs r && s.lossOk r && s.hotOk cyc rs r

/-- Total of R82 over a layout, `nm` circuits moved. -/
def State.total (s : State) (cyc : CycOf) (fixed : List Resv) (l : Layout) (nm : Nat) : Nat :=
  let rs := fixed ++ l.map fun x => x.1.at_ x.2
  (l.map fun x => s.score cyc rs (x.1.at_ x.2)).sum + s.pol R.PLC_W1_W_DIST * nm

/-- Key 4 of R95: pairs (output, M) in ascending order of output. -/
def pairsOf (l : Layout) : List (Nat × Nat) := l.foldl (fun m x => Tbl.put m x.1.output x.2) []

/-- Whether a list of pairs is lower than another, compared pair by pair from the first. -/
def pairsLt (a b : List (Nat × Nat)) : Bool :=
  match a, b with
  | [], [] => false
  | [], _ :: _ => true
  | _ :: _, [] => false
  | x :: xs, y :: ys =>
    if x.1 != y.1 then decide (x.1 < y.1) else if x.2 != y.2 then decide (x.2 < y.2) else pairsLt xs ys

/-- A solution: total, middle line of the request (0 without one), layout. -/
structure Sol where
  total : Nat
  m : Nat
  layout : Layout
  deriving DecidableEq, Repr

/-- Keys 2 to 4 of R95. -/
def Sol.lt (a b : Sol) (moved : Sol → Layout) : Bool :=
  if a.total != b.total then decide (a.total < b.total)
  else if a.m != b.m then decide (a.m < b.m)
  else pairsLt (pairsOf (moved a)) (pairsOf (moved b))

def bestSol (moved : Sol → Layout) (l : List Sol) : Option Sol :=
  l.foldl (fun b x => match b with
    | none => some x
    | some y => if x.lt y moved then some x else some y) none

/-- Sublists of length `n`. -/
def choose {α : Type} (n : Nat) (l : List α) : List (List α) :=
  match n, l with
  | 0, _ => [[]]
  | _ + 1, [] => []
  | n + 1, x :: xs => (choose n xs).map (x :: ·) ++ choose (n + 1) xs

/-- Middle lines other than the one an item leaves. -/
def otherLines (it : Item) : List Nat := (List.range 1024).filter fun m => some m != it.old.map middleOf

/-- The rearrangement of R95 for a request: the fewest circuits of the scope moved, then keys 2 to 4. -/
def State.rearrange (s : State) (cyc : CycOf) (all : List Resv) (scope : List Item) (it : Item) (c5 : List Nat) : Option (Nat × Sol) :=
  (List.range (scope.length + 1)).findSome? fun nm =>
    let sols := (choose nm scope).flatMap fun sub =>
      let moved := sub.map (·.ctx)
      let fixed := all.filter fun r => r.ctx != it.ctx && !moved.contains r.ctx
      let cands (x : Item) : List Nat := if x.ctx = it.ctx then c5 else otherLines x
      ((s.layouts fixed cands (it :: sub)).filter (s.layoutOk cyc fixed)).map fun l =>
        Sol.mk (s.total cyc fixed l nm) ((l.map (·.2)).headD 0) l
    (bestSol (fun x => x.layout.drop 1) sols).map fun x => (nm, x)

/-- Joint placement of named circuits against everything else (R109, R198): keys 2 and 4 of R95. `keep` lets a circuit keep its
line. -/
def State.joint (s : State) (cyc : CycOf) (all : List Resv) (items : List Item) (keep : Bool) (nm : Layout → Nat) : Option Sol :=
  let ids := items.map (·.ctx)
  let fixed := all.filter fun r => !ids.contains r.ctx
  let cands (x : Item) : List Nat := if keep then List.range 1024 else otherLines x
  bestSol (fun x => x.layout) (((s.layouts fixed cands items).filter (s.layoutOk cyc fixed)).map fun l => ⟨s.total cyc fixed l (nm l), 0, l⟩)

/-! ## Circuits as items -/

/-- The circuit of a context as an item. -/
def State.item (s : State) (i : Nat) : Item :=
  let c := s.ctx i
  ⟨i, c.input, ctxOut i, c.tenant, c.scheduled, ctxSlot i, c.route⟩

/-- A context named by a traverse of the journal. -/
def State.inJournal (s : State) (i : Nat) : Bool := s.trv.journal.any fun t => t.stages.any fun g => g.moves.any (·.ctx == i)

/-- The move scope of a request (R94): movable circuits that read LIT, BELAY or HELD, named in no traverse; persistent ones for a
persistent request, those of its slot for a scheduled one. -/
def State.moveScope (s : State) (scheduled : Bool) (slot : Nat) : List Nat :=
  (s.cir.ctxs.filter fun e =>
    (e.2.state == Cs.lit || e.2.state == Cs.belay || e.2.state == Cs.held) && !e.2.pinned && !s.inJournal e.1 &&
    e.2.scheduled == scheduled && (!scheduled || ctxSlot e.1 == slot)).map (·.1)

/-! ## Whole schedules (R105, R106) -/

/-- One circuit of a schedule with the line it has been given, numbered within the schedule. -/
structure SchPlaced where
  slot : Nat
  pos : Nat
  rec_ : SchRec
  m : Nat
  deriving DecidableEq, Repr

/-- Contexts of a schedule being placed are numbered beyond the circuit table. -/
def schId (slot pos : Nat) : Nat := 262_144 + slot * 1024 + pos

def SchPlaced.item (p : SchPlaced) : Item :=
  ⟨schId p.slot p.pos, p.rec_.input, p.rec_.output, p.rec_.tenant, true, p.slot, some (routeOf p.rec_.output p.m)⟩

def SchPlaced.resv (p : SchPlaced) : Resv := p.item.at_ p.m

/-- State of a cell position at the end of a slot, by the circuits placed up to it (R27, R106). -/
def stateAfter (ps : List Resv) (slots : List Nat) (pos : Nat) : Option Bool :=
  slots.foldl (fun prev n => match (ps.filter fun r => !r.scheduled || r.slot == n).findSome? fun r =>
      (r.hops.find? (·.pos == pos)).map Hop.cross with
    | some x => some x
    | none => prev) none

/-- Cycling of a slot against the placed states of the slots before it (R106). -/
def cycAgainst (placed : List Resv) (before : List Nat) (slot : Nat) : CycOf := fun rs pos =>
  match stateAfter placed before pos, (rs.filter fun r => r.live && (!r.scheduled || r.slot == slot)).findSome? fun r =>
      (r.hops.find? (·.pos == pos)).map Hop.cross with
  | some a, some b => a != b
  | _, _ => false

/-- The circuits of one slot placed in list order, each by R93, with the rearrangement of R95 within the slot (R105). -/
def State.placeSlot (s : State) (fixed : List Resv) (done : List SchPlaced) (before : List Nat) (slot : Nat)
    (recs : List (Nat × SchRec)) : Except Nat (List SchPlaced) :=
  recs.foldl (fun acc x => match acc with
    | .error c => .error c
    | .ok l =>
      let here := l.filter (·.slot == slot)
      let all := fixed ++ here.map SchPlaced.resv
      let cyc := cycAgainst (fixed ++ done.map SchPlaced.resv) before slot
      let it : Item := ⟨schId slot x.1, x.2.input, x.2.output, x.2.tenant, true, slot, none⟩
      let movable := here.filter fun p => !p.rec_.pinned
      match s.place cyc all (movable.map fun p => schId p.slot p.pos) it with
      | .ok m _ _ => .ok (l ++ [⟨slot, x.1, x.2, m⟩])
      | .refuse c => .error c
      | .search c5 =>
        match s.rearrange cyc all (movable.map SchPlaced.item) it c5 with
        | none => .error Code.PLC_NO_PATH
        | some (_, sol) =>
          let new := sol.layout
          let upd (p : SchPlaced) : SchPlaced := match new.find? (·.1.ctx == schId p.slot p.pos) with
            | none => p
            | some y => { p with m := y.2 }
          .ok (l.map upd ++ [⟨slot, x.1, x.2, sol.m⟩])) (.ok [])

/-- A whole schedule placed (R105, R106): slots in ascending order, then slot 0 once more against the last. The error carries the slot
and the reason of its first failing circuit (R107). -/
def State.placeSchedule (s : State) (fixed : List Resv) (n : Nat) (recs : Nat → List (Nat × SchRec)) :
    Except (Nat × Nat) (List SchPlaced) :=
  let pass : Except (Nat × Nat) (List SchPlaced) := (List.range n).foldl (fun acc k => match acc with
    | .error e => .error e
    | .ok l => match s.placeSlot fixed l (List.range k) k (recs k) with
      | .error c => .error (k, c)
      | .ok here => .ok (l ++ here)) (.ok [])
  match pass with
  | .error e => .error e
  | .ok l => match s.placeSlot fixed l (List.range n) 0 (recs 0) with
    | .error c => .error (0, c)
    | .ok here => .ok (here ++ l.filter (·.slot != 0))

/-- Cycling over a whole cycle of a placed schedule (R85, R106). -/
def cycCycle (n : Nat) : CycOf := fun rs pos =>
  let need := (rs.filter (·.live)).flatMap fun r =>
    ((r.hops.filter (·.pos == pos)).map fun h => (if r.scheduled then some r.slot else none, h.cross))
  let l := slotStates need n false
  !need.isEmpty && l.contains true && l.contains false

/-- Cycling elements of a schedule over its cycle, both planes (R85, R148). -/
def cycTotal (n : Nat) (rs : List Resv) : Nat :=
  let poss := (rs.flatMap fun r => r.hops.map (·.pos)).foldl (fun l p => if l.contains p then l else p :: l) []
  (poss.filter (cycCycle n rs)).length * 8

end Sys2Proof.Machine
end

