-- ==== Sys2Proof/Machine/Crypto.lean ====
section
/-!
DEFINITION. Sys2Proof/Machine/Crypto.lean: the standard functions that the tags, session keys and checks of the spec name: AES-256,
GMAC with an empty plaintext, AES-256-CMAC, the counter-mode KDF (R403) and the IEEE 802.3 CRC-32 (R457, R459, R463).
-/
namespace Sys2Proof.Machine

/-- Multiplication by x in the field of AES. -/
def xtime (a : Byte) : Byte := (a <<< 1) ^^^ (if a.msb then 0x1B else 0)

/-- Multiplication in the field of AES. -/
def gmul (a b : Byte) : Byte :=
  ((List.range 8).foldl (fun (p : Byte × Byte) i => (if b.getLsbD i then p.1 ^^^ p.2 else p.1, xtime p.2)) (0, a)).1

/-- The multiplicative inverse, a to the power 254. -/
def ginv (a : Byte) : Byte :=
  let a2 := gmul a a
  let a4 := gmul a2 a2
  let a8 := gmul a4 a4
  let a16 := gmul a8 a8
  let a32 := gmul a16 a16
  let a64 := gmul a32 a32
  let a128 := gmul a64 a64
  gmul (gmul (gmul a2 a4) (gmul a8 a16)) (gmul (gmul a32 a64) a128)

/-- The AES substitution box. -/
def sbox (a : Byte) : Byte :=
  let b := ginv a
  b ^^^ b.rotateLeft 1 ^^^ b.rotateLeft 2 ^^^ b.rotateLeft 3 ^^^ b.rotateLeft 4 ^^^ 0x63

/-- A number as the `n` bytes of a block, most significant first. -/
def blockBytes (v : BitVec 128) : List Byte := natBe 16 v.toNat

/-- The bytes as a 128-bit block. -/
def ofBytes (l : List Byte) : BitVec 128 := BitVec.ofNat 128 (beNat l)

/-- The next word of the AES-256 key schedule, from the words made so far, newest first. -/
def keyWord (i : Nat) (ws : List (List Byte)) : List Byte :=
  let prev := ws.headD []
  let old := ws.getD 7 []
  let rcon := (List.range (i / 8 - 1)).foldl (fun c _ => xtime c) (1 : Byte)
  let temp :=
    if i % 8 = 0 then
      match prev with
      | [a, b, c, d] => [sbox b ^^^ rcon, sbox c, sbox d, sbox a]
      | l => l
    else if i % 8 = 4 then prev.map sbox else prev
  List.zipWith (· ^^^ ·) old temp

/-- The 60 words of the AES-256 key schedule, as bytes. -/
def keySchedule (k : BitVec 256) : List Byte :=
  let b := natBe 32 k.toNat
  let first := (List.range 8).map fun i => (b.drop (4 * i)).take 4
  let ws := (List.range 52).foldl (fun ws j => keyWord (j + 8) ws :: ws) first.reverse
  ws.reverse.flatten

/-- Row shift of AES on a block in column order. -/
def shiftRows (l : List Byte) : List Byte :=
  (List.range 16).map fun i => l.getD ((i + 4 * (i % 4)) % 16) 0

/-- Column mix of AES. -/
def mixColumns (l : List Byte) : List Byte :=
  (List.range 16).map fun i =>
    let c := i / 4 * 4
    let g (j : Nat) : Byte := l.getD (c + (i + j) % 4) 0
    gmul 2 (g 0) ^^^ gmul 3 (g 1) ^^^ g 2 ^^^ g 3

/-- AES-256 encryption of one block. -/
def aes256 (k : BitVec 256) (v : BitVec 128) : BitVec 128 :=
  let ks := keySchedule k
  let rk (r : Nat) : List Byte := (ks.drop (16 * r)).take 16
  let x0 := List.zipWith (· ^^^ ·) (blockBytes v) (rk 0)
  let x13 := (List.range 13).foldl (fun x r => List.zipWith (· ^^^ ·) (mixColumns (shiftRows (x.map sbox))) (rk (r + 1))) x0
  ofBytes (List.zipWith (· ^^^ ·) (shiftRows (x13.map sbox)) (rk 14))

/-- Multiplication in the field of GHASH. -/
def ghashMul (x y : BitVec 128) : BitVec 128 :=
  ((List.range 128).foldl (fun (p : BitVec 128 × BitVec 128) i =>
    let z := if x.getMsbD i then p.1 ^^^ p.2 else p.1
    let v := if p.2.getLsbD 0 then (p.2 >>> 1) ^^^ (0xE1#128 <<< 120) else p.2 >>> 1
    (z, v)) (0, y)).1

/-- The bytes cut into 16-byte blocks, the last padded with zeros. -/
def blocks (l : List Byte) : List (BitVec 128) :=
  (List.range ((l.length + 15) / 16)).map fun i =>
    let c := (l.drop (16 * i)).take 16
    ofBytes (c ++ List.replicate (16 - c.length) 0)

/-- The AES-256-GMAC tag: GCM with an empty plaintext over the additional data (R403). -/
def gmac (k : BitVec 256) (iv : BitVec 96) (aad : List Byte) : BitVec 128 :=
  let h := aes256 k 0
  let len : BitVec 128 := BitVec.ofNat 128 (aad.length * 8 * 2 ^ 64)
  let s := (blocks aad ++ [len]).foldl (fun y b => ghashMul (y ^^^ b) h) 0
  s ^^^ aes256 k (BitVec.ofNat 128 (iv.toNat * 2 ^ 32 + 1))

/-- Doubling in the field of CMAC (RFC 4493). -/
def cmacDouble (v : BitVec 128) : BitVec 128 := (v <<< 1) ^^^ (if v.msb then 0x87 else 0)

/-- AES-256-CMAC of a message (RFC 4493). -/
def cmac (k : BitVec 256) (m : List Byte) : BitVec 128 :=
  let k1 := cmacDouble (aes256 k 0)
  let k2 := cmacDouble k1
  let n := max 1 ((m.length + 15) / 16)
  let lastBytes := m.drop (16 * (n - 1))
  let lastBlock :=
    if lastBytes.length = 16 then ofBytes lastBytes ^^^ k1
    else ofBytes (lastBytes ++ 0x80 :: List.replicate (15 - lastBytes.length) 0) ^^^ k2
  ((blocks (m.take (16 * (n - 1)))) ++ [lastBlock]).foldl (fun x b => aes256 k (x ^^^ b)) 0

/-- The label of the session-key derivation, "AFISK SESSION" (R403). -/
def kdfLabel : List Byte := [0x41, 0x46, 0x49, 0x53, 0x4B, 0x20, 0x53, 0x45, 0x53, 0x53, 0x49, 0x4F, 0x4E]

/-- The session key K_s (R403): K(1) followed by K(2) of the counter-mode KDF under K_t. -/
def sessionKey (kt : BitVec 256) (nD nH : BitVec 64) (session tenant : Nat) : BitVec 256 :=
  let input (i : Nat) : List Byte :=
    natBe 4 i ++ kdfLabel ++ [0x00] ++ natBe 8 nD.toNat ++ natBe 8 nH.toNat ++ natBe 1 session ++ natBe 1 tenant ++
      natBe 4 0x0000_0100
  BitVec.ofNat 256 ((cmac kt (input 1)).toNat * 2 ^ 128 + (cmac kt (input 2)).toNat)

/-- One byte taken into the IEEE 802.3 CRC-32 register. -/
def crcByte (c : BitVec 32) (b : Byte) : BitVec 32 :=
  (List.range 8).foldl (fun c _ => if c.getLsbD 0 then (c >>> 1) ^^^ 0xEDB8_8320 else c >>> 1) (c ^^^ b.setWidth 32)

/-- The IEEE 802.3 CRC-32 of some bytes. -/
def crc32 (l : List Byte) : BitVec 32 := ~~~ (l.foldl crcByte 0xFFFF_FFFF)

end Sys2Proof.Machine
end

