-- ==== Sys2Proof/Machine/Time.lean ====
section
/-!
DEFINITION. Sys2Proof/Machine/Time.lean: the time counter, its discipline and its pins ("Network time"); phase steps that depend on
the epoch engine stand in the epoch files.
-/
namespace Sys2Proof.Machine

/-- An accepted write of a TIME register clears REFUSE (TIME_STS table). -/
def State.timeTaken (s : State) : State := s.put R.TIME_STS_REFUSE 0

/-- A refused TIME write: its code and EV 17. -/
def State.timeRefuse (s : State) (code : Nat) : State := s.refuse R.TIME_STS_REFUSE Ev.timeRefusal code

/-- One tick of the time clock: NS.FR increases by TIME_INC (R116). -/
def State.tick (s : State) : State := { s with t := s.t + s.tm.inc }

/-- Limits of TIME_INC, ±1,000 ppm about nominal (R117). -/
def incMin : Nat := 0x0000_0000_FFBE_76C9
def incMax : Nat := 0x0000_0001_0041_8937

/-- An increment put in force in the hub and every tile (R117). -/
def State.setInc (s : State) (v : Nat) : State :=
  ({ s with tm.inc := v }.put (whole R.TIME_INC_HI) (v / 2 ^ 32)).put (whole R.TIME_INC_LO) (v % 2 ^ 32)

/-- A write of `TIME_INC_HI`: held until the next write of `TIME_INC_LO` (R117). -/
def timeIncHiWrite (v : Word) (s : State) : State := { s with tm.heldHi := some v }.timeTaken

/-- A write of `TIME_INC_LO`: commits or refuses the pair (R117). -/
def doTimeIncCommit (v : Word) (s : State) : State :=
  let hi := (s.tm.heldHi.map BitVec.toNat).getD (s.tm.inc / 2 ^ 32)
  let inc := hi * 2 ^ 32 + v.toNat
  let s := { s with tm.heldHi := none }
  if incMin ≤ inc ∧ inc ≤ incMax then (s.setInc inc).timeTaken else s.timeRefuse Code.TIM_INC_RANGE

/-- A write of `TIME_CTL`; one with both bits set is discarded whole (R121, R538). -/
def timeCtlWrite (v : Word) (s : State) : State :=
  let on := asks R.TIME_CTL_VALID_SET v
  let off := asks R.TIME_CTL_VALID_CLR v
  if on && off then s
  else if on then (s.put R.TIME_STS_VALID 1).timeTaken
  else if off then (s.put R.TIME_STS_VALID 0).timeTaken
  else s.timeTaken

/-- A write of VALID_SET by the warden (R121). -/
def doTimeValidSet (v : Word) (s : State) : State := if asks R.TIME_CTL_VALID_SET v then timeCtlWrite v s else s

/-- A write of VALID_CLR by the warden (R121). -/
def doTimeValidClr (v : Word) (s : State) : State := if asks R.TIME_CTL_VALID_CLR v then timeCtlWrite v s else s

/-- A write of `TIME_ADJ_CTL`: GO = 1 arms a phase step or refuses it (R122). -/
def timeAdjCtlWrite (v : Word) (s : State) : State :=
  if asks R.TIME_ADJ_CTL_GO v then
    let sec := sx 32 (s.get (whole R.TIME_ADJ_S))
    let ns := sx 32 (s.get (whole R.TIME_ADJ_NS))
    let step := sec * 1_000_000_000 + ns
    if s.tm.step.isSome then s.timeRefuse Code.TIM_ADJ_BUSY
    else if 999_999_999 < ns.natAbs ∨ (0 < sec ∧ ns < 0) ∨ (sec < 0 ∧ 0 < ns) then s.timeRefuse Code.TIM_ADJ_RANGE
    else if s.flag R.TIME_STS_RUNNING && decide (1_000 < step.natAbs) then s.timeRefuse Code.TIM_STEP_RUNNING
    else ({ s with tm.step := some (step, s.now) }.put R.TIME_ADJ_CTL_ARMED 1).timeTaken
  else s.timeTaken

/-- A write of GO (R122). -/
def doTimeStepArm (v : Word) (s : State) : State := if asks R.TIME_ADJ_CTL_GO v then timeAdjCtlWrite v s else s

/-- An armed step that finds no window within 1 ms of its arming is discarded (R123). -/
def doTimeStepNoWindow (s : State) : State :=
  match s.tm.step with
  | none => s
  | some (_, armed) =>
    if s.flag R.TIME_STS_RUNNING then
      (({ s with tm.step := none }.advanceTo (armed + 1_000_000)).put R.TIME_ADJ_CTL_ARMED 0).timeRefuse Code.TIM_ADJ_NO_WINDOW
    else s

/-- A change of servo state raises EV 20 (R139). -/
def State.setServo (s : State) (st : Nat) : State :=
  if s.get R.TIME_STS_SRV_STATE = st then s
  else { s.put R.TIME_STS_SRV_STATE st with tm.lockRun := 0 }.ev Ev.servoState

/-- Servo states (R139). -/
def srvFreerun : Nat := 0
def srvLocking : Nat := 1
def srvLocked : Nat := 2
def srvHoldover : Nat := 3

/-- The check of `TIME_PTP_CFG`.ENABLE: the chosen port enabled for 10GBASE-R or 25GBASE-R, LOCK_THR not 0. -/
def ptpCheck (s : State) : Option Nat :=
  let n := s.get R.TIME_PTP_CFG_PORT
  let speed := s.get (R.PORT_CTL_SPEED n)
  if s.flag (R.PORT_CTL_ENABLE n) && (speed == 1 || speed == 2) && s.get R.TIME_PTP_CFG_LOCK_THR != 0 then none
  else some Code.TIM_PTP_CONFIG

/-- A write of `TIME_PTP_CFG` (R139): a write that leaves ENABLE at 0 puts the servo in FREERUN; one accepted with ENABLE = 1 and a
master selected puts a free-running servo in LOCKING. -/
def doTimePtpCfgWrite (v : Word) (s : State) : State :=
  let locked := s.flag R.TIME_PTP_CFG_ENABLE && s.rwcHit R.TIME_PTP_CFG v
  let s' := s.ctlWrite R.TIME_PTP_CFG R.TIME_PTP_CFG_ENABLE R.TIME_STS_REFUSE Ev.timeRefusal Code.TIM_PTP_CONFIG ptpCheck v
  if locked then s'
  else
    let refused := bits v 0 0 == 1 && !s'.flag R.TIME_PTP_CFG_ENABLE
    let s' := if refused then s' else s'.timeTaken
    if s'.flag R.TIME_PTP_CFG_ENABLE then
      if s'.tm.master && s'.get R.TIME_STS_SRV_STATE == srvFreerun then s'.setServo srvLocking else s'
    else s'.setServo srvFreerun

/-- What the servo takes from a PTP message: whether a master is selected, and the offset of a usable Sync (R127, R139). LOCKED is
reached after 16 consecutive Sync intervals below LOCK_THR, and sets VALID (R121). -/
def State.servo (s : State) (master : Bool) (offset : Option Int) : State :=
  if s.flag R.TIME_PTP_CFG_ENABLE then
    let s := { s with tm.master := master }
    let s := if master && s.get R.TIME_STS_SRV_STATE == srvFreerun then s.setServo srvLocking else s
    match offset with
    | none => s
    | some ofs =>
      let s := s.put (whole R.TIME_SRV_OFS) (tc 32 (satInt 32 ofs))
      let run := if ofs.natAbs < s.get R.TIME_PTP_CFG_LOCK_THR then s.tm.lockRun + 1 else 0
      let s := { s with tm.lockRun := run, tm.lastSync := s.now }
      let st := s.get R.TIME_STS_SRV_STATE
      if 16 ≤ run ∧ (st = srvLocking ∨ st = srvHoldover) then (s.setServo srvLocked).put R.TIME_STS_VALID 1 else s
  else s

/-- No usable Sync for 3 s while LOCKED (R139). -/
def doServoHoldover (s : State) : State :=
  if s.ctrlUp && s.get R.TIME_STS_SRV_STATE == srvLocked then
    (s.advanceTo (s.tm.lastSync + 3_000_000_000)).setServo srvHoldover
  else s

/-- The four words of a value of device time (R116, TIME_NOW and TIME_PPS_CAP tables): seconds high and low, nanoseconds,
fraction. -/
def timeWords (t : Nat) : List Nat :=
  let n := t / 2 ^ 32
  [tai n / 2 ^ 32 % 2 ^ 16, tai n % 2 ^ 32, n % 1_000_000_000, t % 2 ^ 32]

/-- A PPS_IN edge (R131): the selected edge is captured while IN_EN = 1, with an error of at most ±2 ns; a capture not yet read is
overwritten with OVW. -/
def doPpsCapture (falling : Bool) (err : Int) (s : State) : State :=
  if s.ctrlUp && (s.flag R.TIME_PPS_CFG_IN_EDGE == falling) then
    let s := { s with tm.lastPps := some s.now }.put R.TIME_STS_PPS_OK 1
    if s.flag R.TIME_PPS_CFG_IN_EN then
      let t := ((s.t : Int) + max (-2) (min 2 err) * 2 ^ 32).toNat
      match timeWords t with
      | [a, b, c, d] =>
        let s := (((s.put R.TIME_PPS_CAP_0_SEC a).put (whole R.TIME_PPS_CAP_1) b).put (whole R.TIME_PPS_CAP_2) c).put
          (whole R.TIME_PPS_CAP_3) d
        let s := s.put R.TIME_PPS_CAP_0_OVW (b2n s.tm.ppsUnread)
        { s with tm.ppsUnread := true }.ev Ev.ppsCapture
      | _ => s
    else s
  else s

/-- A read of `TIME_PPS_CAP` word 0 returns it and clears OVW (R131). -/
def doPpsCapRead (s : State) : State :=
  let w := s.rd R.TIME_PPS_CAP_0
  { s with bus := w, tm.ppsUnread := false }.put R.TIME_PPS_CAP_0_OVW 0

/-- PPS_OK falls when no edge has arrived for 1.1 s (TIME_STS table). -/
def doPpsOkTimeout (s : State) : State :=
  match s.tm.lastPps with
  | none => s
  | some n =>
    if s.ctrlUp then { (s.advanceTo (n + 1_100_000_000)).put R.TIME_STS_PPS_OK 0 with tm.lastPps := none } else s

/-- PPS_OUT rises at the next instant at which NS equals OUT_OFS · 1,000 ns, and stays high for OUT_WIDTH ms (R132). -/
def doPpsOutPulse (s : State) : State :=
  if s.ctrlUp && s.flag R.TIME_PPS_CFG_OUT_EN && s.flag R.TIME_STS_VALID then
    let ofs := s.get R.TIME_PPS_CFG_OUT_OFS * 1_000
    let sec := s.now / 1_000_000_000
    let at_ := if s.now ≤ sec * 1_000_000_000 + ofs then sec * 1_000_000_000 + ofs else (sec + 1) * 1_000_000_000 + ofs
    let s := s.advanceTo at_
    { s with tm.ppsHighUntil := some (s.now + s.get R.TIME_PPS_CFG_OUT_WIDTH * 1_000_000) }
  else s

/-- The end of a 1 s gate of TREF_IN, with the measured result in parts per 10^9 (R133). -/
def doTrefGate (ppb : Int) (s : State) : State :=
  if s.ctrlUp && s.flag R.TIME_CLK_CFG_TREF_EN then
    if 2_000_000 < ppb.natAbs then (s.put R.TIME_STS_TREF_OK 0).ev Ev.referenceFault
    else (s.put R.TIME_STS_TREF_OK 1).put R.TIME_CLK_CFG_TREF_PPB (tc 24 ppb)
  else s

/-- No edge of TREF_IN for 1 ms (R133). -/
def doTrefLoss (s : State) : State :=
  if s.ctrlUp && s.flag R.TIME_CLK_CFG_TREF_EN then (s.put R.TIME_STS_TREF_OK 0).ev Ev.referenceFault else s

/-- A read of `TIME_NOW` word 0 takes a snapshot of the counter (TIME_NOW introduction). -/
def doTimeNowSnapshot (s : State) : State :=
  match timeWords s.t with
  | [a, b, c, d] =>
    let s := (((s.put R.TIME_NOW_0_SEC a).put (whole R.TIME_NOW_1) b).put (whole R.TIME_NOW_2) c).put (whole R.TIME_NOW_3) d
    { s with bus := s.rd R.TIME_NOW_0 }
  | _ => s

/-- A sync mark (R135), every 1 µs while the hub sends marks. `off` gives, for a tile, how far its counter was found from the
value sent, in picoseconds; more than 1 ns reloads it. A tile that receives a mark leaves holdover unless its REFCLK is lost
(R486). -/
def doSyncMark (off : List (Fin 20 × Int)) (s : State) : State :=
  if s.hubIn then
    let s := s.advanceTo (s.svc.lastMark + 1_000)
    let s := { s with svc.lastMark := s.now, svc.holdover := if s.svc.refLost then s.svc.holdover else [] }
    off.foldl (fun s e =>
      if 1_000 < e.2.natAbs then (s.put ⟨R.TIME_TILE_STS, e.1.val, e.1.val⟩ 1).ev Ev.tileResync else s) s
  else s

/-- A write of `TIME_PPS_CFG`: a width of 0 ms or above 500 ms discards it. -/
def timePpsCfgWrite (v : Word) (s : State) : State :=
  let w := bits v 21 13
  if w = 0 ∨ 500 < w then s.ev Ev.timeRefusal else (s.take R.TIME_PPS_CFG v).timeTaken

/-- A write of any other TIME register. -/
def timePlainWrite (a : Nat) (v : Word) (s : State) : State := (s.take a v).timeTaken

end Sys2Proof.Machine
end

