-- ==== Sys2Proof/Machine/Net.lean ====
section
/-!
DEFINITION. Sys2Proof/Machine/Net.lean: management ports: reception, MACsec, policing, egress queues, shapers, time gates, queue
samples, and the departure of the device's frames ("Management ports and traffic control").
-/
namespace Sys2Proof.Machine

/-- A refused port, MACsec or gate write: its code in the port's REFUSE, and EV 29. -/
def State.portRefuse (s : State) (n code : Nat) : State :=
  s.refuse (R.PORT_CTL_REFUSE n) Ev.networkConfigurationRefused code

/-- A refused NET write: its code in `NET_CTL`.REFUSE, and EV 29. -/
def State.netRefuse (s : State) (code : Nat) : State := s.refuse R.NET_CTL_REFUSE Ev.networkConfigurationRefused code

/-- A port runs: enabled, with the control domain up and no power-fail sequence (R425, R444, R512). -/
def State.portRuns (s : State) (n : Nat) : Bool := s.ctrlUp && s.flag (R.PORT_CTL_ENABLE n) && !s.svc.pfail

/-- A port's bit rate in Gbit/s (R423). -/
def State.rate (s : State) (n : Nat) : Nat := if s.get (R.PORT_CTL_SPEED n) = 1 then 10 else 25

/-! ## Reception: lengths, tags and MACsec (R423, R424, R428) -/

/-- Key of a secure association: port, direction (0 transmit, 1 receive), AN. -/
def saKey (port dir an : Nat) : Nat := port * 8 + dir * 4 + an

/-- The peer SCI of a port. -/
def State.peerSci (s : State) (n : Nat) : Nat := s.get (whole (R.PORT_PSCI_HI n)) * 2 ^ 32 + s.get (whole (R.PORT_PSCI_LO n))

/-- What receive MACsec decides of a frame (R428): passes, dropped and counted with EV 28, or dropped. -/
inductive MsecVerdict where
  | pass | drop | quiet
  deriving DecidableEq, Repr

/-- The lowest PN that a receive SA accepts: the lowest PN staged, or the next PN less the replay window. -/
def State.lowestPn (s : State) (n : Nat) (sa : Sa) : Nat := max sa.lowest (sa.pn - s.get (whole (R.PORT_MSEC_WIN n)))

/-- Receive MACsec on one frame (R428), with the receive SA's next PN moved on by an accepted frame. -/
def State.msecRx (s : State) (rx : EthRx) (ptp : Bool) : State × MsecVerdict :=
  if s.flag (R.PORT_MSEC_MS_EN rx.port) then
    match rx.sec with
    | none => (s, if ptp && s.flag (R.PORT_MSEC_PTP_CLEAR rx.port) then .pass else .drop)
    | some t =>
      let sciOk := match t.sci with
        | none => true
        | some x => x.toNat == s.peerSci rx.port
      match Tbl.look s.net.sas (saKey rx.port 1 (t.an % 4)) with
      | none => (s, .drop)
      | some sa =>
        if sciOk && t.icvOk && decide (s.lowestPn rx.port sa ≤ t.pn) then
          if t.encrypted then
            ({ s with net.sas := Tbl.put s.net.sas (saKey rx.port 1 (t.an % 4)) { sa with pn := max sa.pn (t.pn + 1) } }, .pass)
          else (s, .quiet)
        else (s, .drop)
  else (s, if rx.sec.isSome then .quiet else .pass)

/-- The VLAN tag of a frame is admitted: untagged, or one tag with the port's VID (R423). -/
def State.vlanOk (s : State) (rx : EthRx) : Bool :=
  match rx.vlan with
  | none => true
  | some t => s.flag (R.PORT_VLAN_VLAN_EN rx.port) && t.vid == s.get (R.PORT_VLAN_VID rx.port)

/-- The ingress time-stamp of a frame in ns (R128, R130): the PCS stamp less the port's ingress asymmetry, in picoseconds. -/
def State.ingressStamp (s : State) (rx : EthRx) : Nat :=
  (((rx.pcsStamp : Int) - sx 32 (s.get (whole (R.TIME_ASYM_IN rx.port)))) / 1000).toNat

/-- The reception of a frame up to MACsec (R423, R424, R428): counted, and dropped for its FCS, length, pause, tag or SecTAG.
`none` where it is dropped. -/
def State.receive (s : State) (rx : EthRx) (ptp : Bool) : State × Bool :=
  if s.portRuns rx.port then
    let s := (s.advanceTo (s.ingressStamp rx)).count (whole (R.PORT_CNT rx.port 0))
    if !rx.fcsOk then (s.count (whole (R.PORT_CNT rx.port 3)), false)
    else if rx.len < 64 ∨ 1600 < rx.len then (s.count (whole (R.PORT_CNT rx.port 2)), false)
    else if rx.pause || !s.vlanOk rx then (s, false)
    else
      match s.msecRx rx ptp with
      | (s, .pass) => (s, true)
      | (s, .quiet) => (s, false)
      | (s, .drop) =>
        ((s.count (whole (R.PORT_CNT rx.port 5))).evOncePerSecond Ev.macsecValidation rx.port (occ Ev.macsecValidation), false)
  else (s, false)

/-! ## Policing (R432 to R434) -/

/-- Colours of RFC 2698. -/
inductive Colour where
  | green | yellow | red
  deriving DecidableEq, Repr

/-- A frame's pre-colour (R433). -/
def State.preColour (s : State) (rx : EthRx) : Colour :=
  if s.flag (R.PORT_CTL_MARK rx.port) then
    match rx.dscp with
    | none => .green
    | some d =>
      match bits (s.rd (R.NET_DSCP_COL (d % 64 / 16))) (2 * (d % 16) + 1) (2 * (d % 16)) with
      | 0 => .green
      | 1 => .yellow
      | _ => .red
  else match rx.vlan with
    | some t => if t.dei then .yellow else .green
    | none => .green

/-- Micro-bytes in a byte: 1 unit of 64 kbit/s is 8 micro-bytes per ns. -/
def uB : Nat := 1_000_000

/-- A policer's buckets filled up to now; a policer never written or used is full (R434). -/
def State.policer (s : State) (p : Nat) : Policer :=
  let cbs := s.get (R.NET_POL_2_CBS p) * uB
  let pbs := s.get (R.NET_POL_3_PBS p) * uB
  match Tbl.look s.net.policers p with
  | none => ⟨cbs, pbs, s.now⟩
  | some b =>
    let dt := s.now - b.at_
    ⟨min cbs (b.tc + s.get (R.NET_POL_0_CIR p) * 8 * dt), min pbs (b.tp + s.get (R.NET_POL_1_PIR p) * 8 * dt), s.now⟩

/-- The two-rate three-colour marker of RFC 2698 on a frame of `len` bytes (R432, R433). -/
def markColour (b : Policer) (pre : Colour) (len : Nat) : Colour × Policer :=
  let l := len * uB
  if pre = .red ∨ b.tp < l then (.red, b)
  else if pre = .yellow ∨ b.tc < l then (.yellow, { b with tp := b.tp - l })
  else (.green, { b with tp := b.tp - l, tc := b.tc - l })

/-- Frames in the hub's ingress queue (`CMD_STS`.INQ). -/
def State.inq (s : State) : Nat := s.cmd.ingress.length

/-- A policer drop: counted, with EV 25 at most once per second per policer (R432). -/
def State.policerDrop (s : State) (a p : Nat) : State :=
  (s.count (whole a)).evOncePerSecond Ev.policerDrop p (occ Ev.policerDrop)

/-- Policing of a received frame by policer `p` (R432): whether it enters the hub's ingress queue. -/
def State.police (s : State) (rx : EthRx) (p : Nat) : State × Bool :=
  if s.flag R.NET_CTL_ENABLE then
    let pre := if s.flag (R.NET_POL_0_MODE p) then s.preColour rx else .green
    let (c, b) := markColour (s.policer p) pre rx.len
    let s := { s with net.policers := Tbl.put s.net.policers p b }
    match c with
    | .green => (s.count (whole (R.NET_POLC_0 p)), true)
    | .yellow =>
      if s.inq < s.get R.NET_CTL_YEL_THR then (s.count (whole (R.NET_POLC_1 p)), true)
      else (s.policerDrop (R.NET_POLC_3 p) p, false)
    | .red => (s.policerDrop (R.NET_POLC_2 p) p, false)
  else (s, true)

/-- A write of word `k` of policer `p` (R434, NET_POL table): PIR below CIR or PBS below CBS discards it; a taken write fills or
empties both buckets by TOK_RST. -/
def policerWrite (p k : Nat) (v : Word) (s : State) : State :=
  if 66 ≤ p ∨ 4 ≤ k then s
  else
    let a := R.NET_POL_0 p + 4 * k
    let s' := s.take a v
    if s'.get (R.NET_POL_1_PIR p) < s'.get (R.NET_POL_0_CIR p) ∨ s'.get (R.NET_POL_3_PBS p) < s'.get (R.NET_POL_2_CBS p) then
      s.netRefuse Code.NET_CONFIG
    else
      let b : Policer := if s'.flag (R.NET_POL_0_TOK_RST p) then
          ⟨s'.get (R.NET_POL_2_CBS p) * uB, s'.get (R.NET_POL_3_PBS p) * uB, s'.now⟩
        else ⟨0, 0, s'.now⟩
      { s' with net.policers := Tbl.put s'.net.policers p b }

/-! ## Egress queues and shapers (R435 to R438) -/

/-- Key of an egress queue. -/
def qKey (port q : Nat) : Nat := port * 4 + q

/-- An egress queue; one never used is empty with a full bucket. -/
def State.queue (s : State) (port q : Nat) : EgressQ :=
  Tbl.getD s.net.queues (qKey port q) ⟨[], [], s.get (R.PORT_Q_2_CBS port q) * uB, s.now, 0, 0, 0⟩

/-- The state with an egress queue replaced. -/
def State.setQueue (s : State) (port q : Nat) (x : EgressQ) : State :=
  { s with net.queues := Tbl.put s.net.queues (qKey port q) x }

/-- Bytes of L that wait in a queue (R442). -/
def EgressQ.depth (x : EgressQ) : Nat := x.frames.foldl (fun n f => n + f.len) 0

/-- The bucket filled up to now, never above CBS (R437). -/
def State.bucket (s : State) (port q : Nat) (x : EgressQ) : Int :=
  min ((s.get (R.PORT_Q_2_CBS port q) * uB : Nat) : Int)
    (x.tokens + (s.get (R.PORT_Q_1_CIR port q) * 8 * (s.now - x.at_) : Nat))

/-- A frame that enters its queue, or is dealt with by kind where QMAX would be passed (R436). -/
def State.enqueue (s : State) (port q : Nat) (item : EgressItem) (len : Nat) : State :=
  let x := s.queue port q
  let f : EgressFrame := ⟨item, len, s.now⟩
  let full := s.flag R.NET_CTL_ENABLE && decide (s.get (R.PORT_Q_0_QMAX port q) < x.depth + len)
  let stays := match item with
    | .afisk m => m.kind != .notice
    | .control _ => false
  if stays && (full || !x.waiting.isEmpty) then s.setQueue port q { x with waiting := x.waiting ++ [f] }
  else if full then
    let s := s.count (whole (R.PORT_CNT port 7))
    match item with
    | .afisk _ => s.evOncePerSecond Ev.egressDrop port (occ Ev.egressDrop)
    | .control _ => s
  else
    let x := { x with frames := x.frames ++ [f] }
    s.setQueue port q { x with depthMax := max x.depthMax x.depth }

/-- Frames that wait in the hub enter their queue as it admits them, in order (R436). -/
def State.admitWaiting (s : State) (port q : Nat) (fuel : Nat) : State :=
  match fuel with
  | 0 => s
  | fuel + 1 =>
    let x := s.queue port q
    match x.waiting with
    | [] => s
    | f :: rest =>
      if s.flag R.NET_CTL_ENABLE && decide (s.get (R.PORT_Q_0_QMAX port q) < x.depth + f.len) then s
      else
        let x := { x with frames := x.frames ++ [{ f with entered := s.now }], waiting := rest }
        (s.setQueue port q { x with depthMax := max x.depthMax x.depth }).admitWaiting port q fuel

/-- A write of word `k` of a queue (R438): QMAX and OVH are locked while `NET_CTL`.ENABLE reads 1; words 1 and 2 set the bucket
to CBS or to 0 by TOK_RST. -/
def shaperWrite (port q k : Nat) (v : Word) (s : State) : State :=
  if 4 ≤ port ∨ 4 ≤ q ∨ 4 ≤ k then s
  else
    let a := R.PORT_Q_0 port q + 4 * k
    if k = 0 ∨ k = 3 then
      if s.flag R.NET_CTL_ENABLE && s.rwcHit a v then s.portRefuse port Code.NET_CFG_LOCKED else s.take a v
    else
      let s := s.take a v
      let x := s.queue port q
      s.setQueue port q { x with
        tokens := if s.flag (R.PORT_Q_1_TOK_RST port q) then ((s.get (R.PORT_Q_2_CBS port q) * uB : Nat) : Int) else 0, at_ := s.now }

/-! ## Time gates (R439 to R441) -/

/-- A port's gate state; a list never committed is one entry from base 0. -/
def State.gate (s : State) (port : Nat) : Gate := Tbl.getD s.net.gates port ⟨0, 1, none⟩

/-- The entries of a gate list: open mask and duration in ns (PORT_GCL table). -/
def gateEntries (ws : List Word) (n : Nat) : List (Nat × Nat) := (ws.take n).map fun w => (bits w 31 28, bits w 23 0 * 10)

/-- The active list of a port. -/
def State.activeGates (s : State) (port : Nat) : List (Nat × Nat) :=
  gateEntries ((List.range 64).map fun k => s.rd (R.PORT_GCLA port k)) (s.gate port).nent

/-- The cycle of a list (R439 text: the sum of the durations). -/
def gateCycle (l : List (Nat × Nat)) : Nat := l.foldl (fun n e => n + e.2) 0

/-- The entry in force at offset `o` of a cycle, and how long it still lasts. -/
def gateAt (l : List (Nat × Nat)) (o i : Nat) : Nat × Nat × Nat :=
  match l with
  | [] => (0, 0, 0)
  | e :: r => if o < e.2 then (i, e.1, e.2 - o) else gateAt r (o - e.2) (i + 1)

/-- From an instant at which the gate of queue `q` is open, how long until it next closes: the rest of the entry in force and of the
open entries after it, or nothing where it never closes. -/
def gateOpenFor (l : List (Nat × Nat)) (q o : Nat) : Option Nat :=
  let (i, _, rest) := gateAt l o 0
  let n := l.length
  let after := (List.range n).map fun j => l.getD ((i + 1 + j) % n) (0, 0)
  let go := after.foldl (fun (p : Nat × Bool) e =>
    if p.2 then p else if e.1 / 2 ^ q % 2 = 1 then (p.1 + e.2, false) else (p.1, true)) (rest, false)
  if go.2 then some go.1 else none

/-- The index of the active entry in force now (`PORT_GATE_CTL_n`.CUR). -/
def State.gateCur (s : State) (port : Nat) : Nat :=
  let l := s.activeGates port
  let c := gateCycle l
  if c = 0 then 0 else (gateAt l ((s.now - (s.gate port).base) % c) 0).1

/-- Whether the head frame of a queue, of shaped length `len`, may start now by the gate (R439); a pending list counts as a closing at
its base for the queues that its first entry closes (R440). -/
def State.gateAllows (s : State) (port q len : Nat) : Bool :=
  if s.flag (R.PORT_GATE_CTL_GATE_EN port) then
    let l := s.activeGates port
    let c := gateCycle l
    let g := s.gate port
    let o := if c = 0 then 0 else (s.now - g.base) % c
    let openNow := (gateAt l o 0).2.1 / 2 ^ q % 2 == 1
    let need := 8 * len
    let guard_ := s.get (R.PORT_GATE_GUARD_GUARD_NS port)
    let fits (left : Nat) : Bool := decide (guard_ ≤ left) && decide (need ≤ (left - guard_) * s.rate port)
    let byList := match gateOpenFor l q o with
      | none => true
      | some left => fits left
    let byChange := match g.pending with
      | none => true
      | some (b, _, ws) => if bits (ws.headD 0) 31 28 / 2 ^ q % 2 = 1 then true else fits (b - s.now)
    openNow && byList && byChange
  else true

/-- The maximal stretches for which `p` holds of a cyclic list, as their lengths; `none` where it holds throughout. -/
def cyclicRuns (l : List (Nat × Nat)) (p : Nat → Bool) : Option (List Nat) :=
  if l.all fun e => p e.1 then none
  else
    let i := (List.range l.length).find? fun i => !p (l.getD i (0, 0)).1
    let r := l.rotateLeft (i.getD 0)
    let out := r.foldl (fun (acc : Nat × List Nat) e => if p e.1 then (acc.1 + e.2, acc.2)
      else (0, if acc.1 = 0 then acc.2 else acc.1 :: acc.2)) (0, [])
    some (if out.1 = 0 then out.2 else out.1 :: out.2)

/-- The queues that `NET_TENQ_k` names, notices included. -/
def State.namedQueues (s : State) : List Nat :=
  (List.range 4).filter fun q =>
    s.get R.NET_TENQ4_NOTICE_Q == q ||
      (List.range 64).any fun t => bits (s.rd (R.NET_TENQ (t / 16))) (2 * (t % 16) + 1) (2 * (t % 16)) == q

/-- The queue of tenant `t` (R435). -/
def State.tenantQueue (s : State) (t : Nat) : Nat := bits (s.rd (R.NET_TENQ (t / 16 % 4))) (2 * (t % 16) + 1) (2 * (t % 16))

/-- The check of a shadow gate list (R440). -/
def State.gateListOk (s : State) (port : Nat) : Bool :=
  let nent := s.get (R.PORT_GATE_CTL_NENT port)
  let l := gateEntries ((List.range 64).map fun k => s.rd (R.PORT_GCL port k)) nent
  let base := s.get (R.PORT_GATE_BASE_HI_B port) * 2 ^ 32 + s.get (whole (R.PORT_GATE_BASE_LO port))
  let d := d48 base s.now
  let shortOpen (q : Nat) : Bool :=
    let need := 8 * (1600 + s.get (R.PORT_Q_3_OVH port q))
    let guard_ := s.get (R.PORT_GATE_GUARD_GUARD_NS port)
    match cyclicRuns l fun m => m / 2 ^ q % 2 == 1 with
    | none => false
    | some runs => runs.any fun x => decide (x * s.rate port < need + guard_ * s.rate port)
  let longClosed (q : Nat) : Bool :=
    match cyclicRuns l fun m => m / 2 ^ q % 2 == 0 with
    | none => true
    | some runs => runs.any fun x => decide (20_000 < x)
  decide (1 ≤ nent) && decide (nent ≤ 64) && l.all (fun e => decide (1_000 ≤ e.2)) && decide (gateCycle l ≤ 1_000_000_000) &&
    decide (100_000 ≤ d) && !((List.range 4).any shortOpen) && !(s.namedQueues.any longClosed) && (s.gate port).pending.isNone

/-- A write of `PORT_GATE_CTL_n` (R440): COMMIT = 1 checks and arms the shadow list, and a refused write is discarded whole. -/
def gateCtlWrite (port : Nat) (v : Word) (s : State) : State :=
  let s' := s.take (R.PORT_GATE_CTL port) v
  if asks (R.PORT_GATE_CTL_COMMIT port) v then
    if s'.gateListOk port then
      let base := s'.get (R.PORT_GATE_BASE_HI_B port) * 2 ^ 32 + s'.get (whole (R.PORT_GATE_BASE_LO port))
      let ws := (List.range 64).map fun k => s'.rd (R.PORT_GCL port k)
      let g := s'.gate port
      { s'.put (R.PORT_GATE_CTL_PENDING port) 1 with
        net.gates := Tbl.put s'.net.gates port
          { g with pending := some (nearest base s'.now, s'.get (R.PORT_GATE_CTL_NENT port), ws) } }
    else s.portRefuse port Code.NET_GATE_INVALID
  else s'

/-- A write of COMMIT (R440). -/
def doGateCommit (port : Fin 4) (v : Word) (s : State) : State :=
  if asks (R.PORT_GATE_CTL_COMMIT port) v then gateCtlWrite port v s else s

/-- At the shadow base the new list replaces the active one (R440). -/
def doGateListApply (port : Fin 4) (s : State) : State :=
  let g := s.gate port
  match g.pending with
  | none => s
  | some (b, n, ws) =>
    if s.ctrlUp then
      let s := s.advanceTo b
      let s := (List.range 64).foldl (fun s k => s.wr (R.PORT_GCLA port k) (ws.getD k 0)) s
      let s := { s.put (R.PORT_GATE_CTL_PENDING port) 0 with net.gates := Tbl.put s.net.gates port ⟨b, n, none⟩ }
      s.ev Ev.gateListApplied
    else s

/-! ## MACsec associations (R429 to R431) -/

/-- The staged key of the SA registers, first byte most significant. -/
def State.stagedSakKey (s : State) : BitVec 256 :=
  BitVec.ofNat 256 ((List.range 8).foldl (fun a w => a * 2 ^ 32 + s.get (whole (R.CMD_SAK_KEY w))) 0)

/-- The staged salt of the SA registers. -/
def State.stagedSalt (s : State) : BitVec 96 :=
  BitVec.ofNat 96 ((List.range 3).foldl (fun a w => a * 2 ^ 32 + s.get (whole (R.CMD_SAK_SALT w))) 0)

/-- The next PN of a transmit SA shown in `PORT_TXPN_n_a`. -/
def State.showTxPn (s : State) (port an pn : Nat) : State :=
  (s.put (whole (R.PORT_TXPN_HI port an)) (pn / 2 ^ 32)).put (whole (R.PORT_TXPN_LO port an)) pn

/-- A write of `CMD_SAK_CTL` (R429, R538). -/
def sakCtlWrite (v : Word) (s : State) : State :=
  let set := asks R.CMD_SAK_CTL_SET v
  let clr := asks R.CMD_SAK_CTL_CLEAR v
  if set && clr then s
  else if set || clr then
    let port := bits v 9 8
    let dir := bits v 4 4
    let an := bits v 3 2
    let pn := s.get (whole R.CMD_SAK_PN_HI) * 2 ^ 32 + s.get (whole R.CMD_SAK_PN_LO)
    let xpn := s.flag (R.PORT_MSEC_XPN port)
    if (dir == 0 && an == s.get (R.PORT_MSEC_TX_AN port) && s.flag (R.PORT_MSEC_MS_EN port)) || pn == 0 ||
        (!xpn && s.get (whole R.CMD_SAK_PN_HI) != 0) then s.put R.CMD_CTL_REFUSE Code.NET_SAK_REFUSED
    else
      let s := s.take R.CMD_SAK_CTL v
      let sa : Sa := ⟨s.stagedSakKey, s.stagedSalt, s.rd R.CMD_SAK_SSCI, xpn, pn, pn, false⟩
      let k := saKey port dir an
      let s := { s with net.sas := if set then Tbl.put s.net.sas k sa else Tbl.del s.net.sas k }
      let s := s.put ⟨R.CMD_SAK_VALID, k, k⟩ (b2n set)
      let s := if dir = 0 then s.showTxPn port an (if set then pn else 0) else s
      let s := (List.range 8).foldl (fun s w => s.put (whole (R.CMD_SAK_KEY w)) 0) s
      let s := (List.range 3).foldl (fun s w => s.put (whole (R.CMD_SAK_SALT w)) 0) s
      s.ev Ev.saChange
  else s.take R.CMD_SAK_CTL v

/-- A write of `CMD_SAK_CTL`.SET (R429). -/
def doSakSet (v : Word) (s : State) : State := if asks R.CMD_SAK_CTL_SET v then sakCtlWrite v s else s

/-- A write of `CMD_SAK_CTL`.CLEAR (R429). -/
def doSakClear (v : Word) (s : State) : State := if asks R.CMD_SAK_CTL_CLEAR v then sakCtlWrite v s else s

/-- A write of `PORT_MSEC_n` (R430, R444): its RWC fields are locked while the port is enabled, and a TX_AN changed to an SA that is
not valid discards it. -/
def doMsecTxAnWrite (port : Fin 4) (v : Word) (s : State) : State :=
  let a := R.PORT_MSEC port
  let an := bits v 5 4
  if s.flag (R.PORT_CTL_ENABLE port) && s.rwcHit a v then s.portRefuse port Code.NET_CFG_LOCKED
  else if an ≠ s.get (R.PORT_MSEC_TX_AN port) ∧ s.get ⟨R.CMD_SAK_VALID, saKey port 0 an, saKey port 0 an⟩ = 0 then
    s.portRefuse port Code.NET_SAK_REFUSED
  else s.take a v

/-! ## Frames on their way out (R396, R403, R435, R439) -/

/-- Bytes of an outgoing frame: header, parameters, and a tag unless it goes to the mailbox. -/
def OutMsg.length (m : OutMsg) : Nat := 32 + m.params.length + (if m.key = .none then 0 else 16)

/-- The bytes of an outgoing frame up to its tag (R396, R397). -/
def OutMsg.bytes (m : OutMsg) (seq : BitVec 64) : List Byte :=
  let ty := match m.kind with
    | .reply => 2
    | .completion => 3
    | .notice => 4
  natBe 2 0x4146 ++ natBe 1 1 ++ natBe 1 (ty * 16 + b2n m.final * 2 + b2n (m.key != .none)) ++ natBe 2 m.length ++
    natBe 1 m.sess ++ natBe 1 m.tenant ++ natBe 8 seq.toNat ++ natBe 4 m.reqId ++ natBe 2 m.opcode ++ natBe 2 m.code ++
    natBe 8 (sched m.stamp) ++ m.params

/-- The tag of an outgoing frame (R403). -/
def OutMsg.tag (m : OutMsg) (seq : BitVec 64) : BitVec 128 :=
  match m.key with
  | .none => 0
  | .tenant k p n => gmac k (BitVec.ofNat 96 (p * 2 ^ 64 + n.toNat)) (m.bytes seq)
  | .session k => gmac k (BitVec.ofNat 96 (1 * 2 ^ 64 + seq.toNat)) (m.bytes seq)

/-- A frame leaves: its SEQ is the next of its session, or a free value outside any session (R403). -/
def State.depart (s : State) (m : OutMsg) : State :=
  let inSession := match m.key with
    | .tenant _ _ _ => false
    | _ => true
  let n := Tbl.getD s.cmd.txSeq m.uid 0 + 1
  let seq : BitVec 64 := if inSession then BitVec.ofNat 64 n else Config.outsideSeq s.free
  let s := if inSession then { s with cmd.txSeq := Tbl.put s.cmd.txSeq m.uid n } else s.draw
  { s with cmd.sent := s.cmd.sent ++ [⟨m, seq, m.tag seq, s.now⟩] }

/-- The transmitted length L of a frame on a port (R437, example of R443): Afisk bytes, UDP, IP, Ethernet, VLAN tag, SecTAG with SCI
and ICV, FCS; at least 64 bytes. A source address below 2^32 is an IPv4 one. -/
def State.wireLen (s : State) (port : Nat) (m : OutMsg) : Nat :=
  let ip := if m.addr.toNat < 2 ^ 32 then 20 else 40
  let vlan := if s.flag (R.PORT_VLAN_VLAN_EN port) then 4 else 0
  let sec := if s.flag (R.PORT_MSEC_MS_EN port) then 32 else 0
  max 64 (m.length + 8 + ip + 14 + vlan + sec + 4)

/-- The completion ring is full (R399). -/
def State.cplFull (s : State) : Bool :=
  (s.get R.CMD_MBX_CPL_TAIL_INDEX + 2 ^ 16 - s.get R.CMD_MBX_CPL_HEAD_INDEX) % 2 ^ 16 == 2 ^ s.get R.CMD_MBX_CFG_LOG2_CPL

/-- One frame written into the completion ring: the slot, then the tail, then MSI-X vector 0 at most once per 2 µs (R399). -/
def State.cplWrite (s : State) (m : OutMsg) : State :=
  let s := s.depart m
  let s := s.put R.CMD_MBX_CPL_TAIL_INDEX (s.get R.CMD_MBX_CPL_TAIL_INDEX + 1)
  let s := match s.cmd.msixCompletion.getLast? with
    | none => { s with cmd.msixCompletion := [s.now] }
    | some l => if s.now < l then s else { s with cmd.msixCompletion := s.cmd.msixCompletion ++ [max s.now (l + 2_000)] }
  if s.cplFull then { s with cmd.fullSince := some s.now, cmd.stallReported := false } else s

/-- A frame for the mailbox (R400): written into the ring, held while the ring is full, or, for a notice, dropped and counted. -/
def State.toMailbox (s : State) (m : OutMsg) : State :=
  if !s.mbxOn then s
  else if s.cplFull || !s.cmd.held.isEmpty then
    if m.kind = .notice then s.count (whole (R.CMD_CNT 7))
    else { s with cmd.held := s.cmd.held ++ [m] }
  else s.cplWrite m

/-- Held frames follow as the host frees slots (R400). -/
def State.releaseHeld (s : State) (fuel : Nat) : State :=
  match fuel with
  | 0 => s
  | fuel + 1 =>
    match s.cmd.held with
    | [] => s
    | m :: rest => if s.cplFull then s else ({ s with cmd.held := rest }.cplWrite m).releaseHeld fuel

/-- One frame made by the step goes to its ring or queue (R435). -/
def State.route (s : State) (m : OutMsg) : State :=
  if m.port = 4 then s.toMailbox m
  else
    let q := if m.kind = .notice then s.get R.NET_TENQ4_NOTICE_Q else s.tenantQueue m.tenant
    s.enqueue m.port q (.afisk m) (s.wireLen m.port m)

/-- Every frame made by the current step goes to its ring or queue, in order. -/
def State.flushOut (s : State) : State :=
  if s.cmd.outQ = [] then s else s.cmd.outQ.foldl State.route { s with cmd.outQ := [] }

/-- Transmit MACsec at a frame's start (R428, R430, R431): whether the frame is sent, with the SA's PN recorded first. PTP frames with
PTP_CLEAR = 1 go in clear. -/
def State.msecTx (s : State) (port : Nat) (ptp : Bool) : State × Bool :=
  if !s.flag (R.PORT_MSEC_MS_EN port) || (ptp && s.flag (R.PORT_MSEC_PTP_CLEAR port)) then (s, true)
  else
    let an := s.get (R.PORT_MSEC_TX_AN port)
    let lost (s : State) : State := (s.count (whole (R.PORT_CNT port 6))).ev Ev.pnExhausted
    match Tbl.look s.net.sas (saKey port 0 an) with
    | none => (lost s, false)
    | some sa =>
      if sa.pn = (if sa.xpn then 2 ^ 64 else 2 ^ 32) then (lost s, false)
      else
        let pn := sa.pn + 1
        let warn := !sa.warned && decide ((if sa.xpn then 2 ^ 62 else 0xC000_0000) ≤ pn)
        let s := { s with net.sas := Tbl.put s.net.sas (saKey port 0 an) { sa with pn := pn, warned := sa.warned || warn } }
        let s := s.showTxPn port an pn
        (if warn then s.ev Ev.pnWarning else s, true)

/-- Whether the head frame of a queue may start now: its bucket holds at least 0 tokens, and its gate allows it (R437, R439). -/
def State.mayStart (s : State) (port q : Nat) : Bool :=
  let x := s.queue port q
  match x.frames with
  | [] => false
  | f :: _ =>
    (s.get (R.PORT_Q_1_CIR port q) == 0 || decide (0 ≤ s.bucket port q x)) &&
      s.gateAllows port q (f.len + s.get (R.PORT_Q_3_OVH port q))

/-- The head frame of a queue starts: tokens taken, MACsec, SEQ and tag, counters and delay (R430, R437, R442). -/
def State.startFrame (s : State) (port q : Nat) : State :=
  let x := s.queue port q
  match x.frames with
  | [] => s
  | f :: rest =>
    let shaped := f.len + s.get (R.PORT_Q_3_OVH port q)
    let ptp := match f.item with
      | .control b => b
      | .afisk _ => false
    let (s1, sent) := s.msecTx port ptp
    if sent then
      let x := { x with frames := rest, tokens := s.bucket port q x - (shaped * uB : Nat), at_ := s.now,
                        started := x.started + 1, delayMax := max x.delayMax (s.now - f.entered) }
      let s1 := (s1.setQueue port q x).count (whole (R.PORT_CNT port 4))
      let s1 := { s1 with net.lineBusy := Tbl.put s1.net.lineBusy port (s.now + (8 * shaped + s.rate port - 1) / s.rate port) }
      let s1 := match f.item with
        | .afisk m => s1.depart m
        | .control _ => s1
      s1.admitWaiting port q rest.length.succ
    else s1.setQueue port q { x with frames := rest }

/-- The next start on a port: in strict priority, the first queue whose head may start once the line is free (R435, R439). -/
def doEgressFrameStart (port : Fin 4) (s : State) : State :=
  if s.portRuns port && s.flag (R.PORT_CTL_LINK port) then
    let s' := s.advanceTo (Tbl.getD s.net.lineBusy port 0)
    match (List.range 4).find? (s'.mayStart port) with
    | none => s
    | some q => s'.startFrame port q
  else s

/-- The end of a queue-sample interval, a multiple of INTERVAL in schedule time or its wrap to 0 (R118, R442): the four words of each queue
are posted. -/
def doQueueSample (port : Fin 4) (s : State) : State :=
  if s.ctrlUp then
    let iv := s.get (R.PORT_QS_CFG_INTERVAL port) * 1_000
    let n := sched s.now
    let s := s.advanceTo (s.now + min ((iv - n % iv) % iv) (2 ^ 48 - n))
    (List.range 4).foldl (fun s q =>
      let x := s.queue port q
      let s := s.put ⟨R.PORT_QSMP_0 port q, 31, 16⟩ (s.get ⟨R.PORT_QSMP_0 port q, 31, 16⟩ + 1)
      let s := s.put ⟨R.PORT_QSMP_0 port q, 15, 0⟩ (min x.started 0xFFFF)
      let s := s.put (whole (R.PORT_QSMP_1 port q)) x.depthMax
      let s := s.put (whole (R.PORT_QSMP_2 port q)) (min x.delayMax 0xFFFF_FFFF)
      let s := s.put (whole (R.PORT_QSMP_3 port q)) x.depth
      s.setQueue port q { x with started := 0, delayMax := 0, depthMax := x.depth }) s
  else s

/-- A port's link goes up or down (PORT_CTL table, R445). -/
def doLinkChange (port : Fin 4) (up : Bool) (s : State) : State :=
  if s.ctrlUp && s.flag (R.PORT_CTL_LINK port) != up then (s.put (R.PORT_CTL_LINK port) (b2n up)).ev Ev.link else s

/-- The check of `NET_CTL`.ENABLE (R444). -/
def netCheck (s : State) : Option Nat :=
  let bad := (List.range 4).any fun n =>
    let qs := (List.range 4).map fun q => s.get (R.PORT_Q_0_QMAX n q)
    decide (98_304 < qs.foldl (· + ·) 0) || qs.any (fun x => decide (x < 1_600))
  let slow := s.namedQueues.any fun q => (List.range 4).any fun n =>
    let c := s.get (R.PORT_Q_1_CIR n q)
    decide (1 ≤ c) && decide (c ≤ 0x3E7)
  if bad || slow then some Code.NET_CONFIG else none

/-- A write of `NET_CTL` (R444). -/
def doNetCtlWrite (v : Word) (s : State) : State :=
  s.ctlWrite R.NET_CTL R.NET_CTL_ENABLE R.NET_CTL_REFUSE Ev.networkConfigurationRefused Code.NET_CFG_LOCKED netCheck v

/-- The check of `PORT_CTL_n`.ENABLE (R444). -/
def portCheck (n : Nat) (s : State) : Option Nat :=
  let speed := s.get (R.PORT_CTL_SPEED n)
  let fec := s.get (R.PORT_CTL_FEC n)
  let an := s.get (R.PORT_MSEC_TX_AN n)
  if speed = 0 ∨ speed = 3 ∨ fec = 3 ∨ (fec = 2 ∧ speed = 1) ∨ bit (s.rd (R.PORT_MAC_HI n)) 8 = true ∨
      (s.flag (R.PORT_MSEC_MS_EN n) = true ∧ s.get ⟨R.CMD_SAK_VALID, saKey n 0 an, saKey n 0 an⟩ = 0) then
    some Code.NET_CONFIG
  else none

/-- A write of `PORT_CTL_n` (R444). -/
def doPortCtlWrite (port : Fin 4) (v : Word) (s : State) : State :=
  s.ctlWrite (R.PORT_CTL port) (R.PORT_CTL_ENABLE port) (R.PORT_CTL_REFUSE port) Ev.networkConfigurationRefused
    Code.NET_CFG_LOCKED (portCheck port) v

/-- A write of a port's address or MACsec configuration, locked while the port is enabled (R444). -/
def portCfgWrite (port a : Nat) (v : Word) (s : State) : State :=
  s.lockedWrite a (R.PORT_CTL_ENABLE port) (R.PORT_CTL_REFUSE port) Ev.networkConfigurationRefused Code.NET_CFG_LOCKED v

/-- A write of `NET_TENQ_k`, locked while `NET_CTL`.ENABLE reads 1 (R444). -/
def netCfgWrite (a : Nat) (v : Word) (s : State) : State :=
  s.lockedWrite a R.NET_CTL_ENABLE R.NET_CTL_REFUSE Ev.networkConfigurationRefused Code.NET_CFG_LOCKED v

/-- A write of `PORT_QS_CFG_n`: an interval outside 100 µs to 1,000,000 µs is discarded with NET_CONFIG. -/
def queueSampleWrite (port : Nat) (v : Word) (s : State) : State :=
  let iv := bits v 19 0
  if iv < 100 ∨ 1_000_000 < iv then s.portRefuse port Code.NET_CONFIG else s.take (R.PORT_QS_CFG port) v

/-- A received non-Afisk frame (R424): ARP, neighbour solicitations and echo requests are answered under policer 65; every other
frame is dropped and counted. PTP on its port goes to the servo in the step of its own. -/
def doEthFrameRx (rx : EthRx) (kind : EthKind) (s : State) : State :=
  if 4 ≤ rx.port then s
  else
    let ptp := kind == .ptpL2 || kind == .ptpUdp
    match s.receive rx ptp with
    | (s, false) => s
    | (s, true) =>
      let v4 := s.get (whole (R.PORT_IP4 rx.port)) != 0
      let v6 := (List.range 4).any fun k => s.get (whole (R.PORT_IP6 rx.port k)) != 0
      let answered := rx.toUs && match kind with
        | .arpRequest => v4
        | .neighbourSolicit => v6
        | .echoRequest => v4 || v6
        | _ => false
      if answered then
        match s.police rx 65 with
        | (s, true) => s.enqueue rx.port 0 (.control false) rx.len
        | (s, false) => s
      else if ptp && rx.port == s.get R.TIME_PTP_CFG_PORT then (s.police rx 65).1
      else s.count (whole (R.PORT_CNT rx.port 1))

/-- A received PTP message (R127, R139, R424): on the port named by `TIME_PTP_CFG`, under policer 65, it tells the servo whether a
master is selected, the offset of a usable Sync, and the TIME_INC that the servo writes. -/
def doPtpFrame (rx : EthRx) (udp : Bool) (domain : Nat) (master : Bool) (offset : Option Int) (inc : Option Nat) (s : State) :
    State :=
  if 4 ≤ rx.port then s
  else
    match s.receive rx true with
    | (s, false) => s
    | (s, true) =>
      if rx.port = s.get R.TIME_PTP_CFG_PORT then
        match s.police rx 65 with
        | (s, false) => s
        | (s, true) =>
          let fits := domain == s.get R.TIME_PTP_CFG_DOMAIN && (udp == (s.get R.TIME_PTP_CFG_TRANSPORT != 0))
          if fits then
            let s := s.servo master offset
            match inc with
            | none => s
            | some i => if s.flag R.TIME_PTP_CFG_ENABLE && decide (incMin ≤ i) && decide (i ≤ incMax) then s.setInc i else s
          else s
      else s.count (whole (R.PORT_CNT rx.port 1))

end Sys2Proof.Machine
end

