-- ==== Sys2Proof/Machine/Proto.lean ====
section
/-!
DEFINITION. Sys2Proof/Machine/Proto.lean: the Afisk command protocol: carriage, authentication, the order of checks, sessions, keys and
the mailbox ("The Afisk command protocol").
-/
namespace Sys2Proof

/-- The bytes of a received frame up to its tag: the additional authenticated data of R403. -/
def Frame.bytes (f : Frame) : List Byte :=
  natBe 2 f.magic ++ natBe 1 f.ver ++ natBe 1 (f.typ * 16 + f.flags) ++ natBe 2 f.length ++ natBe 1 f.session ++
    natBe 1 f.tenant ++ natBe 8 f.seq.toNat ++ natBe 4 f.reqId ++ natBe 2 f.opcode ++ natBe 2 f.code ++
    natBe 8 f.stamp.toNat ++ f.params

/-- FLAGS bit 0, AUTH (R396). -/
def Frame.auth (f : Frame) : Bool := f.flags % 2 == 1

/-- Order 1 of R405. -/
def Frame.formed (f : Frame) : Bool :=
  f.magic == 0x4146 && f.ver == 1 && f.typ == 1 && f.length == f.rcvd && decide (32 ≤ f.length) && decide (f.length ≤ 1440) &&
    32 + f.params.length + (if f.auth then 16 else 0) == f.length

/-- Header bits that a request carries as zero (R396), judged with the reserved bits of order 6. -/
def Frame.headerZero (f : Frame) : Bool :=
  f.flags / 2 == 0 && f.code == 0 && f.stamp == 0 && decide (f.tenant < 64)

/-- Whether a frame is one of the two that open a session. -/
def Frame.opens (f : Frame) : Bool := f.opcode == 0x1001 || f.opcode == 0x1002

end Sys2Proof

namespace Sys2Proof.Machine

/-! ## Requests and replies -/

/-- A big-endian parameter of `n` bytes at offset `o` (R396). -/
def u (p : List Byte) (o n : Nat) : Nat := beNat ((p.drop o).take n)

/-- A request that has passed order 4: its requester, its parameters and its ingress time-stamp. -/
structure Req where
  r : Requester
  p : List Byte
  at_ : Nat
  deriving DecidableEq, Repr

/-- One opcode (R410 to R418): its number, whether the device knows it (order 5), whether only the warden may send it and the code of order 7, whether a protective shutdown
leaves it (order 10), the range check of order 6, and its effect with the reply. -/
structure OpSpec where
  opcode : Nat
  known : Bool
  warden : Bool
  wardenCode : Nat
  always : Bool
  ok : List Byte → Bool
  body : Req → State → State × Nat × List Byte

/-- An opcode that any tenant may send. -/
def opAny (opcode : Nat) (always : Bool) (ok : List Byte → Bool) (body : Req → State → State × Nat × List Byte) : OpSpec :=
  ⟨opcode, true, false, 0, always, ok, body⟩

/-- A warden-only opcode answered SES_NOT_WARDEN at order 7. -/
def opWarden (opcode : Nat) (always : Bool) (ok : List Byte → Bool) (body : Req → State → State × Nat × List Byte) : OpSpec :=
  ⟨opcode, true, true, Code.SES_NOT_WARDEN, always, ok, body⟩

/-- A schedule opcode, answered CIR_NOT_OWNER at order 7 (R146). -/
def opSched (opcode : Nat) (ok : List Byte → Bool) (body : Req → State → State × Nat × List Byte) : OpSpec :=
  ⟨opcode, true, true, Code.CIR_NOT_OWNER, false, ok, body⟩

/-- A frame dropped at order 1, 2 or 4: counted in `CMD_CNT_n`, with EV 33 at most once per second (R405, R422). -/
def State.dropFrame (s : State) (n : Nat) : State :=
  (s.count (whole (R.CMD_CNT n))).evOncePerSecond Ev.frameDropped 0 (occ Ev.frameDropped)

/-- A frame that fails order 3 (R405): counted, LAST of its session, EV 32 at most once per second per session. -/
def State.authFail (s : State) (sess : Nat) : State :=
  let s := s.count (whole (R.CMD_CNT 1))
  let s := match Tbl.look s.cmd.sessions sess with
    | none => s
    | some x => { s with cmd.sessions := Tbl.put s.cmd.sessions sess { x with last := Code.SES_AUTH_FAIL } }
  s.evOncePerSecond Ev.authenticationFailure sess (occ Ev.authenticationFailure)

/-- What order 4 decides of an authenticated SEQ (R404). -/
inductive SeqVerdict where
  | accept | replay | drop
  deriving DecidableEq, Repr

/-- The replay window of a session (R404): W = 2^REPLAY_W values up to the highest accepted SEQ; SEQ 0 is never valid. -/
def Session.judge (x : Session) (w seq : Nat) : SeqVerdict :=
  if seq = 0 then .drop
  else if x.high < seq then .accept
  else if seq + w ≤ x.high then .drop
  else if x.seen.contains seq then .replay
  else .accept

/-- The session after an accepted SEQ (R404). -/
def Session.accept (x : Session) (w seq : Nat) : Session :=
  let high := max x.high seq
  { x with high := high, seen := seq :: x.seen.filter fun q => decide (high < q + w) }

/-- The reply to a request, placed before every frame the step has made (R407). -/
def State.reply (s : State) (m : OutMsg) : State := { s with cmd.outQ := m :: s.cmd.outQ }

/-- LAST of a session (`CMD_SES_n`): the last refusal code. -/
def State.setLast (s : State) (sess uid code : Nat) : State :=
  if code = Code.DONE ∨ code = Code.ACCEPTED then s
  else match Tbl.look s.cmd.sessions sess with
    | none => s
    | some x => if x.uid = uid then { s with cmd.sessions := Tbl.put s.cmd.sessions sess { x with last := code } } else s

/-- A request now awaits its final completion. -/
def State.await (s : State) (r : Requester) : State :=
  if r.sess = 32 then { s with cmd.mbxOutstanding := r.reqId :: s.cmd.mbxOutstanding }
  else match Tbl.look s.cmd.sessions r.sess with
    | none => s
    | some x => { s with cmd.sessions := Tbl.put s.cmd.sessions r.sess { x with outstanding := r.reqId :: x.outstanding } }

/-- The outstanding requests of a session (R405 orders 8 and 9). -/
def State.outstanding (s : State) (sess : Nat) : List Nat :=
  if sess = 32 then s.cmd.mbxOutstanding
  else match Tbl.look s.cmd.sessions sess with
    | none => []
    | some x => x.outstanding

/-- Orders 5 to 11 of R405 on an authenticated request, with its one reply (R406). -/
def State.execute (s : State) (spec : OpSpec) (r : Requester) (key : TagKey) (headerZero : Bool) (p : List Byte) : State :=
  let answer (code : Nat) (params : List Byte) : OutMsg :=
    { kind := .reply, final := code != Code.ACCEPTED, sess := r.sess, uid := r.uid, tenant := r.tenant, reqId := r.reqId,
      opcode := r.opcode, code := code, stamp := r.stamp, params := params, key := key, port := r.port, addr := r.addr,
      udp := r.udp }
  let refuse (s : State) (code : Nat) : State := (s.setLast r.sess r.uid code).reply (answer code [])
  if spec.known = false then refuse s Code.SES_BAD_OPCODE
  else if !(headerZero && spec.ok p) then refuse s Code.SES_BAD_PARAM
  else if spec.warden && r.tenant != 0 then refuse s spec.wardenCode
  else if (s.outstanding r.sess).contains r.reqId then refuse s Code.SES_REQ_ID_BUSY
  else if 64 ≤ (s.outstanding r.sess).length then refuse s Code.SES_OUTSTANDING
  else if s.flag R.THM_STS_SHUTDOWN && !spec.always then refuse s Code.THM_SHUTDOWN
  else
    let s := s.count (whole (R.CMD_CNT 4))
    let (s', code, params) := spec.body ⟨r, p, r.stamp⟩ (s.await r)
    let s' := if code = Code.ACCEPTED then s' else s'.endRequest r
    (s'.setLast r.sess r.uid code).reply (answer code params)

/-- Orders 1 to 4 of R405 on a network frame inside a session, then the rest. -/
def State.inSession (s : State) (spec : OpSpec) (f : Frame) (r : Requester) (x : Session) : State :=
  let aadKey := x.key
  let iv : BitVec 96 := BitVec.ofNat 96 f.seq.toNat
  if !(f.auth && f.tag == gmac aadKey iv f.bytes) then s.authFail f.session
  else
    let w := 2 ^ s.get R.CMD_CTL_REPLAY_W
    let x := { x with lease := tai r.stamp + s.get R.CMD_LEASE_CFG_SES_LEASE }
    match x.judge w f.seq.toNat with
    | .drop => { s with cmd.sessions := Tbl.put s.cmd.sessions f.session x }.dropFrame 2
    | .replay =>
      let s := { s with cmd.sessions := Tbl.put s.cmd.sessions f.session { x with last := Code.SES_REPLAY } }
      let s := s.count (whole (R.CMD_CNT 3))
      s.reply { kind := .reply, final := true, sess := r.sess, uid := r.uid, tenant := r.tenant, reqId := r.reqId,
                opcode := r.opcode, code := Code.SES_REPLAY, stamp := r.stamp, params := [], key := .session x.key,
                port := r.port, addr := r.addr, udp := r.udp }
    | .accept =>
      let s := { s with cmd.sessions := Tbl.put s.cmd.sessions f.session (x.accept w f.seq.toNat) }
      s.execute spec r (.session x.key) f.headerZero f.params

/-- An opcode number that the device does not know in this place: the reply is 0x0108 at order 5. -/
def opUnknown (opcode : Nat) : OpSpec :=
  { opcode := opcode, known := false, warden := false, wardenCode := 0, always := true, ok := fun _ => true,
    body := fun _ s => (s, Code.SES_BAD_OPCODE, []) }

/-- A request frame processed (R405) at ingress instant `at_`: from the mailbox it acts as tenant 0 in session 32 (R400), where the
session opcodes are not known; from the network it passes orders 1 to 4 first. -/
def State.process (s : State) (spec : OpSpec) (f : Frame) (at_ : Nat) : State :=
  match f.via with
  | .mailbox =>
    let r : Requester := ⟨32, s.cmd.mbxUid, 0, f.reqId, f.opcode, at_, 4, 0, 0⟩
    if f.magic == 0x4146 && f.ver == 1 && f.typ == 1 && f.length == f.rcvd && decide (32 ≤ f.length) then
      s.execute (if f.opcode / 0x1000 = 1 then opUnknown f.opcode else spec) r .none (f.flags / 2 == 0 && f.code == 0 && f.stamp == 0)
        f.params
    else s.dropFrame 0
  | .net rx src srcUdp _ =>
    if !f.formed then s.dropFrame 0
    else if f.session = 0xFF then
      if !f.opens then s.dropFrame 0
      else
        let tenant := f.tenant % 64
        let r : Requester := ⟨0xFF, 0, tenant, f.reqId, f.opcode, at_, rx.port, src, srcUdp⟩
        match Tbl.look s.cmd.keys tenant with
        | none => if f.opcode = 0x1001 then s else s.authFail 0xFF
        | some kt =>
          let nD : BitVec 64 := BitVec.ofNat 64 (u f.params 0 8)
          if f.opcode = 0x1001 then
            s.execute spec r (.tenant kt 3 (Config.nonce s.free)) f.headerZero f.params
          else if f.auth && f.tag == gmac kt (BitVec.ofNat 96 (2 * 2 ^ 64 + nD.toNat)) f.bytes then
            s.execute spec r (.tenant kt 4 nD) f.headerZero f.params
          else s.authFail 0xFF
    else
      match Tbl.look s.cmd.sessions f.session with
      | none => s.dropFrame 0
      | some x =>
        if f.session < 32 ∧ x.tenant = f.tenant ∧ tai at_ < x.lease then
          let r : Requester := ⟨f.session, x.uid, x.tenant, f.reqId, f.opcode, at_, rx.port, src, srcUdp⟩
          s.inSession (if f.opens then opUnknown f.opcode else spec) f r x
        else s.dropFrame 0

/-- A frame on its way into the hub (R398, R399, R405, R424, R472): received and policed on its port, or read from the next posted
request slot; in a freeze a datagram waits in the ingress queue of 4,096 frames. `none` where it goes no further. -/
def State.arrive (s : State) (f : Frame) : State × Option Nat :=
  match f.via with
  | .mailbox =>
    match s.cmd.posted with
    | [] => (s, none)
    | (_, at_) :: rest =>
      if s.ready && s.hubIn && s.mbxOn && !s.cplFull && decide (s.cmd.held.length < 1024) then
        let s := { s with cmd.posted := rest }
        (s.put R.CMD_MBX_REQ_HEAD_INDEX (s.get R.CMD_MBX_REQ_HEAD_INDEX + 1), some at_)
      else (s, none)
  | .net rx _ _ dst =>
    if 4 ≤ rx.port then (s, none)
    else
      match s.receive rx false with
      | (s, false) => (s, none)
      | (s, true) =>
        let toAfisk := rx.toUs && !rx.fragment && dst == s.get R.CMD_UDP_UDP_PORT && s.flag R.CMD_CTL_ENABLE &&
          bits (s.rd R.CMD_CTL) (4 + rx.port) (4 + rx.port) == 1
        if !toAfisk then (s.count (whole (R.PORT_CNT rx.port 1)), none)
        else
          match s.police rx (if f.session = 0xFF then 64 else f.tenant % 64) with
          | (s, false) => (s, none)
          | (s, true) =>
            let at_ := s.ingressStamp rx
            if s.stage != 6 then (s, none)
            else if s.svc.freezeEnd.isSome then
              if 4096 ≤ s.inq then (s.count (whole (R.CMD_CNT 6)), none)
              else ({ s with cmd.ingress := s.cmd.ingress ++ [(f, at_)] }, none)
            else (s, some at_)

/-- The step of a request opcode: a frame that carries it arrives and is processed. A frame of another opcode is no such step. -/
def doAfisk (spec : OpSpec) (f : Frame) (s : State) : State :=
  if f.opcode = spec.opcode then
    match s.arrive f with
    | (s, none) => s
    | (s, some at_) => (s.advanceTo at_).process spec f at_
  else s

/-! ## Sessions (R68, R69, R401, R402, R410) -/

/-- The notice of a session's close outside its subscriptions (R401, R410): a one-occurrence record of the event with the CODE. -/
def State.closeNotice (s : State) (i : Nat) (x : Session) (src code : Nat) : State :=
  let r : Rec := { Rec.empty with src := src, tenant := x.tenant, rep := 1, first := s.now, last := s.now, code := code }
  s.emit (noticeTo i x code s.now r.bytes)

/-- A session closes and drops its subscriptions (R69, R410). -/
def State.closeSession (s : State) (i : Nat) : State := { s with cmd.sessions := Tbl.del s.cmd.sessions i }

/-- SES_CHALLENGE: a fresh nonce for the tenant replaces its previous one (R402). -/
def opChallenge : OpSpec := opAny 0x1001 false (fun p => p.length == 8) fun q s =>
  let n := Config.nonce s.free
  ({ s.draw with cmd.nonces := Tbl.put s.cmd.nonces q.r.tenant ⟨n, q.at_⟩ }, Code.DONE, q.p ++ natBe 8 n.toNat)

/-- The lowest free session index. -/
def State.freeSession (s : State) : Option Nat := (List.range 32).find? fun i => (Tbl.look s.cmd.sessions i).isNone

/-- SES_OPEN (R68, R402, R403, R410). -/
def opOpen : OpSpec := opAny 0x1002 false (fun p => p.length == 16) fun q s =>
  let nD : BitVec 64 := BitVec.ofNat 64 (u q.p 0 8)
  let nH : BitVec 64 := BitVec.ofNat 64 (u q.p 8 8)
  match Tbl.look s.cmd.nonces q.r.tenant, Tbl.look s.cmd.keys q.r.tenant with
  | some n, some kt =>
    if n.nonce = nD ∧ q.at_ ≤ n.issued + 1_000_000_000 then
      let s := { s with cmd.nonces := Tbl.del s.cmd.nonces q.r.tenant }
      match s.freeSession with
      | none => (s, Code.SES_LIMIT, [])
      | some i =>
        let lease := s.get R.CMD_LEASE_CFG_SES_LEASE
        let x : Session := { uid := s.cmd.nextUid, tenant := q.r.tenant, key := sessionKey kt nD nH i q.r.tenant, high := 0,
                             seen := [], lease := tai q.at_ + lease, port := q.r.port, addr := q.r.addr, udp := q.r.udp,
                             outstanding := [], subs := [], last := 0 }
        let s := { s with cmd.sessions := Tbl.put s.cmd.sessions i x, cmd.nextUid := s.cmd.nextUid + 1 }
        let s := s.raise { occ Ev.sessionOpened with tenant := q.r.tenant }
        (s, Code.DONE, natBe 1 i ++ natBe 1 (s.get R.CMD_CTL_REPLAY_W) ++ [0, 0] ++ natBe 4 lease)
    else (s, Code.SES_NONCE, [])
  | _, _ => (s, Code.SES_NONCE, [])

/-- SES_CLOSE: the session closes after the reply (R410). -/
def opClose : OpSpec := opAny 0x1003 false (fun p => p.length == 0) fun q s =>
  ((s.closeSession q.r.sess).raise { occ Ev.sessionClosed with tenant := q.r.tenant }, Code.DONE, [])

/-- SES_KEEPALIVE: the lease, renewed at order 3, is returned (R410). -/
def opKeepalive : OpSpec := opAny 0x1004 false (fun p => p.length == 0) fun q s =>
  (s, Code.DONE, natBe 4 (match Tbl.look s.cmd.sessions q.r.sess with
    | none => 0
    | some x => x.lease % 2 ^ 32))

def doSesChallenge (f : Frame) (s : State) : State := doAfisk opChallenge f s
def doSesOpen (f : Frame) (s : State) : State := doAfisk opOpen f s
def doSesClose (f : Frame) (s : State) : State := doAfisk opClose f s
def doSesKeepalive (f : Frame) (s : State) : State := doAfisk opKeepalive f s

/-- A session lease expires at the start of its TAI second (R69, R70): announced with 0x010C, closed, EV 41. -/
def doSessionLeaseExpiry (i : Fin 32) (s : State) : State :=
  match Tbl.look s.cmd.sessions i with
  | none => s
  | some x =>
    if s.hubIn then
      let s := s.advanceTo (x.lease * 1_000_000_000)
      if x.lease ≤ tai s.now then
        let s := (s.closeNotice i x Ev.revocation Code.SES_LEASE_EXPIRED).closeSession i
        s.raise { occ Ev.revocation Code.SES_LEASE_EXPIRED with tenant := x.tenant }
      else s
    else s

/-! ## Keys (R401) -/

/-- The staged key, byte 0 most significant (CMD_KEY_STAGE table). -/
def State.stagedKey (s : State) : BitVec 256 :=
  BitVec.ofNat 256 ((List.range 8).foldl (fun a w => a * 2 ^ 32 + s.get (whole (R.CMD_KEY_STAGE w))) 0)

/-- Every open session of a tenant is sent SES_KEY_CHANGED and closed, with EV 35 (R401, R410). -/
def State.closeTenantSessions (s : State) (tenant : Nat) : State :=
  s.cmd.sessions.foldl (fun s e =>
    if e.2.tenant = tenant then
      ((s.closeNotice e.1 e.2 Ev.sessionClosed Code.SES_KEY_CHANGED).closeSession e.1).raise
        { occ Ev.sessionClosed Code.SES_KEY_CHANGED with tenant := tenant }
    else s) s

/-- A tenant key installed or removed (R401): the stage is cleared, the VALID bit follows, EV 36, and the tenant's sessions
close. -/
def State.changeKey (s : State) (tenant : Nat) (key : Option (BitVec 256)) : State :=
  let s := { s with cmd.keys := match key with
    | some k => Tbl.put s.cmd.keys tenant k
    | none => Tbl.del s.cmd.keys tenant }
  let s := (List.range 8).foldl (fun s w => s.put (whole (R.CMD_KEY_STAGE w)) 0) s
  let reg := if tenant < 32 then R.CMD_KEY_VALID_LO else R.CMD_KEY_VALID_HI
  let s := s.put ⟨reg, tenant % 32, tenant % 32⟩ (b2n key.isSome)
  (s.raise { occ Ev.keyChanged with tenant := tenant }).closeTenantSessions tenant

/-- A write of `CMD_KEY_CTL` (R401, R538). -/
def keyCtlWrite (v : Word) (s : State) : State :=
  let set := asks R.CMD_KEY_CTL_SET v
  let clr := asks R.CMD_KEY_CTL_CLEAR v
  if set && clr then s
  else
    let key := s.stagedKey
    let s := s.take R.CMD_KEY_CTL v
    let tenant := s.get R.CMD_KEY_CTL_TENANT
    if set then s.changeKey tenant (some key) else if clr then s.changeKey tenant none else s

/-- A write of `CMD_KEY_CTL`.SET (R401). -/
def doKeySet (v : Word) (s : State) : State := if asks R.CMD_KEY_CTL_SET v then keyCtlWrite v s else s

/-- A write of `CMD_KEY_CTL`.CLEAR (R401). -/
def doKeyClear (v : Word) (s : State) : State := if asks R.CMD_KEY_CTL_CLEAR v then keyCtlWrite v s else s

/-! ## Configuration (R420) -/

/-- The check of `CMD_CTL`.ENABLE. -/
def cmdCheck (s : State) : Option Nat :=
  let w := s.get R.CMD_CTL_REPLAY_W
  let p := s.get R.CMD_UDP_UDP_PORT
  if w < 5 ∨ 10 < w ∨ s.get R.CMD_CTL_PORT_EN = 0 ∨ p = 0 ∨ p = 319 ∨ p = 320 then some Code.SES_CONFIG else none

/-- A write of `CMD_CTL`; clearing ENABLE closes every network session (R420). -/
def doCmdCtlWrite (v : Word) (s : State) : State :=
  let s' := s.ctlWrite R.CMD_CTL R.CMD_CTL_ENABLE R.CMD_CTL_REFUSE Ev.commandConfigurationRefused Code.SES_CONFIG cmdCheck v
  if s.flag R.CMD_CTL_ENABLE && !s'.flag R.CMD_CTL_ENABLE then { s' with cmd.sessions := [] } else s'

/-- A write of `CMD_UDP`, locked while `CMD_CTL`.ENABLE reads 1 (R420). -/
def cmdUdpWrite (v : Word) (s : State) : State :=
  s.lockedWrite R.CMD_UDP R.CMD_CTL_ENABLE R.CMD_CTL_REFUSE Ev.commandConfigurationRefused Code.SES_CONFIG v

/-- The mailbox stopped (R420): unread request slots and every frame held for the completion ring are discarded. -/
def State.stopMailbox (s : State) : State :=
  let s := s.put R.CMD_MBX_REQ_HEAD_INDEX (s.get R.CMD_MBX_REQ_TAIL_INDEX)
  { s with cmd.posted := [], cmd.held := [], cmd.mbxOutstanding := [], cmd.fullSince := none, cmd.mbxUid := s.cmd.nextUid,
           cmd.nextUid := s.cmd.nextUid + 1 }

/-- The check of `CMD_MBX_CFG`.ENABLE: bases multiples of 4,096, both LOG2 fields from 4 to 10; the mailbox is refused before
READY (R420, R499). -/
def mbxCheck (s : State) : Option Nat :=
  let lo := s.get R.CMD_MBX_CFG_LOG2_REQ
  let lc := s.get R.CMD_MBX_CFG_LOG2_CPL
  if s.get (whole R.CMD_MBX_REQ_BASE_LO) % 4096 ≠ 0 ∨ s.get (whole R.CMD_MBX_CPL_BASE_LO) % 4096 ≠ 0 ∨ lo < 4 ∨ 10 < lo ∨
      lc < 4 ∨ 10 < lc ∨ s.stage ≠ 6 then some Code.SES_CONFIG
  else none

/-- A write of `CMD_MBX_CFG` (R420). -/
def doCmdMbxCfgWrite (v : Word) (s : State) : State :=
  let s' := s.ctlWrite R.CMD_MBX_CFG R.CMD_MBX_CFG_ENABLE R.CMD_MBX_CFG_REFUSE Ev.commandConfigurationRefused Code.SES_CONFIG
    mbxCheck v
  if s.mbxOn && !s'.mbxOn then s'.stopMailbox else s'

/-- A write of a mailbox base register, discarded while the mailbox runs (R420). -/
def mbxBaseWrite (a : Nat) (v : Word) (s : State) : State :=
  s.lockedWrite a R.CMD_MBX_CFG_ENABLE R.CMD_MBX_CFG_REFUSE Ev.commandConfigurationRefused Code.SES_CONFIG v

/-- A write of `CMD_LEASE_CFG`: 0 or above 3,600 s is discarded. -/
def leaseCfgWrite (v : Word) (s : State) : State :=
  let l := bits v 11 0
  if l = 0 ∨ 3600 < l then s else s.take R.CMD_LEASE_CFG v

/-! ## Mailbox rings (R399, R400, R427) -/

/-- A write of `CMD_MBX_REQ_TAIL`, the doorbell: every slot from the old tail to the new one is posted with the instant of the
write (R130, R399). -/
def doMbxDoorbell (v : Word) (s : State) : State :=
  let old := s.get R.CMD_MBX_REQ_TAIL_INDEX
  let s := s.take R.CMD_MBX_REQ_TAIL v
  let n := (s.get R.CMD_MBX_REQ_TAIL_INDEX + 2 ^ 16 - old) % 2 ^ 16
  if s.mbxOn then
    { s with cmd.posted := s.cmd.posted ++ (List.range n).map fun i => ((old + i) % 2 ^ 16, s.now) }
  else s

/-- A write of `CMD_MBX_CPL_HEAD` frees completion slots, and held frames follow (R399, R400). -/
def doMbxCplHeadWrite (v : Word) (s : State) : State :=
  let s := s.take R.CMD_MBX_CPL_HEAD v
  if s.mbxOn then
    let s := if s.cplFull then s else { s with cmd.fullSince := none, cmd.stallReported := false }
    s.releaseHeld s.cmd.held.length
  else s

/-- The completion ring full for 10 ms: EV 37 once (R400). -/
def doMbxStall (s : State) : State :=
  match s.cmd.fullSince with
  | none => s
  | some t =>
    if s.cmd.stallReported then s
    else { s.advanceTo (t + 10_000_000) with cmd.stallReported := true }.ev Ev.mailboxStalled

/-- A function-level reset, hot reset or loss of the PCIe link (R427): the mailbox stops, EV 22, and nothing else changes. -/
def doPcieReset (s : State) : State :=
  let s := if s.mbxOn then (s.put R.CMD_MBX_CFG_ENABLE 0).stopMailbox else s
  s.ev Ev.pcieReset

end Sys2Proof.Machine
end

