-- ==== Sys2Proof/Machine/Circuit.lean ====
section
/-!
DEFINITION. Sys2Proof/Machine/Circuit.lean: circuits, owners, grants and leases: requests, releases, placement's outcome, re-timing and
deferred releases ("Circuits, tenants and ownership", "Where circuits go: the placement engine", opcodes of R411).
-/
namespace Sys2Proof.Machine

/-! ## Instants -/

/-- The first persistent epoch at or after an instant (R125, R163). -/
def persFrom (n : Nat) : Nat := gridFrom persGrid n

/-- Offset of a slot in its cycle (R143). -/
def slotOfs (durs : List Nat) (n : Nat) : Nat := (durs.take n).sum

/-- The first slot epoch of slot `n` at or after an instant (R143). -/
def Active.epochFrom (a : Active) (n x : Nat) : Nat :=
  let c := max 1 a.durs.sum
  let b := a.start + slotOfs a.durs n
  if x ≤ b then b - (b - x) / c * c else b + (x - b + c - 1) / c * c

/-- The next persistent epoch whose point of no return has not passed (R59, R540). -/
def State.nextPers (s : State) : Nat := persFrom (s.now + 5_000)

/-- A 48-bit schedule time in eight bytes (R411). -/
def be48 (n : Nat) : List Byte := natBe 8 (sched n)

/-- The throttle level in force. -/
def State.level (s : State) : Nat := s.get R.THM_STS_LEVEL

/-- The fabric is in bivouac (R216). -/
def State.bivouac (s : State) : Bool := s.flag R.GLB_STS_BIVOUAC

/-! ## Owners and grants (R63 to R67) -/

/-- Owner of a port (R63). -/
def State.owner (s : State) (out : Bool) (p : Nat) : Nat :=
  let a := if out then R.CMD_OWN_OUT (p / 4) else R.CMD_OWN_IN (p / 4)
  bits (s.rd a) (p % 4 * 8 + 5) (p % 4 * 8)

/-- A valid grant of a port to a tenant (R63, R66). -/
def State.grantOf (s : State) (out : Bool) (p tenant at_ : Nat) : Option Nat :=
  (s.cir.grants.find? fun e => e.2.out == out && e.2.port == p && e.2.grantee == tenant && (e.2.lease == 0 || decide (tai at_ < e.2.lease))).map (·.1)

/-- The right of a tenant to a port: `none` without one, else the grant it uses, if any (R63). -/
def State.right (s : State) (out : Bool) (p tenant at_ : Nat) : Option (Option Nat) :=
  if s.owner out p = tenant then some none else (s.grantOf out p tenant at_).map some

/-- A port is used in a slot by a non-IDLE circuit other than `but` (R49). -/
def State.portUsed (s : State) (but : Nat) (scheduled : Bool) (slot input output : Nat) : Bool :=
  s.cir.ctxs.any fun e => e.1 != but && e.2.state != Cs.idle && (e.2.input == input || ctxOut e.1 == output) &&
    (!e.2.scheduled || !scheduled || ctxSlot e.1 == slot)

/-- Ports of a circuit as keys. -/
def ctxPorts (i : Nat) (c : Ctx) : List Nat := [portKey false c.input, portKey true (ctxOut i)]

/-- A circuit other than `but`, or the target of an armed swap, uses the port (R59, R145, R157). -/
def State.portNeeded (s : State) (but k : Nat) : Bool :=
  (s.cir.ctxs.any fun e => e.1 != but && (e.2.lit || e.2.waits) && (ctxPorts e.1 e.2).contains k) ||
  (match s.sch.swap with
    | none => false
    | some w => w.opened.contains k)

/-- Latches that a circuit opened close again when nothing else uses them (R59). -/
def State.closeOpened (s : State) (i : Nat) : State :=
  let c := s.ctx i
  s.close ((c.opened ++ if c.waits then ctxPorts i c else []).filter fun k => !s.portNeeded i k)

/-- A circuit that fails its verification (R57, R145, R321): opens of its ports that have not started are dropped and its open latches close
where nothing else uses them; an open that has been pulsed runs through its retries. -/
def State.dropOpens (s : State) (i : Nat) : State :=
  let ks := (ctxPorts i (s.ctx i)).filter fun k => !s.portNeeded i k
  let s := { s with fab.waits := s.fab.waits.filter fun w => !ks.contains w.port }
  s.close (ks.filter fun k => (s.port k).lstate == 2)

/-- 170 µs after an open pulse the latch is sensed (R319: 0 OPEN, 1 INDET, 2 DARK), and retried or set FAULT_DARK (R321); one sensed OPEN that
nothing uses any more closes again (R145). -/
def doLatchOpenSense (out : Bool) (p : Fin 1024) (sense : Fin 3) (s : State) : State :=
  let k := portKey out p.val
  let t := portTile k
  let x := s.port k
  if x.lstate = 1 then
    let s := s.advanceTo (x.pulse.getD s.now + 170_000)
    let x := { x with sense := sense.val }
    if sense.val = 0 then
      let s := s.setPort k { x with lstate := 2, pulse := none }
      if s.portNeeded 263_168 k then s else s.close [k]
    else
      let s := s.count (whole (R.TILE_FD_LAT_CNT t 2))
      if x.tries < s.get (R.TILE_FD_LAT_CFG_OPEN_RETRY t) then
        (s.count (whole (R.TILE_FD_LAT_CNT t 0))).setPort k { x with tries := x.tries + 1, pulse := some s.now }
      else (s.setPort k { x with lstate := 4, pulse := none }).evPort (Ev.latchOpenFailed t) out p.val 0 Code.PRT_LATCH_OPEN_FAIL
  else s

/-! ## Library effects of a persistent circuit (R108, R150) -/

/-- Entries whose placement a path meets become STALE (R108, R111). -/
def State.staleBy (s : State) (hit : SchCir → Bool) : State :=
  { s with sch.lib := s.sch.lib.map fun e =>
      if (e.2.lstate == 3 || e.2.lstate == 4) && e.2.circuits.any hit then (e.1, { e.2 with lstate := 4, reason := 0 }) else e }

/-- The hops of a circuit of a library entry. -/
def SchCir.hops (c : SchCir) : List Hop := match c.route with
  | none => []
  | some r => path c.rec_.input r

/-- A persistent circuit's path has come or gone (R108). -/
def State.stalePath (s : State) (h : List Hop) : State := s.staleBy fun c => 0 < sharedCells c.hops h

/-! ## Leaving (R57, R59, R61) -/

/-- The request that was to light a circuit ends with a code, with the parameters of a final completion (R411). -/
def State.endLight (s : State) (i : Nat) (code : Nat) : State :=
  let c := s.ctx i
  let s := s.setCtx i { c with req := none }
  s.completeOpt c.req true code (natBe 4 i ++ be48 c.eplan ++ natBe 1 c.moved ++ [0, 0, 0])

/-- A repair found impossible is retried by 100 µs after a circuit leaves (R110). -/
def State.retrySoon (s : State) : State :=
  if s.cir.noRepair.isEmpty then s else { s with cir.retryAt := some (match s.cir.retryAt with
    | none => s.now + 100_000
    | some n => n) }

/-- A circuit leaves a lit state for `goal` (DARK, FAILED or IDLE): its ports are blanked at the G0 of the next persistent epoch, and its
lines stay reserved until then (R59, R79). `e` gives the epoch where a rule names it. -/
def State.leaveLit (s : State) (i goal reason : Nat) (e : Nat) : State :=
  let c := s.ctx i
  let old := match c.route with
    | none => []
    | some r => [Leave.mk i c.input r c.scheduled (ctxSlot i) e]
  let s := { s with cir.leaves := s.cir.leaves ++ old }
  let s := if c.scheduled then s else s.stalePath c.hops
  let c := s.ctx i
  let s := if goal = Cs.idle then s.idleCtx i else s.setCtx i { c with state := goal, reason := reason, placed := none, check := none, after := none }
  s.retrySoon

/-- A circuit that waits for its commit leaves it at once; latches it opened close (R57, R59), those of a failed circuit once they are open. -/
def State.leaveWait (s : State) (i goal reason : Nat) : State :=
  let s := { s with cir.queue := s.cir.queue.erase i }
  let c := s.ctx i
  let s := if c.placed.isSome && !c.scheduled then s.stalePath c.newHops else s
  let s := if goal = Cs.failed then s.dropOpens i else s.closeOpened i
  let c := s.ctx i
  (if goal = Cs.idle then s.idleCtx i else s.setCtx i { c with state := goal, reason := reason, placed := none, after := none, opened := [] }).retrySoon

/-- The transition past its point of no return that commits a circuit. -/
def State.committing (s : State) (i : Nat) : Option Trans := s.fab.trans.find? fun t => t.lights.contains i

/-- The stage of the running traverse that names a circuit, with whether that stage is past its point of no return. -/
def State.stageOf (s : State) (i : Nat) : Option (Move × Bool) :=
  match s.trv.journal with
  | [] => none
  | t :: _ => t.stages.findSome? fun g => (g.moves.find? (·.ctx == i)).map fun m => (m, g.sstate == 1)

/-- A move of a circuit that leaves is dropped from the plan (R211). -/
def State.dropMove (s : State) (i : Nat) : State :=
  { s with trv.journal := s.trv.journal.map fun t => { t with stages := t.stages.map fun g =>
      if g.sstate = 0 then { g with moves := g.moves.filter fun m => m.ctx != i || m.isNew } else g } }

/-- A circuit ends by a release, DISABLE, expiry or revocation now (R57, R59, R211). The requester of the command gets DONE, and the
request that was to light the circuit `lightCode`. -/
def State.finishLeave (s : State) (i : Nat) (a : After) (lightCode e : Nat) : State :=
  let c := s.ctx i
  let goal := if a.disable then Cs.dark else Cs.idle
  let reason := if a.disable then Code.CIR_DISABLED else a.code
  let s := if c.waits then (s.endLight i lightCode).leaveWait i goal reason
    else if c.lit then s.dropMove i |>.leaveLit i goal reason e
    else if a.disable then s.setCtx i { c with state := Cs.dark, reason := if c.state = Cs.dark then c.reason else Code.CIR_DISABLED }
    else s.idleCtx i
  let s := if a.code = 0 then s else s.evCtx Ev.revocation i c.tenant a.code
  s.completeOpt a.req true Code.DONE []

/-- A release, DISABLE, expiry or revocation meets a circuit (R61, R211): before the point of no return it acts now; between it and the
decision instant an earlier ingress withdraws the commit there; otherwise the commit stands and it acts after. -/
def State.leave (s : State) (i : Nat) (a : After) (ingress lightCode : Nat) : State :=
  let c := s.ctx i
  match s.committing i with
  | some t =>
    let w := decide (ingress < t.e - 5_000) && decide (s.now ≤ t.e - 1_000)
    s.setCtx i { c with after := some { a with withdraw := w } }
  | none =>
    if c.state = Cs.moving ∨ (match s.stageOf i with
        | some (m, flight) => !m.isNew && flight
        | none => false) = true then
      s.setCtx i { c with after := some a }
    else s.finishLeave i a lightCode s.nextPers

/-! ## Epochs of requests (R60, R152, R539) -/

/-- The epoch a request commits at, given an instant in place of its ingress (R60, R152): the lead is 100 µs with both latches open, else
250 µs, and an open holds it back to S + 175 µs. -/
def State.epochFor (s : State) (scheduled : Bool) (slot : Nat) (ports : List Nat) (x : Nat) (target : Option Nat) : Nat :=
  let lead := if ports.all s.isOpen then 100_000 else 250_000
  let hold := (ports.filterMap s.openBy).foldl (fun m n => max m (n + 175_000)) 0
  let from_ := max hold (match target with
    | none => x + lead
    | some t => t)
  if scheduled then match s.sch.active with
    | none => persFrom from_
    | some a => a.epochFrom slot from_
  else persFrom from_

/-- The lead time of R152. -/
def State.leadFor (s : State) (ports : List Nat) : Nat := if ports.all s.isOpen then 100_000 else 250_000

/-- A circuit re-timed with `x` in place of its ingress (R539). -/
def State.retime (s : State) (i x : Nat) : State :=
  let c := s.ctx i
  let e := s.epochFor c.scheduled (ctxSlot i) (ctxPorts i c) x c.target
  s.setCtx i { c with eplan := max c.eplan e, state := if c.state = Cs.armed then Cs.armed else c.state }

/-- Time checks of R120 and R121 on a 48-bit target. -/
def State.timeCheck (s : State) (target : Option Nat) (ingress lead : Nat) : Option Nat :=
  match target with
  | none => none
  | some t =>
    let d := d48 t ingress
    if !s.flag R.TIME_STS_VALID then some Code.TIM_NOT_VALID
    else if d = -((2 : Int) ^ 47) then some Code.TIM_OUT_OF_HORIZON
    else if d < lead then some Code.TIM_TOO_LATE
    else none

/-! ## Requests (R92, R411) -/

/-- What a circuit request asks, as it stands in a context. -/
structure Ask where
  input : Nat
  output : Nat
  scheduled : Bool
  slot : Nat
  pinned : Bool
  mayMove : Bool
  tenant : Nat
  target : Option Nat
  lease : Nat
  deriving DecidableEq, Repr

/-- Orders 1 to 7 of R92 (with R60, R153) on a request; `but` is the circuit's own context under ENABLE. -/
def State.judge (s : State) (a : Ask) (but ingress : Nat) : Option Nat :=
  let ports := [portKey false a.input, portKey true a.output]
  if s.bivouac then some Code.TRV_BIVOUAC
  else if 2 ≤ s.level then some Code.THM_THROTTLED
  else if !s.flag R.PLC_CTL_ENABLE then some Code.PLC_DISABLED
  else if (s.right false a.input a.tenant ingress).isNone || (s.right true a.output a.tenant ingress).isNone then some Code.CIR_NOT_OWNER
  else if s.portUsed but a.scheduled a.slot a.input a.output then some Code.CIR_PORT_BUSY
  else if ports.any fun k => (s.port k).lstate == 5 then some Code.CIR_PORT_FAULT
  else if !s.flag R.EPO_CTL_ENABLE then some Code.SCH_DISABLED
  else if a.scheduled && s.sch.active.isNone then some Code.SCH_NO_ACTIVE
  else if a.scheduled && (match s.sch.active with
      | none => true
      | some v => decide (v.durs.length ≤ a.slot)) then some Code.SCH_BAD_SLOT
  else match s.timeCheck a.target ingress (s.leadFor ports) with
    | some c => some c
    | none => if 48 ≤ s.cir.queue.length then some Code.PLC_QUEUE_FULL else none

/-- The placement queue in order of ingress, equal ones by session index (R100). -/
def State.queueUp (s : State) (i : Nat) : State :=
  let k (j : Nat) : Nat := (s.ctx j).ingress * 64 + (s.ctx j).ses
  let (a, b) := s.cir.queue.partition fun j => decide (k j ≤ k i)
  { s with cir.queue := a ++ [i] ++ b }

/-- An accepted request (R57, R60, R321): the context is PENDING, opens fall due, and the reply carries CTX and E_PLAN. -/
def State.accept (s : State) (a : Ask) (q : Req) : State × Nat × List Byte :=
  let i := a.output * 256 + if a.scheduled then a.slot else 0
  let old := s.ctx i
  let ports := [portKey false a.input, portKey true a.output]
  let target := a.target.map fun t => nearest t q.at_
  let e := s.epochFor a.scheduled a.slot ports q.at_ target
  let dark := ports.filter fun k => !s.isOpen k
  let g (out : Bool) (p : Nat) : Option Nat := (s.right out p a.tenant q.at_).getD none
  let c : Ctx := { Ctx.idle with
    state := Cs.pending, scheduled := a.scheduled, pinned := a.pinned, tenant := a.tenant, reason := old.reason, input := a.input,
    cycling := old.cycling, route := old.route, reqId := q.r.reqId, epoch := old.epoch,
    sched := if a.scheduled then (match s.sch.active with
      | none => 0
      | some v => v.entry) else 0,
    lease := a.lease, grantIn := g false a.input, grantOut := g true a.output, loss := old.loss, outPwr := old.outPwr,
    moves := old.moves, gen := old.gen, litS := old.litS, ingress := sched q.at_, ses := q.r.sess, eplan := e, target := target,
    mayMove := a.mayMove, req := some q.r, opened := dark }
  let s := s.setCtx i c
  let s := dark.foldl (fun s k => s.wantOpen k q.at_) s
  let s := if a.scheduled then s else
    { s with cir.ctxs := s.cir.ctxs.filter fun x => ctxOut x.1 != a.output || x.1 == i }
  (s.queueUp i, Code.ACCEPTED, natBe 4 i ++ be48 e)

/-- DUR as an expiry (R410, R411). -/
def expiry (dur at_ : Nat) : Nat := if dur = 0 then 0 else tai at_ + dur

def durOk (d : Nat) : Bool := decide (d ≤ 31_536_000)

/-- CIR_REQUEST (R92, R411). -/
def opCirRequest : OpSpec := opAny 0x2001 false
  (fun p => p.length == 20 && decide (u p 0 2 < 1024) && decide (u p 2 2 < 1024) && decide (u p 5 1 < 16) && decide (u p 6 1 < 64) &&
    u p 7 1 == 0 && (u p 5 1 / 8 % 2 == 0 || u p 8 2 == 0) && durOk (u p 16 4))
  fun q s =>
    let f := u q.p 5 1
    let owner := u q.p 6 1
    let a : Ask := { input := u q.p 0 2, output := u q.p 2 2, scheduled := f / 4 % 2 == 1, slot := u q.p 4 1, pinned := f % 2 == 1,
                     mayMove := f / 2 % 2 == 1, tenant := owner, target := if f / 8 % 2 = 1 then some (u q.p 10 6) else none,
                     lease := expiry (u q.p 16 4) q.at_ }
    if q.r.tenant != 0 && owner != q.r.tenant then
      (s, (if s.bivouac then Code.TRV_BIVOUAC else if 2 ≤ s.level then Code.THM_THROTTLED
        else if !s.flag R.PLC_CTL_ENABLE then Code.PLC_DISABLED else Code.CIR_NOT_OWNER), [])
    else match s.judge a 262_144 q.at_ with
      | some c => (s, c, [])
      | none => s.accept a q

/-- A named context in use: CTX below 262,144 and not IDLE. -/
def State.known (s : State) (i : Nat) : Bool := decide (i < 262_144) && (s.ctx i).state != Cs.idle

/-- A tenant may release or DISABLE a circuit (R63, R64). -/
def State.mayEnd (s : State) (i tenant : Nat) : Bool :=
  let c := s.ctx i
  tenant == 0 || tenant == c.tenant || s.owner false c.input == tenant || s.owner true (ctxOut i) == tenant

/-- CIR_RELEASE (R59, R61, R411). -/
def opCirRelease : OpSpec := opAny 0x2002 false (fun p => p.length == 4) fun q s =>
  let i := u q.p 0 4
  if !s.known i then (s, Code.CIR_UNKNOWN, [])
  else if !s.mayEnd i q.r.tenant then (s, Code.CIR_NOT_OWNER, [])
  else if s.bivouac then (s, Code.TRV_BIVOUAC, [])
  else
    let s := s.setCtx i { s.ctx i with reqId := q.r.reqId }
    (s.leave i ⟨false, false, 0, some q.r⟩ q.at_ Code.TRV_ABORTED, Code.ACCEPTED, [])

/-- CIR_DISABLE (R57, R61, R411). -/
def opCirDisable : OpSpec := opAny 0x2004 false (fun p => p.length == 4) fun q s =>
  let i := u q.p 0 4
  if !s.known i then (s, Code.CIR_UNKNOWN, [])
  else if !s.mayEnd i q.r.tenant then (s, Code.CIR_NOT_OWNER, [])
  else if s.bivouac then (s, Code.TRV_BIVOUAC, [])
  else
    let s := s.setCtx i { s.ctx i with reqId := q.r.reqId }
    (s.leave i ⟨true, false, 0, some q.r⟩ q.at_ Code.TRV_ABORTED, Code.ACCEPTED, [])

/-- CIR_ENABLE (R44, R57, R411): a DARK or FAILED circuit is asked for again as it stands. -/
def opCirEnable : OpSpec := opAny 0x2003 false (fun p => p.length == 4) fun q s =>
  let i := u q.p 0 4
  let c := s.ctx i
  if !s.known i then (s, Code.CIR_UNKNOWN, [])
  else if q.r.tenant != 0 && q.r.tenant != c.tenant then (s, Code.CIR_NOT_OWNER, [])
  else if c.state != Cs.dark && c.state != Cs.failed then (s, Code.CIR_BAD_STATE, [])
  else
    let a : Ask := { input := c.input, output := ctxOut i, scheduled := c.scheduled, slot := ctxSlot i, pinned := c.pinned,
                     mayMove := false, tenant := c.tenant, target := none, lease := c.lease }
    match s.judge a i q.at_ with
    | some code => (s, code, [])
    | none => s.accept a q

/-- CIR_ATTR (R72, R411). -/
def opCirAttr : OpSpec := opAny 0x2005 false (fun p => p.length == 8 && decide (u p 4 1 < 2) && u p 5 3 == 0) fun q s =>
  let i := u q.p 0 4
  let c := s.ctx i
  let pin := u q.p 4 1 == 1
  if !s.known i then (s, Code.CIR_UNKNOWN, [])
  else if q.r.tenant != 0 && q.r.tenant != c.tenant then (s, Code.CIR_NOT_OWNER, [])
  else if pin && !c.pinned && (c.state == Cs.moving || s.inJournal i) then (s, Code.CIR_BAD_STATE, [])
  else (s.setCtx i { c with pinned := pin, reqId := q.r.reqId }, Code.DONE, [])

/-- CIR_LEASE (R70, R411). -/
def opCirLease : OpSpec := opAny 0x2006 false (fun p => p.length == 8 && durOk (u p 4 4)) fun q s =>
  let i := u q.p 0 4
  let c := s.ctx i
  let x := expiry (u q.p 4 4) q.at_
  if !s.known i then (s, Code.CIR_UNKNOWN, [])
  else if q.r.tenant != c.tenant then (s, Code.CIR_NOT_OWNER, [])
  else if c.lease != 0 && decide (c.lease ≤ tai q.at_) then (s, Code.CIR_LEASE_EXPIRED, [])
  else (s.setCtx i { c with lease := x, reqId := q.r.reqId }, Code.DONE, natBe 4 x)

/-! ## What a tenant sees (R55, R73) -/

/-- The sixteen words of a context (R55). -/
def ctxWords (i : Nat) (c : Ctx) : List Nat :=
  if c.state = Cs.idle then [0, 0, 0, 0, 0, 0, 0, 0, 0, c.gen, 0, 0, 0, 0, 0, 0]
  else
    let g (x : Option Nat) : Nat := match x with
      | none => 0
      | some n => 2 ^ 9 + n
    let seen : Bool := c.route.isSome
    [ c.state * 2 ^ 28 + (if c.scheduled then 2 else 1) * 2 ^ 26 + b2n c.pinned * 2 ^ 25 + c.tenant * 2 ^ 18 + c.reason,
      (if c.scheduled then ctxSlot i else 0) * 2 ^ 20 + c.input * 2 ^ 10 + ctxOut i,
      c.cycling * 2 ^ 26 + c.route.getD 0,
      c.reqId % 2 ^ 32,
      c.epoch % 2 ^ 32,
      c.sched * 2 ^ 20 + c.epoch / 2 ^ 32 % 2 ^ 16,
      c.lease % 2 ^ 32,
      g c.grantIn * 2 ^ 22 + g c.grantOut * 2 ^ 12,
      if seen then c.loss * 2 ^ 16 + c.outPwr else 0,
      c.moves * 2 ^ 16 + c.gen,
      c.litS % 2 ^ 32,
      c.ingress % 2 ^ 32,
      c.ses * 2 ^ 16 + c.ingress / 2 ^ 32 % 2 ^ 16,
      0, 0, 0 ]

/-- A context as a reader sees it (R73). -/
def State.ctxView (s : State) (i tenant at_ : Nat) : List Nat :=
  let c := s.ctx i
  let w := ctxWords i c
  if tenant = 0 ∨ (c.state != Cs.idle && c.tenant == tenant) = true then w
  else if c.state != Cs.idle &&
      ((s.right false c.input tenant at_).isSome || (s.right true (ctxOut i) tenant at_).isSome) then
    match w with
    | a :: b :: _ => [a / 2 ^ 26 * 2 ^ 26 + c.tenant * 2 ^ 18, b] ++ List.replicate 14 0
    | _ => w
  else List.replicate 16 0

/-- CIR_READ (R73, R411). -/
def opCirRead : OpSpec := opAny 0x2007 true
  (fun p => p.length == 8 && decide (1 ≤ u p 4 2) && decide (u p 4 2 ≤ 16) && u p 6 2 == 0 && decide (u p 0 4 + u p 4 2 ≤ 262_144))
  fun q s =>
    (s, Code.DONE, (List.range (u q.p 4 2)).flatMap fun k => (s.ctxView (u q.p 0 4 + k) q.r.tenant q.at_).flatMap (natBe 4))

/-! ## Grants (R66, R67, R411) -/

/-- GRANT_CREATE: only the port's owner (R63). -/
def opGrantCreate : OpSpec := opAny 0x2008 false
  (fun p => p.length == 8 && decide (u p 0 1 < 2) && decide (u p 1 1 < 64) && decide (u p 2 2 < 1024) && durOk (u p 4 4))
  fun q s =>
    let out := u q.p 0 1 == 1
    let port := u q.p 2 2
    if s.owner out port != q.r.tenant then (s, Code.CIR_NOT_OWNER, [])
    else match (List.range 512).find? fun n => (Tbl.look s.cir.grants n).isNone with
      | none => (s, Code.CIR_GRANT_FULL, [])
      | some n =>
        let x := expiry (u q.p 4 4) q.at_
        ({ s with cir.grants := Tbl.put s.cir.grants n ⟨out, port, u q.p 1 1, q.r.tenant, x⟩ }, Code.DONE,
          natBe 2 n ++ [0, 0] ++ natBe 4 x)

/-- Circuits that use a grant (R55). -/
def State.grantUsers (s : State) (n : Nat) : List Nat :=
  (s.cir.ctxs.filter fun e => e.2.grantIn == some n || e.2.grantOut == some n).map (·.1)

/-- A grant ended: its entry is freed and EV 41 names the port and the grantee (R66, R67); READY entries that use it become STALE
(R150), and circuits of inactive entries under it are removed (R151). -/
def State.freeGrant (s : State) (n : Nat) : State :=
  match Tbl.look s.cir.grants n with
  | none => s
  | some g =>
    let s := s.staleBy fun c => c.grantIn == some n || c.grantOut == some n
    let s := { s with cir.grants := Tbl.del s.cir.grants n }
    s.evPort Ev.revocation g.out g.port g.grantee Code.CIR_GRANT_REVOKED

/-- Circuits of inactive entries that match are removed, each with EV 41 (R151). -/
def State.purgeLib (s : State) (hit : SchCir → Bool) (code : Nat) : State :=
  s.sch.lib.foldl (fun s e =>
    if e.2.lstate = 6 then s
    else
      let gone := e.2.circuits.filter hit
      let s := { s with sch.lib := Tbl.put s.sch.lib e.1 { (Tbl.getD s.sch.lib e.1 e.2) with circuits := e.2.circuits.filter fun c => !hit c } }
      gone.foldl (fun s c => s.evCtx Ev.revocation (c.rec_.output * 256 + c.slot) c.rec_.tenant code) s) s

/-- A revocation acts (R66): every circuit using the grant is released, then the entry is freed. -/
def State.revoke (s : State) (n ingress : Nat) : State :=
  let s := (s.grantUsers n).foldl (fun s i => s.leave i ⟨false, false, Code.CIR_GRANT_REVOKED, none⟩ ingress Code.CIR_GRANT_REVOKED) s
  (s.freeGrant n).purgeLib (fun c => c.grantIn == some n || c.grantOut == some n) Code.CIR_GRANT_REVOKED

/-- Revocations whose circuits have all been released complete with DONE (R66, R411). -/
def State.settleRevokes (s : State) : State :=
  s.cir.revokes.foldl (fun s x =>
    if (s.grantUsers x.1).isEmpty && !(s.cir.deferred.any fun d => d.grant && d.index == x.1) then
      { s with cir.revokes := s.cir.revokes.erase x }.complete x.2 true Code.DONE []
    else s) s

/-- GRANT_REVOKE (R62, R66, R411). In bivouac the revocation is deferred (R540). -/
def opGrantRevoke : OpSpec := opAny 0x2009 false (fun p => p.length == 2) fun q s =>
  let n := u q.p 0 2
  match Tbl.look s.cir.grants n with
  | none => (s, Code.CIR_UNKNOWN, [])
  | some g =>
    if g.owner != q.r.tenant then (s, Code.CIR_NOT_OWNER, [])
    else
      let s := { s with cir.revokes := s.cir.revokes ++ [(n, q.r)] }
      if s.bivouac then ({ s with cir.deferred := s.cir.deferred ++ [⟨true, n, Code.CIR_GRANT_REVOKED⟩] }, Code.ACCEPTED, [])
      else ((s.revoke n q.at_).settleRevokes, Code.ACCEPTED, [])

/-- GRANT_LEASE (R70, R411). -/
def opGrantLease : OpSpec := opAny 0x200A false (fun p => p.length == 8 && u p 2 2 == 0 && durOk (u p 4 4)) fun q s =>
  let n := u q.p 0 2
  match Tbl.look s.cir.grants n with
  | none => (s, Code.CIR_UNKNOWN, [])
  | some g =>
    let x := expiry (u q.p 4 4) q.at_
    if s.owner g.out g.port != q.r.tenant then (s, Code.CIR_NOT_OWNER, [])
    else if g.lease != 0 && decide (g.lease ≤ tai q.at_) then (s, Code.CIR_LEASE_EXPIRED, [])
    else ({ s with cir.grants := Tbl.put s.cir.grants n { g with lease := x } }, Code.DONE, natBe 4 x)

/-- One owner field of a write, judged on its own (R65, R67). -/
def State.ownField (s : State) (out : Bool) (p v : Nat) : State × Bool :=
  if s.owner out p = v then (s, true)
  else if s.cir.ctxs.any fun e => e.2.state != Cs.idle && e.2.tenant != v && (if out then ctxOut e.1 == p else e.2.input == p) then (s, false)
  else
    let a := if out then R.CMD_OWN_OUT (p / 4) else R.CMD_OWN_IN (p / 4)
    let s := s.put ⟨a, p % 4 * 8 + 5, p % 4 * 8⟩ v
    let s := s.staleBy fun c => if out then c.rec_.output == p else c.rec_.input == p
    let gs := s.cir.grants.filter fun e => e.2.out == out && e.2.port == p
    (gs.foldl (fun s e =>
      let s := { s with cir.ctxs := s.cir.ctxs.map fun (x : Nat × Ctx) =>
        if e.2.grantee == v && (x.2.grantIn == some e.1 || x.2.grantOut == some e.1) then
          (x.1, { x.2 with grantIn := if x.2.grantIn == some e.1 then none else x.2.grantIn,
                           grantOut := if x.2.grantOut == some e.1 then none else x.2.grantOut, gen := (x.2.gen + 1) % 65_536 })
        else x }
      s.freeGrant e.1) s, true)

/-- A write of `CMD_OWN_IN_n` or `CMD_OWN_OUT_n` (R65, R67). -/
def doOwnerWrite (out : Bool) (n : Fin 256) (v : Word) (s : State) : State :=
  let (s, bad) := (List.range 4).foldl (fun (s, bad) k =>
    let (s, ok) := s.ownField out (4 * n.val + k) (bits v (k * 8 + 5) (k * 8))
    (s, if ok then bad else bad ++ [k])) (s, [])
  match bad with
  | [] => s.wr R.CMD_OWN_REFUSE 0
  | k :: _ =>
    let w := (bad.map fun j => 2 ^ (27 + j)).sum + b2n out * 2 ^ 26 + (4 * n.val + k) * 2 ^ 16 + Code.CIR_PORT_IN_USE
    (s.wr R.CMD_OWN_REFUSE (BitVec.ofNat 32 w)).evPort Ev.ownershipRefusal out (4 * n.val + k) 0 Code.CIR_PORT_IN_USE

/-! ## Expiries and deferred releases (R62, R66, R70, R71, R540) -/

/-- A circuit lease expires at the start of its TAI second (R70); in bivouac or with the hub out of service the release is deferred. -/
def doCircuitLeaseExpiry (i : Fin 262144) (s : State) : State :=
  let c := s.ctx i.val
  if c.state != Cs.idle && c.lease != 0 then
    let s := s.advanceTo (c.lease * 1_000_000_000)
    if s.bivouac || !s.hubIn then
      if s.cir.deferred.any fun d => !d.grant && d.index == i.val then s
      else { s with cir.deferred := s.cir.deferred ++ [⟨false, i.val, Code.CIR_LEASE_EXPIRED⟩] }
    else s.leave i.val ⟨false, false, Code.CIR_LEASE_EXPIRED, none⟩ s.now Code.CIR_LEASE_EXPIRED
  else s

/-- A grant lease expires (R66, R70). -/
def doGrantLeaseExpiry (n : Fin 512) (s : State) : State :=
  match Tbl.look s.cir.grants n.val with
  | none => s
  | some g =>
    if g.lease = 0 then s
    else
      let s := s.advanceTo (g.lease * 1_000_000_000)
      if s.bivouac || !s.hubIn then
        if s.cir.deferred.any fun d => d.grant && d.index == n.val then s
        else { s with cir.deferred := s.cir.deferred ++ [⟨true, n.val, Code.CIR_GRANT_REVOKED⟩] }
      else s.revoke n.val s.now

/-- Deferred expiries and revocations act at the point of no return of the first grid point after their cause ends (R540). -/
def doDeferredRelease (s : State) : State :=
  if s.cir.deferred.isEmpty || s.bivouac || !s.hubIn then s
  else
    let cause := s.cir.deferUntil.getD s.now
    let e := persFrom (max cause s.now + 5_000)
    let s := s.advanceTo (e - 5_000)
    let l := s.cir.deferred
    let s := { s with cir.deferred := [], cir.deferUntil := none }
    let s := l.foldl (fun s d =>
      if d.grant then s.revoke d.index s.now
      else if (s.ctx d.index).state = Cs.idle then s
      else s.leave d.index ⟨false, false, d.code, none⟩ s.now d.code) s
    s.settleRevokes

/-! ## The journal takes a plan (R200, R201, R204) -/

/-- Whether circuit `a` waits for a line that `b` leaves (R201). -/
def State.depends (s : State) (a b : Move) : Bool :=
  a.ctx != b.ctx && sameLine (path (s.ctx a.ctx).input a.new) (path (s.ctx b.ctx).input b.old)

/-- Moves reachable through dependencies. -/
def reach (dep : Move → Move → Bool) (ms : List Move) (n : Nat) (seen : List Move) : List Move :=
  match n with
  | 0 => seen
  | n + 1 => reach dep ms n (seen ++ ms.filter fun m => !seen.contains m && seen.any fun x => dep x m)

/-- Groups of moves that depend on one another in a cycle, in a topological order: those they depend on first (R201). -/
def groupsOf (dep : Move → Move → Bool) (ms : List Move) : List (List Move) :=
  let after (m : Move) : List Move := reach dep ms ms.length [m]
  let order := ms.foldl (fun (l : List (Nat × Move)) m => Tbl.put l ((after m).length * 2 ^ 20 + m.ctx) m) []
  (order.foldl (fun (acc : List (List Move) × List Move) x =>
    if acc.2.contains x.2 then acc
    else
      let g := ms.filter fun y => y = x.2 || ((after x.2).contains y && (after y).contains x.2)
      (acc.1 ++ [g], acc.2 ++ g)) ([], [])).1

/-- The moves cut into stages, filled greedily (R201); `none` when the plan breaks a limit. -/
def cutStages (dep : Move → Move → Bool) (most : Nat) (ms : List Move) (new : Option Move) : Option (List Stage) :=
  let gs := groupsOf dep ms
  if gs.any fun g => decide (most < g.length) then none
  else
    let stages := gs.foldl (fun (l : List (List Move)) g => match l.reverse with
      | [] => [g]
      | x :: r => if (x ++ g).length ≤ most then (r.reverse) ++ [x ++ g] else l ++ [g]) []
    if 16 < stages.length then none
    else
      let stages := match new, stages.reverse with
        | some m, x :: r => r.reverse ++ [x ++ [m]]
        | some m, [] => [[m]]
        | none, _ => stages
      some (stages.map fun g => ⟨g, 0, 0, 0⟩)

/-- A traverse put into the journal (R200), or the code that refuses it (R200, R201, R217). -/
def State.addTraverse (s : State) (origin : Nat) (scheduled : Bool) (slot tenant : Nat) (req : Option Requester) (target : Option Nat)
    (ms : List Move) (new : Option Move) : State × Except Nat Nat :=
  if !s.flag R.TRV_CTL_ENABLE then (s, .error Code.TRV_DISABLED)
  else if 8 ≤ s.trv.journal.length then (s, .error Code.TRV_QUEUE_FULL)
  else match cutStages s.depends (s.get R.TRV_CTL_STAGE_MOVES) ms new with
    | none => (s, .error Code.TRV_PLAN_LIMIT)
    | some stages =>
      let id := s.trv.nextId % 65_536
      let t : Trav := { id := id, origin := origin, slotScope := scheduled, slot := slot, tenant := tenant, req := req, progress := req,
                        state := 1, stages := stages, done := 0, target := target, timed := false, elast := 0, back := false,
                        code := Code.DONE, reason := 0, commits := 0, lastK := 0, lastE := 0, suspendDue := false, abortDue := false }
      let s := { s with trv.journal := s.trv.journal ++ [t], trv.nextId := s.trv.nextId + 1 }
      let s := (ms ++ new.toList).foldl (fun s m => s.setCtx m.ctx { s.ctx m.ctx with traverse := some id }) s
      (s, .ok id)

/-! ## Placement rows (R93 to R102) -/

/-- What `PLC_LAST` reports (R98). -/
def State.plcLast (s : State) (code moves cycling score : Nat) : State :=
  (s.wr R.PLC_LAST (BitVec.ofNat 32 (code * 2 ^ 16 + min moves 255 * 2 ^ 8 + cycling))).put (whole R.PLC_LAST_SCORE) score

/-- A refused placement (R98): the code, Nm, and the context back to IDLE. -/
def State.refusePlacement (s : State) (i code nm : Nat) : State :=
  let s := (s.plcLast code nm 0 0)
  let s := if code / 256 = 3 then s.count (whole (R.PLC_CNT 1)) else s
  let s := if code = Code.PLC_SEARCH_LIMIT then s.evCtx Ev.searchLimit i (s.ctx i).tenant code else s
  let s := s.setCtx i { s.ctx i with moved := nm }
  (s.endLight i code).leaveWait i Cs.idle 0

/-- A placed circuit (R57): PLACED on its route, at its planned epoch or, when that can no longer be armed, at the next one. -/
def State.placedOn (s : State) (i route : Nat) : State :=
  let c := s.ctx i
  let s := s.setCtx i { c with state := Cs.placed, placed := some route }
  let s := if c.eplan < s.now + 5_000 then s.retime i s.now else s
  (if c.scheduled then s else s.stalePath (path c.input route)).count (whole (R.PLC_CNT 0))

/-- A rearrangement run begins, or waits behind the one in progress (R102, R110). -/
def State.startRun (s : State) (g : Goal) : State :=
  match s.cir.run with
  | some _ => { s with cir.waitRuns := s.cir.waitRuns ++ [g] }
  | none =>
    let scope := match g with
      | .request i => s.moveScope (s.ctx i).scheduled (ctxSlot i)
      | .repair entry slot =>
        (s.moveScope slot.isSome (slot.getD 0)).filter fun i => (s.ctx i).hops.any (·.pos == entry % 10_240)
    { s with cir.run := some ⟨g, 0, s.resvs, scope⟩ }

/-- The next queued request is placed incrementally, refused, or handed to the solver (R93, R100). -/
def doCircuitPlacement (s : State) : State :=
  if !s.ctrlUp then s
  else match s.cir.queue with
  | [] => s
  | i :: rest =>
    let s := { s with cir.queue := rest }
    let c := s.ctx i
    match s.place s.cycActive s.resvs (s.moveScope c.scheduled (ctxSlot i)) (s.item i) with
    | .ok m score ncyc => (s.plcLast 0 0 ncyc score).placedOn i (routeOf (ctxOut i) m)
    | .refuse code => s.refusePlacement i code 0
    | .search _ => s.startRun (.request i)

/-- The next waiting run begins. -/
def State.nextRun (s : State) : State :=
  let s := { s with cir.run := none }
  match s.cir.waitRuns with
  | [] => s
  | g :: r => { s with cir.waitRuns := r }.startRun g

/-- A solution conflicts with what has been reserved or fenced since its snapshot (R102, R103), or moves a circuit that has left. -/
def State.conflicts (s : State) (run : Run) (l : Layout) : Bool :=
  let new := s.resvs.filter fun r => !run.snap.contains r
  l.any fun x => let r := x.1.at_ x.2
    !r.free (new.filter fun o => !(l.any fun y => y.1.ctx == o.ctx)) || !s.cellsOk r.hops ||
      (run.scope.contains x.1.ctx && !((s.ctx x.1.ctx).lit && !s.inJournal x.1.ctx))

/-- The moves of a layout: circuits whose route changes. -/
def State.movesOf (s : State) (l : Layout) : List Move :=
  (l.map fun x => Move.mk x.1.ctx ((s.ctx x.1.ctx).route.getD 0) (routeOf x.1.output x.2) false).filter fun m => m.old != m.new

/-- REASON of each circuit that a failed repair leaves on its cell, and EV 49 (R110). -/
def State.repairFails (s : State) (entry : Nat) (slot : Option Nat) (scope : List Nat) : State :=
  let s := scope.foldl (fun s i => s.setCtx i { s.ctx i with reason := Code.PLC_NO_REPAIR }) s
  let s := if s.cir.noRepair.contains (entry, slot) then s else { s with cir.noRepair := s.cir.noRepair ++ [(entry, slot)] }
  s.ev Ev.repairImpossible Code.PLC_NO_REPAIR

/-- A rearrangement run ends (R95, R102): the solver's outcome, checked against what has changed since its snapshot. Whether the search
spent SEARCH_BUDGET is a free value: the spec does not count its steps. -/
def doRearrangeRunEnd (s : State) : State :=
  if !s.ctrlUp then s
  else match s.cir.run with
  | none => s
  | some run =>
    let spent := Config.free 2 s.free % 2 == 1
    let s := s.draw
    let again (s : State) (limit : State → State) : State :=
      let s := s.count (whole (R.PLC_CNT 3))
      if run.runs + 1 < 3 then { s with cir.run := some { run with runs := run.runs + 1, snap := s.resvs } } else limit s.nextRun
    match run.goal with
    | .request i =>
      let c := s.ctx i
      if c.state != Cs.pending then s.nextRun
      else if spent then s.nextRun.refusePlacement i Code.PLC_SEARCH_LIMIT 0
      else
        let it := s.item i
        match s.place s.cycActive run.snap run.scope it with
        | .ok m score ncyc =>
          if s.conflicts run [(it, m)] then again s fun s => s.refusePlacement i Code.PLC_SEARCH_LIMIT 0
          else (s.nextRun.plcLast 0 0 ncyc score).placedOn i (routeOf (ctxOut i) m)
        | .refuse code => s.nextRun.refusePlacement i code 0
        | .search c5 =>
          match s.rearrange s.cycActive run.snap (run.scope.map s.item) it c5 with
          | none => s.nextRun.refusePlacement i Code.PLC_NO_PATH 0
          | some (nm, sol) =>
            if s.conflicts run sol.layout then again s fun s => s.refusePlacement i Code.PLC_SEARCH_LIMIT 0
            else if s.pol R.PLC_LIM2_MOVE_MAX < nm then s.nextRun.refusePlacement i Code.PLC_MOVE_LIMIT nm
            else if !c.mayMove then s.nextRun.refusePlacement i Code.PLC_NEEDS_MOVE nm
            else
              let s := s.nextRun
              let route := routeOf (ctxOut i) sol.m
              let ncyc := 2 * (cycCells s.cycActive (run.snap ++ [it.at_ sol.m]) (it.at_ sol.m).hops).length
              match s.addTraverse 0 c.scheduled (ctxSlot i) c.tenant c.req none (s.movesOf (sol.layout.drop 1)) (some ⟨i, 0, route, true⟩) with
              | (s, .error code) => s.refusePlacement i code nm
              | (s, .ok _) =>
                let s := s.setCtx i { s.ctx i with moved := nm }
                (s.plcLast 0 nm ncyc sol.total).placedOn i route
    | .repair entry slot =>
      let items := run.scope.map s.item
      if items.isEmpty then s.nextRun
      else if spent then s.nextRun.repairFails entry slot run.scope
      else match s.joint s.cycActive run.snap items false (fun l => l.length) with
        | none => s.nextRun.repairFails entry slot run.scope
        | some sol =>
          if s.conflicts run sol.layout then again s fun s => s.repairFails entry slot run.scope
          else if s.pol R.PLC_LIM2_MOVE_MAX < items.length then s.nextRun.repairFails entry slot run.scope
          else
            let s := s.nextRun
            match s.addTraverse 1 slot.isSome (slot.getD 0) 0 none none (s.movesOf sol.layout) none with
            | (s, .error _) => s.repairFails entry slot run.scope
            | (s, .ok _) => s.ev Ev.repairStarted

/-- A PLACED circuit whose path is pre-positioned (R221: at the least by the load its tiles hold for the switch strobe) and whose latches
are verified open becomes ARMED (R57); the new circuit of a traverse only once its last stage is the next to commit (R204). -/
def doCircuitArm (i : Fin 262144) (s : State) : State :=
  let c := s.ctx i.val
  let waits := s.trv.journal.any fun t => t.stages.any fun g => g.moves.any (fun m => m.ctx == i.val && m.isNew) &&
    decide (t.done + 1 < t.stages.length)
  if c.state = Cs.placed ∧ (ctxPorts i.val c).all s.isOpen = true ∧ waits = false then s.setCtx i.val { c with state := Cs.armed } else s

/-! ## Fenced cells (R103, R109 to R111) -/

/-- Cells become fenced at a cell position (R109, R111): pinned circuits on it fail, movable ones are repaired, entries go STALE. -/
def State.fencedNow (s : State) (pos : Nat) : State :=
  let on := s.cir.ctxs.filter fun e => e.2.lit && e.2.hops.any (·.pos == pos)
  let s := on.foldl (fun s e =>
    if e.2.pinned && e.2.state != Cs.moving then
      (s.leaveLit e.1 Cs.failed Code.PLC_PINNED_FENCED s.nextPers).evCtx Ev.circuitFailed e.1 e.2.tenant Code.PLC_PINNED_FENCED
    else s) s
  let s := s.staleBy fun c => c.hops.any (·.pos == pos)
  let mv := on.filter fun e => !e.2.pinned
  let slots := (mv.map fun e => if e.2.scheduled then some (ctxSlot e.1) else none).foldl (fun l x => if l.contains x then l else l ++ [x]) []
  slots.foldl (fun s sl =>
    let ids := (mv.filter fun e => (if e.2.scheduled then some (ctxSlot e.1) else none) == sl).map (·.1)
    if s.pol R.PLC_CTL_REPAIR_EN = 1 then
      if s.flag R.PLC_CTL_ENABLE then s.startRun (.repair pos sl)
      else { s with cir.noRepair := s.cir.noRepair ++ [(pos, sl)] }
    else s.repairFails pos sl ids) s

/-- A failed repair is retried (R110): as a rearrangement run behind any in progress. -/
def doRepairRetry (s : State) : State :=
  match s.cir.retryAt with
  | none => s
  | some n =>
    if s.ctrlUp && s.flag R.PLC_CTL_ENABLE && s.pol R.PLC_CTL_REPAIR_EN == 1 then
      let l := s.cir.noRepair
      let s := { s.advanceTo n with cir.retryAt := none, cir.noRepair := [] }
      (l.filter fun x => s.fenced (x.1 % 10_240)).foldl (fun s x => s.startRun (.repair x.1 x.2)) s
    else s

/-! ## The crevasse map changes (R483, R484) -/

/-- After a change of the crevasse map: failed repairs are retried (R110), and cells among `entries` that have become fenced act (R483). -/
def State.crvChange (s0 s : State) (entries : List Nat) : State :=
  (entries.filter fun n => decide (s0.crv n < 2) && decide (2 ≤ s.crv n)).foldl (fun s n => s.fencedNow (n % 10_240)) s.retrySoon

/-- Reports on cell entries (R484): a clear cell becomes watched by the automatic source; a cell it watches is fenced by WATCH_FENCE further
reports within 24 h. -/
def State.autoReports (s : State) (entries : List Nat) : State :=
  let now := s.now
  let s' := entries.foldl (fun s n =>
    let a := Tbl.getD s.svc.crvAuto n 0
    if a = 0 then { s with svc.crvAuto := Tbl.put s.svc.crvAuto n 1 }
    else if a = 1 then
      let l := (Tbl.getD s.svc.reports n []).filter (fun r => decide (now < r + 86_400_000_000_000)) ++ [now]
      let s := { s with svc.reports := Tbl.put s.svc.reports n l }
      if s.flag R.GLB_FLT_CFG_AUTO_FENCE && decide (s.get R.GLB_FLT_CFG_WATCH_FENCE ≤ l.length) then
        { s with svc.crvAuto := Tbl.put s.svc.crvAuto n 2 }
      else s
    else s) s
  if s'.svc.crvAuto = s.svc.crvAuto then s' else s.crvChange s'.crvChanged entries

/-- A fault report of an element (R484: belay overrun, heater clamp). -/
def State.reportElem (s : State) (e : Nat) : State := (s.evElem Ev.faultReport e).autoReports [e / 4]

/-- Every cell of a bank of a tile, and of a tile, as entries (R484). -/
def bankCells (t b : Nat) : List Nat := (List.range 64).map (t * 1024 + b * 64 + ·)
def tileCells (t : Nat) : List Nat := (List.range 1024).map (t * 1024 + ·)

/-! ## Placement policy (R112, R113) -/

/-- The check of `PLC_CTL`.ENABLE (R113). -/
def plcCheck (s : State) : Option Nat :=
  let loss := s.get R.PLC_LIM0_LOSS_MAX
  if 40 < s.get R.PLC_LIM0_CYC_MAX ∨ 32 < s.get R.PLC_LIM0_CYC_REGION_MAX ∨ loss < 0x64 ∨ 0x190 < loss ∨
      s.get R.PLC_LIM1_HOT_LIMIT ≤ s.get R.PLC_LIM1_HOT_SOFT ∨ s.get R.PLC_LIM2_SEARCH_BUDGET < 0x40 ∨
      64 < s.get R.PLC_LIM2_MOVE_MAX then some Code.PLC_POLICY_INVALID
  else none

/-- A write of `PLC_CTL` (R112, R113). An accepted ENABLE puts the policy in force (R97) and retries repairs (R110). -/
def doPlcCtlWrite (v : Word) (s : State) : State :=
  if s.flag R.PLC_CTL_ENABLE && s.rwcHit R.PLC_CTL v then s.put R.PLC_CTL_REFUSE Code.PLC_POLICY_LOCKED
  else
    let was := s.flag R.PLC_CTL_ENABLE
    let s := (s.take R.PLC_CTL v).put R.PLC_CTL_REFUSE 0
    if !was && s.flag R.PLC_CTL_ENABLE then
      match plcCheck s with
      | some code => (s.put R.PLC_CTL_ENABLE 0).refuse R.PLC_CTL_REFUSE Ev.placementPolicyRefused code
      | none => { s with cir.policy := polRegs.map fun a => (a, s.rd a) }.retrySoon
    else s

/-- A write of another policy register, discarded while ENABLE reads 1 when it would change it (R112). -/
def doPlcPolicyWrite (k : Fin 6) (v : Word) (s : State) : State :=
  let a := polRegs.getD (k.val + 1) R.PLC_W0
  if s.flag R.PLC_CTL_ENABLE && s.rwcHit a v then s.put R.PLC_CTL_REFUSE Code.PLC_POLICY_LOCKED
  else (s.take a v).put R.PLC_CTL_REFUSE 0

/-- Every 1 s the cell-loss entries of lit elements are refreshed: the measured element part in 0.001 dB plus the waveguide share recorded
at manufacture, whose value the spec leaves open (R84). -/
def doCellLossRefresh (parts : List (Fin 20480 × Nat)) (s : State) : State :=
  if !s.ctrlUp then s
  else parts.foldl (fun s x =>
    let lit := (List.range 4).any fun m => s.carries (x.1.val * 4 + m) && (s.elem (x.1.val * 4 + m)).prov.isNone
    if lit then
      s.put ⟨R.PLC_CELL_LOSS (x.1.val / 2), 16 * (x.1.val % 2) + 15, 16 * (x.1.val % 2)⟩ (x.2 + Config.free 3 x.1.val)
    else s) s

/-! ## Request rows -/

def doCirRequest (f : Frame) (s : State) : State := doAfisk opCirRequest f s
def doCirRelease (f : Frame) (s : State) : State := doAfisk opCirRelease f s
def doCirEnable (f : Frame) (s : State) : State := doAfisk opCirEnable f s
def doCirDisable (f : Frame) (s : State) : State := doAfisk opCirDisable f s
def doCirAttr (f : Frame) (s : State) : State := doAfisk opCirAttr f s
def doCirLease (f : Frame) (s : State) : State := doAfisk opCirLease f s
def doCirRead (f : Frame) (s : State) : State := doAfisk opCirRead f s
def doGrantCreate (f : Frame) (s : State) : State := doAfisk opGrantCreate f s
def doGrantRevoke (f : Frame) (s : State) : State := doAfisk opGrantRevoke f s
def doGrantLease (f : Frame) (s : State) : State := doAfisk opGrantLease f s

end Sys2Proof.Machine
end

