-- ==== Sys2Proof/Machine/Schedule.lean ====
section
/-!
DEFINITION. Sys2Proof/Machine/Schedule.lean: schedules, the library, swaps, and the registers of the schedule and epoch engines
("Schedules and epochs", opcodes of R412).
-/
namespace Sys2Proof.Machine

/-! ## The library (R142, R147 to R150) -/

def Ls.empty : Nat := 0
def Ls.loading : Nat := 1
def Ls.placing : Nat := 2
def Ls.ready : Nat := 3
def Ls.stale : Nat := 4
def Ls.failed : Nat := 5
def Ls.active : Nat := 6

def LibEntry.empty : LibEntry := { lstate := 0, durs := [], recs := [], circuits := [], reason := 0, req := none, touched := 0 }

def State.entry (s : State) (n : Nat) : LibEntry := Tbl.getD s.sch.lib n LibEntry.empty
def State.setEntry (s : State) (n : Nat) (x : LibEntry) : State := { s with sch.lib := Tbl.set LibEntry.empty s.sch.lib n x }

/-- The entry is ACTIVE or the target of an armed swap (R149). -/
def State.entryBusy (s : State) (n : Nat) : Bool :=
  (s.entry n).lstate == Ls.active || (match s.sch.swap with
    | none => false
    | some w => w.target == some n)

/-- Records of a slot with their positions, in list order. -/
def LibEntry.slotRecs (x : LibEntry) (n : Nat) : List (Nat × SchRec) :=
  (x.recs.filter fun e => e.1 / 1024 == n).map fun e => (e.1 % 1024, e.2)

/-- Check 1 of R148: R142, with no unwritten position below a written one (R412). -/
def LibEntry.formed (x : LibEntry) : Bool :=
  decide (1 ≤ x.durs.length) && decide (x.durs.length ≤ 256) && x.durs.all (fun d => decide (10_000 ≤ d)) &&
    decide (x.durs.sum ≤ 1_000_000_000) &&
    (List.range x.durs.length).all fun n =>
      let l := x.slotRecs n
      (l.zip (List.range l.length)).all fun e => e.1.1 == e.2

/-- The circuits of a load, not yet placed, in order of slot and position. -/
def LibEntry.loaded (x : LibEntry) : List SchCir :=
  x.recs.map fun e => { slot := e.1 / 1024, rec_ := e.2, route := none, cycling := 0, state := 0, reason := 0, lease := 0,
                        grantIn := none, grantOut := none }

def noDup (l : List Nat) : Bool :=
  match l with
  | [] => true
  | x :: r => !r.contains x && noDup r

/-- Check 2 of R148 (R49). -/
def State.schPortsOk (s : State) (n : Nat) (cs : List SchCir) : Bool :=
  let pers := s.cir.ctxs.filter fun e => e.2.state != Cs.idle && !e.2.scheduled
  (List.range n).all (fun k =>
    let l := cs.filter (·.slot == k)
    noDup (l.map (·.rec_.input)) && noDup (l.map (·.rec_.output))) &&
  cs.all fun c => !pers.any fun e => e.2.input == c.rec_.input || ctxOut e.1 == c.rec_.output

/-- Check 3 of R148 (R63). -/
def State.schOwnersOk (s : State) (cs : List SchCir) : Bool :=
  cs.all fun c => (s.right false c.rec_.input c.rec_.tenant s.now).isSome && (s.right true c.rec_.output c.rec_.tenant s.now).isSome

/-- Checks 2 to 5 of R148 on the circuits of a schedule. The error carries the code, and for a slot that cannot be placed that slot and
the reason of its first failing circuit (R107). -/
def State.placeEntry (s : State) (n : Nat) (cs : List SchCir) : Except (Nat × Option (Nat × Nat)) (List SchCir) :=
  if !s.schPortsOk n cs then .error (Code.CIR_PORT_BUSY, none)
  else if !s.schOwnersOk cs then .error (Code.CIR_NOT_OWNER, none)
  else
    let fixed := s.resvs.filter fun r => !r.scheduled
    let inSlot (k : Nat) : List SchCir := cs.filter (·.slot == k)
    match s.placeSchedule fixed n (fun k => (List.range (inSlot k).length).zip ((inSlot k).map (·.rec_))) with
    | .error (slot, why) => .error (Code.PLC_SLOT_INFEASIBLE, some (slot, why))
    | .ok ps =>
      let rs := fixed ++ ps.map SchPlaced.resv
      if s.get R.SCHD_CTL_CYC_TOTAL_MAX < cycTotal n rs then .error (Code.SCH_PIN_BUDGET, none)
      else
        .ok ((List.range n).flatMap fun k => ((inSlot k).zip (List.range (inSlot k).length)).map fun x =>
          match ps.find? fun p => p.slot == k && p.pos == x.2 with
          | none => x.1
          | some p =>
            let g (out : Bool) (port : Nat) : Option Nat := (s.right out port x.1.rec_.tenant s.now).getD none
            { x.1 with route := some (routeOf x.1.rec_.output p.m), cycling := 2 * (cycCells (cycCycle n) rs p.resv.hops).length,
                       grantIn := g false x.1.rec_.input, grantOut := g true x.1.rec_.output })

/-- A load ends FAILED (R148): REASON, EV 57, and the completion of its SCH_LOAD_END. -/
def State.loadFails (s : State) (n code : Nat) : State :=
  let x := s.entry n
  ((s.setEntry n { x with lstate := Ls.failed, reason := code, req := none }).ev Ev.scheduleLoadFailed code).completeOpt x.req true code []

/-- EV 51 (R107): the slot in AUX and the reason of its first failing circuit in DATA. -/
def State.slotInfeasible (s : State) (code : Nat) (why : Option (Nat × Nat)) : State :=
  match why with
  | none => s
  | some (slot, reason) => s.raise { occ Ev.schedulePlacementFailed code with aux := some slot, data := some reason }

/-- Placement of a loaded schedule completes (R105 to R107, R148). -/
def doSchedulePlacementDone (n : Fin 64) (s : State) : State :=
  let x := s.entry n.val
  if s.ctrlUp ∧ x.lstate = Ls.placing then
    match s.placeEntry x.durs.length x.circuits with
    | .error (code, why) => (s.slotInfeasible code why).loadFails n.val code
    | .ok cs =>
      ((s.setEntry n.val { x with lstate := Ls.ready, circuits := cs, reason := 0, req := none, recs := [] }).ev Ev.scheduleReady).completeOpt
        x.req true Code.DONE []
  else s

/-- A background re-placement completes (R108, R150): the lowest entry that is STALE and has not failed since comes first. -/
def doStaleReplacementDone (n : Fin 64) (s : State) : State :=
  let x := s.entry n.val
  let ahead := s.sch.lib.any fun e => decide (e.1 < n.val) && e.2.lstate == Ls.stale && e.2.reason == 0
  if s.ctrlUp ∧ x.lstate = Ls.stale ∧ ahead = false then
    match s.placeEntry x.durs.length x.circuits with
    | .error (code, why) =>
      let s := s.setEntry n.val { x with reason := code }
      match why with
      | none => s.ev Ev.schedulePlacementFailed code
      | some _ => s.slotInfeasible code why
    | .ok cs => s.setEntry n.val { x with lstate := Ls.ready, circuits := cs, reason := 0 }
  else s

/-- A load replaced or erased before it ended leaves its SCH_LOAD_END without a READY entry; the request completes with SCH_NOT_READY
(DESIGN CHOICE: R412 names no code). -/
def State.dropLoad (s : State) (n : Nat) : State :=
  let x := s.entry n
  s.completeOpt x.req true Code.SCH_NOT_READY []

/-- SCH_LOAD_BEGIN (R149, R412). -/
def opSchLoadBegin : OpSpec := opSched 0x3001
  (fun p => decide (4 ≤ p.length) && decide (u p 0 1 < 64) && u p 2 2 == 0 && p.length == 4 + 4 * (u p 1 1 + 1)) fun q s =>
  let n := u q.p 0 1
  if !s.flag R.SCHD_CTL_ENABLE then (s, Code.SCH_DISABLED, [])
  else if s.entryBusy n then (s, Code.SCH_ENTRY_BUSY, [])
  else
    let durs := (List.range (u q.p 1 1 + 1)).map fun k => u q.p (4 + 4 * k) 4
    ((s.dropLoad n).setEntry n { LibEntry.empty with lstate := Ls.loading, durs := durs, touched := q.at_ }, Code.DONE, [])

/-- A schedule record (R412). -/
def schRec (w : Nat) : SchRec := ⟨w / 2 ^ 22, w / 2 ^ 12 % 1024, w / 2 ^ 6 % 64, w / 2 ^ 5 % 2 == 1⟩

/-- SCH_LOAD_SLOT (R412): a later record at a position replaces the earlier one. -/
def opSchLoadSlot : OpSpec := opSched 0x3002
  (fun p => decide (8 ≤ p.length) && decide (u p 0 1 < 64) && decide (1 ≤ u p 4 2) && decide (u p 4 2 ≤ 256) && u p 6 2 == 0 &&
    p.length == 8 + 4 * u p 4 2 && (List.range (u p 4 2)).all fun k => u p (8 + 4 * k) 4 % 32 == 0) fun q s =>
  let n := u q.p 0 1
  let x := s.entry n
  let slot := u q.p 1 1
  let first := u q.p 2 2
  let count := u q.p 4 2
  if x.lstate != Ls.loading || decide (x.durs.length ≤ slot) || decide (1024 < first + count) then (s, Code.SES_BAD_PARAM, [])
  else
    let recs := (List.range count).foldl (fun m k => Tbl.put m (slot * 1024 + first + k) (schRec (u q.p (8 + 4 * k) 4))) x.recs
    (s.setEntry n { x with recs := recs, touched := q.at_ }, Code.DONE, [])

/-- SCH_LOAD_END (R148, R412): checks 1 to 3 are made at once, and the entry goes to placement. -/
def opSchLoadEnd : OpSpec := opSched 0x3003 (fun p => p.length == 8 && decide (u p 0 1 < 64) && u p 1 3 == 0) fun q s =>
  let n := u q.p 0 1
  let x := s.entry n
  if x.lstate != Ls.loading then (s, Code.SES_BAD_PARAM, [])
  else
    let s := s.setEntry n { x with lstate := Ls.placing, circuits := x.loaded, req := some q.r }
    let s := if !x.formed || u q.p 4 4 != x.recs.length then s.loadFails n Code.SCH_FORMAT
      else if !s.schPortsOk x.durs.length x.loaded then s.loadFails n Code.CIR_PORT_BUSY
      else if !s.schOwnersOk x.loaded then s.loadFails n Code.CIR_NOT_OWNER
      else s
    (s, Code.ACCEPTED, [])

/-- SCH_ERASE (R149, R412). -/
def opSchErase : OpSpec := opSched 0x3004 (fun p => p.length == 4 && decide (u p 0 1 < 64) && u p 1 3 == 0) fun q s =>
  let n := u q.p 0 1
  if s.entryBusy n then (s, Code.SCH_ENTRY_BUSY, []) else ((s.dropLoad n).setEntry n LibEntry.empty, Code.DONE, [])

/-- An entry left LOADING for 10 s with no load frame reads EMPTY (R412). -/
def doSchLoadTimeout (n : Fin 64) (s : State) : State :=
  let x := s.entry n.val
  if x.lstate = Ls.loading then (s.advanceTo (x.touched + 10_000_000_000)).setEntry n.val LibEntry.empty else s

/-! ## Slots of the active schedule (R143, R144, R162) -/

/-- Cycle length. -/
def Active.cycle (a : Active) : Nat := max 1 a.durs.sum

/-- The slot whose start an instant is, if any (R143, R144). -/
def Active.slotAt (a : Active) (e : Nat) : Option Nat :=
  if e < a.start then none
  else (List.range a.durs.length).find? fun n => slotOfs a.durs n == (e - a.start) % a.cycle

/-- The slot in which an instant lies (R143). -/
def Active.slotIn (a : Active) (n : Nat) : Nat :=
  let o := (n - a.start) % a.cycle
  ((List.range a.durs.length).filter fun k => decide (slotOfs a.durs k ≤ o)).getLastD 0

/-- Whether a frozen schedule may run a slot epoch: it resumes at the first one that lies 5 µs or more after the freeze's cause ends
(R162, R487). -/
def Active.runs (a : Active) (e : Nat) : Bool := match a.frozen, a.resumeAt with
  | none, _ => true
  | some _, none => false
  | some _, some r => decide (r + 5_000 ≤ e)

/-- The slot epoch that an instant is, if the active schedule runs one there (R144). -/
def State.slotEpoch (s : State) (e : Nat) : Option Nat := match s.sch.active with
  | none => none
  | some a => if (a.first || decide (a.lastE < e)) && a.runs e then a.slotAt e else none

/-- The next slot epoch of the active schedule after an instant, with its slot (R143). -/
def Active.nextEpoch (a : Active) (n : Nat) : Nat × Nat :=
  ((List.range a.durs.length).map fun k => (a.epochFrom k (n + 1), k)).foldl
    (fun (b : Nat × Nat) x => if b.1 = 0 ∨ x.1 < b.1 then x else b) (0, 0)

/-- The slot in force as `SCHD_STS` shows it: while frozen it follows the cycle as if the schedule ran (R162). -/
def State.slotShown (s : State) (a : Active) : Nat := if a.frozen.isSome then a.slotIn s.now else a.slot

/-- Start of the current cycle (R143). -/
def State.cycleStart (s : State) (a : Active) : Nat :=
  let at_ := if a.frozen.isSome then s.now else a.lastE
  a.start + (at_ - a.start) / a.cycle * a.cycle

/-- `SCHD_STS` as it reads. -/
def State.schdSts (s : State) : Word := match s.sch.active with
  | none => BitVec.ofNat 32 (b2n s.sch.swap.isSome * 2 ^ 29 + b2n s.sch.selfs * 2 ^ 28)
  | some a => BitVec.ofNat 32 (2 ^ 31 + b2n a.frozen.isSome * 2 ^ 30 + b2n s.sch.swap.isSome * 2 ^ 29 + b2n s.sch.selfs * 2 ^ 28 +
      a.entry * 2 ^ 22 + s.slotShown a * 2 ^ 8 + (a.durs.length - 1))

/-- `SCHD_CYC_CNT` as it reads: cycles completed since E_sw. -/
def State.cycCount (s : State) : Word := match s.sch.active with
  | none => 0
  | some a => BitVec.ofNat 32 (min ((s.cycleStart a - a.start) / a.cycle) (2 ^ 32 - 1))

/-- The two words of `SCHD_LIB_n` (R147). -/
def State.libWord (s : State) (n w : Nat) : Word :=
  let x := s.entry n
  BitVec.ofNat 32 (if w = 0 then x.lstate * 2 ^ 28 + (x.durs.length - 1) * 2 ^ 16 + x.reason else x.durs.sum)

/-- A read of `SCHD_CYC_START_HI` takes a snapshot of the cycle start. -/
def doSchdCycStartSnapshot (s : State) : State :=
  let b := match s.sch.active with
    | none => 0
    | some a => sched (s.cycleStart a)
  let s := (s.put R.SCHD_CYC_START_HI_START (b / 2 ^ 32)).put R.SCHD_CYC_START_LO_START b
  { s with bus := s.rd R.SCHD_CYC_START_HI }

/-! ## Pending persistent changes (R123, R163, R169) -/

/-- Epochs of the persistent changes that wait (R163): circuits PENDING to ARMED, circuits leaving, and the next stage of a
persistent-scope traverse. -/
def State.persWaits (s : State) : List Nat :=
  (s.cir.ctxs.filterMap fun e => if e.2.waits && !e.2.scheduled then some e.2.eplan else none) ++ s.cir.leaves.map (·.e) ++
  ((s.trv.journal.filter fun t => !t.slotScope && (t.state == 2 || t.state == 5)).flatMap fun t =>
    (t.stages.filter fun g => g.sstate == 0 || g.sstate == 1).map (·.e))

/-- RUNNING of `TIME_STS`: a schedule is active, a persistent epoch is pending, or a traverse has not completed. -/
def State.engineRuns (s : State) : Bool := s.sch.active.isSome || !s.persWaits.isEmpty || !s.trv.journal.isEmpty

/-- A commit is pending (R169). -/
def State.commitPending (s : State) : Bool :=
  (s.cir.ctxs.any fun e => e.2.waits) || !s.trv.journal.isEmpty || s.sch.swap.isSome || !s.cir.leaves.isEmpty

/-- The next epoch (`EPO_NEXT`): instant, whether a slot epoch, whether a persistent epoch, whether a cycle boundary. -/
def State.nextEpo (s : State) : Option (Nat × Bool × Bool × Bool) :=
  let slot := match s.sch.active with
    | none => none
    | some a => match a.frozen with
      | none => some (a.nextEpoch s.now)
      | some _ => a.resumeAt.map fun r => a.nextEpoch (max s.now (r + 4_999))
  let slot := match slot, s.sch.swap with
    | none, some w => some (w.esw, 0)
    | x, _ => x
  let pers := (s.persWaits.filter fun e => decide (s.now < e)).foldl (fun (b : Option Nat) e => match b with
    | none => some e
    | some x => some (min x e)) none
  match slot, pers with
  | none, none => none
  | some (e, n), none => some (e, true, false, n == 0)
  | none, some p => some (p, false, true, false)
  | some (e, n), some p => if e < p then some (e, true, false, n == 0) else if p < e then some (p, false, true, false)
    else some (e, true, true, n == 0)

/-- A read of `EPO_NEXT` word 0 takes a snapshot of the next epoch. -/
def doEpoNextSnapshot (s : State) : State :=
  let (w0, w1) := match s.nextEpo with
    | none => (0, 0)
    | some (e, sl, pe, bo) => (b2n sl * 2 ^ 31 + b2n pe * 2 ^ 30 + b2n bo * 2 ^ 29 + sched e / 2 ^ 32, sched e % 2 ^ 32)
  { (s.wr R.EPO_NEXT_0 (BitVec.ofNat 32 w0)).wr R.EPO_NEXT_1 (BitVec.ofNat 32 w1) with bus := BitVec.ofNat 32 w0 }

/-- A read of `EPO_XLAST` word 0 takes a snapshot of the last held-dark transition (R179). -/
def doEpoXlastSnapshot (s : State) : State :=
  let (a, b, c) := s.fab.xlast
  { ((s.wr R.EPO_XLAST_0 (BitVec.ofNat 32 a)).wr R.EPO_XLAST_1 (BitVec.ofNat 32 b)).wr R.EPO_XLAST_2 (BitVec.ofNat 32 c) with
    bus := BitVec.ofNat 32 a }

/-! ## Swaps (R154 to R158) -/

/-- The ports of a library entry's circuits that will carry light. -/
def LibEntry.ports (x : LibEntry) : List Nat :=
  (x.circuits.filter (·.state == 0)).flatMap fun c => [portKey false c.rec_.input, portKey true c.rec_.output]

/-- E_sw of R155; `none` for an activation without a target. -/
def State.eswOf (s : State) (target : Option Nat) (ingress : Nat) : Option Nat := match s.sch.active, target with
  | none, none => none
  | none, some t => some t
  | some a, some t => some (a.epochFrom 0 t)
  | some a, none => some (a.epochFrom 0 (ingress + 2_000_000))

/-- SCH_SWAP (R154 to R156, R412). -/
def opSchSwap : OpSpec := opSched 0x3005
  (fun p => p.length == 12 && (decide (u p 0 1 < 64) || u p 0 1 == 0xFF) && decide (u p 1 1 < 2) && decide (u p 8 4 < 1_000_000_000))
  fun q s =>
    let none_ := u q.p 0 1 == 0xFF
    let n := u q.p 0 1
    let tv := u q.p 1 1 == 1
    let t := u q.p 2 6 * 1_000_000_000 + u q.p 8 4
    let act := s.sch.active.isNone
    if s.bivouac then (s, Code.TRV_BIVOUAC, [])
    else if 2 ≤ s.level then (s, Code.THM_THROTTLED, [])
    else if !(s.flag R.SCHD_CTL_ENABLE && s.flag R.EPO_CTL_ENABLE) then (s, Code.SCH_DISABLED, [])
    else if s.sch.swap.isSome then (s, Code.SCH_SWAP_ARMED, [])
    else if none_ && act then (s, Code.SCH_NOT_READY, [])
    else if !none_ && (s.entry n).lstate == Ls.stale then (s, Code.PLC_SCHED_STALE, [])
    else if !none_ && (s.entry n).lstate != Ls.ready then (s, Code.SCH_NOT_READY, [])
    else if act && !tv then (s, Code.SCH_FORMAT, [])
    else if tv && !s.flag R.TIME_STS_VALID then (s, Code.TIM_NOT_VALID, [])
    else match s.eswOf (if tv then some t else none) q.at_ with
      | none => (s, Code.SCH_FORMAT, [])
      | some e =>
        if tv && decide (q.at_ + 2 ^ 47 ≤ e) then (s, Code.TIM_OUT_OF_HORIZON, [])
        else if tv && decide (e < q.at_ + 2_000_000) then (s, Code.TIM_TOO_LATE, [])
        else
          let dark := if none_ then [] else (s.entry n).ports.filter fun k => !s.isOpen k
          let w : Swap := { target := if none_ then none else some n, esw := e, req := q.r, opened := dark, past := false,
                            banksMissing := [], cancelled := false }
          let s := (((({ s with sch.swap := some w }.put R.SCHD_SWAP_ARMED 1).put R.SCHD_SWAP_TO_NONE (b2n none_)).put R.SCHD_SWAP_TARGET
            (if none_ then 0 else n)).put R.SCHD_SWAP_T_HI_ESW (sched e / 2 ^ 32)).put R.SCHD_SWAP_T_LO_ESW (sched e)
          (dark.foldl (fun s k => s.wantOpen k q.at_) s, Code.ACCEPTED, be48 e)

/-- A swap ends without a commit (R157, R158, R160): REASON, its request's completion, and the close of the latches opened for it. -/
def State.swapEnds (s : State) (code : Nat) (event : Bool) : State := match s.sch.swap with
  | none => s
  | some w =>
    let s := ({ s with sch.swap := none }.put R.SCHD_SWAP_ARMED 0).put R.SCHD_SWAP_REASON code
    let s := s.close (w.opened.filter fun k => !s.portNeeded 262_144 k)
    let s := if event then s.ev Ev.swapCancelled code else s
    s.complete w.req true code []

/-- SCH_CANCEL (R158, R412): decided at once before the swap's point of no return, else at the decision instant. -/
def opSchCancel : OpSpec := opSched 0x3006 (fun p => p.length == 0) fun q s => match s.sch.swap with
  | none => (s, Code.TRV_UNKNOWN, [])
  | some w =>
    if decide (w.esw ≤ q.at_ + 5_000) || w.cancelled || decide (w.esw < s.now + 1_000) then (s, Code.TRV_ABORT_LATE, be48 w.esw)
    else if w.past then ({ s with sch.swap := some { w with cancelled := true } }, Code.TRV_ABORTED, be48 w.esw)
    else (s.swapEnds Code.TRV_ABORTED false, Code.TRV_ABORTED, be48 w.esw)

/-! ## Register writes (R166, R169, R170, R195) -/

/-- A refused write of SCHD or EPO (R171): its code, and EV 62. -/
def State.schRefuse (s : State) (f : Fld) (code : Nat) : State := s.refuse f Ev.epochConfigurationRefused code

/-- A write of `SCHD_CTL` (R170). -/
def doSchdCtlWrite (v : Word) (s : State) : State :=
  let check (s : State) : Option Nat :=
    if 0x2000 < s.get R.SCHD_CTL_CYC_TOTAL_MAX ∨ s.flag R.MEM_STS_LIB_OK = false then some Code.SCH_CONFIG else none
  if s.flag R.SCHD_CTL_ENABLE && s.rwcHit R.SCHD_CTL v then s.schRefuse R.SCHD_CTL_REFUSE Code.SCH_CONFIG
  else (s.put R.SCHD_CTL_REFUSE 0).ctlWrite R.SCHD_CTL R.SCHD_CTL_ENABLE R.SCHD_CTL_REFUSE Ev.epochConfigurationRefused Code.SCH_CONFIG check v

def gbOk (g : Nat) : Bool := decide (1_000 ≤ g) && decide (g ≤ 5_000)

/-- The check of `EPO_CTL`.ENABLE (R169). -/
def epoCheck (s : State) : Option Nat :=
  let tiles := (List.range 20).all fun t => s.flag (R.TILE_LP_CTL_ENABLE t)
  let marks := decide (s.now ≤ s.svc.lastMark + 10_000) && s.svc.holdover.isEmpty
  if tiles && marks && gbOk (s.get R.EPO_GB_GB_SET) then none else some Code.EPO_NOT_READY

/-- A write of `EPO_CTL` (R169). -/
def doEpoCtlWrite (v : Word) (s : State) : State :=
  if s.flag R.EPO_CTL_ENABLE && bits v 0 0 == 0 && (s.sch.active.isSome || s.commitPending) then
    s.schRefuse R.EPO_CTL_REFUSE Code.SCH_ENTRY_BUSY
  else (s.put R.EPO_CTL_REFUSE 0).ctlWrite R.EPO_CTL R.EPO_CTL_ENABLE R.EPO_CTL_REFUSE Ev.epochConfigurationRefused Code.EPO_NOT_READY epoCheck v

/-- A write of `EPO_GB` (R166). -/
def doEpoGbWrite (v : Word) (s : State) : State :=
  if gbOk (bits v 12 0) then { (s.take R.EPO_GB v).put R.EPO_CTL_REFUSE 0 with sch.gbWait := some s.now }
  else s.schRefuse R.EPO_CTL_REFUSE Code.SCH_GB_RANGE

/-- A write of `EPO_BELAY_CFG` (R195). -/
def doEpoBelayCfgWrite (v : Word) (s : State) : State :=
  let d := bits v 9 0
  if d < 100 ∨ 800 < d ∨ bits v 31 26 < 18 then s.schRefuse R.EPO_CTL_REFUSE Code.EPO_BELAY_RANGE
  else (s.take R.EPO_BELAY_CFG v).put R.EPO_CTL_REFUSE 0

/-- A write of `EPO_OUT_CFG`: WIDTH 0 discards it (R168). -/
def epoOutCfgWrite (v : Word) (s : State) : State :=
  if bits v 15 8 = 0 then s.ev Ev.epochConfigurationRefused else s.take R.EPO_OUT_CFG v

/-! ## Request rows -/

def doSchLoadBegin (f : Frame) (s : State) : State := doAfisk opSchLoadBegin f s
def doSchLoadSlot (f : Frame) (s : State) : State := doAfisk opSchLoadSlot f s
def doSchLoadEnd (f : Frame) (s : State) : State := doAfisk opSchLoadEnd f s
def doSchErase (f : Frame) (s : State) : State := doAfisk opSchErase f s
def doSchSwap (f : Frame) (s : State) : State := doAfisk opSchSwap f s
def doSchCancel (f : Frame) (s : State) : State := doAfisk opSchCancel f s

end Sys2Proof.Machine
end

