-- ==== Sys2Proof/Machine/Traverse.lean ====
section
/-!
DEFINITION. Sys2Proof/Machine/Traverse.lean: traverses: their journal, timing, verification, abort, suspension and end ("Traverses,
speculation and abort", R197 to R217, opcodes of R413).
-/
namespace Sys2Proof.Machine

/-! ## The journal -/

/-- STATE codes of `TRV_CUR`. -/
def Ts.queued : Nat := 1
def Ts.running : Nat := 2
def Ts.suspFwd : Nat := 3
def Ts.suspBack : Nat := 4
def Ts.rolling : Nat := 5

/-- SSTATE codes of `TRV_STAGE_n`. -/
def Ss.planned : Nat := 0
def Ss.inFlight : Nat := 1
def Ss.committed : Nat := 2
def Ss.withdrawn : Nat := 3
def Ss.reversed : Nat := 4
def Ss.dropped : Nat := 5

def Trav.timedNow (t : Trav) : Bool := t.state == Ts.running || t.state == Ts.rolling
def Trav.suspended (t : Trav) : Bool := t.state == Ts.suspFwd || t.state == Ts.suspBack

/-- The head of the journal replaced. -/
def State.setHead (s : State) (t : Trav) : State := match s.trv.journal with
  | [] => s
  | _ :: r => { s with trv.journal := t :: r }

/-- Stages still to commit, in the order in which they commit: the planned ones forward, or the committed ones last first. -/
def Trav.remaining (t : Trav) : List Nat :=
  let idx := (List.range t.stages.length).zip t.stages
  if t.back then ((idx.filter fun x => x.2.sstate == Ss.committed).map (·.1)).reverse
  else (idx.filter fun x => x.2.sstate == Ss.planned).map (·.1)

/-- The stage past its point of no return. -/
def Trav.inFlight (t : Trav) : Option Nat :=
  (((List.range t.stages.length).zip t.stages).find? fun x => x.2.sstate == Ss.inFlight).map (·.1)

def Trav.stage (t : Trav) (k : Nat) : Stage := t.stages.getD k ⟨[], 0, 0, 0⟩
def Trav.setStage (t : Trav) (k : Nat) (g : Stage) : Trav := { t with stages := t.stages.set k g }

/-- The new circuit of a request traverse (R197). -/
def Trav.newCtx (t : Trav) : Option Move := t.stages.findSome? fun g => g.moves.find? (·.isNew)

/-- Moved circuits of a stage. -/
def Stage.moved (g : Stage) : List Move := g.moves.filter fun m => !m.isNew

/-- The route that a move leads to: the new one forward, the old one in a reverse stage. -/
def Trav.to (t : Trav) (m : Move) : Nat := if t.back then m.old else m.new

/-! ## Timing (R199, R202) -/

/-- The first instant at or after `x` at which a stage of the traverse can commit (R199). -/
def State.stageFrom (s : State) (t : Trav) (x : Nat) : Nat :=
  if t.slotScope then match s.sch.active with
    | none => persFrom x
    | some a => a.epochFrom t.slot x
  else persFrom x

/-- Instants given to stages in order, the first at `e` and each later one STAGE_GAP · 50 µs on (R202). -/
def State.assign (s : State) (t : Trav) (ks : List Nat) (e : Nat) : Trav :=
  match ks with
  | [] => t
  | k :: r =>
    let t := { t.setStage k { t.stage k with e := e } with elast := e }
    s.assign t r (s.stageFrom t (e + s.get R.TRV_CTL_STAGE_GAP * 50_000))

/-- The remaining stages timed from an instant A (R202). -/
def State.timeStages (s : State) (t : Trav) (a : Nat) : Trav :=
  let ports := match t.newCtx with
    | none => []
    | some m => ctxPorts m.ctx (s.ctx m.ctx)
  let lead := if ports.all s.isOpen then 100_000 else 250_000
  let hold := if t.back then 0 else (ports.filterMap s.openBy).foldl (fun m n => max m (n + 175_000)) 0
  let from_ := max hold (max (a + lead) (t.target.getD 0))
  s.assign t t.remaining (s.stageFrom t from_)

/-- The new circuit commits at E_LAST (R202). -/
def State.planNew (s : State) (t : Trav) : State := match t.newCtx with
  | none => s
  | some m => if t.back then s else s.setCtx m.ctx { s.ctx m.ctx with eplan := t.elast }

/-! ## Verification (R57, R205) -/

/-- Every path element is driven for the route, and none is FENCED or STALE (R57). -/
def State.pathOk (s : State) (h : List Hop) : Bool :=
  (pathAll h).all fun e => s.flag (R.TILE_LP_CTL_ENABLE (tileOf e)) && !s.elemFenced e && !s.isStale e

/-- Verification of a circuit at its point of no return (R57). -/
def State.verified (s : State) (input output : Nat) (h : List Hop) : Bool :=
  s.isOpen (portKey false input) && s.isOpen (portKey true output) && !s.guarded input && s.pathOk h

/-- No element of the route that a move leads to is FENCED or STALE. -/
def State.moveOk (s : State) (t : Trav) (m : Move) : Bool := s.pathOk (path (s.ctx m.ctx).input (t.to m))

/-! ## The end of a traverse (R207) -/

/-- STATE of `TRV_CUR` for a final code. -/
def endState (code : Nat) : Nat :=
  if code = Code.DONE then 6 else if code = Code.TRV_ABORTED then 7 else if code = Code.TRV_ROLLED_BACK then 8
  else if code = Code.TRV_SWAPPED_OUT then 10 else 9

/-- Parameters of a progress or final completion (R414). -/
def travParams (id k n e : Nat) : List Byte := natBe 2 id ++ natBe 1 k ++ natBe 1 n ++ be48 e

/-- A traverse ends with a code (R207): the journal drops it, EV 74 is raised, and its requester and the sender of RESUME get their final
completions. A new circuit that has not lit goes IDLE, and its request ends with the same code. -/
def State.endTrav (s : State) (t : Trav) (code : Nat) : State :=
  let t' := { t with state := endState code, reason := code, suspendDue := false, abortDue := false }
  let s := { s with trv.journal := s.trv.journal.filter (·.id != t.id), trv.last := some t' }
  let s := if code = Code.DONE then s.count (whole (R.TRV_CNT 0))
    else if code = Code.TRV_ABORTED then s else s.count (whole (R.TRV_CNT 2))
  let s := (t.stages.flatMap (·.moves)).foldl (fun s m =>
    if (s.ctx m.ctx).traverse = some t.id then s.setCtx m.ctx { s.ctx m.ctx with traverse := none } else s) s
  let s := match t.newCtx with
    | none => s
    | some m => if code != Code.DONE && (s.ctx m.ctx).waits then (s.endLight m.ctx code).leaveWait m.ctx Cs.idle 0 else s
  let s := s.raise { occ Ev.traverseEnded code with tenant := t.tenant }
  let params := travParams t.id t.commits t.lastK t.lastE
  let s := if t.origin = 2 then s.completeOpt t.req true code params else s
  let s := if t.progress = t.req then s else s.completeOpt t.progress true code params
  match s.trv.rollback with
  | none => s
  | some r => if s.trv.journal.isEmpty then { s with trv.rollback := none }.complete r true Code.DONE params else s

/-- The committed stages are reversed, timed from an instant (R208, R541); with none the traverse ends. -/
def State.reverse (s : State) (t : Trav) (a code : Nat) : State :=
  let t := { t with back := true, code := code, state := Ts.rolling, abortDue := false }
  if t.remaining.isEmpty then s.endTrav t code else s.setHead (s.timeStages t a)

/-- The running traverse is suspended, at once or at its next stage boundary (R212, R215). -/
def Trav.suspend (t : Trav) : Trav :=
  if t.inFlight.isSome then { t with suspendDue := true }
  else { t with state := if t.back then Ts.suspBack else Ts.suspFwd, suspendDue := false }

def State.suspendHead (s : State) : State := match s.trv.journal with
  | [] => s
  | t :: _ => if t.timedNow then s.setHead t.suspend else s

/-- Stage `k` has committed at `e` (R206): its progress completion, and the suspension, abort or end that follows. -/
def State.stageDone (s : State) (k e : Nat) : State := match s.trv.journal with
  | [] => s
  | t :: _ =>
    let g := t.stage k
    let t := { t.setStage k { g with sstate := if t.back then Ss.reversed else Ss.committed } with
      done := if t.back then t.done - 1 else t.done + 1, commits := t.commits + 1, lastK := t.stages.length, lastE := e }
    let s := ((s.setHead t).count (whole (R.TRV_CNT 3))).raise { occ Ev.stageCommitted with tenant := t.tenant }
    let s := s.completeOpt t.progress false Code.DONE (travParams t.id (k + 1) t.stages.length e)
    if t.remaining.isEmpty then s.endTrav t (if t.back then t.code else Code.DONE)
    else if t.abortDue then s.reverse t s.now Code.TRV_ABORTED
    else if t.suspendDue then s.setHead t.suspend
    else s

/-- A request traverse whose new circuit has left its wait ends with its remaining stages dropped (R211). -/
def State.dropOrphans (s : State) : State :=
  s.trv.journal.foldl (fun s t =>
    match t.newCtx with
    | none => s
    | some m =>
      if !t.back && !((s.ctx m.ctx).waits && (s.ctx m.ctx).traverse == some t.id) && t.inFlight.isNone then
        let t := { t with stages := t.stages.map fun g => if g.sstate = Ss.planned then { g with sstate := Ss.dropped } else g }
        s.endTrav t Code.TRV_ABORTED
      else s) s

/-! ## Rows -/

/-- A traverse at the head of the journal is timed (R200, R202). -/
def doTraverseTimed (s : State) : State := match s.trv.journal with
  | [] => s
  | t :: _ =>
    if s.ready && s.hubIn && !s.bivouac && t.state == Ts.queued then
      let t := s.timeStages { t with state := Ts.running, timed := true } s.now
      ((s.setHead t).planNew t).raise { occ Ev.traverseTimed with tenant := t.tenant }
    else s

/-- The stage of the running traverse that can commit at an epoch of its scope (R199, R203, R217: a stage that a freeze held commits at
the next slot epoch that takes place). -/
def State.stageDue (s : State) (cls : Bool) (e : Nat) : Option Nat := match s.trv.journal with
  | [] => none
  | t :: _ =>
    if t.timedNow && t.slotScope == cls && (!cls || s.slotEpoch e == some t.slot) then
      t.remaining.head?.bind fun k => if (t.stage k).e ≤ e then some k else none
    else none

/-- Later stages move with a stage that waits or was held (R205, R217). -/
def State.stageWaits (s : State) (t : Trav) (k e : Nat) : Trav := s.assign t (t.remaining.filter fun j => j == k || (t.back == decide (j < k))) e

/-- Verification of stage `k` at E_k − 5 µs (R205, R541). The Boolean tells whether it runs. -/
def State.verifyStage (s : State) (k e : Nat) : State × Bool := match s.trv.journal with
  | [] => (s, false)
  | t :: _ =>
    let t := if (t.stage k).e = e then t else s.stageWaits t k e
    let g := t.stage k
    let held := g.moved.all fun m => (s.ctx m.ctx).state == Cs.held
    let spent := decide (s.get R.EPO_BELAY_CFG_BELAY_MAX ≤ g.waits)
    let run (g : Stage) : State × Bool := (s.setHead (t.setStage k { g with sstate := Ss.inFlight }) |>.planNew t, true)
    let wait : State × Bool :=
      let t := s.stageWaits (t.setStage k { g with waits := g.waits + 1 }) k (s.stageFrom t (e + 1))
      ((s.setHead t).planNew t, false)
    let fail (s : State) : State × Bool :=
      let s := s.raise { occ Ev.stageVerificationFailed Code.TRV_VERIFY_FAIL with tenant := t.tenant }
      (s.reverse t s.now Code.TRV_VERIFY_FAIL, false)
    if t.back then
      let fencedPath (m : Move) : Bool := (pathAll (path (s.ctx m.ctx).input m.old)).any s.elemFenced
      let stale := g.moved.any fun m => (pathAll (path (s.ctx m.ctx).input m.old)).any s.isStale
      if (held && !stale) || spent then run { g with moves := g.moves.filter fun m => !fencedPath m } else wait
    else if !(g.moved.all (s.moveOk t)) then fail s
    else if !held then (if spent then fail s else wait)
    else match g.moves.find? (·.isNew) with
      | none => run g
      | some m =>
        let c := s.ctx m.ctx
        if s.verified c.input (ctxOut m.ctx) (path c.input m.new) then run g
        else
          let s := (s.endLight m.ctx Code.CIR_VERIFY_FAIL).leaveWait m.ctx Cs.failed Code.CIR_VERIFY_FAIL
          fail (s.evCtx Ev.circuitFailed m.ctx c.tenant Code.CIR_VERIFY_FAIL)

/-! ## Requests (R198, R208, R213, R413) -/

/-- TRV_REQUEST (R198, R413). The named circuits are re-placed jointly at once; a plan that cannot be made comes as the completion. -/
def opTrvRequest : OpSpec := opAny 0x4001 false
  (fun p => decide (12 ≤ p.length) && decide (1 ≤ u p 0 1) && decide (u p 0 1 ≤ 64) && decide (u p 1 1 < 2) && u p 2 2 == 0 &&
    (u p 1 1 == 0 || u p 4 2 == 0) && p.length == 12 + 4 * u p 0 1) fun q s =>
  let ids := (List.range (u q.p 0 1)).map fun k => u q.p (12 + 4 * k) 4
  let cs := ids.map s.ctx
  let first := s.ctx (ids.headD 0)
  let slot := if first.scheduled then ctxSlot (ids.headD 0) else 0
  let tv := u q.p 1 1 == 1
  let target := if tv then some (u q.p 6 6) else none
  let scope := ids.all fun i => decide (i < 262_144) && (s.ctx i).state != Cs.idle && (s.ctx i).scheduled == first.scheduled &&
    (!first.scheduled || ctxSlot i == slot)
  if !(scope && noDup ids) then (s, Code.SES_BAD_PARAM, [])
  else if s.bivouac then (s, Code.TRV_BIVOUAC, [])
  else if 2 ≤ s.level then (s, Code.THM_THROTTLED, [])
  else if !s.flag R.PLC_CTL_ENABLE then (s, Code.PLC_DISABLED, [])
  else if q.r.tenant != 0 && cs.any (fun c => c.tenant != q.r.tenant) then (s, Code.CIR_NOT_OWNER, [])
  else if !s.flag R.EPO_CTL_ENABLE then (s, Code.SCH_DISABLED, [])
  else match s.timeCheck target q.at_ 250_000 with
  | some c => (s, c, [])
  | none =>
    if s.pol R.PLC_LIM2_MOVE_MAX < ids.length then (s, Code.PLC_MOVE_LIMIT, [])
    else if !s.flag R.TRV_CTL_ENABLE then (s, Code.TRV_DISABLED, [])
    else if 8 ≤ s.trv.journal.length then (s, Code.TRV_QUEUE_FULL, [])
    else
      let id := s.trv.nextId % 65_536
      let none_ (s : State) (code : Nat) : State :=
        { s with trv.nextId := s.trv.nextId + 1 }.complete q.r true code (travParams id 0 0 0)
      let ok (c : Ctx) : Bool := !c.pinned && (c.state == Cs.held || c.state == Cs.belay)
      if !(cs.all ok) || ids.any s.inJournal then (none_ s Code.CIR_BAD_STATE, Code.ACCEPTED, natBe 2 id)
      else match s.joint s.cycActive s.resvs (ids.map s.item) true (fun _ => 0) with
        | none => (none_ s Code.PLC_NO_PATH, Code.ACCEPTED, natBe 2 id)
        | some sol =>
          let ms := s.movesOf sol.layout
          if ms.isEmpty then (none_ s Code.DONE, Code.ACCEPTED, natBe 2 id)
          else match s.addTraverse 2 first.scheduled slot (if q.r.tenant = 0 then first.tenant else q.r.tenant) (some q.r)
              (target.map fun t => nearest t q.at_) ms none with
            | (s, .error code) => (none_ s code, Code.ACCEPTED, natBe 2 id)
            | (s, .ok id) => (s, Code.ACCEPTED, natBe 2 id)

/-- TRV_ABORT (R208 to R210, R413). -/
def opTrvAbort : OpSpec := opAny 0x4002 false (fun p => p.length == 8 && decide (u p 0 1 < 2) && u p 1 1 == 0) fun q s =>
  let named (t : Trav) : Bool :=
    if u q.p 0 1 = 0 then t.id == u q.p 2 2
    else match t.req with
      | none => false
      | some r => r.sess == q.r.sess && r.uid == q.r.uid && r.reqId == u q.p 4 4
  match s.trv.journal.find? named with
  | none => (s, Code.TRV_UNKNOWN, [])
  | some t =>
    let honour (s : State) : State := (s.count (whole (R.TRV_CNT 1))).raise { occ Ev.abortHonoured with tenant := t.tenant }
    let last := be48 t.elast
    if q.r.tenant != 0 && (t.origin == 1 || t.tenant != q.r.tenant) then (s, Code.CIR_NOT_OWNER, [])
    else if t.suspended then (s, Code.TRV_BIVOUAC, last)
    else if t.state == Ts.queued then ((honour s).endTrav t Code.TRV_ABORTED, Code.TRV_ABORTED, last)
    else if t.back || t.abortDue || decide (t.elast ≤ q.at_ + 5_000) then (s, Code.TRV_ABORT_LATE, last)
    else match t.inFlight with
      | some _ => ((honour s).setHead { t with abortDue := true }, Code.TRV_ABORTED, last)
      | none => let s := honour s; (s.reverse t s.now Code.TRV_ABORTED, Code.TRV_ABORTED, last)

/-- The suspended traverse at the head of the journal. -/
def State.suspendedHead (s : State) : Option Trav := match s.trv.journal with
  | [] => none
  | t :: _ => if t.suspended then some t else none

/-- TRV_RESUME (R213, R413). -/
def opTrvResume : OpSpec := opWarden 0x4003 false (fun p => p.length == 0) fun q s => match s.suspendedHead with
  | none => (s, Code.TRV_NOT_SUSPENDED, [])
  | some t =>
    let newOk := match t.newCtx with
      | none => true
      | some m => let c := s.ctx m.ctx; s.verified c.input (ctxOut m.ctx) (path c.input m.new)
    let plan := t.remaining.all fun k => (t.stage k).moved.all (s.moveOk t)
    if s.level = 4 then (s, Code.THM_THROTTLED, [])
    else if t.back && t.code != Code.TRV_ROLLED_BACK then (s, Code.TRV_ABORTED, [])
    else if !(plan && (t.back || newOk)) then (s, Code.TRV_PLAN_INVALID, [])
    else
      let t := s.timeStages { t with state := if t.back then Ts.rolling else Ts.running, progress := some q.r } s.now
      ((s.setHead t).planNew t, Code.ACCEPTED, [])

/-- TRV_ROLLBACK (R213, R413): the queued traverses end first, then the committed stages of the suspended one are reversed. -/
def opTrvRollback : OpSpec := opWarden 0x4004 false (fun p => p.length == 0) fun q s => match s.suspendedHead with
  | none => (s, Code.TRV_NOT_SUSPENDED, [])
  | some t =>
    if s.level = 4 then (s, Code.THM_THROTTLED, [])
    else
      let s := s.trv.journal.tail.foldl (fun s x => s.endTrav x Code.TRV_ROLLED_BACK) s
      let s := { s with trv.rollback := some q.r }
      (s.reverse t s.now Code.TRV_ROLLED_BACK, Code.ACCEPTED, [])

/-! ## Registers (R228) -/

/-- The traverse that the journal registers describe: the head, else the last that ended. -/
def State.trvShown (s : State) : Option Trav := match s.trv.journal with
  | t :: _ => some t
  | [] => s.trv.last

/-- `TRV_STS` as it reads. -/
def State.trvSts (s : State) : Word := match s.trv.journal with
  | [] => 0
  | t :: _ => BitVec.ofNat 32 (b2n t.suspended * 2 ^ 31 + b2n t.timedNow * 2 ^ 30 + s.trv.journal.length * 2 ^ 16 + t.id)

/-- The four words of `TRV_CUR` (R228). -/
def State.trvCur (s : State) : List Nat := match s.trvShown with
  | none => [0, 0, 0, 0]
  | some t =>
    let e := if t.timed then sched t.elast else 0
    [ t.state * 2 ^ 28 + t.origin * 2 ^ 26 + b2n t.slotScope * 2 ^ 25 + t.slot * 2 ^ 16 + t.id,
      t.stages.length * 2 ^ 27 + t.done * 2 ^ 22 + t.tenant * 2 ^ 16 + t.reason,
      (t.stages.map fun g => g.moved.length).sum * 2 ^ 25 + e / 2 ^ 32, e % 2 ^ 32 ]

/-- A word of `TRV_STAGE_n`. -/
def State.trvStageWord (s : State) (n w : Nat) : Word := match s.trvShown with
  | none => 0
  | some t => match t.stages[n]? with
    | none => 0
    | some g => BitVec.ofNat 32 (if w = 0 then g.sstate * 2 ^ 28 + g.moved.length * 2 ^ 21 + sched g.e / 2 ^ 32 else sched g.e % 2 ^ 32)

/-- A word of `TRV_MOVE_n`: NEW_ROUTE reads 0 until its stage commits. -/
def State.trvMoveWord (s : State) (n w : Nat) : Word := match s.trvShown with
  | none => 0
  | some t =>
    let all := ((List.range t.stages.length).zip t.stages).flatMap fun x => x.2.moves.map fun m => (x.1, x.2.sstate, m)
    match all[n]? with
    | none => 0
    | some (k, ss, m) => BitVec.ofNat 32 (match w with
      | 0 => 2 ^ 31 + k * 2 ^ 27 + b2n m.isNew * 2 ^ 26 + m.ctx
      | 1 => if m.isNew then 0 else m.old
      | 2 => if ss = Ss.committed ∨ ss = Ss.reversed then m.new else 0
      | _ => 0)

/-- A read of `TRV_CUR` word 0 takes a snapshot of the traverse at the head of the journal. -/
def doTrvCurSnapshot (s : State) : State := match s.trvCur with
  | [a, b, c, d] =>
    { (((s.wr R.TRV_CUR_0 (BitVec.ofNat 32 a)).wr R.TRV_CUR_1 (BitVec.ofNat 32 b)).wr R.TRV_CUR_2 (BitVec.ofNat 32 c)).wr R.TRV_CUR_3
        (BitVec.ofNat 32 d) with bus := BitVec.ofNat 32 a }
  | _ => s

/-- A write of `TRV_CTL` (R228). -/
def doTrvCtlWrite (v : Word) (s : State) : State :=
  let check (s : State) : Option Nat :=
    let m := s.get R.TRV_CTL_STAGE_MOVES
    if m < 4 ∨ 64 < m ∨ s.get R.TRV_CTL_STAGE_GAP = 0 then some Code.TRV_CONFIG else none
  if s.flag R.TRV_CTL_ENABLE && s.rwcHit R.TRV_CTL v then s.refuse R.TRV_CTL_REFUSE Ev.traverseConfigurationRefused Code.TRV_CONFIG
  else (s.put R.TRV_CTL_REFUSE 0).ctlWrite R.TRV_CTL R.TRV_CTL_ENABLE R.TRV_CTL_REFUSE Ev.traverseConfigurationRefused Code.TRV_CONFIG check v

/-- A write of `TRV_SPEC_CFG` (R229); clearing ENABLE reverts every PROV element from its tile's next frame boundary (R225). -/
def doTrvSpecCfgWrite (v : Word) (s : State) : State :=
  if s.flag R.TRV_SPEC_CFG_ENABLE && s.rwcHit R.TRV_SPEC_CFG v then s.refuse R.TRV_CTL_REFUSE Ev.traverseConfigurationRefused Code.TRV_CONFIG
  else
    let was := s.flag R.TRV_SPEC_CFG_ENABLE
    let s := (s.take R.TRV_SPEC_CFG v).put R.TRV_CTL_REFUSE 0
    if !was && s.flag R.TRV_SPEC_CFG_ENABLE && decide (64 < s.get R.TRV_SPEC_CFG_PIN_MAX) then
      (s.put R.TRV_SPEC_CFG_ENABLE 0).refuse R.TRV_CTL_REFUSE Ev.traverseConfigurationRefused Code.TRV_CONFIG
    else s

/-! ## Request rows -/

def doTrvRequest (f : Frame) (s : State) : State := doAfisk opTrvRequest f s
def doTrvAbort (f : Frame) (s : State) : State := doAfisk opTrvAbort f s
def doTrvResume (f : Frame) (s : State) : State := doAfisk opTrvResume f s
def doTrvRollback (f : Frame) (s : State) : State := doAfisk opTrvRollback f s

end Sys2Proof.Machine
end

