-- ==== Sys2Proof/Machine/Speculate.lean ====
section
/-!
DEFINITION. Sys2Proof/Machine/Speculate.lean: speculative positions: their sources, reach sets, taking, reverting and the mask
("Traverses, speculation and abort", R218 to R227), and the PIN phase an element is switched with (R186).
-/
namespace Sys2Proof.Machine

/-! ## The switching phase (R186) -/

/-- Temperature of a sensor between housekeeping rounds (R246), in 0.01 °C: extrapolated from its last two readings at their slope, for at
most 10 ms; a substitute stands as it is. -/
def State.sensorNow (s : State) (n : Nat) : Int :=
  let x := s.tile (n / 128)
  let l := n % 128
  match Tbl.look x.subst l with
  | some v => v
  | none =>
    let t1 := Tbl.getD x.reading l 0
    match Tbl.look x.prevReading l with
    | none => t1
    | some t0 => t1 + roundDiv ((t1 - t0) * (min (s.now - Tbl.getD x.readAt l 0) 10_000_000 : Nat)) 10_000_000

/-- Temperature t_e of an element in 0.01 °C (R246): between its sensor and the neighbouring sensor of the same stage row. -/
def State.elemTemp (s : State) (e : Nat) : Int :=
  let n := sensorOf e
  let k := posOf e % 8
  let t := s.sensorNow n
  let mix (m : Nat) : Int := t + roundDiv ((s.sensorNow m - t) * (2 * (k : Int) - 7).natAbs) 16
  if 4 ≤ k ∧ n % 64 < 63 then mix (n + 1) else if k < 4 ∧ 0 < n % 64 then mix (n - 1) else t

/-- Phase that an element needs in a state, from its calibrated table at its temperature (R368). -/
def State.phiNow (s : State) (e : Nat) (cross : Bool) : Int := s.phi e cross (s.elemTemp e)

/-- PIN phase of an element for a commanded state (R186): that state's phase less the modelled heater phase; 0 where the state is the
heater state outside a belay. -/
def State.pinFor (s : State) (e : Nat) (cross : Bool) : Int :=
  let x := s.elem e
  let ramp := match x.prov with
    | none => false
    | some v => v.ramp
  if x.home = cross ∧ x.belay = none ∧ x.belayDue = false ∧ ramp = false then 0 else s.phiNow e cross - s.heater e

/-- A transition is between its G0 and its E. -/
def State.inTransition (s : State) : Bool := s.fab.trans.any fun t => decide (1 ≤ t.phase)

/-- The element is touched by a transition between its G0 and its E (R173, R185). -/
def State.touchedNow (s : State) (e : Nat) : Bool :=
  s.fab.trans.any fun t => decide (1 ≤ t.phase) && t.loads.any fun x => x.1 == posOf e

/-- The eight elements of a cell position, both planes. -/
def cellElems (pos : Nat) : List Nat := (List.range 2).flatMap fun p => (List.range 4).map fun m => elemOf p pos m

/-! ## Reach sets (R219) -/

/-- Driven state of a cell of a plane, speculative positions included. -/
def State.driven (s : State) (p pos : Nat) : Bool :=
  ((List.range 4).findSome? fun m => (s.elem (elemOf p pos m)).prov.bind fun v => if v.reverting then none else some v.cross).getD
    (s.cell pos)

/-- The output reached by walking from a line that leaves stage `st`. -/
def State.walk (s : State) (p n st l : Nat) : Nat :=
  match n with
  | 0 => l
  | n + 1 =>
    let b := stageBit (st + 1)
    let l' := if s.driven p ((st + 1) * 512 + cellOf (st + 1) l) then lineSet l b (!lineBit l b) else l
    s.walk p n (st + 1) l'

/-- The reach set of an element: the outputs at the ends of the walks from both exits of its cell. -/
def State.reach (s : State) (e : Nat) : List Nat :=
  let p := e / planeElems
  let pos := posOf e
  let st := pos / 512
  [false, true].map fun low => s.walk p (19 - st) st (lineOf st (pos % 512) low)

/-! ## Sources (R218) -/

/-- A wanted speculative position: its source, the epoch of its source, the element, and the state it needs. -/
structure Wish where
  source : Source
  e : Nat
  elem : Nat
  cross : Bool
  deriving DecidableEq, Repr

/-- The cell states that the circuits of a slot need and that the cells do not hold. -/
def State.slotChanges (s : State) (n : Nat) : List (Nat × Bool) :=
  (s.cir.ctxs.flatMap fun x => if x.2.lit && x.2.scheduled && ctxSlot x.1 == n then x.2.hops.map fun h => (h.pos, h.cross) else []).filter
    fun x => s.cell x.1 != x.2

/-- Elements of paths with the state they need. -/
def hopWishes (src : Source) (e : Nat) (hs : List Hop) : List Wish :=
  hs.flatMap fun h => (pathAll [h]).map fun x => ⟨src, e, x, h.cross⟩

/-- Every position that the sources of R218 want, those allowed by the SRC bits of `TRV_SPEC_CFG`. -/
def State.wishes (s : State) : List Wish :=
  let pend := if s.flag R.TRV_SPEC_CFG_SRC_PEND then
      s.cir.ctxs.flatMap fun x => if x.2.state = Cs.placed ∨ x.2.state = Cs.armed then hopWishes (.circuit x.1) x.2.eplan x.2.newHops else []
    else []
  let stage := if s.flag R.TRV_SPEC_CFG_SRC_TRV then match s.trv.journal with
      | [] => []
      | t :: _ =>
        if t.state != Ts.running then []
        else match t.remaining with
          | [] => []
          | k :: _ => (t.stage k).moved.flatMap fun m => hopWishes (.stage t.id k) (t.stage k).e (path (s.ctx m.ctx).input m.new)
    else []
  let slot := if s.flag R.TRV_SPEC_CFG_SRC_SLOT then match s.sch.active with
      | none => []
      | some a =>
        if a.frozen.isSome then []
        else
          let (e, n) := a.nextEpoch s.now
          (s.slotChanges n).flatMap fun x => (cellElems x.1).map fun y => ⟨.slot n, e, y, x.2⟩
    else []
  pend ++ stage ++ slot

/-- A source that may still commit (R218, R225). -/
def State.sourceLive (s : State) (src : Source) : Bool := match src with
  | .circuit i => (s.ctx i).state == Cs.placed || (s.ctx i).state == Cs.armed
  | .stage id k => match s.trv.journal with
    | [] => false
    | t :: _ => t.id == id && !t.back && (t.remaining.head? == some k || t.inFlight == some k)
  | .slot n => match s.sch.active with
    | none => false
    | some a => a.frozen.isNone && (a.nextEpoch s.now).2 == n

/-- Committed light passes through an element at some instant from now until an epoch (R219). -/
def State.lightUntil (s : State) (x e : Nat) : Bool :=
  s.cir.ctxs.any fun c => c.2.lit && (pathAll c.2.hops).contains x &&
    (!c.2.scheduled || s.litNow c.1 c.2 || (match s.sch.active with
      | none => false
      | some a => a.frozen.isNone && decide (a.epochFrom (ctxSlot c.1) s.now < e)))

/-- No light can reach an output port through an element (R219). -/
def State.reachDark (s : State) (x : Nat) : Bool := (s.reach x).all fun o => s.portDark (portKey true o)

/-- A position may be taken (R219): the element dark until the epoch, its reach set dark, and nothing else moving it. -/
def State.maySpeculate (s : State) (w : Wish) : Bool :=
  let x := s.elem w.elem
  s.cell (posOf w.elem) != w.cross && x.prov.isNone && x.belay.isNone && !x.belayDue && !s.elemFenced w.elem && !s.isStale w.elem &&
    !s.lightUntil w.elem w.e && s.reachDark w.elem

/-- Home state of a cell position once the source of a wish has committed (R187, R188: a slot's own epoch changes no home). -/
def State.homeAfter (s : State) (w : Wish) : Bool :=
  let pos := posOf w.elem
  let at_ (s : State) : Bool := match s.sch.active with
    | none => w.cross
    | some a =>
      let l := slotStates (s.needs pos) a.durs.length w.cross
      let sum (x : Bool) : Nat := (((l.zip a.durs).filter (·.1 == x)).map (·.2)).sum
      if s.needs pos = [] then w.cross else decide (sum false < sum true)
  match w.source with
  | .slot _ => (s.elem w.elem).home
  | .circuit i => if (s.ctx i).scheduled then (s.elem w.elem).home else w.cross
  | .stage _ k => match s.trv.journal with
    | [] => w.cross
    | t :: _ => at_ ((t.stage k).moved.foldl (fun s m => s.setCtx m.ctx { s.ctx m.ctx with route := some m.new }) s)

/-- One wished position taken (R220): a heater pre-ramp where the home changes and RAMP_EN allows it, else a PIN preload within
PIN_MAX. -/
def State.takeWish (s : State) (n : Nat) (w : Wish) : State :=
  if !s.maySpeculate w then s
  else
    let x := s.elem w.elem
    let t := tileOf w.elem
    let pins := ((s.elemsOf t).filter fun y => (match y.2.prov with
      | none => false
      | some v => !v.ramp && y.2.pinPh != 0)).length
    if s.homeAfter w != x.home && s.flag R.TRV_SPEC_CFG_RAMP_EN then
      (s.setElem w.elem { x with prov := some ⟨w.source, w.cross, true, 0, n, s.heater w.elem, s.phiNow w.elem w.cross - s.heater w.elem, false⟩ }).count
        (whole (R.TRV_SPEC_CNT 0))
    else if pins < s.get R.TRV_SPEC_CFG_PIN_MAX ∧ s.inTransition = false then
      let ph := s.pinFor w.elem w.cross
      let (s, _) := s.loadPin w.elem ph x.pinTrim
      (s.setElem w.elem { s.elem w.elem with prov := some ⟨w.source, w.cross, false, 0, n, 0, 0, false⟩ }).count (whole (R.TRV_SPEC_CNT 0))
    else s

/-- The committed value reloaded into an element's channels. -/
def State.loadCommitted (s : State) (e : Nat) : State :=
  (s.loadPin e (s.pinFor e (s.cell (posOf e))) (s.elem e).pinTrim).1

/-- One PROV element of a tile at its frame edge (R225, R227): the position of a source that no longer commits reverts, a PIN preload also
under a throttle. -/
def State.keepProv (s : State) (n e : Nat) : State :=
  let x := s.elem e
  match x.prov with
  | none => s
  | some v =>
    let gone := !s.sourceLive v.source || !s.flag R.TRV_SPEC_CFG_ENABLE
    if v.ramp then
      if gone && !v.reverting then
        (s.setElem e { x with prov := some { v with reverting := true, k := 0, n := n, phi0 := s.heater e, dphi := s.phiNow e x.home - s.heater e } }).count
          (whole (R.TRV_SPEC_CNT 1))
      else if v.reverting && decide (v.n ≤ v.k) then s.setElem e { x with prov := none, htr := s.phiNow e x.home, out := none }
      else s
    else if (gone || v.reverting || decide (1 ≤ s.level)) && !s.inTransition then
      let s := if gone && !v.reverting then s.count (whole (R.TRV_SPEC_CNT 1)) else s
      let s := s.setElem e { s.elem e with prov := none }
      s.loadCommitted e
    else if gone && !v.reverting then (s.setElem e { x with prov := some { v with reverting := true } }).count (whole (R.TRV_SPEC_CNT 1))
    else s

/-- Speculation of a tile at its frame edge (R218 to R220, R225, R227); `n` is the number of ramp frames of R189. -/
def State.specEdge (s : State) (t n : Nat) : State :=
  let provs := ((s.elemsOf t).filter fun y => y.2.prov.isSome).map (·.1)
  let s := provs.foldl (fun s e => s.keepProv n e) s
  if s.flag R.TRV_SPEC_CFG_ENABLE && s.level == 0 then
    (s.wishes.filter fun w => tileOf w.elem == t).foldl (fun s w => s.takeWish n w) s
  else s

/-- The speculation mask (R224): outputs in the reach set of any PROV element. -/
def State.specMask (s : State) : List Nat :=
  s.elems.flatMap fun y => if y.2.prov.isSome then s.reach y.1 else []

/-- `TRV_SPEC_STS` as it reads. -/
def State.specSts (s : State) : Word :=
  BitVec.ofNat 32 (b2n (decide (1 ≤ s.level)) * 2 ^ 31 + (s.elems.filter fun y => y.2.prov.isSome).length % 2 ^ 17)

end Sys2Proof.Machine
end

