-- ==== Sys2Proof/Machine/Epoch.lean ====
section
/-!
DEFINITION. Sys2Proof/Machine/Epoch.lean: the transition at an epoch, strobe by strobe ("The transition at an epoch", with the epoch
engine of "Schedules and epochs"), freezes, the guard latch, the loss check's deadline and phase steps.
-/
namespace Sys2Proof.Machine

/-! ## The circuits from E (R51, R57, R159, R206) -/

/-- Cycling elements of a path in one plane (R55, R85). -/
def State.cyclingOf (s : State) (h : List Hop) : Nat := 2 * (h.filter fun x => s.cycling x.pos).length

/-- A circuit as it reads from its commit (R57). -/
def Ctx.commit (c : Ctx) (e : Nat) : Ctx :=
  { c with state := Cs.lit, route := c.placed, placed := none, epoch := Sys2Proof.Machine.sched e, eplan := e, litS := tai e % 2 ^ 32, check := some (e, 0),
           opened := [] }

/-- A moved circuit as it reads from its stage's commit (R57, R206). -/
def Ctx.moveTo (c : Ctx) (r e : Nat) : Ctx :=
  { c with state := if c.scheduled then Cs.held else Cs.belay, route := some r, placed := none, epoch := Sys2Proof.Machine.sched e, moves := satInc 16 c.moves, check := some (e, 0) }

/-- The context that a circuit of the incoming entry takes at E_sw (R51, R151, R159). -/
def SchCir.enter (x : SchCir) (entry e : Nat) (durs : List Nat) (lights : List Nat) (old : Ctx) : Ctx :=
  let i := x.rec_.output * 256 + x.slot
  let base : Ctx := { Ctx.idle with
    scheduled := true, pinned := x.rec_.pinned, tenant := x.rec_.tenant, input := x.rec_.input, sched := entry, lease := x.lease,
    grantIn := x.grantIn, grantOut := x.grantOut, reason := x.reason, gen := (old.gen + 1) % 65_536 }
  if x.state != 0 then { base with state := x.state, route := x.route, cycling := x.cycling }
  else match x.route with
    | none => { base with state := Cs.pending, ingress := sched e, ses := 32,
                          eplan := if x.slot = 0 then e + durs.sum else e + slotOfs durs x.slot }
    | some r =>
      if x.slot != 0 then { base with state := Cs.armed, placed := some r, eplan := e + slotOfs durs x.slot }
      else if lights.contains i then { (({ base with placed := some r } : Ctx).commit e) with cycling := x.cycling }
      else { base with state := Cs.failed, reason := Code.CIR_VERIFY_FAIL }

/-- The circuit table from E_sw (R51): the outgoing schedule's contexts IDLE, the incoming entry's in their place. -/
def State.swapCtxs (s : State) (w : Swap) (lights : List Nat) : Tbl Ctx :=
  let kept := s.cir.ctxs.map fun x => if x.2.scheduled then (x.1, { Ctx.idle with gen := (x.2.gen + 1) % 65_536 }) else x
  match w.target with
  | none => kept
  | some n =>
    let x := s.entry n
    x.circuits.foldl (fun m c =>
      let i := c.rec_.output * 256 + c.slot
      Tbl.put m i (c.enter n w.esw x.durs lights (Tbl.getD m i Ctx.idle))) kept

/-- The circuit table as a transition leaves it at E. -/
def State.ctxsAfter (s : State) (tr : Trans) : Tbl Ctx :=
  let base := match tr.swap, s.sch.swap with
    | true, some w => s.swapCtxs w tr.lights
    | _, _ => tr.lights.foldl (fun m i =>
        let c := Tbl.getD m i Ctx.idle
        Tbl.put m i { c.commit tr.e with gen := (c.gen + 1) % 65_536 }) s.cir.ctxs
  match tr.stage, s.trv.journal with
  | some k, t :: _ => (t.stage k).moved.foldl (fun m x =>
      let c := Tbl.getD m x.ctx Ctx.idle
      Tbl.put m x.ctx { c.moveTo (t.to x) tr.e with gen := (c.gen + 1) % 65_536 }) base
  | _, _ => base

/-- The active schedule as a transition leaves it at E (R143, R159, R162). -/
def State.activeAfter (s : State) (tr : Trans) : Option Active :=
  match tr.swap, s.sch.swap with
  | true, some w => w.target.map fun n =>
      { entry := n, durs := (s.entry n).durs, start := w.esw, slot := 0, lastE := w.esw, first := false, frozen := none,
        freezeDue := (match s.sch.active with
          | none => false
          | some a => a.freezeDue), resumeAt := none }
  | _, _ =>
    if tr.slotClass then s.sch.active.map fun a =>
      { a with slot := (a.slotAt tr.e).getD a.slot, lastE := tr.e, first := false, frozen := none, resumeAt := none }
    else s.sch.active

/-- The state of circuits and schedule from E, all else as it stands. -/
def State.after (s : State) (tr : Trans) : State := { s with cir.ctxs := s.ctxsAfter tr, sch.active := s.activeAfter tr }

/-! ## What a transition touches (R172, R173) -/

/-- Ports that carry a circuit of a class now, with its input, output, route and tenant. -/
def State.carried (s : State) (cls : Bool) : List (Nat × (Nat × Nat × Nat × Nat)) :=
  s.cir.ctxs.flatMap fun x =>
    if x.2.scheduled == cls && s.litNow x.1 x.2 then
      (ctxPorts x.1 x.2).map fun k => (k, (x.2.input, ctxOut x.1, x.2.route.getD 0, x.2.tenant))
    else []

/-- Ports of circuits that leave at a persistent epoch (R59): those that no other circuit uses now. -/
def State.leavingPorts (s : State) (e : Nat) : List Nat :=
  (s.cir.leaves.filter fun l => decide (l.e ≤ e) && (!l.scheduled || l.slot == s.slotLit)).flatMap fun l =>
    [portKey false l.input, portKey true (ctxOut l.ctx)].filter fun k =>
      !s.cir.ctxs.any fun x => s.litNow x.1 x.2 && (ctxPorts x.1 x.2).contains k

/-- Affected ports of a transition (R172). -/
def State.affected (s : State) (tr : Trans) : List Nat :=
  let b := s.carried tr.slotClass
  let a := (s.after tr).carried tr.slotClass
  let differs (k : Nat) : Bool := (b.find? (·.1 == k)).map (·.2) != (a.find? (·.1 == k)).map (·.2)
  let l := ((b ++ a).map (·.1)).filter differs ++ (if tr.slotClass then [] else s.leavingPorts tr.e)
  l.foldl (fun m k => if m.contains k then m else m ++ [k]) []

/-- Cell positions that change, with their new state (R173). -/
def State.changes (s : State) (tr : Trans) : Tbl Bool :=
  let a := s.after tr
  a.cir.ctxs.foldl (fun m x =>
    if x.2.scheduled == tr.slotClass && a.litNow x.1 x.2 then
      x.2.hops.foldl (fun m h => if s.cell h.pos = h.cross then m else Tbl.put m h.pos h.cross) m
    else m) []

/-! ## Transitions in progress -/

def State.trans (s : State) (cls : Bool) (e : Nat) : Option Trans := s.fab.trans.find? fun t => t.slotClass == cls && t.e == e

/-- A transition record replaced, or added. -/
def State.setTrans (s : State) (tr : Trans) : State :=
  if (s.trans tr.slotClass tr.e).isSome then
    { s with fab.trans := s.fab.trans.map fun t => if t.slotClass == tr.slotClass && t.e == tr.e then tr else t }
  else { s with fab.trans := s.fab.trans ++ [tr] }

def State.dropTrans (s : State) (cls : Bool) (e : Nat) : State :=
  { s with fab.trans := s.fab.trans.filter fun t => !(t.slotClass == cls && t.e == e) }

/-- The guard band in force (R166). -/
def State.gb (s : State) : Nat := s.get R.EPO_GB_GB_USE

def State.newTrans (s : State) (cls : Bool) (e : Nat) : Trans :=
  { slotClass := cls, e := e, gb := s.gb, phase := 0, lights := [], stage := none, swap := false, ports := [], loads := [], refused := [],
    notReady := [], dark := false, selfs := [], undo := [] }

/-! ## The point of no return (R57, R157, R175, R205) -/

/-- A circuit that fails its verification reads FAILED (R57). -/
def State.verifyFails (s : State) (i : Nat) : State :=
  let c := s.ctx i
  ((s.endLight i Code.CIR_VERIFY_FAIL).leaveWait i Cs.failed Code.CIR_VERIFY_FAIL).evCtx Ev.circuitFailed i c.tenant Code.CIR_VERIFY_FAIL

/-- The code that cancels an armed swap at its point of no return (R157), if any. -/
def State.swapCheck (s : State) (w : Swap) : Option Nat :=
  if s.bivouac then some Code.TRV_BIVOUAC
  else if 2 ≤ s.level then some Code.THM_THROTTLED
  else match w.target with
    | none => if w.banksMissing.isEmpty then none else some Code.SCH_SWAP_NOT_READY
    | some n =>
      if (s.entry n).lstate = Ls.stale then some Code.PLC_SCHED_STALE
      else if (s.entry n).lstate != Ls.ready then some Code.SCH_NOT_READY
      else if w.banksMissing.isEmpty then none else some Code.SCH_SWAP_NOT_READY

/-- Circuits that are to commit at an epoch: PLACED or ARMED, of its class and slot, planned for it or held back to it; the new circuit of
a request traverse commits with its stage (R204). -/
def State.committers (s : State) (cls : Bool) (e : Nat) (slot : Nat) : List Nat :=
  (s.cir.ctxs.filter fun x => (x.2.state == Cs.placed || x.2.state == Cs.armed) && x.2.scheduled == cls && decide (x.2.eplan ≤ e) &&
    (!cls || ctxSlot x.1 == slot) && !s.trv.journal.any fun t => t.newCtx.any (·.ctx == x.1)).map (·.1)

/-- Verification of what commits at an epoch, armed in every tile when it passes (R57, R165, R205). -/
def State.verifyEpoch (s : State) (cls : Bool) (e : Nat) : State :=
  let slot := s.slotEpoch e
  let tr := s.newTrans cls e
  let (s, lights) := if s.bivouac then (s, []) else
    (s.committers cls e (slot.getD 0)).foldl (fun (s, l) i =>
      let c := s.ctx i
      if s.verified c.input (ctxOut i) c.newHops then (s, l ++ [i]) else (s.verifyFails i, l)) (s, [])
  let (s, stage) := if s.bivouac then (s, none) else match s.stageDue cls e with
    | none => (s, none)
    | some k => match s.verifyStage k e with
      | (s, true) => (s, some k)
      | (s, false) => (s, none)
  let new := match stage, s.trv.journal with
    | some k, t :: _ => if t.back then [] else ((t.stage k).moves.filter (·.isNew)).map (·.ctx)
    | _, _ => []
  let tr := { tr with lights := lights ++ new, stage := stage }
  let leaves := !cls && s.cir.leaves.any fun l => decide (l.e ≤ e)
  if cls || !tr.lights.isEmpty || stage.isSome || leaves then s.setTrans tr else s

/-- At E_sw − 5 µs an armed swap is cancelled, or its slot-0 circuits are verified (R157, R159). -/
def State.verifySwap (s : State) (w : Swap) : State :=
  match s.swapCheck w with
  | some code =>
    let s := s.swapEnds code true
    if (s.slotEpoch w.esw).isSome then s.verifyEpoch true w.esw else s
  | none =>
    let ok (c : SchCir) : Bool := c.slot == 0 && c.state == 0 && (match c.route with
      | none => false
      | some r => s.verified c.rec_.input c.rec_.output (path c.rec_.input r))
    let lights := match w.target with
      | none => []
      | some n => ((s.entry n).circuits.filter ok).map fun c => c.rec_.output * 256 + c.slot
    { s with sch.swap := some { w with past := true } }.setTrans { s.newTrans true w.esw with lights := lights, swap := true }

/-- The epoch engine can verify an epoch of a class at an instant: the grid of R125 for a persistent one, outside bivouac (R163); a slot
epoch or the instant of an armed swap for the other (R144, R155). -/
def State.epochAt (s : State) (cls : Bool) (e : Nat) : Bool :=
  if cls then (s.slotEpoch e).isSome || (match s.sch.swap with
    | none => false
    | some w => w.esw == e)
  else isGrid persGrid e && !s.bivouac

/-- At E − 5 µs the circuits, stage or swap of an epoch are verified and armed in the tiles (R57, R157, R165, R175, R205). -/
def doPointOfNoReturn (cls : Bool) (e : Nat) (s : State) : State :=
  if s.ready && s.hubIn && s.svc.holdover.isEmpty && s.flag R.EPO_CTL_ENABLE && s.epochAt cls e && (s.trans cls e).isNone then
    let s := s.advanceTo (e - 5_000)
    match s.sch.swap with
    | none => s.verifyEpoch cls e
    | some w => if cls && w.esw == e then s.verifySwap w else s.verifyEpoch cls e
  else s

/-! ## Loads (R186, R221 to R223) -/

/-- A touched element loaded at a strobe for a state; the Boolean of the result tells whether its channels took the load (R177). -/
def State.loadElem (s : State) (e : Nat) (cross : Bool) : State × Bool :=
  let x := s.elem e
  let s := match x.prov with
    | none => s
    | some v =>
      if v.ramp && decide (v.n ≤ v.k) && !v.reverting then s.setElem e { x with prov := none, home := v.cross, htr := s.heater e, out := none }
      else s.setElem e { x with prov := none, htr := if v.ramp then s.heater e else x.htr, out := none }
  let ok := !s.elemFenced e
  let (s, took) := s.loadPin e (s.pinFor e cross) (s.elem e).pinTrim
  (s, ok && took)

/-- Cell positions loaded at a strobe: what each element held before is kept for a withdrawal; a tile that did not take a load is
listed (R177, R209). -/
def State.loadCells (s : State) (tr : Trans) (loads : Tbl Bool) : State × Trans :=
  loads.foldl (fun (s, tr) l =>
    let (s, tr) := (cellElems l.1).foldl (fun (s, tr) e =>
      let x := s.elem e
      let tr : Trans := { tr with undo := if (Tbl.look tr.undo e).isSome then tr.undo else Tbl.put tr.undo e (x.pinPh, x.prov) }
      let (s, ok) := s.loadElem e l.2
      (s, if ok then tr else { tr with refused := if tr.refused.contains (tileOf e) then tr.refused else tr.refused ++ [tileOf e] })) (s, tr)
    (s.setCell l.1 l.2, tr)) (s, tr)

/-- Cell positions whose home may change: those of the cycle's paths, of cells in CROSS, and of elements that have been moved. -/
def State.homePositions (s a : State) : List Nat :=
  let l := ((s.cir.ctxs ++ a.cir.ctxs).flatMap fun x => x.2.cycleHops.map (·.pos)) ++ s.fab.cells.map (·.1) ++
    s.elems.map (fun y => posOf y.1)
  l.foldl (fun m p => if m.contains p then m else p :: m) []

/-- Elements whose home differs from the one that the circuits `a` give them (R187), with that home. -/
def State.homeMoves (s a : State) : List (Nat × Bool) :=
  (s.homePositions a).flatMap fun pos =>
    let h := a.homeOf pos
    (cellElems pos).filterMap fun e => if (s.elem e).home = h then none else some (e, h)

/-- A belay begins with its capture frame toward a new home (R188); one that begins during another goes on from the heater phase reached
(R193). -/
def State.startBelay (s : State) (e : Nat) (home : Bool) : State :=
  let x := s.elem e
  let again := x.belay.isSome || x.home == home
  s.setElem e { x with home := home, belayDue := false, htr := if again then s.heater e else x.htr,
                       belay := some ⟨again, 0, 0, 0, 0, 0, 0, 0, 0, 0, false⟩ }

/-- Homes change at the commit of a persistent circuit, of a traverse stage, and of a swap (R188). -/
def Trans.rehomes (tr : Trans) : Bool := (!tr.slotClass && !tr.lights.isEmpty) || tr.stage.isSome || tr.swap

/-! ## The strobes (R175) -/

/-- A pulse of EPOCH_OUT from an instant (R168); overlapping pulses merge. -/
def State.epochPulse (s : State) (at_ : Nat) : State :=
  let fall := at_ + s.get R.EPO_OUT_CFG_WIDTH * 10
  { s with fab.epochOut := match s.fab.epochOut with
    | some (r, f) => if at_ ≤ f then some (r, max f fall) else some (at_, fall)
    | none => some (at_, fall) }

/-- Whether `EPO_OUT_CFG` selects the epoch of a transition (R168). -/
def State.marks (s : State) (tr : Trans) : Bool :=
  let bound := tr.slotClass && (tr.swap || s.slotEpoch tr.e == some 0)
  (s.flag R.EPO_OUT_CFG_SEL_SLOT && tr.slotClass) || (s.flag R.EPO_OUT_CFG_SEL_PERS && !tr.slotClass) ||
    (s.flag R.EPO_OUT_CFG_SEL_BOUND && bound)

/-- At G0, by a hub mark or by the tile's own compare (R165), the affected ports are blanked and the moved circuits enter MOVING (R206). A
slot epoch starts from the slot-map banks alone. -/
def doBlankStrobe (cls : Bool) (e : Nat) (hub : Bool) (s : State) : State :=
  let found := match s.trans cls e with
    | some tr => if tr.phase = 0 then some tr else none
    | none => if cls && (s.slotEpoch e).isSome && !(match s.sch.swap with
        | none => false
        | some w => w.esw == e && w.past) then some (s.newTrans cls e) else none
  match found with
  | none => s
  | some tr =>
    if !s.svc.por || !s.flag R.EPO_CTL_ENABLE || (hub && !s.hubIn) then s
    else
      let s := s.advanceTo (e - tr.gb)
      let ports := s.affected tr
      let loads := s.changes tr
      let s := ports.foldl (fun s k => s.setEpo k true) s
      let s := loads.foldl (fun s l => (cellElems l.1).foldl (fun s x => s.setElem x { s.elem x with since := e }) s) s
      let s := match tr.stage, s.trv.journal with
        | some k, t :: _ => (t.stage k).moved.foldl (fun (s : State) (m : Move) => s.setCtx m.ctx { s.ctx m.ctx with state := Cs.moving, placed := some (t.to m) }) s
        | _, _ => s
      let s := if s.flag R.EPO_OUT_CFG_MARK && s.marks tr then s.epochPulse (e - tr.gb) else s
      s.setTrans { tr with phase := 1, ports := ports, loads := loads }

/-- No hub mark follows a tile's own compare within 4 ns (R165): the tile is self-strobed for that epoch. -/
def doSelfStrobeDetect (cls : Bool) (e : Nat) (tile : Fin 20) (s : State) : State :=
  match s.trans cls e with
  | none => s
  | some tr =>
    if tr.phase = 0 ∨ tr.selfs.contains tile.val then s
    else
      let s := s.advanceTo (e - tr.gb + 4)
      let s := if tr.selfs.isEmpty then s.count (whole (R.EPO_CNT 3)) else s
      let s := if s.fab.selfRun.contains tile.val then s
        else { s with fab.selfRun := s.fab.selfRun ++ [tile.val] }.ev Ev.selfStrobe
      let s := if cls then { s with sch.selfs := true } else s
      s.setTrans { tr with selfs := tr.selfs ++ [tile.val] }

/-- PROV elements that committed light will pass, or whose reach set would hold a port released at E (R223). -/
def State.provAtStrobe (s : State) (tr : Trans) : State :=
  let a := s.after tr
  let lit := (a.users a.litNow).map (·.1)
  let released := ((a.carried tr.slotClass).map (·.1)).filter fun k => tr.ports.contains k
  s.elems.foldl (fun s y =>
    match (s.elem y.1).prov with
    | none => s
    | some v =>
      if lit.contains y.1 then
        (s.setElem y.1 { s.elem y.1 with prov := none, htr := if v.ramp then s.heater y.1 else (s.elem y.1).htr, out := none,
                                         belayDue := v.ramp }).loadCommitted y.1
      else if (s.reach y.1).any fun o => released.contains (portKey true o) then
        let x := s.elem y.1
        let v' : Prov := { v with reverting := true, k := 0, phi0 := s.heater y.1, dphi := s.phiNow y.1 x.home - s.heater y.1 }
        let s := s.setElem y.1 { x with prov := some v' }
        (s.loadCommitted y.1).count (whole (R.TRV_SPEC_CNT 2))
      else s) s

/-- A probe ends for its whole set (R274): STATE ENDED, END with its code, and the event. -/
def State.endProbe (s : State) (t code : Nat) : State :=
  match (s.tile t).probe with
  | none => s
  | some _ =>
    (((s.setTile t { s.tile t with probe := none, stopDue := false }).put (R.TILE_LP_PRB_STS_STATE t) 2).put
      (R.TILE_LP_PRB_STS_END t) code).ev (Ev.probeEnded t) code

/-- No light reaches an element or, through it, an output port: both conditions of R219 for an element that no circuit uses. -/
def State.probeDark (s : State) (e : Nat) : Bool := !s.used e && s.reachDark e

/-- What a switch strobe does to probes and learning runs (R274, R275, R279): a probe of which a set element is touched, lit or no longer dark
ends, and its touched elements belay from the heater phase reached; a touched transmitter stops injecting. -/
def State.probesAtStrobe (s : State) (tr : Trans) : State :=
  let a := s.after tr
  let lit := (a.users a.litNow).map (·.1)
  let touched (e : Nat) : Bool := tr.loads.any fun l => l.1 == posOf e
  (List.range 20).foldl (fun s t =>
    let s := match (s.tile t).probe with
      | none => s
      | some p =>
        let hit (x : Nat × Bool) : Bool := touched x.1 || (!x.2 && (lit.contains x.1 || !s.probeDark x.1))
        if p.set.any hit then
          let s := (p.set.filter fun (x : Nat × Bool) => touched x.1).foldl (fun (s : State) (x : Nat × Bool) => s.setElem x.1 { s.elem x.1 with belayDue := true, htr := s.heater x.1 }) s
          s.endProbe t Code.CFG_PROBE_CONFLICT
        else s
    match (s.tile t).learn with
    | none => s
    | some l =>
      let gone := (l.hist.map fun (x : Nat × Int × Int × Int) => x.1).filter fun (j : Nat) => !l.dead.contains j && (touched (t * 4096 + j) || (!lit.contains (t * 4096 + j) &&
        !s.carries (t * 4096 + j) && !s.probeDark (t * 4096 + j)))
      if gone.isEmpty then s else s.setTile t { s.tile t with learn := some { l with dead := l.dead ++ gone } }) s

/-- At G0 + 100 ns every tile loads the fast-drive channels of its touched elements (R175, R186, R222, R223). -/
def doSwitchStrobe (cls : Bool) (e : Nat) (s : State) : State :=
  match s.trans cls e with
  | none => s
  | some tr =>
    if tr.phase = 1 then
      let s := s.advanceTo (e - tr.gb + 100)
      let (s, tr) := s.loadCells tr tr.loads
      let s := (s.provAtStrobe tr).probesAtStrobe tr
      let s := if tr.rehomes then
          (s.homeMoves (s.after tr)).foldl (fun s x => s.setElem x.1 { s.elem x.1 with belayDue := true }) s
        else s
      s.setTrans { tr with phase := 2 }
    else s

/-- KIND of `EPO_XLAST`. -/
def Trans.kind (tr : Trans) : Nat := if tr.swap then 3 else if tr.stage.isSome then 2 else if tr.slotClass then 0 else 1

/-- At E − 300 ns the ready lines are sampled (R177, R179). `nak` names tiles whose touched channels did not acknowledge for a cause of
their own (R490), or that did not start the transition (R489). -/
def doReadySample (cls : Bool) (e : Nat) (nak : List (Fin 20)) (s : State) : State :=
  match s.trans cls e with
  | none => s
  | some tr =>
    if tr.phase = 2 then
      let s := s.advanceTo (e - 300)
      let fenced := (tr.loads.flatMap fun l => cellElems l.1).filter s.elemFenced |>.map tileOf
      let l := (List.range 20).filter fun t => tr.refused.contains t || nak.any (·.val == t) || fenced.contains t
      if l.isEmpty then s.setTrans { tr with phase := 3 }
      else
        let tr := { tr with phase := 3, notReady := l, dark := true }
        let w0 := tr.kind * 2 ^ 30 + (l.map fun t => 2 ^ t).sum
        let s := { s with fab.xlast := (w0, sched e / 2 ^ 32, sched e % 2 ^ 32) }
        ((s.setTrans tr).count (whole (R.EPO_XCNT 1))).ev Ev.transitionHeldDark Code.EPO_HELD_DARK
    else s

/-- One port offered at an unblank strobe: released when its latch is open, no guard bit holds it, and its output is not in the speculation
mask (R178, R224). -/
def State.offer (s : State) (k : Nat) : State :=
  if !s.isOpen k || s.guarded k then s
  else if decide (1024 ≤ k) && s.specMask.contains (k - 1024) then
    (s.count (whole (R.TRV_SPEC_CNT 3))).evPort Ev.speculationMaskHold true (k - 1024) 0
  else s.setEpo k false

/-- At E − 250 ns the affected ports that R178 admits are released. -/
def doUnblankStrobe (cls : Bool) (e : Nat) (s : State) : State :=
  match s.trans cls e with
  | none => s
  | some tr =>
    if tr.phase = 3 then
      let s := s.advanceTo (e - 250)
      let carry := ((s.after tr).carried cls).map (·.1)
      let s := if tr.dark then s else (tr.ports.filter carry.contains).foldl State.offer s
      s.setTrans { tr with phase := 4 }
    else s

/-- A port left blanked is offered again at the unblank strobe of a later grid point, or of its slot's next epoch (R180). -/
def doReofferUnblank (out : Bool) (p : Fin 1024) (e : Nat) (s : State) : State :=
  let k := portKey out p.val
  let mine := s.cir.ctxs.find? fun x => x.2.lit && (ctxPorts x.1 x.2).contains k &&
    (if x.2.scheduled then s.slotEpoch e == some (ctxSlot x.1) else isGrid persGrid e)
  match mine with
  | none => s
  | some x =>
    if (s.port k).epo && s.svc.por && decide (x.2.eplan < e) && !(s.fab.trans.any fun t => t.e == e && t.ports.contains k) then
      (s.advanceTo (e - 250)).offer k
    else s

/-! ## The decision instant (R61, R158, R209) -/

/-- A cell position returned to the state it had before the switch strobe, each channel with its previous value (R209); a speculative
position that the strobe ended is PROV again, to revert under R225. -/
def State.undoCell (s : State) (tr : Trans) (pos : Nat) (old : Bool) : State :=
  (cellElems pos).foldl (fun s e =>
    let (ph, prov) := (Tbl.look tr.undo e).getD ((s.elem e).pinPh, none)
    let (s, _) := s.loadPin e ph (s.elem e).pinTrim
    let x := s.elem e
    s.setElem e { x with prov := prov, belayDue := false, home := match prov with
      | some v => if v.ramp && decide (v.n ≤ v.k) then old else x.home
      | none => x.home }) (s.setCell pos old)

/-- The withdraw load: every touched position that the remaining changes do not need goes back (R61, R209). -/
def State.withdrawLoads (s : State) (tr : Trans) : State × Trans :=
  let a := s.after tr
  let needed (l : Nat × Bool) : Bool := a.cir.ctxs.any fun x => x.2.scheduled == tr.slotClass && a.litNow x.1 x.2 &&
    x.2.hops.any fun h => h.pos == l.1 && h.cross == l.2
  let gone := tr.loads.filter fun l => !needed l
  (gone.foldl (fun s l => s.undoCell tr l.1 (!l.2)) s, { tr with loads := tr.loads.filter needed })

/-- A stage withdrawn (R209): its moved circuits HELD on their old paths, SSTATE WITHDRAWN. -/
def State.withdrawStage (s : State) (k : Nat) : State := match s.trv.journal with
  | [] => s
  | t :: _ =>
    let g := t.stage k
    let s := g.moved.foldl (fun s m =>
      let c := s.ctx m.ctx
      s.setCtx m.ctx { c with state := if c.state = Cs.moving then Cs.held else c.state, placed := none }) s
    let s := s.setHead (t.setStage k { g with sstate := Ss.withdrawn })
    g.moved.foldl (fun s m => match (s.ctx m.ctx).after with
      | none => s
      | some a => (s.setCtx m.ctx { s.ctx m.ctx with after := none }).finishLeave m.ctx a Code.TRV_ABORTED s.nextPers) s

/-- A cancelled swap whose transition has started: the tiles replace it by the active schedule's own slot 0 (R158). -/
def State.replaceSwap (s : State) (tr : Trans) : State × Trans :=
  let old := tr.loads
  let s := if 2 ≤ tr.phase then old.foldl (fun s l => s.setCell l.1 (!l.2)) s else s
  let tr := { tr with swap := false, lights := [] }
  let ports := s.affected tr
  let s := (ports.filter fun k => !tr.ports.contains k).foldl (fun s k => s.setEpo k true) s
  let new := s.changes tr
  let tr := { tr with ports := tr.ports ++ ports.filter fun k => !tr.ports.contains k }
  let back := if 2 ≤ tr.phase then old.filterMap fun l => if (Tbl.look new l.1).isSome then none else some (l.1, !l.2) else []
  let s := s.advanceTo (tr.e - 900)
  let (s, tr) := s.loadCells { tr with phase := 2 } (back ++ new)
  (s, { tr with loads := new })

/-- The device decides aborts, cancels and releases at E − 1,000 ns and withdraws what they undo (R61, R158, R209). -/
def doDecisionInstant (cls : Bool) (e : Nat) (s : State) : State :=
  match s.trans cls e with
  | none => s
  | some tr =>
    if 3 ≤ tr.phase then s
    else
      let s := s.advanceTo (e - 1_000)
      let quit := tr.lights.filter fun i => match (s.ctx i).after with
        | none => false
        | some a => a.withdraw
      let abort := match tr.stage, s.trv.journal with
        | some _, t :: _ => t.abortDue
        | _, _ => false
      let cancel := tr.swap && (match s.sch.swap with
        | none => false
        | some w => w.cancelled)
      if cancel then
        let s := s.swapEnds Code.TRV_ABORTED false
        if tr.phase = 0 then
          if (s.slotEpoch e).isSome then s.setTrans { tr with swap := false, lights := [] } else s.dropTrans cls e
        else
          let (s, tr) := s.replaceSwap tr
          s.setTrans tr
      else if quit.isEmpty && !abort then s
      else
        let newOnes := if abort then (match tr.stage, s.trv.journal with
          | some k, t :: _ => ((t.stage k).moves.filter (·.isNew)).map (·.ctx)
          | _, _ => []) else []
        let tr' : Trans := { tr with lights := tr.lights.filter fun i => !quit.contains i && !newOnes.contains i,
                                     stage := if abort then none else tr.stage }
        let s := match abort, tr.stage with
          | true, some k => s.withdrawStage k
          | _, _ => s
        let (s, tr') := if tr.phase = 2 then s.withdrawLoads tr' else (s, { tr' with loads := if tr.phase = 1 then s.changes tr' else [] })
        let s := s.setTrans tr'
        let s := quit.foldl (fun s i => match (s.ctx i).after with
          | none => s
          | some a => (s.setCtx i { s.ctx i with after := none }).finishLeave i a Code.TRV_ABORTED s.nextPers) s
        match abort, s.trv.journal with
        | true, t :: _ => s.reverse t s.now Code.TRV_ABORTED
        | _, _ => s

/-! ## The epoch (R175) -/

/-- The outgoing entry keeps every circuit of its schedule (R151). -/
def State.keepOutgoing (s : State) (n : Nat) : State :=
  let cs := (s.cir.ctxs.filter fun x => x.2.scheduled && x.2.state != Cs.idle).map fun x =>
    ({ slot := ctxSlot x.1, rec_ := ⟨x.2.input, ctxOut x.1, x.2.tenant, x.2.pinned⟩,
       route := if x.2.waits then x.2.placed else x.2.route, cycling := x.2.cycling,
       state := if x.2.state = Cs.dark ∨ x.2.state = Cs.failed then x.2.state else 0, reason := x.2.reason, lease := x.2.lease,
       grantIn := x.2.grantIn, grantOut := x.2.grantOut } : SchCir)
  s.setEntry n { s.entry n with lstate := Ls.ready, circuits := cs, recs := [], reason := 0 }

/-- What a swap does at E_sw beside its slot 0 (R57, R151, R159, R217): a request that had not lit completes, every other circuit swapped out
raises EV 41. -/
def State.commitSwap (s : State) (tr : Trans) (w : Swap) : State :=
  let s := (s.trv.journal.filter (·.slotScope)).foldl (fun s t => s.endTrav t Code.TRV_SWAPPED_OUT) s
  let out := s.cir.ctxs.filter fun x => x.2.scheduled && x.2.state != Cs.idle
  let ports := out.flatMap fun x => ctxPorts x.1 x.2
  let s := match s.sch.active with
    | none => s
    | some a => s.keepOutgoing a.entry
  let s := out.foldl (fun s x => if x.2.waits then s.endLight x.1 Code.TRV_SWAPPED_OUT else s.evCtx Ev.revocation x.1 x.2.tenant 0) s
  let after := s.ctxsAfter { tr with stage := none }
  let act := s.activeAfter tr
  let goalSlot (g : Goal) : Bool := match g with
    | .request i => out.any (·.1 == i)
    | .repair _ sl => sl.isSome
  let s := { s with cir.ctxs := after, sch.active := act, sch.swap := none,
                    cir.queue := s.cir.queue.filter (fun i => !out.any (·.1 == i)),
                    cir.waitRuns := s.cir.waitRuns.filter (fun g => !goalSlot g), cir.noRepair := s.cir.noRepair.filter (fun x => x.2.isNone) }
  let s := if s.cir.run.any (fun r => goalSlot r.goal) then s.nextRun else s
  let s := match w.target with
    | none => s
    | some n => s.setEntry n { s.entry n with lstate := Ls.active, circuits := [] }
  let failed := s.cir.ctxs.filter fun x => x.2.scheduled && x.2.state == Cs.failed && x.2.reason == Code.CIR_VERIFY_FAIL && ctxSlot x.1 == 0
  let s := failed.foldl (fun s x => if tr.lights.contains x.1 then s else s.evCtx Ev.circuitFailed x.1 x.2.tenant Code.CIR_VERIFY_FAIL) s
  let s := (s.cir.ctxs.filter fun x => x.2.scheduled && x.2.state == Cs.pending).foldl (fun s x => s.queueUp x.1) s
  let s := (((s.put R.SCHD_SWAP_ARMED 0).put R.SCHD_SWAP_REASON 0).count (whole (R.EPO_CNT 2))).ev Ev.swapCommitted
  let s := s.close (ports.filter fun k => !s.portNeeded 262_144 k)
  s.complete w.req true Code.DONE []

/-- GB_SET becomes GB_USE (R166): at a cycle boundary while a schedule is active, else at the first persistent epoch whose G0 lies at least
10 µs after the write. -/
def State.applyGb (s : State) (tr : Trans) (bound : Bool) : State :=
  match s.sch.gbWait with
  | none => s
  | some at_ =>
    let now := if s.sch.active.isSome then bound else !tr.slotClass && decide (at_ + 10_000 ≤ tr.e - tr.gb)
    if now then { s.put R.EPO_GB_GB_USE (s.get R.EPO_GB_GB_SET) with sch.gbWait := none } else s

/-- Every element takes the home its circuits now give it, with a belay (R187, R188). -/
def State.rehome (s : State) : State := (s.homeMoves s).foldl (fun s x => s.startBelay x.1 x.2) s

/-- The active schedule freezes at the slot in force (R161, R162): EV 60, and its cycling elements belay. A transition under way, or a swap
past its point of no return, ends first (R185). -/
def State.freeze (s : State) : State := match s.sch.active with
  | none => s
  | some a =>
    if a.frozen.isSome then { s with sch.active := some { a with resumeAt := none } }
    else if s.fab.trans.any fun t => t.slotClass && (decide (1 ≤ t.phase) || t.swap) then { s with sch.active := some { a with freezeDue := true } }
    else
      let s := { s with sch.active := some { a with frozen := some a.slot, freezeDue := false, resumeAt := none },
                        fab.trans := s.fab.trans.filter (fun t => !t.slotClass),
                        trv.journal := s.trv.journal.map fun (t : Trav) => if t.slotScope then
                          { t with stages := t.stages.map fun (g : Stage) => if g.sstate = Ss.inFlight then { g with sstate := if t.back then Ss.committed else Ss.planned } else g }
                          else t }
      s.rehome.ev Ev.freeze

/-- The cause of a freeze has ended: the schedule resumes at the slot epoch that R162 gives. -/
def State.unfreeze (s : State) : State := match s.sch.active with
  | none => s
  | some a => { s with sch.active := some { a with freezeDue := false, resumeAt := if a.frozen.isSome then some s.now else none } }

/-- One circuit that committed at E: its completion, the reason of a transition held dark, and what R61 left for it. -/
def State.committed (s : State) (dark : Bool) (i : Nat) : State :=
  let s := s.setCtx i { s.ctx i with cycling := s.cyclingOf (s.ctx i).hops, reason := if dark then Code.EPO_HELD_DARK else (s.ctx i).reason }
  let s := s.endLight i Code.DONE
  match (s.ctx i).after with
  | none => s
  | some a => (s.setCtx i { s.ctx i with after := none }).finishLeave i a Code.DONE s.nextPers

/-- At E the circuits commit, and contexts, `SCHD_STS`.SLOT and EPOCH_OUT follow (R57, R159, R175, R188, R206). -/
def doEpochCommit (cls : Bool) (e : Nat) (s : State) : State :=
  match s.trans cls e with
  | none => s
  | some tr =>
    if tr.phase = 4 then
      let s := s.advanceTo e
      let bound := tr.swap || (cls && s.slotEpoch e == some 0)
      let mark := s.marks tr
      let wasFrozen := match s.sch.active with
        | none => false
        | some a => a.frozen.isSome
      let moved := match tr.stage, s.trv.journal with
        | some k, t :: _ => (t.stage k).moved.map Move.ctx
        | _, _ => []
      let closing := s.cir.ctxs.filter fun x => x.2.state == Cs.lit && x.2.scheduled && cls
      let s := match tr.swap, s.sch.swap with
        | true, some w => s.commitSwap tr w
        | _, _ => { s with cir.ctxs := s.ctxsAfter tr, sch.active := s.activeAfter tr }
      let s := closing.foldl (fun s x => if (s.ctx x.1).state = Cs.lit ∧ tr.lights.contains x.1 = false then
        s.setCtx x.1 { s.ctx x.1 with state := Cs.held } else s) s
      let s := { s.dropTrans cls e with sch.lastE := e, cir.leaves := if cls then s.cir.leaves else s.cir.leaves.filter fun l => decide (e < l.e) }
      let s := if tr.rehomes || wasFrozen && cls then s.rehome else s
      let s := if tr.swap then s else tr.lights.foldl (fun s i => s.committed tr.dark i) s
      let s := moved.foldl (fun (s : State) (i : Nat) =>
        let s := if (s.ctx i).scheduled then s else s.stalePath (s.ctx i).hops
        s.committed tr.dark i) s
      let s := match tr.stage with
        | none => s
        | some k => s.stageDone k e
      let s := s.close (tr.ports.filter fun k => s.isOpen k && !s.portNeeded 262_144 k)
      let s := ((s.count (whole (R.EPO_CNT (if cls then 0 else 1)))).count (whole (R.EPO_XCNT 0))).applyGb tr bound
      let s := if mark && !s.flag R.EPO_OUT_CFG_MARK then s.epochPulse e else s
      let s := { s with fab.selfRun := s.fab.selfRun.filter tr.selfs.contains,
                        sch.selfs := if cls then !tr.selfs.isEmpty else s.sch.selfs }
      let s := if wasFrozen && cls then s.ev Ev.freeze else s
      if cls && (match s.sch.active with
        | none => false
        | some a => a.freezeDue) then s.freeze else s
    else s

/-! ## The loss check's end and the guard latch (R42 to R44, R58) -/

/-- Fewer than ten check samples by 10 ms after E: the loss check passes (R58). -/
def doLossCheckDeadline (i : Fin 262144) (s : State) : State :=
  let c := s.ctx i.val
  match c.check with
  | none => s
  | some (from_, _) => if s.ctrlUp then (s.advanceTo (from_ + 10_000_000)).setCtx i.val { c with check := none } else s

/-- A circuit darkened by the guard (R44, R57): a circuit that has not lit stays as it is. -/
def State.guardDarkens (s : State) (i : Nat) : State :=
  let c := s.ctx i
  if c.lit then
    let s := { s with trv.journal := s.trv.journal.map fun (t : Trav) => { t with stages := t.stages.map fun (g : Stage) =>
      if g.sstate = Ss.planned ∨ g.sstate = Ss.inFlight then { g with moves := g.moves.filter fun m => m.ctx != i || m.isNew } else g } }
    s.leaveLit i Cs.dark Code.CIR_GUARD_LATCHED s.nextPers
  else s

/-- The guard's count reaches 4,000 (R42): the port's latch closes, LAT reads 1, EV 297 is raised, and the port's circuits go DARK (R44).
An open that a waiting circuit still needs is held back until the host clears the bit (R321). -/
def doGuardLatch (p : Fin 1024) (s : State) : State :=
  let k := p.val
  if 4_000 ≤ (Tbl.getD s.fab.guard k (0, 0)).2 ∧ s.guarded k = true ∧ s.guardLatched k = false then
    let s := (s.put ⟨R.TILE_FD_GUARD_LAT (k / 32), k % 32, k % 32⟩ 1).evPort Ev.inputGuardLatch false k 0
    let s := s.close [k]
    let s := ((s.cir.ctxs.filter fun x => x.2.input == k && x.2.state != Cs.idle).map (·.1)).foldl State.guardDarkens s
    if s.cir.ctxs.any fun x => x.2.waits && x.2.input == k then s.wantOpen k s.now else s
  else s

/-! ## Phase steps (R123, R124, R71) -/

/-- Expiries that a forward step has carried device time past act as deferred releases (R71, R540). -/
def State.stepPast (s : State) (was : Nat) : State :=
  let past (l : Nat) : Bool := l != 0 && decide (was < l * 1_000_000_000) && decide (l * 1_000_000_000 ≤ s.now)
  let cs := (s.cir.ctxs.filter fun x => x.2.state != Cs.idle && past x.2.lease).map fun x => Deferred.mk false x.1 Code.CIR_LEASE_EXPIRED
  let gs := (s.cir.grants.filter fun x => past x.2.lease).map fun x => Deferred.mk true x.1 Code.CIR_GRANT_REVOKED
  if (cs ++ gs).isEmpty then s
  else { s with cir.deferred := s.cir.deferred ++ (cs ++ gs).filter (fun d => !s.cir.deferred.contains d), cir.deferUntil := some s.now }

/-- An armed phase step is applied at a tick that the epoch engine allows (R123): EV 16. -/
def doTimeStepApply (s : State) : State :=
  match s.tm.step with
  | none => s
  | some (step, _) =>
    let s := if s.engineRuns then s else s.tick
    let lands := (s.now : Int) + step
    let room := match s.nextEpo with
      | none => true
      | some (e, _, _, _) =>
        let g0 : Int := (e : Int) - s.gb
        decide ((s.now : Int) + step.natAbs + 2_000 ≤ g0) && decide (lands + step.natAbs + 2_000 ≤ g0)
    let behind := decide ((s.sch.lastE : Int) + 2_000 ≤ s.now) && decide ((s.sch.lastE : Int) + 2_000 ≤ lands)
    if s.ctrlUp && (!s.engineRuns || (room && (behind || s.sch.lastE == 0))) then
      let was := s.now
      let s := { s with t := ((s.t : Int) + step * 2 ^ 32).toNat, tm.step := none }
      ((s.put R.TIME_ADJ_CTL_ARMED 0).ev Ev.timeStep).stepPast was
    else s

end Sys2Proof.Machine
end

