-- ==== Sys2Proof/Machine/Loop.lean ====
section
/-!
DEFINITION. Sys2Proof/Machine/Loop.lean: the element loops ("Element loops"): the frame's timeline, samples, the law PI_DITHER, belays
(R188 to R193), crosstalk, work and overrun, the mirror, and the loop registers.
-/
namespace Sys2Proof.Machine

/-! ## The frame (R231, R126) and its engine (R234, R477) -/

/-- Instant of a tile's next frame edge: the end fixed for the frame, else the first grid point at least P / 2 after its start. -/
def State.nextEdge (s : State) (t : Nat) : Nat :=
  let x := s.tile t
  let p := s.period t
  match x.endAt with
  | some n => max n s.now
  | none => gridFrom p (max (x.edge + p / 2) s.now)

/-- `TILE_OWNER`.OWNER. -/
def State.tileOwner (s : State) (t : Nat) : Nat := s.get (R.TILE_OWNER_OWNER t)

/-- The engine named in `TILE_OWNER` serves the tile's elements (R476, R480). -/
def State.engineServes (s : State) (t : Nat) : Bool :=
  let o := s.tileOwner t
  o == 1 || o == 2 || (o == 0 && s.get (R.GLB_ENG_STATE t) == 0)

/-- The first element of a tile. -/
def tileFirst (t : Nat) : Nat := t * 4096

/-! ## Microcode images (R265, R266) -/

/-- 64-bit word `i` of a bank: the low half stands at the lower address. -/
def bankWord (b : Tbl Word) (i : Nat) : Nat := (Tbl.getD b (2 * i + 1) 0).toNat * 2 ^ 32 + (Tbl.getD b (2 * i) 0).toNat

/-- The active image of a tile, and the standby one. -/
def State.image (s : State) (t : Nat) (active : Bool) : Tbl Word :=
  let x := s.tile t
  if s.flag (R.TILE_LP_UCODE_BANK t) == active then x.bankB else x.bankA

/-- LAW_ID of law slot `l` of an image. -/
def lawId (b : Tbl Word) (l : Nat) : Nat := bankWord b (4 + 8 * l) / 2 ^ 56

/-- Cost number `k` of law slot `l`: overhead, OK, CYCLING, BELAY capture, BELAY ramp and tail, PROV, DARKHOLD, probe set element. -/
def lawCost (b : Tbl Word) (l k : Nat) : Nat := bankWord b (7 + 8 * l + k / 4) / 2 ^ (48 - 16 * (k % 4)) % 2 ^ 16

/-- NMAIN of an image. -/
def nMain (b : Tbl Word) : Nat := bankWord b 2 / 2 ^ 56

/-! ## Work (R249, R250, R479) -/

/-- Frame capacity in lane-cycles (R479: less 19,200 for a spare). -/
def State.capacity (s : State) (t p : Nat) : Nat := 240_000 * p - (if s.tileOwner t = 1 ∨ s.tileOwner t = 2 then 19_200 else 0)

/-- The budget check of R250 with a law's overhead and OK cost, `extra` lane-cycles, NB entries and a period in 25 µs units. -/
def State.budgetOk (s : State) (t p nb overhead ok extra : Nat) : Bool :=
  decide ((4096 * (ok + 2 * nb) + overhead + extra) * 20 ≤ 19 * s.capacity t p)

/-- R250 as the loop registers run it: with the costs of PI_DITHER in R249. -/
def State.budget250 (s : State) (t p nb extra : Nat) : Bool := s.budgetOk t p nb 24_000 32 extra

/-! ## Parameters in force (R248, R259) -/

/-- What one frame of a tile runs with. -/
structure LawCx where
  p : Nat
  law : Nat
  nb : Nat
  xtEn : Bool
  vffEn : Bool
  dithEn : Bool
  kp : Nat
  ki : Nat
  demod : Nat
  dith : Nat
  step : Nat
  kiPin : Nat
  trimMax : Nat
  trimDone : Nat
  vHtr : Nat
  vNom : Nat
  low : Nat
  deriving DecidableEq, Repr

/-- The parameters of a tile since its last edge. -/
def State.lawCx (s : State) (t : Nat) : LawCx :=
  let u := (s.tile t).use
  { p := s.period t, law := lawId (s.image t true) (s.get (R.TILE_LP_UCODE_LAW_USE t)), nb := min (bits u.ctl 12 8) 16,
    xtEn := bit u.ctl 4, vffEn := bit u.ctl 3, dithEn := bit u.ctl 2, kp := bits u.gain 31 16, ki := bits u.gain 15 0,
    demod := bits u.dith 31 24, dith := bits u.dith 15 0, step := bits u.clamp 15 0, kiPin := bits u.pin 31 16,
    trimMax := bits u.pin 15 8, trimDone := bits u.pin 7 0, vHtr := s.get (R.TILE_LP_VHTR_V_HTR t), vNom := bits u.vhtr 15 0,
    low := bits u.low 15 0 }

/-! ## The heater phase table (R369) -/

/-- HSPAN and HQ of an element. -/
def State.hspan (s : State) (e : Nat) : Int × Int :=
  let w := s.tblWord e 3
  (bits w 31 16, sx 16 (bits w 15 0))

/-- The table at x = n / 65,536, in 2^-32 LPU. -/
def heaterU (h q n : Int) : Int := 2 * h * n * 65_536 + q * n * n

/-- A heater target clamped to span(e) (R190, R369). -/
def State.toSpan (s : State) (e : Nat) (u : Int) : Int :=
  let (h, q) := s.hspan e
  max (-2 * h + q) (min (2 * h + q) u)

/-- The largest duty whose lower rounding limit is not above a target: `k` bits still to decide. -/
def dutySearch (h q u : Int) (d k : Nat) : Nat :=
  match k with
  | 0 => d
  | k + 1 =>
    let m := d + 2 ^ k
    if m ≤ 65_535 ∧ heaterU h q (2 * m - 1 - 65_536) ≤ u * 2 ^ 32 then dutySearch h q u m k else dutySearch h q u d k

/-- Arm-A duty of a heater target, with the VHTR feed-forward (R239, R241), in Q0.16. -/
def State.dutyFor (s : State) (cx : LawCx) (e : Nat) (out : Int) : Nat :=
  let (h, q) := s.hspan e
  let d := dutySearch h q out 0 16
  if cx.vffEn then
    let v : Nat := max 1 (cx.vHtr * cx.vHtr)
    (max 0 (min 65_535 (32_768 + roundDiv (((d : Int) - 32_768) * (cx.vNom * cx.vNom : Nat)) v))).toNat
  else d

/-! ## Samples (R235, R238) -/

/-- What a frame finds of an element's pair: raw samples; referred to gain 1 in 1/64 LSB; whether it is missing; and whether it is missing
for low light. -/
structure Pair where
  rawW : Nat
  rawU : Nat
  w : Int
  u : Int
  missing : Bool
  low : Bool
  deriving DecidableEq, Repr

/-- A sample word referred to gain 1, in 1/64 LSB. -/
def referred (v : Word) : Int := sx 16 (bits v 31 16) * (4 ^ (3 - bits v 11 10) : Nat)

/-- OVR, UNR, SETTLE, CAL or TRG of a sample word. -/
def spoiled (v : Word) : Bool := bits v 15 12 != 0 || bit v 9

/-- The instants from which and until which the light of a circuit that is lit now is whole: the E of its epoch or slot, and the next G0 that
affects its ports (R235, R349). -/
def State.lightSpan (s : State) (i : Nat) (c : Ctx) : Nat × Nat :=
  (if c.scheduled then (match s.sch.active with
      | none => 0
      | some a => a.lastE) else nearest c.epoch s.now,
    s.fab.trans.foldl (fun m tr => if 1 ≤ tr.phase ∧ (ctxPorts i c).any tr.ports.contains then min m (tr.e - tr.gb) else m) s.now)

/-- Elements of a tile that carry committed light now, each with the instants from which and until which its light is whole (R235). -/
def State.litSpan (s : State) (t : Nat) : List (Nat × Nat × Nat) :=
  s.cir.ctxs.flatMap fun x =>
    if s.litNow x.1 x.2 then
      let (from_, until_) := s.lightSpan x.1 x.2
      ((pathAll x.2.hops).filter fun e => tileOf e == t).map fun e => (e, from_, until_)
    else []

/-- The pair of an element from the frame that ends now (R235, R337). -/
def State.pairOf (s : State) (cx : LawCx) (lit : List (Nat × Nat × Nat)) (e : Nat) : Pair :=
  let t := tileOf e
  let x := s.tile t
  let l := e % 4096
  let wx := wantedX e (s.cell (posOf e))
  let wd := Tbl.getD x.smp (2 * l + b2n wx) 0
  let ud := Tbl.getD x.smp (2 * l + b2n (!wx)) 0
  let w := referred wd
  let u := referred ud
  let whole := match Tbl.look x.windows (l / 256), lit.find? (·.1 == e) with
    | some (a, b, _), some (_, f, n) =>
      decide (x.edge ≤ a) && decide (f ≤ a) && decide (b ≤ n) &&
        (decide ((s.elem e).since ≤ a) || decide (b + s.gb ≤ (s.elem e).since))
    | _, _ => false
  let ok := whole && !spoiled wd && !spoiled ud
  let low := ok && decide (w + u < 64 * (cx.low : Int))
  ⟨bits wd 31 16, bits ud 31 16, w, u, !ok || low || decide (w + u ≤ 0), low⟩

/-- The unwanted ratio of a valid pair in 2^-32. -/
def Pair.ratio (p : Pair) : Int := roundDiv (p.u * 2 ^ 32) (p.w + p.u)

/-- A pair counts as a PIN pair: the element carries its commanded state on PIN current (R238). -/
def State.pinClass (s : State) (e : Nat) : Bool :=
  let x := s.elem e
  x.belay.isSome || x.belayDue || x.home != s.cell (posOf e)

/-- The dither sign in force (R237): elements of odd m start at −1. -/
def State.dsign (s : State) (e : Nat) : Bool := ((s.tile (tileOf e)).signed && e % 2 == 1) != (s.elem e).dflip

/-- err of R238 in LPU: −2 · g / (δ · h), with r in 2^-32; `neg` is the sign of the new pair. -/
def demodulate (dith : Nat) (h : Nat) (neg : Bool) (r old : Int) : Int :=
  let g := if neg then r - old else old - r
  roundDiv (g * 2 ^ 48 * 10 ^ 12) (9_869_604_401_089 * (max 1 (dith * h) : Nat))

/-- h = 1 − exp(−P / τ_m) in 2^-48. -/
def State.hFactor (s : State) (p e : Nat) : Nat := 2 ^ 48 - expNeg p (s.tau e * 100)

/-! ## Crosstalk (R247) -/

/-- A crosstalk table word in force. -/
def State.xtWord (s : State) (t l j : Nat) : Word := Tbl.getD (s.tile t).xt (l * 16 + j) 0

/-- FF_X of an element with NB entries, from the outputs in force. -/
def State.crosstalk (s : State) (e nb : Nat) : Int :=
  let t := tileOf e
  let sum := (List.range nb).foldl (fun (a : Int) j =>
    let w := s.xtWord t (e % 4096) j
    if bit w 31 then
      let y := s.elem (tileFirst t + bits w 27 16)
      a + sx 16 (bits w 15 0) * (if bit w 30 then y.pinPh else y.htr)
    else a) 0
  Int.neg (roundDiv sum 32_768)

/-! ## The law (R236 to R245) -/

/-- What a frame's service of an element found: its next record, the error, and whether an error was computed. -/
structure Served where
  out : ElemRec
  err : Option Int
  deriving DecidableEq, Repr

/-- The pair taken into a record (R235, R236, R238): ages, stored pair, LOWLIGHT, W_LAST; with the error of the pair's class, if one is
computed. `neg` is the dither sign under which the samples were taken. -/
def takePair (cx : LawCx) (h : Nat) (pin neg : Bool) (p : Pair) (r : ElemRec) : ElemRec × Option Int :=
  let r : ElemRec := { r with ageH := min 255 (r.ageH + 1), ageP := min 255 (r.ageP + 1) }
  if p.missing then ({ r with lowlight := r.lowlight || p.low }, none)
  else
    let v := p.ratio
    let age := if pin then r.ageP else r.ageH
    let old := if pin then r.ratPin else r.ratHome
    let sign := if pin then r.psign else r.hsign
    let err := if cx.dithEn && cx.law == 1 && sign != neg && decide (age ≤ cx.demod) then some (demodulate cx.dith h neg v old) else none
    let r : ElemRec := { r with lowlight := false, wLast := p.rawW }
    (if pin then { r with ageP := 0, ratPin := v, psign := neg } else { r with ageH := 0, ratHome := v, hsign := neg }, err)

/-- Slope of the PIN phase table at the switching code in LSB per LPU, applied to an error: KI_PIN · err · σ rounded to nearest (R242). -/
def State.trimStep (s : State) (cx : LawCx) (e : Nat) (err : Int) : Int :=
  let x := s.elem e
  let k := min (x.pinPh.natAbs / 8192) 7
  let cur (k : Nat) : Int := if k = 0 then 0 else
    bits (s.tblWord e (4 + (k - 1) / 2)) (if k % 2 = 1 then 31 else 15) (if k % 2 = 1 then 16 else 0)
  let q := e % 4096 * 2 + b2n (decide (x.pinPh < 0))
  let d := cur (k + 1) - cur k
  let d := if x.pinPh < 0 then -d else d
  roundDiv (cx.kiPin * err * d * 16_384 * 4) (4096 * 8192 * 125 * (max 1 (s.fdEntry (tileOf e) q).1 : Nat))

/-- The heater target of the closed loop (R239, R240): next INTEG, target, and whether it was clamped. `hold` keeps INTEG and the
proportional term (R273). -/
def State.closedLoop (s : State) (cx : LawCx) (e : Nat) (errH ffx : Int) (hold : Bool) : Int × Int × Bool :=
  let x := s.elem e
  let base := s.phiNow e x.home
  let i := if hold then x.integ else x.integ + roundDiv (cx.ki * errH) 4096
  let prop := roundDiv (cx.kp * (if hold then x.perr else errH)) 4096
  let u := base + i + prop + ffx
  let w := s.toSpan e u
  let v := max (x.htr - cx.step) (min (x.htr + cx.step) w)
  if w = u ∧ v = u then (i, u, false)
  else (if ((v < u ∨ w < u) ∧ 0 < errH) ∨ ((u < v ∨ u < w) ∧ errH < 0) then x.integ else i, v, true)

/-- The DARKHOLD target (R245): Φ + INTEG + FF_X, limited by the span and STEP_MAX. -/
def State.darkTarget (s : State) (cx : LawCx) (e : Nat) (ffx : Int) : Int :=
  let x := s.elem e
  let u := s.phiNow e x.home + x.integ + ffx
  max (x.htr - cx.step) (min (x.htr + cx.step) (s.toSpan e u))

/-- Next PIN_TRIM, the count of consecutive small errors and TRIMMED (R242). -/
def State.nextTrim (s : State) (cx : LawCx) (e : Nat) (r : ElemRec) (err : Option Int) : Int × Nat × Bool := match err with
  | none => (r.pinTrim, r.trimRun, r.trimmed)
  | some v =>
    let m : Int := cx.trimMax
    let t := max (-m) (min m (r.pinTrim + s.trimStep cx e v))
    let n := if v.natAbs ≤ cx.trimDone * 16 then min 2 (r.trimRun + 1) else 0
    (t, n, r.trimmed || n == 2)

/-- One element served in a frame (R236 to R245, R265): `s0` is the state before this edge's transfers, whose samples and neighbour outputs
count; `inj` is a probe or learning injection on the heater, and `hold` holds INTEG and the proportional term. -/
def State.serve (s s0 : State) (cx : LawCx) (lit : List (Nat × Nat × Nat)) (e : Nat) (inj : Option Int) (hold : Bool) : Served :=
  let x := s.elem e
  let law := s.law e
  let pin := s0.pinClass e
  let (r, err) := takePair cx (s.hFactor cx.p e) pin (s0.dsign e) (s0.pairOf cx lit e) x.toElemRec
  let ffx := if cx.xtEn then s0.crosstalk e cx.nb else 0
  let errH := if pin then 0 else err.getD 0
  let (i, u, clamped) :=
    if cx.law = 2 ∨ law = 3 ∨ law = 1 then (x.integ, s.darkTarget cx e ffx, false)
    else if 0x80 ≤ cx.law then (x.integ, s.toSpan e (sx 32 (Config.free 4 (s.now * 81_920 + e))), false)
    else s.closedLoop cx e errH ffx hold
  let (trim, run, done) := if law = 5 ∧ pin = true then s.nextTrim cx e r err else (r.pinTrim, r.trimRun, r.trimmed)
  let dith := cx.dithEn && cx.law == 1 && (law == 0 || law == 5)
  let neg := !s.dsign e
  let drv := u + (if dith then (if neg then -(cx.dith : Int) else cx.dith) else 0)
  let drv := match inj with
    | none => drv
    | some v => s.toSpan e (drv + v)
  ⟨{ r with clamp := clamped, skip := false, dflip := !x.dflip, trimmed := done, htr := u, integ := i, ffx := ffx, pinTrim := trim,
            duty := s.dutyFor cx e drv, drv := drv, perr := if hold then r.perr else if law = 4 then err.getD 0 else errH,
            clampRun := if clamped then r.clampRun + 1 else 0, trimRun := run, pinCode := none }, err⟩

/-! ## Outputs (R232, R295, R306, R309) -/

/-- A heater duty released at a frame edge (R296); a direct bank discards and counts it (R295). -/
def State.loopDuty (s : State) (e duty at_ : Nat) : State :=
  let t := tileOf e
  let b := e % 4096 / 256
  if s.flag (R.TILE_PW_BCTL_SRC t b) then s.count (whole (R.TILE_PW_BCNT t b 2))
  else s.setHtr e { s.htr e with shadow := duty, wait := some at_ }

/-- A loop write of an element's PIN phase at a strobe (R306, R307, R309): discarded and counted on a touched element from G0 to E and
on a direct bank. -/
def State.loopPin (s : State) (e : Nat) (ph : Int) : State :=
  let t := tileOf e
  if s.flag (R.TILE_FD_BCTL_SRC t (e % 4096 / 256)) then s.count (whole (R.TILE_FD_CNT t 2))
  else if s.touchedNow e then s.count (whole (R.TILE_FD_CNT t 1))
  else (s.loadPin e ph 0).1

/-! ## Belays (R188 to R193, R243) -/

/-- The plan of R189 at ramp frame `k` of `n`: φ0 + dφ · (k/n − a·(k − 1)/n) / (1 − a). -/
def rampTarget (phi0 dphi : Int) (k n tau p : Nat) : Int :=
  let a : Int := expNeg p (max 1 tau * 100)
  phi0 + roundDiv (dphi * ((k : Int) * 2 ^ 48 - a * (k - 1 : Nat))) ((max 1 n : Nat) * (2 ^ 48 - a))

/-- n of R189: min(16, ceil(BELAY_US / P)). -/
def State.rampFrames (s : State) (t : Nat) : Nat :=
  let p := max 1 (s.period t)
  min 16 ((s.get R.EPO_BELAY_CFG_BELAY_US * 1_000 + p - 1) / p)

/-- Extinction of at least 38 dB (R191): by a valid pair, w ≥ 10^3.8 · u; an element without one is judged by its modelled phase, sin²(x/2)
at most 10^-3.8 for x up to 525 LPU. -/
def State.extinct (s : State) (e : Nat) (p : Pair) : Bool :=
  if p.missing then decide ((s.phiNow e (s.elem e).home - s.heater e).natAbs ≤ 525)
  else decide (p.u * 6_309_573_445 ≤ p.w * 1_000_000)

/-- Both conditions of R191 hold at the end of a frame. -/
def State.belayGood (s : State) (e : Nat) (p : Pair) : Bool := s.pinCodes e (s.elem e).pinPh 0 == (0, 0) && s.extinct e p

/-- A belay's completion (R191, R243): INTEG takes what makes the first closed-loop target the plan's end. -/
def State.belayEnds (s : State) (e : Nat) : State :=
  let x := s.elem e
  let ph := if x.home = s.cell (posOf e) then 0 else x.pinPh
  (s.setElem e { x with belay := none, integ := x.htr - s.phiNow e x.home - x.ffx, pinPh := ph }).count (whole (R.EPO_XCNT 2))

/-- A new heater target of a belay or pre-ramp put in force at the edge, with the dither of R243. -/
def State.drive (s : State) (cx : LawCx) (e : Nat) (u : Int) (dith : Bool) (at_ : Nat) : State :=
  let x := s.elem e
  let u := s.toSpan e u
  let neg := !s.dsign e
  let drv := u + (if dith && cx.dithEn && cx.law != 2 then (if neg then -(cx.dith : Int) else cx.dith) else 0)
  let duty := s.dutyFor cx e drv
  (s.setElem e { x with htr := u, drv := drv, duty := duty, dflip := !x.dflip }).loopDuty e duty at_

/-- One element in belay at a frame edge (R188 to R192, R243): a capture frame ends and the ramp starts, a ramp or tail frame ends and the
next begins, or the belay completes. `stuck` tells that its output was not written. -/
def State.belayEdge (s : State) (cx : LawCx) (e : Nat) (p : Pair) (err : Option Int) (stuck : Bool) (at_ : Nat) : State :=
  let x := s.elem e
  match x.belay with
  | none => s
  | some b =>
    let b := { b with corr := b.corr + roundDiv (cx.kiPin * err.getD 0) 4096 }
    let b := if b.frames = 0 then
        let dphi := if b.reached then s.phiNow e x.home - x.htr else s.phiNow e x.home - s.phiNow e (!x.home)
        { b with ramp := s.rampFrames (tileOf e), limit := s.get R.EPO_BELAY_CFG_BELAY_MAX, phi0 := x.htr, dphi := dphi, tau := s.tau e,
                 period := cx.p }
      else { b with good := if s.belayGood e p then b.good + 1 else 0 }
    let k := b.frames + 1
    if 2 ≤ b.good ∧ b.ramp < k then (s.setElem e { x with belay := some b }).belayEnds e
    else if k ≤ b.ramp then
      let s := s.setElem e { s.elem e with belay := some { b with frames := k } }
      if stuck then s else s.drive cx e (rampTarget b.phi0 b.dphi k b.ramp b.tau b.period) true at_
    else
      let base := b.phi0 + b.dphi
      let rest := if k = b.ramp + 1 then 0 else x.pinPh
      let s := s.setElem e { x with belay := some { b with frames := k, phi0 := base + rest, dphi := 0 } }
      if stuck then s else s.drive cx e (rampTarget base rest 1 1 b.tau b.period) true at_

/-- The sub-steps of R189: at sub-step `j` of the frame, each element of the tile in belay is set to its commanded phase less the modelled
heater phase at the sub-step's midpoint, with the correction of R243; none of a touched element from G0 to E (R185). -/
def doBelaySubstep (t : Fin 20) (j : Fin 16) (s : State) : State :=
  if s.engineServes t.val && (s.tile t.val).drives then
    let p := s.period t.val
    let s := s.advanceTo ((s.tile t.val).edge + j.val * p / 16)
    let es := ((s.elemsOf t.val).filter fun y => (match y.2.belay with
      | none => false
      | some b => decide (0 < b.frames))).map (·.1)
    es.foldl (fun s e => match (s.elem e).belay with
      | none => s
      | some b =>
        let h := roundDiv (s.hmodAt e (s.now + p / 32)) 65_536
        s.loopPin e (s.phiNow e (s.cell (posOf e)) - h + b.corr)) s
  else s

/-- A belay not complete BELAY_MAX frames after its start (R192): its circuits' REASON, the count, EV 64 and the report. -/
def doBelayOverrun (e : Fin 81920) (s : State) : State :=
  let x := s.elem e.val
  match x.belay with
  | none => s
  | some b =>
    if b.overrun = false ∧ b.limit < b.frames then
      let s := s.setElem e.val { x with belay := some { b with overrun := true } }
      let s := s.cir.ctxs.foldl (fun s c =>
        if c.2.lit && (pathAll c.2.hops).contains e.val then s.setCtx c.1 { s.ctx c.1 with reason := Code.EPO_BELAY_OVERRUN } else s) s
      ((s.count (whole (R.EPO_XCNT 3))).evElem Ev.belayOverrun e.val Code.EPO_BELAY_OVERRUN).reportElem e.val
    else s

/-- Circuits at a tile's frame boundary (R57, R192): LIT persistent to BELAY, BELAY to HELD once every element of the path has finished. -/
def State.circuitEdge (s : State) (t : Nat) : State :=
  let s := (s.cir.ctxs.filter fun c => c.2.state == Cs.lit && !c.2.scheduled && (pathAll c.2.hops).any fun e => tileOf e == t).foldl
    (fun s c => s.setCtx c.1 { s.ctx c.1 with state := Cs.belay }) s
  (s.cir.ctxs.filter fun c => c.2.state == Cs.belay && !(pathAll c.2.hops).any fun e =>
    (s.elem e).belay.isSome || (s.elem e).belayDue).foldl (fun s c => s.setCtx c.1 { s.ctx c.1 with state := Cs.held }) s

/-! ## Clamp reports (R240) -/

/-- CLAMP has stayed set for CLAMP_FRAMES served frames: the count, the event and the report, once per run. -/
def doHeaterClampReport (e : Fin 81920) (s : State) : State :=
  let x := s.elem e.val
  let t := tileOf e.val
  if x.clamp ∧ x.clampTold = false ∧ bits (s.tile t).use.clamp 31 16 ≤ x.clampRun then
    (((s.setElem e.val { x with clampTold := true }).count (whole (R.TILE_LP_CNT t 3))).evElem (Ev.heaterClamp t) e.val 0).reportElem e.val
  else s

/-! ## Overrun and stretch (R251, R252) -/

/-- Elements of a tile as a list. -/
def tileElems (t : Nat) : List Nat := (List.range 4096).map (tileFirst t + ·)

/-- The elements given keep their outputs and read STALE (R251). -/
def State.hold (s : State) (es : List Nat) : State := es.foldl (fun s e => s.setElem e { s.elem e with stale := true, out := none }) s

/-- The end of a frame (R251, R252): elements whose output was not written read STALE and are counted; the tenth overrunning frame in a row
raises the budget event and may lengthen the period. -/
def State.endFrame (s : State) (t : Nat) (missed : List Nat) : State :=
  let s := (s.hold missed).setTile t { s.tile t with missed := [] }
  let run := s.get (R.TILE_LP_STS_OVR_RUN t) + 1
  if missed.isEmpty then s.put (R.TILE_LP_STS_OVR_RUN t) 0
  else
    let s := (s.count (whole (R.TILE_LP_CNT t 0))).countN (whole (R.TILE_LP_CNT t 1)) missed.length
    let s := if run = 1 then s.ev (Ev.frameOverrun t) else s
    if run < 10 then s.put (R.TILE_LP_STS_OVR_RUN t) run
    else
      let s := (s.put (R.TILE_LP_STS_OVR_RUN t) 0).ev (Ev.frameBudget t) Code.CFG_FRAME_BUDGET
      let p := s.get (R.TILE_LP_PERIOD_P_USE t)
      if s.flag (R.TILE_LP_CTL_STRETCH_EN t) && decide (p < 8) then
        (s.put (R.TILE_LP_PERIOD_P_USE t) (p + 1)).count (whole (R.TILE_LP_CNT t 2))
      else s

/-- The end of the tenth consecutive overrunning frame (R252). The frame ends where its old period ends it; the edge follows. -/
def doFrameStretch (t : Fin 20) (s : State) : State :=
  let x := s.tile t.val
  if x.missed.isEmpty = false ∧ s.get (R.TILE_LP_STS_OVR_RUN t.val) = 9 ∧ x.endAt = none then
    let s := s.advanceTo (s.nextEdge t.val)
    (s.endFrame t.val x.missed).setTile t.val { (s.endFrame t.val x.missed).tile t.val with endAt := some s.now }
  else s

/-- Cost of serving an element with the active image (R249, R265). -/
def State.serveCost (s : State) (b : Tbl Word) (l nb e : Nat) (probed : Bool) : Nat :=
  let k := match s.law e with
    | 0 => 1
    | 5 => 2
    | 4 => (match (s.elem e).belay with
      | none => 3
      | some x => if x.frames = 0 then 3 else 4)
    | 1 => 5
    | _ => 6
  (if probed then lawCost b 3 7 else lawCost b l k) + 2 * nb

/-- Class of an element in the order of R233. -/
def State.serveClass (s : State) (e : Nat) : Nat :=
  if (s.elem e).stale then 0
  else match s.law e with
    | 4 => 1
    | 1 => 2
    | 5 => 3
    | 0 => 4
    | _ => 5

/-- Elements in the order of R233. -/
def State.serveOrder (s : State) (es : List Nat) : List Nat :=
  let c := es.map fun e => (s.serveClass e, e)
  (List.range 6).flatMap fun k => (c.filter (·.1 == k)).map (·.2)

/-- The elements that fit into a capacity, in order, and those left over, with the work of all (R251). -/
def fitWork (cap : Nat) (l : List (Nat × Nat)) (used : Nat) : List Nat × List Nat × Nat :=
  match l with
  | [] => ([], [], used)
  | (e, c) :: r =>
    let (a, b, w) := fitWork cap r (used + c)
    if used + c ≤ cap then (e :: a, b, w) else (a, e :: b, w)

/-- Skipped frames of R253: served only where (FN + e) mod q = 0. -/
def State.skips (s : State) (t e : Nat) : Bool :=
  let q := (100 + s.get (R.TILE_LP_PERIOD_P_USE t) * 25 - 1) / max 1 (s.get (R.TILE_LP_PERIOD_P_USE t) * 25)
  decide (3 ≤ (s.tile t).level) && (s.serveClass e == 4 || s.serveClass e == 5) && (s.get (whole (R.TILE_LP_FN t)) + e) % max 1 q != 0

/-! ## The mirror (R255, R256) -/

/-- A stream closes by 2 µs after its edge: the hub keeps it when its CRC is correct; three failures in a row raise the mirror event. One
stream ends per frame, and none reaches a hub out of service. -/
def doMirrorStreamEnd (t : Fin 20) (ok : Bool) (s : State) : State :=
  let x := s.tile t.val
  let fn := s.get (whole (R.TILE_LP_FN t.val))
  if s.hubIn && x.drives && s.engineServes t.val && x.mirrorK != fn + 1 then
    let s := s.advanceTo (x.edge + 2_000)
    if ok then
      (s.setTile t.val { x with mirror := s.elemsOf t.val, mirrorK := fn + 1, streamFails := 0 }).put
        (R.TILE_LP_STS_MIRROR_OK t.val) 1
    else
      let s := (s.setTile t.val { x with mirrorK := fn + 1, streamFails := x.streamFails + 1 }).put (R.TILE_LP_STS_MIRROR_OK t.val) 0
      if x.streamFails + 1 = 3 then s.ev (Ev.mirrorFailure t.val) else s
  else s

/-! ## Element records as they read (R254) -/

/-- Word `w` of `TILE_LP_EST_e`; the true status is shown. -/
def State.estWord (s : State) (e w : Nat) : Word :=
  let x := s.elem e
  let v : Nat := match w with
    | 0 => s.status e * 2 ^ 28 + b2n x.home * 2 ^ 27 + b2n (s.cell (posOf e)) * 2 ^ 26 + b2n x.lowlight * 2 ^ 25 + b2n x.clamp * 2 ^ 24 +
        b2n x.skip * 2 ^ 23 + b2n (s.dsign e) * 2 ^ 22 + b2n x.trimmed * 2 ^ 21 + b2n x.psign * 2 ^ 20 + b2n x.hsign * 2 ^ 19 +
        (match x.belay with
          | none => 0
          | some b => min b.frames 255) * 2 ^ 8 + x.gen % 256
    | 1 => tc 32 x.htr
    | 2 => tc 32 x.integ
    | 3 => tc 32 x.ffx
    | 4 => tc 32 x.pinPh
    | 5 => tc 16 x.pinTrim * 2 ^ 16 + x.ageH * 2 ^ 8 + x.ageP
    | 6 => (max 0 (min 65_535 (x.ratHome / 65_536))).toNat * 2 ^ 16 + (max 0 (min 65_535 (x.ratPin / 65_536))).toNat
    | _ => x.wLast % 2 ^ 16 * 2 ^ 16 + x.duty
  BitVec.ofNat 32 v

/-- `TILE_LP_STS` as it reads: STRETCHED, SKIP_ACT and the count of STALE elements derived (R252, R253). -/
def State.lpSts (s : State) (t : Nat) : Word :=
  let w := s.rd (R.TILE_LP_STS t)
  let stale := ((tileElems t).filter fun e => s.status e == 2).length
  let w := setBits w 31 31 (b2n (s.get (R.TILE_LP_PERIOD_P_USE t) != s.get (R.TILE_LP_PERIOD_P_SET t)))
  setBits (setBits w 30 30 (b2n (decide (3 ≤ (s.tile t).level) && (s.tile t).drives))) 12 0 stale

/-! ## Loop registers (R248, R250, R257 to R259, R538) -/

/-- A refused LP write: its code in `TILE_LP_CTL`.REFUSE, and the tile's event. -/
def State.lpRefuse (s : State) (t code : Nat) : State := s.refuse (R.TILE_LP_CTL_REFUSE t) (Ev.loopConfigurationRefused t) code

/-- An accepted LP write returns REFUSE to 0 (R259). -/
def State.lpTaken (s : State) (t : Nat) : State := s.put (R.TILE_LP_CTL_REFUSE t) 0

/-- Calibration tables of the tile are valid: loaded by firmware, and the tile has completed base camp since POR_N (R378). -/
def State.tblValid (s : State) (t : Nat) : Bool := s.cal.loaded && s.cal.camped.contains t

/-- The first failing condition of R257. -/
def State.lpEnableCheck (s : State) (t nb : Nat) : Option Nat :=
  let p := s.get (R.TILE_LP_PERIOD_P_SET t)
  if p < 1 ∨ 8 < p then some Code.CFG_PERIOD_RANGE
  else if s.tblValid t = false ∨ lawId (s.image t true) (s.get (R.TILE_LP_UCODE_LAW_SET t)) = 0 then some Code.CFG_LOOP_TABLES
  else if s.budget250 t p nb 0 then none else some Code.CFG_FRAME_BUDGET

/-- The loops of a tile start (R237, R257): P_USE takes P_SET, FN restarts, every element starts in DARKHOLD from its record with home
under R27. -/
def State.startLoops (s : State) (t : Nat) : State :=
  let s := (s.put (R.TILE_LP_PERIOD_P_USE t) (s.get (R.TILE_LP_PERIOD_P_SET t))).wr (R.TILE_LP_FN t) 0
  let s := (tileElems t).foldl (fun s e =>
    s.setElem e { s.elem e with home := s.cell (posOf e), dflip := false, belay := none, belayDue := false, out := none, stale := false }) s
  s.setTile t { s.tile t with missed := [], mirrorK := 0, signed := true }

/-- A write of `TILE_LP_CTL` (R250, R257, R258, R259): judged and taken or discarded whole (R538). -/
def doTileLpCtlWrite (t : Fin 20) (v : Word) (s : State) : State :=
  let i := t.val
  let was := s.flag (R.TILE_LP_CTL_ENABLE i)
  let on := bit v 0
  let nb := bits v 12 8
  let busy := s.flag R.EPO_CTL_ENABLE || s.anyElem i 0 4096 fun s e => s.carries e || s.status e == 1 || s.status e == 4
  if was && !on && busy then s.lpRefuse i Code.CFG_TILE_IN_USE
  else if 16 < nb then s.lpRefuse i Code.CFG_LOOP_PARAM
  else
    let code := if !was && on then s.lpEnableCheck i nb
      else if nb != s.get (R.TILE_LP_CTL_NB i) && !s.budget250 i (s.get (R.TILE_LP_PERIOD_P_SET i)) nb 0 then some Code.CFG_FRAME_BUDGET
      else none
    match code with
    | some c => if !was && on then ((s.take (R.TILE_LP_CTL i) v).put (R.TILE_LP_CTL_ENABLE i) 0).lpRefuse i c else s.lpRefuse i c
    | none =>
      let s := (s.take (R.TILE_LP_CTL i) v).lpTaken i
      if !was && on then s.startLoops i else s

/-- The LP parameter registers, by number: GAIN, DITH, CLAMP, PIN, VHTR, LOW. -/
def lpParam (t k : Nat) : Nat :=
  [R.TILE_LP_GAIN t, R.TILE_LP_DITH t, R.TILE_LP_CLAMP t, R.TILE_LP_PIN t, R.TILE_LP_VHTR t, R.TILE_LP_LOW t].getD k 0

/-- The limits of R259 on a parameter register. -/
def State.lpParamOk (s : State) (t k : Nat) (v : Word) : Bool :=
  match k with
  | 0 => decide (bits v 31 16 ≤ 0x2000) && decide (bits v 15 0 ≤ 0x1000)
  | 1 => decide (0x41 ≤ bits v 15 0) && decide (bits v 15 0 ≤ 0x831) && decide (1 ≤ bits v 31 24) &&
      decide (2 * bits v 15 0 ≤ s.get (R.TILE_LP_CLAMP_STEP_MAX t))
  | 2 => decide (1 ≤ bits v 31 16) && decide (2 * s.get (R.TILE_LP_DITH_DITH_AMP t) ≤ bits v 15 0)
  | 3 => decide (bits v 31 16 ≤ 0x1000)
  | 4 => decide (0x8CA ≤ bits v 15 0) && decide (bits v 15 0 ≤ 0xABE)
  | _ => true

/-- A write of an LP parameter register (R259): in force from the next frame edge, or discarded. -/
def doLpParamWrite (t : Fin 20) (k : Fin 6) (v : Word) (s : State) : State :=
  if s.lpParamOk t.val k.val v then (s.take (lpParam t.val k.val) v).lpTaken t.val else s.lpRefuse t.val Code.CFG_LOOP_PARAM

/-- A write to the crosstalk table, accepted only while XT_EN reads 0 (R248). -/
def doXtTableWrite (e : Fin 81920) (j : Fin 16) (v : Word) (s : State) : State :=
  let t := tileOf e.val
  if s.flag (R.TILE_LP_CTL_XT_EN t) then s.lpRefuse t Code.CFG_XT_LOCKED
  else
    let x := s.tile t
    (s.setTile t { x with xt := Tbl.set 0 x.xt (e.val % 4096 * 16 + j.val) (v &&& 0xCFFF_FFFF) }).lpTaken t

/-- A read of `TILE_LP_LOAD` returns it and clears PEAK. -/
def State.readLoad (s : State) (t : Nat) : State × Word := (s.put (R.TILE_LP_LOAD_PEAK t) 0, s.rd (R.TILE_LP_LOAD t))

end Sys2Proof.Machine
end

