-- ==== Sys2Proof/Machine/Program.lean ====
section
/-!
DEFINITION. Sys2Proof/Machine/Program.lean: microcode images and their replacement, probes, the capture buffer and learning runs ("Loop
programs and tuning").
-/
namespace Sys2Proof.Machine

/-! ## Images (R266 to R270) -/

/-- The header and entry addresses of an image are valid (R267 order 2). -/
def imageFormed (b : Tbl Word) : Bool :=
  let w0 := bankWord b 0
  let len := bankWord b 1 % 2 ^ 32
  let entryOk (l k : Nat) : Bool :=
    let a := bankWord b (5 + 8 * l + k / 4) / 2 ^ (48 - 16 * (k % 4)) % 2 ^ 16
    decide (64 ≤ a) && decide (a + 9 ≤ len)
  let slots := List.range (nMain b) ++ [3]
  w0 / 2 ^ 32 == 0x594C_4D43 && w0 / 2 ^ 16 % 2 ^ 16 == 1 && decide (128 ≤ len) && decide (len ≤ 16_384) &&
    decide (1 ≤ nMain b) && decide (nMain b ≤ 3) && lawId b 3 == 3 &&
    slots.all fun l => lawId b l != 0 && (List.range 8).all (entryOk l)

/-- The CRC of an image over words 2 to LEN − 1, each big-endian (R266). -/
def imageCrc (b : Tbl Word) : Bool :=
  let len := bankWord b 1 % 2 ^ 32
  (crc32 ((List.range (len - 2)).flatMap fun i => natBe 8 (bankWord b (i + 2)))).toNat == bankWord b 1 / 2 ^ 32

/-- Orders 4 and 5 of R267 for a law slot of an image. -/
def State.lawCheck (s : State) (t : Nat) (b : Tbl Word) (l : Nat) : Option Nat :=
  if nMain b ≤ l then some Code.CFG_UCODE_INVALID
  else if s.budgetOk t (s.get (R.TILE_LP_PERIOD_P_SET t)) (s.get (R.TILE_LP_CTL_NB t)) (lawCost b l 0) (lawCost b l 1) 0 then none
  else some Code.CFG_FRAME_BUDGET

/-- A refused commit or law change: its code in `TILE_LP_CTL`.REFUSE, and the commit event (R267). -/
def State.ucodeRefuse (s : State) (t code : Nat) : State := s.refuse (R.TILE_LP_CTL_REFUSE t) (Ev.commitRefused t) code

/-- The standby bank's contents and pass flag replaced. -/
def State.setStandby (s : State) (t : Nat) (b : Tbl Word) (pass : Bool) : State :=
  let x := s.tile t
  s.setTile t (if s.flag (R.TILE_LP_UCODE_BANK t) then { x with bankA := b, passA := pass } else { x with bankB := b, passB := pass })

/-- Whether a bank passed its commit check when it was last committed. -/
def State.passed (s : State) (t : Nat) (active : Bool) : Bool :=
  let x := s.tile t
  if s.flag (R.TILE_LP_UCODE_BANK t) == active then x.passB else x.passA

/-- A write of `TILE_LP_UCODE`: CANCEL ends a pending commit, LAW_SET is judged against the active image (R270), and COMMIT starts the
checks of R267. -/
def ucodeWrite (t : Nat) (v : Word) (s : State) : State :=
  let law := bits v 5 4
  let bad := if law = s.get (R.TILE_LP_UCODE_LAW_SET t) then none else s.lawCheck t (s.image t true) law
  match bad with
  | some c => s.ucodeRefuse t c
  | none =>
    let s := (s.put (R.TILE_LP_UCODE_LAW_SET t) law).lpTaken t
    let s := if asks (R.TILE_LP_UCODE_CANCEL t) v then s.put (R.TILE_LP_UCODE_PENDING t) 0 else s
    if asks (R.TILE_LP_UCODE_COMMIT t) v then s.setTile t { s.tile t with checking := some s.now } else s

/-- A write of COMMIT (R267). -/
def doUcodeCommit (t : Fin 20) (v : Word) (s : State) : State :=
  if asks (R.TILE_LP_UCODE_COMMIT t.val) v then ucodeWrite t.val v s else s

/-- A write of CANCEL (R268). -/
def doUcodeCancel (t : Fin 20) (v : Word) (s : State) : State :=
  if asks (R.TILE_LP_UCODE_CANCEL t.val) v then ucodeWrite t.val v s else s

/-- A write of LAW_SET (R270). -/
def doLawSetWrite (t : Fin 20) (v : Word) (s : State) : State := ucodeWrite t.val v s

/-- A probe or learning run in progress. -/
def State.probing (s : State) (t : Nat) : Bool := (s.tile t).probe.isSome || (s.tile t).learn.isSome

/-- The results of both checks arrive, and the commit check runs (R267). `sigOk` is the hub's verdict on the signature. -/
def doUcodeCheckDone (t : Fin 20) (sigOk : Bool) (s : State) : State :=
  let i := t.val
  match (s.tile i).checking with
  | none => s
  | some _ =>
    let b := s.image i false
    let crc := imageCrc b
    let s := ((s.setTile i { s.tile i with checking := none }).put (R.TILE_LP_UCODE_CRC_OK i) (b2n crc)).put
      (R.TILE_LP_UCODE_SIG_OK i) (b2n sigOk)
    let code := if s.flag (R.TILE_LP_UCODE_PENDING i) || s.probing i || s.tileOwner i == 1 || s.tileOwner i == 2 then
        some Code.CFG_UCODE_BUSY
      else if imageFormed b = false ∨ crc = false ∨ sigOk = false then some Code.CFG_UCODE_INVALID
      else s.lawCheck i b (s.get (R.TILE_LP_UCODE_LAW_SET i))
    match code with
    | some c => (if c = Code.CFG_UCODE_BUSY then s else s.setStandby i b false).ucodeRefuse i c
    | none =>
      let s := ((s.setStandby i b true).put (R.TILE_LP_UCODE_PENDING i) 1).lpTaken i
      s.setTile i { s.tile i with pendingFrames := 0 }

/-- The banks exchanged: BANK and IMG_VER change, and the image event (R264, R268). -/
def State.exchange (s : State) (t : Nat) : State :=
  let s := s.put (R.TILE_LP_UCODE_BANK t) (1 - s.get (R.TILE_LP_UCODE_BANK t))
  (s.put (R.TILE_LP_UCODE_IMG_VER t) (bankWord (s.image t true) 0 % 2 ^ 16)).ev (Ev.imageChange t)

/-- A pending commit takes effect at the first frame edge of R268 at which no element is BELAY or PROV, no transition of the tile is between
G0 and E, and the tile's own engine serves. -/
def doUcodeExchange (t : Fin 20) (s : State) : State :=
  let i := t.val
  let f := s.nextEdge i
  let clear := s.fab.trans.all (fun tr => tr.phase = 0 || f ≤ tr.e - tr.gb || tr.e ≤ f || !tr.loads.any fun l =>
    tileOfPos 0 l.1 == i || tileOfPos 1 l.1 == i)
  if s.flag (R.TILE_LP_UCODE_PENDING i) && clear && s.tileOwner i == 0 && s.engineServes i &&
      !s.anyElem i 0 4096 (fun s e => s.law e == 4 || s.law e == 1) then
    ((s.advanceTo f).put (R.TILE_LP_UCODE_PENDING i) 0).exchange i
  else s

/-- No eligible edge within 2,000 frames cancels the commit (R268). -/
def doUcodeCommitTimeout (t : Fin 20) (s : State) : State :=
  if s.flag (R.TILE_LP_UCODE_PENDING t.val) && decide (2_000 ≤ (s.tile t.val).pendingFrames) then
    (s.put (R.TILE_LP_UCODE_PENDING t.val) 0).ucodeRefuse t.val Code.CFG_UCODE_TIMEOUT
  else s

/-- A learning run ends (R277, R279): STATE, END and the event. -/
def State.endLearn (s : State) (t state code : Nat) : State :=
  (((s.setTile t { s.tile t with learn := none }).put (R.TILE_LP_XL_CTL_STATE t) state).put (R.TILE_LP_XL_CTL_END t) code).ev
    (Ev.learningEnded t) code

/-- A probe or learning run ends in conflict (R274, R279). -/
def State.conflict (s : State) (t code : Nat) : State :=
  let s := s.endProbe t code
  match (s.tile t).learn with
  | none => s
  | some _ => s.endLearn t 3 code

/-- Ten consecutive frames with an abandoned entry switch the tile to its other bank at the next frame edge, provided it passed (R264). -/
def doUcodeFallback (t : Fin 20) (s : State) : State :=
  let i := t.val
  if 10 ≤ (s.tile i).abandonRun ∧ s.passed i false = true then
    let s := s.advanceTo (s.nextEdge i)
    let s := s.setTile i { s.tile i with abandonRun := 0 }
    (s.exchange i).conflict i Code.CFG_PROBE_CONFLICT
  else s

/-- A write to the microcode window (R269): to the standby bank, clearing CRC_OK and SIG_OK; discarded while a commit is pending. -/
def doUcodeWindowWrite (t : Fin 20) (n : Fin 32768) (v : Word) (s : State) : State :=
  let i := t.val
  if s.flag (R.TILE_LP_UCODE_PENDING i) then s.lpRefuse i Code.CFG_UCODE_BUSY
  else
    let s := s.setStandby i (Tbl.set 0 (s.image i false) n.val v) (s.passed i false)
    ((s.put (R.TILE_LP_UCODE_CRC_OK i) 0).put (R.TILE_LP_UCODE_SIG_OK i) 0).lpTaken i

/-- LEN of the shipped image, which the spec leaves open within R266. -/
def shippedLen : Nat := 128 + Config.free 5 0 % 16_257

/-- The shipped image (R265) without its CRC: the fields that R265 and R266 give, every other word as the boot image brings it. -/
def shippedWord (i : Nat) : Nat :=
  let open_ := Config.free 5 (i + 1)
  let four (f : Nat → Nat) : Nat := f 0 * 2 ^ 48 + f 1 * 2 ^ 32 + f 2 * 2 ^ 16 + f 3
  let cost (a b c d : Nat) : Nat := four fun k => [a, b, c, d].getD k 0
  let entry : Nat := four fun k => 64 + open_ / 2 ^ (16 * k) % (shippedLen - 72)
  match i with
  | 0 => 0x594C_4D43 * 2 ^ 32 + 1 * 2 ^ 16 + (1 + open_ % 65_535)
  | 1 => shippedLen
  | 2 => 2 * 2 ^ 56
  | 3 => 0
  | 4 => 1 * 2 ^ 56
  | 7 => cost 24_000 32 32 32
  | 8 => cost 56 56 16 64
  | 12 => 2 * 2 ^ 56
  | 15 => cost 24_000 16 16 16
  | 16 => cost 56 56 16 64
  | 28 => 3 * 2 ^ 56
  | 31 => cost 24_000 64 64 64
  | 32 => cost 64 64 64 64
  | _ => if i = 5 ∨ i = 6 ∨ i = 13 ∨ i = 14 ∨ i = 29 ∨ i = 30 then entry else if i < 64 then 0 else open_ % 2 ^ 64

/-- The shipped image as a bank, with its CRC. -/
def shippedBank : Tbl Word :=
  let crc := (crc32 ((List.range (shippedLen - 2)).flatMap fun i => natBe 8 (shippedWord (i + 2)))).toNat
  ((List.range shippedLen).flatMap fun i =>
    let w := shippedWord i + (if i = 1 then crc * 2 ^ 32 else 0)
    [(2 * i, BitVec.ofNat 32 w), (2 * i + 1, BitVec.ofNat 32 (w / 2 ^ 32))]).filter fun x => x.2 != 0

/-! ## Probes (R271 to R275) -/

/-- The elements that `TILE_LP_PRB_SET_n` names. -/
def State.probeSet (s : State) (t : Nat) : List Nat :=
  (List.range 128).flatMap fun n => ((List.range 32).filter fun b => bit (s.rd (R.TILE_LP_PRB_SET t n)) b).map fun b => tileFirst t + 32 * n + b

/-- Orders 1 and 2 of R271, also those of R277. -/
def State.probeFree (s : State) (t : Nat) : Option Nat :=
  if 2 ≤ s.level then some Code.THM_THROTTLED
  else if s.probing t || s.flag (R.TILE_LP_UCODE_PENDING t) || !s.flag (R.TILE_LP_CTL_ENABLE t) then some Code.CFG_CAPTURE_BUSY
  else none

/-- The first failing condition of R271 for a configuration word. -/
def State.probeCheck (s : State) (t : Nat) (cfg : Word) : Option Nat :=
  let set := s.probeSet t
  let amp := (sx 16 (s.get (R.TILE_LP_PRB_AMP_AMP t))).natAbs
  let litMax := s.get (R.TILE_LP_PRB_AMP_LIT_MAX t)
  let pin := bit cfg 4
  let chirpBad := bits cfg 3 2 == 2 && (decide (s.get (R.TILE_LP_PRB_CHIRP_F1 t) < s.get (R.TILE_LP_PRB_CHIRP_F0 t)) ||
    decide (0x8000 < s.get (R.TILE_LP_PRB_CHIRP_F1 t)))
  let fits (e : Nat) : Bool :=
    (s.status e == 0 || s.status e == 3) && (if s.carries e then !pin && decide (amp ≤ litMax) else s.probeDark e)
  match s.probeFree t with
  | some c => some c
  | none =>
    if set.length < 1 ∨ 64 < set.length ∨ s.get (R.TILE_LP_PRB_TIME_LEN t) = 0 ∨ chirpBad = true ∨ 0x200 < litMax ∨
        (if pin then 1_023 else 16_384) < amp then some Code.CFG_PROBE_PARAM
    else if s.budget250 t (s.get (R.TILE_LP_PERIOD_P_SET t)) (s.get (R.TILE_LP_CTL_NB t)) (32 * set.length) = false then
      some Code.CFG_FRAME_BUDGET
    else if set.all fits then none else some Code.CFG_PROBE_CONFLICT

/-- A write of `TILE_LP_PRB_CFG` (R271, R274): START starts a probe or refuses it, STOP ends one at the next frame edge. -/
def probeCfgWrite (t : Nat) (v : Word) (s : State) : State :=
  if asks (R.TILE_LP_PRB_CFG_START t) v then
    match s.probeCheck t v with
    | some c =>
      let s := if (s.tile t).probe.isSome then s else s.put (R.TILE_LP_PRB_STS_STATE t) 0
      (s.put (R.TILE_LP_PRB_STS_END t) c).ev (Ev.probeEnded t) c
    | none =>
      let s := s.take (R.TILE_LP_PRB_CFG t) v
      let p : Probe := ⟨0, (s.probeSet t).map fun e => (e, s.carries e), s.rd (R.TILE_LP_PRB_CFG t), s.rd (R.TILE_LP_PRB_AMP t),
        s.rd (R.TILE_LP_PRB_TIME t), s.rd (R.TILE_LP_PRB_CHIRP t)⟩
      let s := ((s.put (R.TILE_LP_PRB_STS_STATE t) 1).put (R.TILE_LP_PRB_STS_FULL t) 0).put (R.TILE_LP_CAP_WP_WP t) 0
      s.setTile t { s.tile t with probe := some p, stopDue := asks (R.TILE_LP_PRB_CFG_STOP t) v }
  else
    let s := s.take (R.TILE_LP_PRB_CFG t) v
    if asks (R.TILE_LP_PRB_CFG_STOP t) v && (s.tile t).probe.isSome then s.setTile t { s.tile t with stopDue := true } else s

/-- A write of START (R271). -/
def doProbeStart (t : Fin 20) (v : Word) (s : State) : State :=
  if asks (R.TILE_LP_PRB_CFG_START t.val) v then probeCfgWrite t.val v s else s

/-- A write of STOP (R274). -/
def doProbeStop (t : Fin 20) (v : Word) (s : State) : State :=
  if asks (R.TILE_LP_PRB_CFG_STOP t.val) v then probeCfgWrite t.val v s else s

/-- A write of `TILE_LP_PRB_SET_n`, discarded while a probe runs. -/
def probeSetWrite (t n : Nat) (v : Word) (s : State) : State :=
  if s.get (R.TILE_LP_PRB_STS_STATE t) = 1 then s else s.take (R.TILE_LP_PRB_SET t n) v

/-- `TILE_LP_PRB_STS` as it reads: NSET counts the set's bits. -/
def State.prbSts (s : State) (t : Nat) : Word := setBits (s.rd (R.TILE_LP_PRB_STS t)) 6 0 (min 127 (s.probeSet t).length)

/-- A PRBS-9 register advanced `n` steps, polynomial x^9 + x^5 + 1 (R272). -/
def prbsStep (v n : Nat) : Nat :=
  match n with
  | 0 => v
  | n + 1 => prbsStep (v * 2 % 512 + (v / 256 + v / 16) % 2) n

/-- Bit `k` of an element's sequence (R272): the top bit of the register before its step `k`. -/
def prbsBit (seed l k : Nat) : Bool := prbsStep (if seed = 0 then 0x1FF else seed) ((15 * (l % 32) + k) % 511) / 256 == 1

/-- v(k) of R272 in injection frame `k`. -/
def Probe.value (p : Probe) (e k : Nat) : Int :=
  let amp := sx 16 (bits p.amp 15 0)
  match bits p.cfg 3 2 with
  | 0 => amp
  | 1 => if prbsBit (bits p.cfg 31 23) (e % 4096) k then amp else -amp
  | 2 =>
    let len := bits p.time 31 16
    let f0 : Int := bits p.chirp 15 0
    let f1 : Int := bits p.chirp 31 16
    roundDiv (amp * sinTurn (2 * len * f0 * k + (f1 - f0) * k * k) (2 * len * 65_536)) (2 ^ 60)
  | _ => 0

/-- Phase of a probe's frame `k` (R276): 0 baseline, 1 injection, 2 tail, and 3 once the tail is complete. -/
def Probe.phase (p : Probe) (k : Nat) : Nat :=
  let d := bits p.time 15 0
  let n := bits p.time 31 16
  if k < d then 0 else if k < d + n then 1 else if k < 2 * d + n then 2 else 3

/-- v of the frame `k`: 0 outside the injection frames. -/
def Probe.inject (p : Probe) (e k : Nat) : Int := if p.phase k = 1 then p.value e (k - bits p.time 15 0) else 0

/-! ## The capture buffer (R276) -/

/-- One record of four words written to the capture buffer; with CAP_WRAP = 0 writing stops when it is full. -/
def State.capture (s : State) (t : Nat) (cfg : Word) (ws : List Nat) : State :=
  let wp := s.get (R.TILE_LP_CAP_WP_WP t)
  if bit cfg 8 = false ∨ (bit cfg 9 = false ∧ 65_536 ≤ wp) then s
  else
    let x := s.tile t
    let base := wp % 65_536 * 4
    let cap := ((List.range 4).zip ws).foldl (fun m p => Tbl.set 0 m (base + p.1) (BitVec.ofNat 32 p.2)) x.cap
    let s := (s.setTile t { x with cap := cap }).count (R.TILE_LP_CAP_WP_WP t)
    if bit cfg 9 = false ∧ wp + 1 = 65_536 then s.put (R.TILE_LP_PRB_STS_FULL t) 1 else s

/-- The record of one set element (R276). -/
def captureWords (p : Probe) (e k fn : Nat) (pr : Pair) (v err : Int) (out : Nat) : List Nat :=
  [ e % 4096 * 2 ^ 20 + b2n pr.missing * 2 ^ 19 + b2n (p.phase k == 1) * 2 ^ 18 + p.phase k * 2 ^ 16 + fn % 2 ^ 16,
    pr.rawW * 2 ^ 16 + pr.rawU, tc 32 v, tc 16 (satInt 16 err) * 2 ^ 16 + out % 2 ^ 16 ]

/-- A read of `TILE_LP_CAP_DATA` returns the word at ADDR and advances it by 4. -/
def doCapDataRead (t : Fin 20) (s : State) : State :=
  let a := s.get (R.TILE_LP_CAP_ADDR_ADDR t.val)
  { s.put (R.TILE_LP_CAP_ADDR_ADDR t.val) (a + 1) with bus := Tbl.getD (s.tile t.val).cap a 0 }

/-! ## Learning (R277 to R279) -/

/-- A write of `TILE_LP_XL_CTL` (R277, R279). -/
def learnCtlWrite (t : Nat) (v : Word) (s : State) : State :=
  let s := if asks (R.TILE_LP_XL_CTL_ABORT t) v && (s.tile t).learn.isSome then s.endLearn t 3 Code.DONE else s
  if asks (R.TILE_LP_XL_CTL_START t) v then
    let code := match s.probeFree t with
      | some c => some c
      | none => if s.flag (R.TILE_LP_CTL_XT_EN t) then some Code.CFG_XT_LOCKED else none
    match code with
    | some c =>
      let s := if (s.tile t).learn.isSome then s else s.put (R.TILE_LP_XL_CTL_STATE t) 0
      (s.put (R.TILE_LP_XL_CTL_END t) c).ev (Ev.learningEnded t) c
    | none =>
      let s := (((s.take (R.TILE_LP_XL_CTL t) v).put (R.TILE_LP_XL_CTL_STATE t) 1).put (R.TILE_LP_XL_CTL_PASS t) 0).put
        (R.TILE_LP_XL_CTL_REP t) 0
      s.setTile t { s.tile t with learn := some ⟨0, 0, 0, [], [], []⟩ }
  else s.take (R.TILE_LP_XL_CTL t) v

/-- A write of START (R277). -/
def doLearnStart (t : Fin 20) (v : Word) (s : State) : State :=
  if asks (R.TILE_LP_XL_CTL_START t.val) v then learnCtlWrite t.val v s else s

/-- A write of ABORT (R279). -/
def doLearnAbort (t : Fin 20) (v : Word) (s : State) : State :=
  if asks (R.TILE_LP_XL_CTL_ABORT t.val) v then learnCtlWrite t.val v s else s

/-- Sensors whose elements are candidates of a receiver (R277): its own and its neighbours of the same stage row. -/
def nearSensors (n : Nat) : List Nat := (if 0 < n % 64 then [n - 1] else []) ++ [n] ++ (if n % 64 < 63 then [n + 1] else [])

/-- Injection of a transmitter in frame `k` of pass `pass` (R277): ±LIT_MAX lit, ±|AMP| unlit while R219 holds. -/
def State.learnInject (s : State) (l : Learn) (lit : List (Nat × Nat × Nat)) (e : Nat) : Int :=
  let t := tileOf e
  if 511 ≤ l.k ∨ sensorOf e % 3 ≠ l.pass ∨ l.dead.contains (e % 4096) = true then 0
  else if s.status e != 0 && s.status e != 3 then 0
  else
    let isLit := lit.any (·.1 == e)
    let a : Int := if isLit then s.get (R.TILE_LP_PRB_AMP_LIT_MAX t)
      else if s.probeDark e then (sx 16 (s.get (R.TILE_LP_PRB_AMP_AMP t))).natAbs else 0
    if prbsBit (s.get (R.TILE_LP_PRB_CFG_SEED t)) (e % 4096) l.k then a else -a

/-- The injection phases of the transmitters at the end of a frame (R278): each follows its injection with τ_m. -/
def State.learnHist (s : State) (p : Nat) (l : Learn) (v : Nat → Int) (es : List Nat) : Learn :=
  { l with hist := es.foldl (fun m e =>
      let (h0, h1, _) := Tbl.getD m (e % 4096) (0, 0, 0)
      let goal := v e * 65_536
      let h := goal - (goal - h0) * (expNeg p (s.tau e * 100) : Int) / 2 ^ 48
      if h = 0 ∧ h0 = 0 ∧ h1 = 0 then Tbl.del m (e % 4096) else Tbl.put m (e % 4096) (h, h0, h1)) l.hist }

/-- The sums of one receiver with a valid error (R278), over the transmitters near it. -/
def Learn.add (l : Learn) (e : Nat) (err : Int) : Learn :=
  let near := nearSensors (sensorOf e)
  let first := tileFirst (tileOf e)
  { l with sums := l.hist.foldl (fun m x =>
      if x.1 != e % 4096 && near.contains (sensorOf (first + x.1)) && !l.dead.contains x.1 then
        let h := roundDiv x.2.2.2 65_536
        let k := e % 4096 * 4096 + x.1
        let (a, b) := Tbl.getD m k (0, 0)
        Tbl.set (0, 0) m k (a + err * h, b + h * h)
      else m) l.sums }

/-- COEF(e, j) = −s_eh / s_hh in Q1.15, saturating (R278). -/
def learnCoef (x : Int × Int) : Int := if x.2 = 0 then 0 else satInt 16 (roundDiv (-x.1 * 32_768) x.2)

/-- The candidate entries of one receiver (R278): the NB candidates of largest |COEF| at or above MIN, largest first. -/
def Learn.entries (l : Learn) (r nb least : Nat) : List Word :=
  let c := (l.sums.filter fun x => x.1 / 4096 == r && !l.dead.contains (x.1 % 4096)).map fun x => (x.1 % 4096, learnCoef x.2)
  let c := c.filter fun x => decide (least ≤ x.2.natAbs) && x.2 != 0
  let best := c.mergeSort fun a b => decide (b.2.natAbs ≤ a.2.natAbs)
  (best.take nb).map fun x => BitVec.ofNat 32 (2 ^ 31 + x.1 * 2 ^ 16 + tc 16 x.2)

/-- The end of a complete run (R279): the candidate table in the capture buffer from address 0, STATE DONE, the event, and the copy due at the
next edge under AUTO_APPLY. -/
def State.learnDone (s : State) (t : Nat) (l : Learn) : State :=
  let x := s.tile t
  let nb := min 16 (s.get (R.TILE_LP_CTL_NB t))
  let cap := (List.range 4096).foldl (fun m r =>
    let ws := l.entries r nb (s.get (R.TILE_LP_XL_CFG_MIN t))
    (List.range 16).foldl (fun m j => Tbl.set 0 m (r * 16 + j) (ws.getD j 0)) m) x.cap
  (s.setTile t { x with cap := cap, applyDue := s.flag (R.TILE_LP_XL_CTL_AUTO_APPLY t) }).endLearn t 2 Code.DONE

/-- The run after a frame (R277): 511 frames of injection and 16 of the law in each of three passes, REPS_M1 + 1 times. -/
def State.learnNext (s : State) (t : Nat) (l : Learn) : State :=
  let l := { l with k := l.k + 1 }
  let l := if l.k < 527 then l else if l.pass < 2 then { l with k := 0, pass := l.pass + 1 } else { l with k := 0, pass := 0, rep := l.rep + 1 }
  if s.get (R.TILE_LP_XL_CFG_REPS_M1 t) < l.rep then s.learnDone t l
  else ((s.put (R.TILE_LP_XL_CTL_PASS t) l.pass).put (R.TILE_LP_XL_CTL_REP t) l.rep).setTile t { s.tile t with learn := some l }

end Sys2Proof.Machine
end

