-- ==== Sys2Proof/Machine/Pwm.lean ====
section
/-!
DEFINITION. Sys2Proof/Machine/Pwm.lean: heater drive ("Heater drive"): banks and their carriers, windows, runts, duty writes, tagged
period changes, and the PW registers.
-/
namespace Sys2Proof.Machine

/-! ## Banks (R282 to R284) -/

/-- A bank that does not run. -/
def HtrBank.reset : HtrBank := ⟨false, 0, 0, none, 0, false⟩

/-- Bank `b` of tile `t` (R282). -/
def State.pwb (s : State) (t b : Nat) : HtrBank := Tbl.getD s.drv.banks (16 * t + b) HtrBank.reset
def State.setPwb (s : State) (t b : Nat) (x : HtrBank) : State :=
  { s with drv.banks := Tbl.set HtrBank.reset s.drv.banks (16 * t + b) x }

/-- The elements of a bank. -/
def bankElems (t b : Nat) : List Nat := (List.range 256).map (tileFirst t + 256 * b + ·)

/-- TOP in force, dead time, and U = 2 · TOP − 2 · DEAD (R285). -/
def State.top (s : State) (t b : Nat) : Nat := s.get (R.TILE_PW_BSTS_TOP_USE t b)
def State.dead (s : State) (t b : Nat) : Nat := s.get (R.TILE_PW_BTIM_DEAD t b)
def State.onTime (s : State) (t b : Nat) : Nat := 2 * s.top t b - 2 * s.dead t b

/-- W_MIN of R292. -/
def State.wMin (s : State) (t b : Nat) : Nat := max (s.get (R.TILE_PW_BTIM_MINP t b)) (s.dead t b)

/-- Both arms of every channel of the bank are off (R297, R391, R512). -/
def State.pwHeld (s : State) (t b : Nat) : Bool :=
  !s.flag (R.TILE_PW_BCTL_ENABLE t b) || (!s.flag (R.TILE_PW_BCTL_SRC t b) && !s.flag (R.TILE_LP_CTL_ENABLE t)) || s.drv.off

/-- Count mode (R290). -/
def State.countMode (s : State) (t b : Nat) : Bool := s.flag (R.TILE_PW_BCTL_MODE t b)

/-- A refused PW write, arming or ENABLE (R297). -/
def State.pwRefuse (s : State) (t b code : Nat) : State := s.refuse (R.TILE_PW_BCTL_REFUSE t b) (Ev.heaterDriveRefusal t) code

/-- An accepted one returns REFUSE to 0. -/
def State.pwTaken (s : State) (t b : Nat) : State := s.put (R.TILE_PW_BCTL_REFUSE t b) 0

/-- Outputs of a bank turned off; carried on-time is dropped (R301). -/
def State.pwOff (s : State) (t b : Nat) : State :=
  ((bankElems t b).foldl (fun s e => s.setHtr e { s.htr e with acc := 0, wA := 0, wB := 0 }) s).setPwb t b
    { s.pwb t b with runs := false, offDue := false }

/-- At a tile's frame edge `f` each bank that is to run and does not yet starts aligned to the edge (R284, R291, R292), and a bank held off
by R297 stops. -/
def State.pwEdge (s : State) (t f : Nat) : State :=
  (List.range 16).foldl (fun s b =>
    let x := s.pwb t b
    let want := s.flag (R.TILE_PW_BCTL_ENABLE t b) && (s.flag (R.TILE_PW_BCTL_SRC t b) || (s.tile t).drives) && !s.drv.off
    if want && !x.runs then
      let at_ := f + s.get (R.TILE_PW_BTIM_PHASE t b) + (if s.flag (R.TILE_PW_BCTL_UPD t b) then s.top t b else 0)
      ((bankElems t b).foldl (fun s e => s.setHtr e { s.htr e with acc := 0 }) s).setPwb t b { x with runs := true, next := at_, step := 0 }
    else if !want && x.runs && !x.offDue then s.pwOff t b
    else s) s

/-! ## Duty to width (R288 to R291) -/

/-- bitrev4 of R291. -/
def bitrev4 (p : Nat) : Nat := p % 2 * 8 + p / 2 % 2 * 4 + p / 4 % 2 * 2 + p / 8 % 2

/-- Dithered width of arm A in step `p`: fraction mode (R289) or count mode (R290), with INV of R288. -/
def State.widthA (s : State) (t b : Nat) (x : HtrCh) (p : Nat) : Nat :=
  let u := s.onTime t b
  let top := s.top t b
  if s.countMode t b then
    let c := min (x.active / 16) top
    let c := if x.inv then top - c else c
    let c := if bitrev4 p < x.active % 16 then c + 1 else c
    min (2 * c - s.dead t b) u
  else
    let d := if x.inv then 65_536 - x.active else x.active
    let w16 := (d * u * 16 + 32_768) / 65_536
    if bitrev4 p < w16 % 16 then w16 / 16 + 1 else w16 / 16

/-- What one window of a channel does (R287, R292, R294): the channel, and whether it suppressed a runt, released carried on-time, and changed
its centred arm. -/
structure Window where
  ch : HtrCh
  runt : Bool
  release : Bool
  change : Bool
  deriving DecidableEq, Repr

/-- The emitted width of the centred arm, the on-time carried on, and the two counted facts (R292). -/
def emitRunt (acc m least : Nat) : Nat × Nat × Bool × Bool :=
  let c := acc + m
  if c = 0 then (0, 0, false, false)
  else if c < least then (0, c, decide (0 < m), false)
  else (c, 0, false, decide (m < c))

/-- One window (R285 to R294). -/
def windowOf (x : HtrCh) (wA u dead least : Nat) : Window :=
  let change := if x.centreB then decide (wA + 16 < u / 2) else decide (u / 2 + 16 < wA)
  let centreB := x.centreB != change
  let m := if centreB then u - wA else wA
  let (acc, m) := if change then (0, m - x.acc) else (x.acc, m)
  let (w, acc, runt, release) := emitRunt acc m least
  let edge := u - (if change then dead else 0) - w
  let a := if centreB then edge else w
  let b := if centreB then w else edge
  { ch := { x with acc := acc, centreB := centreB, wA := if x.swap then b else a, wB := if x.swap then a else b },
    runt := runt, release := release, change := change }

/-! ## Armed periods (R298 to R300) -/

/-- Channels of the bank's update set. -/
def State.updateSet (s : State) (t b : Nat) : List Nat :=
  (List.range 256).filter fun k => bit (s.rd (R.TILE_PW_USET t b (k / 32))) (k % 32)

/-- Channels of the update set still without a tagged write: OUT. -/
def State.untagged (s : State) (t b : Nat) : Nat :=
  ((s.updateSet t b).filter fun k => (s.htr (tileFirst t + 256 * b + k)).tagged.isNone).length

/-- An armed TOP takes effect at an update point: at once in fraction mode, and in count mode when every tagged write of the update set is
at least 4 ns old (R298, R299). -/
def State.topDue (s : State) (t b at_ : Nat) : Bool :=
  !s.countMode t b || (s.updateSet t b).all fun k => match (s.htr (tileFirst t + 256 * b + k)).tagged with
    | none => false
    | some (_, n) => decide (n + 4 ≤ at_)

/-- An armed TOP and every held tagged duty are discarded (R300). -/
def State.discardTop (s : State) (t b : Nat) : State :=
  if (s.pwb t b).armed.isNone then s
  else
    let s := (bankElems t b).foldl (fun s e => s.setHtr e { s.htr e with tagged := none }) s
    ((s.setPwb t b { s.pwb t b with armed := none, age := 0 }).put (R.TILE_PW_BCTL_REFUSE t b) Code.PWM_SPLIT_DISCARDED).ev
      (Ev.splitDiscarded t) Code.PWM_SPLIT_DISCARDED

/-- The new TOP and every tagged duty become active together (R299). -/
def State.takeTop (s : State) (t b top at_ : Nat) : State :=
  let s := (bankElems t b).foldl (fun s e =>
    let x := s.htr e
    match x.tagged with
    | none => s
    | some (d, n) =>
      if n + 4 ≤ at_ then s.setHtr e { x with shadow := d, active := d, wait := none, tagged := none }
      else s.setHtr e { x with shadow := d, wait := some (n + 4), tagged := none }) s
  (s.setPwb t b { s.pwb t b with armed := none, age := 0 }).put (R.TILE_PW_BSTS_TOP_USE t b) top

/-- Instant of the bank's next update point not before now, and how many lie before it. -/
def State.updatePoint (s : State) (t b : Nat) : Nat × Nat :=
  let x := s.pwb t b
  let period := max 1 (2 * s.top t b)
  let k := (s.now - x.next + period - 1) / period
  (x.next + k * period, k)

/-! ## The update point (R288 to R300) -/

/-- One channel at an update point: a due shadow activates, SWAP and INV take effect, and the window is emitted. -/
def State.window (s : State) (t b e p at_ : Nat) : State :=
  let x := s.htr e
  let due := match x.wait with
    | none => false
    | some n => decide (n ≤ at_)
  let x := if due then { x with active := x.shadow, wait := none } else x
  let l := e % 4096
  let x := { x with swap := s.flag (R.TILE_PW_CHCFG_SWAP t l), inv := s.flag (R.TILE_PW_CHCFG_INV t l) }
  let w := windowOf x (s.widthA t b x p) (s.onTime t b) (s.dead t b) (s.wMin t b)
  let n (k : Nat) (c : Bool) (s : State) : State := if c then s.count (whole (R.TILE_PW_BCNT t b k)) else s
  n 3 w.change (n 1 w.release (n 0 w.runt (s.setHtr e w.ch)))

/-- A bank's update point: outputs of a cleared ENABLE go off, an armed TOP takes effect or ages, and every channel begins its window. -/
def doPwmUpdatePoint (t : Fin 20) (b : Fin 16) (s : State) : State :=
  let t := t.val
  let b := b.val
  if (s.pwb t b).runs = false ∨ s.drv.off then s
  else
    let (at_, k) := s.updatePoint t b
    let s := s.advanceTo at_
    if (s.pwb t b).offDue then s.pwOff t b
    else
      let s := match (s.pwb t b).armed with
        | none => s
        | some (top, _) =>
          if s.topDue t b at_ then s.takeTop t b top at_
          else
            let s := s.setPwb t b { s.pwb t b with age := (s.pwb t b).age + k + 1 }
            if 1024 ≤ (s.pwb t b).age then s.discardTop t b else s
      let p := ((s.pwb t b).step + k) % 16
      let s := (bankElems t b).foldl (fun s e => s.window t b e p at_) s
      s.setPwb t b { s.pwb t b with next := at_ + 2 * s.top t b, step := (p + 1) % 16 }

/-- The 1,024th update point after the arming discards a TOP that does not take effect there (R300). -/
def doPwmTopDiscard (t : Fin 20) (b : Fin 16) (s : State) : State :=
  let x := s.pwb t.val b.val
  let (at_, k) := s.updatePoint t.val b.val
  if x.armed.isSome ∧ x.runs ∧ 1023 ≤ x.age + k ∧ s.topDue t.val b.val at_ = false then (s.advanceTo at_).discardTop t.val b.val else s

/-! ## Registers (R288, R295 to R299, R302) -/

/-- Conditions 1 to 3 of R297 with a TOP. -/
def State.topOk (s : State) (t b top : Nat) : Bool :=
  decide (64 ≤ top) && decide (top ≤ 4095) && decide (s.get (R.TILE_PW_BTIM_PHASE t b) < 2 * top) &&
    decide (4 * s.wMin t b + 64 + 2 * s.dead t b ≤ 2 * top)

/-- An element of the bank holds it in use. -/
def State.bankInUse (s : State) (t b : Nat) : Bool := s.anyElem t (256 * b) 256 State.inUse

/-- The bank's elements are fenced or unfenced under R295 (EV 18), and the crevasse map follows (R482). -/
def State.pwFence (s0 s : State) (t b : Nat) : State :=
  let f (s : State) : Bool := !s.flag (R.TILE_PW_BCTL_ENABLE t b) || s.flag (R.TILE_PW_BCTL_SRC t b)
  if f s0 = f s then s else s0.crvChange (s.ev (Ev.bankFenced t)) (bankCells t b)

/-- A write of `TILE_PW_BCTL_b` (R297): ENABLE and its check, and the RWC fields. -/
def doPwmBctlWrite (t : Fin 20) (b : Fin 16) (v : Word) (s0 : State) : State :=
  let t := t.val
  let b := b.val
  let a := R.TILE_PW_BCTL t b
  let was := s0.flag (R.TILE_PW_BCTL_ENABLE t b)
  if was && s0.rwcHit a v then s0.pwRefuse t b Code.PWM_CFG_LOCKED
  else if was && !bit v 0 && !s0.flag (R.TILE_PW_BCTL_SRC t b) && s0.bankInUse t b then s0.pwRefuse t b Code.PWM_BANK_IN_USE
  else
    let s := (s0.take a v).pwTaken t b
    let s := if was && !bit v 0 then
        (s.setPwb t b { s.pwb t b with offDue := (s.pwb t b).runs }).discardTop t b
      else if !was && bit v 0 then
        let top := s.get (R.TILE_PW_BTOP_TOP_SET t b)
        if s.topOk t b top && (!s.countMode t b || s.flag (R.TILE_PW_BCTL_SRC t b)) then
          let s := (s.put (R.TILE_PW_BSTS_TOP_USE t b) top).pwOff t b
          let s := s.setPwb t b { s.pwb t b with step := 0 }
          (bankElems t b).foldl (fun s e =>
            s.setHtr e { s.htr e with active := (s.htr e).shadow, wait := none, acc := 0, centreB := false }) s
        else (s.put (R.TILE_PW_BCTL_ENABLE t b) 0).pwRefuse t b Code.PWM_CONFIG
      else s
    s0.pwFence s t b

/-- A write of `TILE_PW_BTIM_b`, RWC throughout. -/
def pwTimWrite (t b : Nat) (v : Word) (s : State) : State :=
  if s.flag (R.TILE_PW_BCTL_ENABLE t b) && s.rwcHit (R.TILE_PW_BTIM t b) v then s.pwRefuse t b Code.PWM_CFG_LOCKED
  else (s.take (R.TILE_PW_BTIM t b) v).pwTaken t b

/-- The first failing condition of R298. -/
def State.armCheck (s : State) (t b : Nat) (v : Word) : Option Nat :=
  if (s.pwb t b).armed.isSome then some Code.PWM_TOP_ARMED
  else if s.topOk t b (bits v 11 0) = false then some Code.PWM_CONFIG
  else if s.countMode t b then if bits v 23 16 = 0 then some Code.PWM_CONFIG else none
  else if s.flag (R.TILE_PW_BCTL_SRC t b) = false ∧ s.bankInUse t b then some Code.PWM_BANK_IN_USE
  else none

/-- A write of `TILE_PW_BTOP_b` (R298): ARM arms the TOP_SET and TAG written with it; ARM has no effect while ENABLE reads 0. -/
def pwTopWrite (t b : Nat) (v : Word) (s : State) : State :=
  if bit v 31 && s.flag (R.TILE_PW_BCTL_ENABLE t b) then
    match s.armCheck t b v with
    | some code => s.pwRefuse t b code
    | none => ((s.take (R.TILE_PW_BTOP t b) v).pwTaken t b).setPwb t b
        { s.pwb t b with armed := some (bits v 11 0, bits v 23 16), age := 0 }
  else (s.take (R.TILE_PW_BTOP t b) v).pwTaken t b

def doPwmTopArm (t : Fin 20) (b : Fin 16) (v : Word) (s : State) : State := if bit v 31 then pwTopWrite t.val b.val v s else s

/-- A host write of `TILE_PW_DUTY_x` (R290, R295, R296, R299). It passes the arbiter through the engine that owns the tile (R234). -/
def doPwmDutyWrite (t : Fin 20) (x : Fin 4096) (v : Word) (s : State) : State :=
  let t := t.val
  let e := tileFirst t + x.val
  let b := x.val / 256
  let d := bits v 15 0
  let tag := bits v 23 16
  let h := s.htr e
  if s.flag (R.TILE_PW_BCTL_SRC t b) = false then s.pwRefuse t b Code.PWM_NOT_DIRECT
  else if s.engineServes t = false then s
  else
    let own : Option Nat := match (s.pwb t b).armed with
      | none => none
      | some (top, k) => if s.countMode t b && k == tag then some top else none
    if s.countMode t b && decide (own.getD (s.top t b) < d / 16) then s.pwRefuse t b Code.PWM_DUTY_RANGE
    else match own with
      | some _ => (s.setHtr e { h with tagged := some (d, s.now) }).pwTaken t b
      | none => (s.setHtr e { h with shadow := d, tag := tag, wait := some (s.now + 4) }).pwTaken t b

/-- A write of SWAP or INV (R288): a change is discarded while the element holds its bank in use. -/
def doPwmChcfgWrite (t : Fin 20) (x : Fin 4096) (v : Word) (s : State) : State :=
  let a := R.TILE_PW_CHCFG t.val x.val
  if bits (s.rd a) 1 0 != bits v 1 0 && s.inUse (tileFirst t.val + x.val) then s.pwRefuse t.val (x.val / 256) Code.PWM_BANK_IN_USE
  else (s.take a v).pwTaken t.val (x.val / 256)

/-- A write of the update set (R299). -/
def doPwmUsetWrite (t : Fin 20) (b : Fin 16) (n : Fin 8) (v : Word) (s : State) : State :=
  if (s.pwb t.val b.val).armed.isSome then s.pwRefuse t.val b.val Code.PWM_TOP_ARMED
  else (s.take (R.TILE_PW_USET t.val b.val n.val) v).pwTaken t.val b.val

/-! ## Registers as they read -/

/-- `TILE_PW_STS`: DIRECT and RUN. -/
def State.pwSts (s : State) (t : Nat) : Word :=
  BitVec.ofNat 32 ((List.range 16).map fun b =>
    b2n (s.flag (R.TILE_PW_BCTL_SRC t b)) * 2 ^ (16 + b) + b2n (!s.pwHeld t b) * 2 ^ b).sum

/-- `TILE_PW_BSTS_b`. -/
def State.pwBsts (s : State) (t b : Nat) : Word :=
  let armed := (s.pwb t b).armed.isSome
  let w := setBits (s.rd (R.TILE_PW_BSTS t b)) 31 31 (b2n armed)
  setBits w 28 20 (if armed && s.countMode t b then s.untagged t b else 0)

/-- `TILE_PW_BAGE_b`. -/
def State.pwAge (s : State) (t b : Nat) : Word := BitVec.ofNat 32 (if (s.pwb t b).armed.isSome then min 1024 (s.pwb t b).age else 0)

/-- `TILE_PW_DUTY_x`: the shadow with its tag. -/
def State.pwDuty (s : State) (e : Nat) : Word := BitVec.ofNat 32 ((s.htr e).tag % 256 * 2 ^ 16 + (s.htr e).shadow % 2 ^ 16)

/-- `TILE_PW_ACT_x`. -/
def State.pwAct (s : State) (e : Nat) : Word :=
  let x := s.htr e
  BitVec.ofNat 32 (b2n x.centreB * 2 ^ 31 + b2n x.tagged.isSome * 2 ^ 30 + x.acc % 64 * 2 ^ 24 + x.active % 2 ^ 16)

end Sys2Proof.Machine
end

