-- ==== Sys2Proof/Machine/Fast.lean ====
section
/-!
DEFINITION. Sys2Proof/Machine/Fast.lean: host access to the fast-drive channels, the banks' control writes and strobes, and the emergency
close ("Fast drive, blankers and latches"). Channels, blankers and latches themselves stand in Machine/Fabric.lean.
-/
namespace Sys2Proof.Machine

/-- A refused FD write or ENABLE. -/
def State.fdRefuse (s : State) (t b code : Nat) : State := s.refuse (R.TILE_FD_BCTL_REFUSE t b) (Ev.fastDriveRefusal t) code

/-- An accepted one returns REFUSE to 0. -/
def State.fdTaken (s : State) (t b : Nat) : State := s.put (R.TILE_FD_BCTL_REFUSE t b) 0

/-- The channels of a bank (R304), as keys. -/
def bankChannels (t b : Nat) : List Nat := (List.range 512).map (fdKey t (512 * b) + ·)

/-- A host write of `TILE_FD_CODE_q` (R306, R309, R312): a pending shadow of a direct bank. It passes the arbiter through the engine that
owns the tile (R307). -/
def doFdCodeWrite (t : Fin 20) (q : Fin 8192) (v : Word) (s : State) : State :=
  let t := t.val
  let b := q.val / 512
  let k := fdKey t q.val
  let x := s.fdch k
  let code := bits v 9 0
  let range := bits v 16 16
  if s.flag (R.TILE_FD_BCTL_SRC t b) = false then s.fdRefuse t b Code.FD_NOT_DIRECT
  else if s.engineServes t = false then s
  else if range != x.rangeUse && !(code == 0 && x.active == 0) then s.fdRefuse t b Code.FD_RANGE_REFUSED
  else (s.setFd k { x with code := code, range := range, pend := some s.now }).fdTaken t b

/-- A host strobe of a bank at an instant: each shadow written at least 4 ns before loads (R306, R313). -/
def State.fdStrobe (s : State) (t b at_ : Nat) : State :=
  if s.flag (R.TILE_FD_BCTL_SRC t b) then
    (bankChannels t b).foldl (fun s k => match (s.fdch k).pend with
      | none => s
      | some n => if n + 4 ≤ at_ then (s.fdLoad k (s.fdch k).code (s.fdch k).range).1 else s) s
  else s

/-- A bank enabled or disabled, or its source changed, fences or frees its cells (R309, R482). -/
def State.fdFence (s0 s : State) (t b : Nat) : State :=
  let f (s : State) : Bool := !s.flag (R.TILE_FD_BCTL_ENABLE t b) || s.flag (R.TILE_FD_BCTL_SRC t b)
  if f s0 = f s then s else s0.crvChange s (bankCells t b)

/-- A write of `TILE_FD_BCTL_b` (R306, R311). STB strobes the bank at the first tick at least 4 ns after the write. -/
def fdCtlWrite (t b : Nat) (v : Word) (s0 : State) : State :=
  let a := R.TILE_FD_BCTL t b
  let was := s0.flag (R.TILE_FD_BCTL_ENABLE t b)
  if was && s0.rwcHit a v then s0.fdRefuse t b Code.FD_CFG_LOCKED
  else if was && !bit v 0 && !s0.flag (R.TILE_FD_BCTL_SRC t b) && s0.bankInUse t b then s0.fdRefuse t b Code.FD_BANK_IN_USE
  else
    let s := (s0.take a v).fdTaken t b
    let s := if was && !bit v 0 then (bankChannels t b).foldl (fun s k => s.setFd k { s.fdch k with pend := none }) s
      else if !was && bit v 0 then
        if (bankChannels t b).all fun k => (s.fdch k).code == 0 then
          (bankChannels t b).foldl (fun s k =>
            s.setFd k { s.fdch k with active := 0, rangeUse := (s.fdch k).range, pend := none }) s
        else (s.put (R.TILE_FD_BCTL_ENABLE t b) 0).fdRefuse t b Code.FD_CONFIG
      else s
    let s := s0.fdFence s t b
    if bit v 2 then (s.advanceTo (s.now + 4)).fdStrobe t b (s.now + 4) else s

def doFdBctlWrite (t : Fin 20) (b : Fin 16) (v : Word) (s : State) : State := fdCtlWrite t.val b.val v s
def doFdBankStrobe (t : Fin 20) (b : Fin 16) (v : Word) (s : State) : State := if bit v 2 then fdCtlWrite t.val b.val v s else s

/-- A write of `TILE_FD_STB` (R306): one strobe of every direct bank of the tile. -/
def doFdTileStrobe (t : Fin 20) (v : Word) (s : State) : State :=
  if bit v 0 then
    let s := s.advanceTo (s.now + 4)
    (List.range 16).foldl (fun s b => s.fdStrobe t.val b s.now) s
  else s

/-- `TILE_FD_STS`: DIRECT and RUN. -/
def State.fdSts (s : State) (t : Nat) : Word :=
  BitVec.ofNat 32 ((List.range 16).map fun b =>
    b2n (s.flag (R.TILE_FD_BCTL_SRC t b)) * 2 ^ (16 + b) + b2n (!s.fdHeld t b) * 2 ^ b).sum

/-- `TILE_FD_CODE_q`: PEND shows a host shadow and a PIN code that a frame in progress has computed. -/
def State.fdWord (s : State) (t q : Nat) : Word :=
  let x := s.fdch (fdKey t q)
  let loop := match (s.elem (tileFirst t + q / 2)).out with
    | none => false
    | some r => r.pinCode.isSome
  BitVec.ofNat 32 (b2n (x.pend.isSome || loop) * 2 ^ 31 + x.rangeUse % 2 * 2 ^ 30 + x.active % 1024 * 2 ^ 20 + x.range % 2 * 2 ^ 16 +
    x.code % 1024)

/-- The emergency close (R328): every latch of tiles 0 and 9 is pulsed by the hard-wired sequencers, the first group 60 ns after the
trigger; no open starts until the latches have been sensed and closed at the next start-up (R327). -/
def State.emergencyClose (s : State) : State :=
  let s := { s with fab.noOpen := true, nv.emergency := true }
  s.closeAll (List.range 2048) (s.now + 60) true

/-- VLATCH below 3.0 V for 1 µs, or VDD_TILE of tile 0 or 9 below its limit (R328). -/
def doEmergencyClose (s : State) : State := s.emergencyClose

end Sys2Proof.Machine
end

