-- ==== Sys2Proof/Machine/Monitor.lean ====
section
/-!
DEFINITION. Sys2Proof/Machine/Monitor.lean: monitor conversion ("Monitor conversion"): sequences and their checks, bank and tap readouts,
samples, slices and the rotating spare, triggers, SYNC_OUT, calibration holds, the anchor converter, the loss check of R58 and the MC
registers. Times of a sequence are counted in half nanoseconds, since a conversion takes 62.5 ns.
-/
namespace Sys2Proof.Machine

/-! ## Refusals -/

/-- A refused MC write, COMMIT, START or ENABLE (R339). -/
def State.mcRefuse (s : State) (t code : Nat) : State := s.refuse (R.TILE_MC_CTL_REFUSE t) (Ev.conversionRefusal t) code

/-- An accepted one returns REFUSE to 0. -/
def State.mcTaken (s : State) (t : Nat) : State := s.put (R.TILE_MC_CTL_REFUSE t) 0

/-! ## Slices (R342) -/

/-- Active slices of a tile, in ascending index. -/
def State.slices (s : State) (t : Nat) : List Nat := (List.range 13).filter fun k => s.get (R.TILE_MC_SLICE_STATE t k) == 0

/-- T_RD in half nanoseconds for a number of active slices (R336). -/
def readTime (n : Nat) : Nat := ((512 + max 1 n - 1) / max 1 n + 1) * 125

/-! ## Sequence lists (R336 to R339) -/

/-- Entries of a list that are in use, with their numbers. -/
def seqEntries (l : List Word) : List (Nat × Word) := ((List.range l.length).zip l).filter fun x => bit x.2 31

/-- TINT of an entry of a list in half nanoseconds; entry 16 is the tap readout. -/
def seqTint (l : List Word) (tap : Word) (i : Nat) : Nat := bits (if i = 16 then tap else l.getD i 0) 9 0 * 125

/-- The tap readout follows the run (R349). -/
def State.tapsOn (s : State) (t : Nat) : Bool := (t == 0 || t == 9) && s.flag (R.TILE_MC_TAP_CFG_TAP_EN t)

/-- The run of a frame with FN mod 3 = `r`, or of a triggered sequence (R337, R350). -/
def State.seqRunOf (s : State) (t : Nat) (l : List Word) (r : Option Nat) : List Nat :=
  ((seqEntries l).filter fun x => match r with
    | none => true
    | some k => !bit x.2 30 || bits x.2 29 28 == k).map (·.1) ++ (if s.tapsOn t then [16] else [])

/-- `fits` of R338 for a period in 25 µs units. -/
def State.seqFits (s : State) (t : Nat) (l : List Word) (p : Nat) : Bool :=
  let rd := readTime (s.slices t).length
  let tint := seqTint l (s.rd (R.TILE_MC_TAP_CFG t))
  (List.range 3).all fun r => match s.seqRunOf t l (some r) with
    | [] => true
    | x :: xs =>
      ((List.range xs.length).zip xs).all (fun y => decide (tint y.2 ≤ tint x + (y.1 + 1) * rd)) &&
        decide (tint x + (xs.length + 1) * rd ≤ p * 50_000)

/-- The shadow list. -/
def State.shadowList (s : State) (t : Nat) : List Word := (List.range 16).map fun n => s.rd (R.TILE_MC_SEQ t n)

/-- The first failing condition of R339. -/
def State.seqCheck (s : State) (t : Nat) : Option Nat :=
  let l := s.shadowList t
  let n := (seqEntries l).length
  let ok (w : Word) : Bool := decide (4 ≤ bits w 9 0) && decide (bits w 9 0 ≤ 640) &&
    (if bit w 30 then decide (bits w 29 28 ≤ 2) else bits w 29 28 == 0)
  if !((l.take n).all fun w => bit w 31 && ok w) then some Code.MC_SEQ_INVALID
  else if !s.flag (R.TILE_MC_CTL_SRC t) && !(List.range 16).all fun b => ((l.take n).filter fun w => bits w 19 16 == b).length == 1 then
    some Code.MC_SEQ_COVER
  else if s.seqFits t l (s.get (R.TILE_LP_PERIOD_P_USE t)) && s.seqFits t l (s.get (R.TILE_LP_PERIOD_P_SET t)) then none
  else some Code.MC_SEQ_BUDGET

/-- The active list. -/
def State.activeList (s : State) (t : Nat) : List Word := (List.range 16).map fun n => s.rd (R.TILE_MC_SEQA t n)

/-- A waiting list becomes the active one (R339). -/
def State.takeList (s : State) (t : Nat) : State :=
  match (s.tile t).listWait with
  | none => s
  | some l =>
    let s := ((List.range 16).zip l).foldl (fun s x => s.wr (R.TILE_MC_SEQA t x.1) x.2) s
    s.setTile t { s.tile t with listWait := none }

/-! ## Sequences in progress (R336, R341) -/

/-- C_i of position `i` in half nanoseconds. -/
def State.convAt (s : State) (t i : Nat) : Nat :=
  let x := s.tile t
  x.seqStart * 2 + seqTint x.seqList (s.rd (R.TILE_MC_TAP_CFG t)) (x.seqRun.headD 0) + i * readTime x.seqSlices.length

/-- End of the readout of position `i` in half nanoseconds. -/
def State.convEnd (s : State) (t i : Nat) : Nat := s.convAt t (i + 1)

/-- Positions of the sequence whose readouts end by an instant (R341). -/
def State.fitting (s : State) (t end_ : Nat) : Nat :=
  ((List.range (s.tile t).seqRun.length).filter fun i => decide (s.convEnd t i ≤ end_ * 2)).length

/-- A sequence starts at an instant. -/
def State.seqBegin (s : State) (t at_ : Nat) (trig : Bool) (fnl : Nat) : State :=
  let l := s.activeList t
  s.setTile t { s.tile t with seqStart := at_, seqList := l, seqSlices := s.slices t, seqNext := 0, seqTrig := trig, seqFn := fnl,
                              seqRun := s.seqRunOf t l (if trig then none else some (s.get (whole (R.TILE_LP_FN t)) % 3)) }

/-- A sequence is in progress now. -/
def State.seqBusy (s : State) (t : Nat) : Bool :=
  let n := (s.tile t).seqRun.length
  decide (0 < n) && decide (s.now * 2 < s.convAt t n)

/-- A slice retired (R344, R485): out of service, with its event and report. -/
def State.retireSlice (s : State) (t k : Nat) : State :=
  ((s.put (R.TILE_MC_SLICE_STATE t k) 2).ev (Ev.sliceRetired t)).ev Ev.faultReport

/-- NA follows the slices. -/
def State.showSlices (s : State) (t : Nat) : State := s.put (R.TILE_MC_STS_NA t) (s.slices t).length

/-- An active slice found bad without a spare retires at a frame edge; when the active sequence no longer fits, LAW_SET goes to HOLD and the
tile's cells become watched (R344, R485). -/
def State.retireAtEdge (s : State) (t : Nat) : State :=
  match (s.tile t).retireDue with
  | none => s
  | some k =>
    let s := ((s.setTile t { s.tile t with retireDue := none }).retireSlice t k).showSlices t
    let l := s.activeList t
    if s.seqFits t l (s.get (R.TILE_LP_PERIOD_P_USE t)) && s.seqFits t l (s.get (R.TILE_LP_PERIOD_P_SET t)) then s
    else
      let hold := ((List.range 3).find? fun k => lawId (s.image t true) k == 2).getD 1
      (s.put (R.TILE_LP_UCODE_LAW_SET t) hold).autoReports (tileCells t)

/-- Calibration holds of a bank start and end at a frame edge (R353). -/
def State.holdEdge (s : State) (t : Nat) : State :=
  let on := s.flag (R.TILE_MC_HOLD_HOLD t)
  if on == s.flag (R.TILE_MC_HOLD_USE t) then s
  else
    let s := s.put (R.TILE_MC_HOLD_USE t) (b2n on)
    if on then s
    else s.setTile t { s.tile t with settle := (s.tile t).settle ++ (List.range 512).map (512 * s.get (R.TILE_MC_HOLD_BANK t) + ·) }

/-- The end of a frame's conversions at a frame edge (R341): positions not converted are counted, with the event at the first truncated
frame of a run. -/
def State.truncEdge (s : State) (t f : Nat) : State :=
  let x := s.tile t
  let lost := x.seqRun.length - s.fitting t f
  let cut := decide (0 < lost)
  let s := s.setTile t { x with truncRun := cut, seqRun := [] }
  let s := (s.countN (whole (R.TILE_MC_CNT t 2)) lost).put (R.TILE_MC_STS_TRUNC t) (b2n cut)
  if cut && !x.truncRun then s.ev (Ev.readoutTruncated t) else s

/-- Monitor conversion at a frame edge: truncation, retirement, hold and list changes, then the start of the frame's sequence (R337, R341,
R361). -/
def State.seqEdge (s : State) (t f : Nat) : State :=
  let s := (((s.truncEdge t f).retireAtEdge t).holdEdge t)
  if s.flag (R.TILE_MC_CTL_SRC t) then s
  else
    let s := s.takeList t
    if s.flag (R.TILE_MC_CTL_ENABLE t) then s.seqBegin t f false (s.get (whole (R.TILE_LP_FN t)) % 256) else s

/-! ## Samples (R335, R345 to R348) -/

/-- The correction entry of a channel and gain for a conversion that starts at half-nanosecond instant `at2` (R345). -/
def State.corrFor (s : State) (t idx at2 : Nat) : Word :=
  let x := s.tile t
  x.corrWait.foldl (fun v w => if w.1 = idx ∧ (w.2.2 + 100) * 2 ≤ at2 then w.2.1 else v) (Tbl.getD x.corr idx 0x4000_0000)

/-- The entry as it reads: the last one written. -/
def State.corrRead (s : State) (t idx : Nat) : Word :=
  let x := s.tile t
  x.corrWait.foldl (fun v w => if w.1 = idx then w.2.1 else v) (Tbl.getD x.corr idx 0x4000_0000)

/-- Corrected sample of a 14-bit code: its value, OVR and UNR (R345, R346). -/
def sampleOf (code : Int) (corr : Word) : Int × Bool × Bool :=
  let v := 4 * code - sx 16 (bits corr 15 0)
  let r := roundDiv (v * bits corr 31 16) 16_384
  if code = 8191 ∨ 32_767 < r then (32_767, true, false)
  else if code = -8192 ∨ r < -32_768 then (-32_768, false, true)
  else (r, false, false)

/-- Gain code of element channel `ch` in an entry's window (R335): with ROLE the unwanted monitor takes GAIN and the wanted one ×1, by the
commanded state at the start of the window. -/
def State.gainOf (s : State) (t ch : Nat) (w : Word) (start : Nat) : Nat :=
  if bit w 27 then
    let e := tileFirst t + ch / 2
    let now := s.cell (posOf e)
    let was := if start < (s.elem e).since - s.gb + 100 ∧ (s.elem e).since < s.now then !now else now
    if (ch % 2 == 1) == wantedX e was then 0 else bits w 26 25
  else bits w 26 25

/-- One conversion: channel `ch` posted with its flags; SETTLE follows an overload on the slice and on the integrator (R347, R348). -/
def State.convert (s : State) (t ch gain slice at2 : Nat) (code : Int) (cal : Bool) : State :=
  let x := s.tile t
  let (v, ovr, unr) := sampleOf code (s.corrFor t (4 * ch + gain) at2)
  let settle := x.settle.contains ch || x.sliceSettle.contains slice
  let w : Word := BitVec.ofNat 32 (tc 16 v * 2 ^ 16 + b2n ovr * 2 ^ 15 + b2n unr * 2 ^ 14 + b2n settle * 2 ^ 13 + b2n cal * 2 ^ 12 +
    gain % 4 * 2 ^ 10 + b2n x.seqTrig * 2 ^ 9 + x.seqFn % 256)
  let x := { x with settle := x.settle.filter (· != ch) ++ (if ovr then [ch] else []),
                    sliceSettle := x.sliceSettle.filter (· != slice) ++ (if ovr || unr then [slice] else []) }
  let x := if ch < 8192 then { x with smp := Tbl.set 0 x.smp ch w } else { x with taps := Tbl.set 0 x.taps (ch - 8192) w }
  let s := s.setTile t x
  let s := if ovr || unr then s.count (whole (R.TILE_MC_CNT t 0)) else s
  if settle then s.count (whole (R.TILE_MC_CNT t 1)) else s

/-- One readout of bank `b` at the sequence's next position: 512 conversions dealt to the active slices in turn (R342). -/
def State.readout (s : State) (t b : Nat) (gain : Nat → Nat) (codes : List Int) : State :=
  let x := s.tile t
  let at2 := s.convAt t x.seqNext
  let tint := seqTint x.seqList (s.rd (R.TILE_MC_TAP_CFG t)) (x.seqRun.getD x.seqNext 0)
  let cal := decide (b < 16) && s.heldBank t == some b
  let s := s.advanceTo ((s.convEnd t x.seqNext + 1) / 2)
  let n := max 1 x.seqSlices.length
  let s := (List.range 512).foldl (fun s j =>
    s.convert t (512 * b + j) (gain (512 * b + j)) (x.seqSlices.getD (j % n) 0) (at2 + j / n * 125) (codes.getD j 0) cal) s
  let span := ((at2 - tint) / 2, at2 / 2, x.seqStart)
  let y := s.tile t
  s.setTile t (if b < 16 then { y with seqNext := x.seqNext + 1, windows := Tbl.put y.windows b span }
    else { y with seqNext := x.seqNext + 1, tapWin := Tbl.put y.tapWin b span })

/-- The next position of the sequence, when its readout ends within the frame (R341). -/
def State.position (s : State) (t : Nat) : Option Nat :=
  let x := s.tile t
  if x.seqNext < s.fitting t (s.nextEdge t) then x.seqRun[x.seqNext]? else none

/-- The reference check that ends a readout of a tile without a spare (R485): `bad` tells that the slice in rotation lies outside the limits
of R344; sixteen in a row retire it at the next frame edge. -/
def State.refCheck (s : State) (t : Nat) (bad : Bool) : State :=
  if s.flag (R.TILE_MC_STS_SPARE_OK t) then s
  else
    let x := s.tile t
    let l := s.slices t
    let k := l.getD (x.refCount % max 1 l.length) 0
    let n := if bad then Tbl.getD x.refBad k 0 + 1 else 0
    s.setTile t { x with refCount := x.refCount + 1, refBad := Tbl.set 0 x.refBad k n, retireDue := if n = 16 then some k else x.retireDue }

/-- A bank readout of the sequence (R336). `codes` are the 512 codes of its conversions. -/
def doBankReadout (t : Fin 20) (codes : List (BitVec 14)) (refBad : Bool) (s : State) : State :=
  match s.position t.val with
  | none => s
  | some i =>
    if i = 16 then s
    else
      let x := s.tile t.val
      let w := x.seqList.getD i 0
      let start := (s.convAt t.val x.seqNext - bits w 9 0 * 125) / 2
      (s.readout t.val (bits w 19 16) (fun ch => s.gainOf t.val ch w start) (codes.map BitVec.toInt)).refCheck t.val refBad

/-! ## Taps, LOSS and the loss check (R55, R58, R349) -/

/-- Power at the ferrule of a port from its last tap sample, in 0.01 dBm; none where the sample is 0 or below. The tap ratio and coupler
loss of the port, recorded at manufacture, are a free value. -/
def State.tapPower (s : State) (k : Nat) : Option Int :=
  let w := Tbl.getD (s.tile (portTile k)).taps (k % 1024) 0
  let v := sx 16 (bits w 31 16)
  if v ≤ 0 then none else some (centiBel v.toNat (4 ^ bits w 11 10) + sx 32 (Config.free 6 k))

/-- The last tap window of a port. -/
def State.tapWindow (s : State) (k : Nat) : Option (Nat × Nat × Nat) := Tbl.look (s.tile (portTile k)).tapWin (16 + k % 1024 / 512)

/-- A tap window lies within the light of a circuit (R349). -/
def State.tapWhole (s : State) (i : Nat) (c : Ctx) (w : Nat × Nat × Nat) : Bool :=
  let (a, b) := s.lightSpan i c
  decide (a ≤ w.1) && decide (w.2.1 ≤ b)

/-- Elements of a path in plane `p` that carried PIN current in a window starting at `a`. -/
def State.pinCarriers (s : State) (p : Nat) (h : List Hop) (a : Nat) : Nat :=
  ((pathElems p h).filter fun e => (s.elem e).pinPh != 0 || decide (a < (s.elem e).pinOff)).length

/-- The tenth failing check sample (R58): the circuit goes to FAILED, its ports are blanked, and its latches close where nothing else uses
them. -/
def State.lossFails (s : State) (i : Nat) : State :=
  let c := s.ctx i
  let ks := ctxPorts i c
  let s := ((s.dropMove i).leaveLit i Cs.failed Code.CIR_LOSS_FAIL s.nextPers).evCtx Ev.circuitFailed i c.tenant Code.CIR_LOSS_FAIL
  let s := ks.foldl (fun s k => s.setEpo k true) s
  s.close (ks.filter fun k => !c.scheduled || !s.portNeeded i k)

/-- A check sample of a circuit from the tap readouts of one sequence start (R58). -/
def State.checkSample (s : State) (i : Nat) : State :=
  let c := s.ctx i
  match c.check, s.tapWindow (portKey false c.input), s.tapWindow (portKey true (ctxOut i)) with
  | some (from_, n), some wi, some wo =>
    if s.litNow i c && wi.2.2 == wo.2.2 && s.tapWhole i c wi && s.tapWhole i c wo && decide (from_ ≤ s.now) &&
        decide (s.now ≤ from_ + 10_000_000) then
      match s.tapPower (portKey false c.input) with
      | none => s
      | some pi =>
        if pi < -3000 then s
        else
          let pins := max (s.pinCarriers 0 c.hops (min wi.1 wo.1)) (s.pinCarriers 1 c.hops (min wi.1 wo.1))
          let fails := match s.tapPower (portKey true (ctxOut i)) with
            | none => true
            | some po => decide ((750 + 30 * pins : Nat) < pi - po)
          if !fails then s.setCtx i { c with check := none }
          else if n + 1 = 10 then s.lossFails i
          else s.setCtx i { c with check := some (from_, n + 1) }
    else s
  | _, _, _ => s

/-- LOSS and OUT_PWR of a circuit from its last whole tap windows (R55). -/
def State.lossUpdate (s : State) (i : Nat) : State :=
  let c := s.ctx i
  let ki := portKey false c.input
  let ko := portKey true (ctxOut i)
  match s.tapWindow ko with
  | none => s
  | some wo =>
    if s.litNow i c && c.state != Cs.moving && s.tapWhole i c wo then
      let out := s.tapPower ko
      let c := { c with outPwr := match out with
        | none => 0x8000
        | some v => tc 16 v }
      let c := match s.tapWindow ki with
        | none => c
        | some wi =>
          if s.tapWhole i c wi then { c with loss := match s.tapPower ki, out with
            | some a, some b => if a < -3000 then 0xFFFF else (max 0 (min 0xFFFE (a - b))).toNat
            | _, _ => 0xFFFF }
          else c
      s.setCtx i c
    else s

/-- The tap readout (R349): bank 16 in frames with FN even, bank 17 otherwise. Circuits on the bank take a check sample, and those of an
output bank their LOSS and OUT_PWR once per millisecond. -/
def doTapReadout (out : Bool) (codes : List (BitVec 14)) (refBad : Bool) (s : State) : State :=
  let t := sideTile out
  match s.position t with
  | none => s
  | some i =>
    if i = 16 then
      let x := s.tile t
      let b := 16 + x.seqFn % 2
      let gain := s.get (R.TILE_MC_TAP_CFG_TAP_GAIN t)
      let before := match Tbl.look x.tapWin b with
        | none => 0
        | some w => w.2.1
      let s := (s.readout t b (fun _ => gain) (codes.map BitVec.toInt)).refCheck t refBad
      let mine (c : Nat × Ctx) : Bool := (if out then ctxOut c.1 else c.2.input) / 512 == b - 16
      let ids := (s.cir.ctxs.filter mine).map (·.1)
      let s := if s.hubIn then ids.foldl State.checkSample s else s
      if out && decide (before / 1_000_000 < s.now / 1_000_000) && s.hubIn then ids.foldl State.lossUpdate s else s
    else s

/-! ## The rotating spare (R343, R344) -/

/-- After ROT_FRAMES frames the spare, measured as `ofs` (1/16 LSB) and `gerr` (0.001 %), becomes active or retires, and the next slice
becomes the spare, at the frame edge before the frame's sequence. -/
def doSpareRotation (t : Fin 20) (ofs gerr : BitVec 12) (s : State) : State :=
  let t := t.val
  if s.flag (R.TILE_MC_STS_SPARE_OK t) && decide (s.get (R.TILE_MC_ROT_ROT_FRAMES t) ≤ (s.tile t).rotFrames) then
    let s := s.advanceTo (s.nextEdge t)
    let s := s.setTile t { s.tile t with rotFrames := 0 }
    let k := s.get (R.TILE_MC_STS_SPARE t)
    let s := (s.put (R.TILE_MC_SLICE_OFS t k) ofs.toNat).put (R.TILE_MC_SLICE_GERR t k) gerr.toNat
    if 1024 < ofs.toInt.natAbs ∨ 1000 < gerr.toInt.natAbs then
      (((s.retireSlice t k).put (R.TILE_MC_STS_SPARE_OK t) 0).showSlices t).ev (Ev.spareLost t)
    else
      let next := (((List.range 12).map fun i => (k + 1 + i) % 13).find? fun j => s.get (R.TILE_MC_SLICE_STATE t j) != 2).getD k
      (((s.put (R.TILE_MC_SLICE_STATE t k) 0).put (R.TILE_MC_SLICE_STATE t next) 1).put (R.TILE_MC_STS_SPARE t) next).showSlices t
  else s

/-! ## TRIG_IN and SYNC_OUT (R350, R352) -/

/-- An edge of TRIG_IN at one tile. -/
def State.trigger (s : State) (t : Nat) : State :=
  if s.seqBusy t then (s.count (whole (R.TILE_MC_CNT t 3))).ev (Ev.triggerIgnored t)
  else
    let x := s.tile t
    let n := x.trigCount + 1
    ((s.setTile t { x with trigCount := n, trigT := s.now }).takeList t).seqBegin t (s.now + 20) true (n % 256)

/-- An edge of TRIG_IN: every tile whose sequences it starts and whose polarity it has. -/
def doTrigInEdge (falling : Bool) (s : State) : State :=
  (List.range 20).foldl (fun s t =>
    if s.flag (R.TILE_MC_CTL_ENABLE t) && s.flag (R.TILE_MC_CTL_SRC t) && s.flag (R.TILE_MC_CTL_TRIG_EDGE t) == falling then s.trigger t
    else s) s

/-- The next rise of SYNC_OUT: a grid point, or the start of a sequence of tile 0. -/
def doSyncOutPulse (s : State) : State :=
  if s.flag R.TILE_MC_SYNC_CFG_EN then
    let at_ := if s.flag R.TILE_MC_SYNC_CFG_SEL then (s.tile 0).seqStart else gridFrom (s.get R.TILE_MC_SYNC_CFG_SP * 25_000) s.now
    let last := match s.fab.syncOut with
      | none => 0
      | some x => x.1
    if s.flag R.TILE_MC_SYNC_CFG_SEL && ((s.tile 0).seqRun.isEmpty || at_ == last) then s
    else { s.advanceTo at_ with fab.syncOut := some (at_, at_ + s.get R.TILE_MC_SYNC_CFG_WIDTH * 10) }
  else s

/-! ## MC registers (R340, R345, R351 to R353, R359, R362) -/

/-- No element of the tile carries committed light or reads PROV or BELAY (R351). -/
def State.tileInUse (s : State) (t : Nat) : Bool := s.anyElem t 0 4096 State.inUse

/-- A write of `TILE_MC_CTL`: RWC fields, a clear of ENABLE and a change to SRC = 1 first; then the checks of R339 and, for ENABLE with SRC = 1,
of R351 (R362). -/
def mcCtlWrite (t : Nat) (v : Word) (s0 : State) : State :=
  let a := R.TILE_MC_CTL t
  let was := s0.flag (R.TILE_MC_CTL_ENABLE t)
  let on := bit v 0
  let direct := bit v 2 && !s0.flag (R.TILE_MC_CTL_SRC t)
  if was && s0.rwcHit a v then s0.mcRefuse t Code.MC_CFG_LOCKED
  else if was && !on && s0.flag (R.TILE_LP_CTL_ENABLE t) then s0.mcRefuse t Code.MC_TILE_IN_USE
  else if direct && s0.tileInUse t then s0.mcRefuse t Code.MC_TILE_IN_USE
  else
    let s := (s0.take a v).mcTaken t
    let s := if (!was && on) || bit v 1 then
        match s.seqCheck t with
        | some code => if !was && on then (s.put (R.TILE_MC_CTL_ENABLE t) 0).mcRefuse t code else s0.mcRefuse t code
        | none =>
          if !was && on && s.flag (R.TILE_MC_CTL_SRC t) && s.tileInUse t then (s.put (R.TILE_MC_CTL_ENABLE t) 0).mcRefuse t Code.MC_TILE_IN_USE
          else s.setTile t { s.tile t with listWait := some (s.shadowList t) }
      else s
    let s := if was && !on then s.setTile t { s.tile t with seqRun := [] } else s
    if s.flag (R.TILE_MC_CTL_SRC t) = s0.flag (R.TILE_MC_CTL_SRC t) then s else s0.crvChange s (tileCells t)

def doMcCtlWrite (t : Fin 20) (v : Word) (s : State) : State := mcCtlWrite t.val v s
def doMcCommit (t : Fin 20) (v : Word) (s : State) : State := if bit v 1 then mcCtlWrite t.val v s else s

/-- A write of an MC register whose RWC fields ENABLE locks: `TILE_MC_TAP_CFG` and `TILE_MC_ROT` (R362). -/
def mcCfgWrite (t a : Nat) (v : Word) (s : State) : State :=
  if s.flag (R.TILE_MC_CTL_ENABLE t) && s.rwcHit a v then s.mcRefuse t Code.MC_CFG_LOCKED else (s.take a v).mcTaken t

/-- A write of a shadow entry. -/
def mcSeqWrite (t n : Nat) (v : Word) (s : State) : State := (s.take (R.TILE_MC_SEQ t n) v).mcTaken t

/-- A write of `TILE_MC_HOLD` (R353). -/
def doMcHoldWrite (t : Fin 20) (v : Word) (s : State) : State :=
  if s.flag (R.TILE_MC_HOLD_USE t.val) && bits v 3 0 != s.get (R.TILE_MC_HOLD_BANK t.val) then s.mcRefuse t.val Code.MC_CFG_LOCKED
  else (s.take (R.TILE_MC_HOLD t.val) v).mcTaken t.val

/-- IDX advances by 1 at each write of DATA. -/
def State.corrNext (s : State) (t : Nat) : State := s.put (R.TILE_MC_CORR_ADDR_IDX t) (s.get (R.TILE_MC_CORR_ADDR_IDX t) + 1)

/-- Correction entries of a tile: gains of its element channels, and of its taps in tiles 0 and 9. -/
def corrEntries (t : Nat) : Nat := if t = 0 ∨ t = 9 then 36_864 else 32_768

/-- A write of `TILE_MC_CORR_DATA` (R345): the entry at IDX, for conversions that start at least 100 ns later. -/
def doCorrDataWrite (t : Fin 20) (v : Word) (s : State) : State :=
  let t := t.val
  let i := s.get (R.TILE_MC_CORR_ADDR_IDX t)
  let x := s.tile t
  let old := x.corrWait.filter fun w => decide (w.2.2 + 100 ≤ x.edge)
  let corr := old.foldl (fun m w => Tbl.set 0x4000_0000 m w.1 w.2.1) x.corr
  let wait := x.corrWait.filter fun w => !decide (w.2.2 + 100 ≤ x.edge)
  let wait := if i < corrEntries t then wait ++ [(i, v, s.now)] else wait
  ((s.setTile t { x with corr := corr, corrWait := wait }).corrNext t).mcTaken t

/-- A read of `TILE_MC_TRIG_T` HI: a snapshot of the stamp of the last accepted edge (R350). -/
def doMcTrigTSnapshot (t : Fin 20) (s : State) : State :=
  let v := Sys2Proof.Machine.sched (s.tile t.val).trigT
  let s := (s.put (R.TILE_MC_TRIG_T_HI_T t.val) (v / 2 ^ 32)).put (R.TILE_MC_TRIG_T_LO_T t.val) v
  { s with bus := s.rd (R.TILE_MC_TRIG_T_HI t.val) }

/-- A write of `TILE_MC_SYNC_CFG`: WIDTH 0, SP 0 and SP above 8 are discarded. -/
def mcSyncWrite (v : Word) (s : State) : State :=
  if bits v 15 8 = 0 ∨ bits v 7 4 = 0 ∨ 8 < bits v 7 4 then s else s.take R.TILE_MC_SYNC_CFG v

/-- A write of `TILE_LP_PERIOD`.P_SET (R250, R340, R231): range, budget, then the active sequence; P_USE follows at once while ENABLE reads
0, and otherwise from the next frame edge. -/
def doLpPeriodWrite (t : Fin 20) (v : Word) (s : State) : State :=
  let t := t.val
  let p := bits v 3 0
  if p < 1 ∨ 8 < p then s.lpRefuse t Code.CFG_PERIOD_RANGE
  else if s.budget250 t p (s.get (R.TILE_LP_CTL_NB t)) 0 = false then s.lpRefuse t Code.CFG_FRAME_BUDGET
  else if s.seqFits t (s.activeList t) p = false then s.lpRefuse t Code.MC_SEQ_BUDGET
  else
    let s := (s.take (R.TILE_LP_PERIOD t) v).lpTaken t
    if s.flag (R.TILE_LP_CTL_ENABLE t) then s.setTile t { s.tile t with periodDue := true } else s.put (R.TILE_LP_PERIOD_P_USE t) p

/-! ## The anchor converter (R358, R359) -/

/-- The window that MAINS_SEL chooses, in ns. -/
def mainsWindow (n : Nat) : Nat := if n = 0 then 20_000_000 else if n = 1 then 16_667_000 else 100_000_000

/-- The first failing condition of R359. -/
def State.anchorCheck (s : State) (t : Nat) (v : Word) : Option Nat :=
  let sel := bits v 27 24
  let idx := bits v 14 1
  if s.flag (R.TILE_MC_ANC_CTL_BUSY t) then some Code.MC_ANC_BUSY
  else if 6 < sel ∨ bits v 29 28 = 3 ∨ (sel = 3 ∧ 191 < idx) ∨ (sel = 4 ∧ 8191 < idx) ∨ (sel = 5 ∧ corrEntries t ≤ idx * 4) then
    some Code.MC_ANC_TARGET
  else if sel = 4 ∧ s.heldChannel t ≠ some (idx / 2) then some Code.MC_ANC_TARGET
  else if sel = 5 ∧ s.heldBank t ≠ some (idx / 512) then some Code.MC_ANC_TARGET
  else none

/-- A write of `TILE_MC_ANC_CTL` (R359). An accepted START runs 1 ms, the window, and 200 µs. -/
def ancCtlWrite (t : Nat) (v : Word) (s : State) : State :=
  if bit v 0 then
    match s.anchorCheck t v with
    | some code => s.mcRefuse t code
    | none =>
      let s := ((s.take (R.TILE_MC_ANC_CTL t) v).put (R.TILE_MC_ANC_CTL_BUSY t) 1).mcTaken t
      s.setTile t { s.tile t with anchor := some (s.now + 1_200_000 + mainsWindow (bits v 29 28)) }
  else (s.take (R.TILE_MC_ANC_CTL t) v).mcTaken t

def doAnchorStart (t : Fin 20) (v : Word) (s : State) : State := if bit v 0 then ancCtlWrite t.val v s else s

/-- The anchor converter posts its result (R359). -/
def doAnchorDone (t : Fin 20) (res : BitVec 24) (s : State) : State :=
  match (s.tile t.val).anchor with
  | none => s
  | some n =>
    let s := s.advanceTo n
    let s := s.setTile t.val { s.tile t.val with anchor := none }
    (((s.wr (R.TILE_MC_ANC_RES t.val) (BitVec.ofNat 32 (tc 32 res.toInt))).put (R.TILE_MC_ANC_CTL_BUSY t.val) 0).put
      (R.TILE_MC_ANC_CTL_DONE t.val) 1).ev (Ev.anchorDone t.val)

end Sys2Proof.Machine
end

