-- ==== Sys2Proof/Machine/Calibrate.lean ====
section
/-!
DEFINITION. Sys2Proof/Machine/Calibrate.lean: recalibration of the tiles, its holds, folds and deferrals, and the CAL registers with the
calibrated tables ("Anchor calibration and thermal management").
-/
namespace Sys2Proof.Machine

/-! ## Eligibility (R374, R375) -/

/-- Paths that keep an element from a hold: of circuits PLACED or ARMED, new paths of timed stages, and paths of the target of an armed
swap. -/
def State.busyPaths (s : State) : List (List Hop) :=
  ((s.cir.ctxs.filter fun c => c.2.state == Cs.placed || c.2.state == Cs.armed).map fun c => c.2.newHops) ++
  (match s.trv.journal with
    | [] => []
    | t :: _ => if t.timedNow then (t.stages.filter fun g => g.sstate == Ss.planned || g.sstate == Ss.inFlight).flatMap fun g =>
        g.moves.map fun m => path (s.ctx m.ctx).input (t.to m)
      else []) ++
  (match s.sch.swap with
    | some w => (match w.target with
      | some n => (s.entry n).circuits.map SchCir.hops
      | none => [])
    | none => [])

/-- Elements of a tile on those paths. -/
def State.busyElems (s : State) (t : Nat) : List Nat := (s.busyPaths.flatMap pathAll).filter fun e => tileOf e == t

/-- A monitor bank may be held. -/
def State.bankEligible (s : State) (t b : Nat) : Bool := (s.busyElems t).all fun e => e % 4096 / 256 != b

/-- A fast-drive channel's element lets it be held; `held` tells that the hold is in force already, which makes the element read STALE. -/
def State.channelEligible (s : State) (t q : Nat) (held : Bool) : Bool :=
  let e := tileFirst t + q / 2
  let st := s.status e
  !(s.busyElems t).contains e && (st == 0 || st == 3 || (held && st == 2)) && (s.elem e).pinPh == 0 && !s.cycling (posOf e) &&
    !s.touchedNow e && (s.elem e).prov.isNone

/-! ## Holds (R373 to R376, R380) -/

/-- The photodiodes of the bank held are reconnected at once, and each integrator's next sample settles (R353, R375). -/
def State.dropHold (s : State) (t : Nat) : State :=
  if s.flag (R.TILE_MC_HOLD_USE t) then
    let x := s.tile t
    let b := s.get (R.TILE_MC_HOLD_BANK t)
    ((s.put (R.TILE_MC_HOLD_HOLD t) 0).put (R.TILE_MC_HOLD_USE t) 0).setTile t
      { x with settle := x.settle ++ (List.range 512).map (512 * b + ·) }
  else s.put (R.TILE_MC_HOLD_HOLD t) 0

def State.recalOf (s : State) (t : Nat) : Option Recal := Tbl.look s.cal.recal t
def State.setRecal (s : State) (t : Nat) (r : Recal) : State := { s with cal.recal := Tbl.put s.cal.recal t r }

/-- The hold in force in a tile ends before its part is complete: counted, and the part starts again when it is eligible. -/
def State.abandon (s : State) (t : Nat) : State :=
  let s := (s.dropHold t).count (whole (R.CAL_CNT 2))
  match s.recalOf t with
  | none => s
  | some r => s.setRecal t { r with abandoned := r.abandoned + 1, started := none, held := none, since := s.now }

/-- A hold whose bank or channel is no longer eligible is abandoned (R375). -/
def State.settleHold (s : State) (t : Nat) : State :=
  let bank := s.flag (R.TILE_MC_HOLD_USE t) && !s.bankEligible t (s.get (R.TILE_MC_HOLD_BANK t))
  let chan := match s.recalOf t with
    | none => false
    | some r => match r.held with
      | none => false
      | some q => !s.channelEligible t q true
  if bank || chan then s.abandon t else s

/-- The tiles whose holds may be in force. -/
def State.settleHolds (s : State) : State :=
  (List.range 20).foldl (fun s t => if s.flag (R.TILE_MC_HOLD_USE t) || (s.recalOf t).isSome then s.settleHold t else s) s

/-- When the sync marks stop the tile ends its calibration hold and leaves its anchor converter idle (R380). -/
def State.holdsEnd (s : State) (t : Nat) : State :=
  let s := match s.recalOf t with
    | none => s
    | some r => if r.started.isSome || r.held.isSome then s.setRecal t { r with started := none, held := none, since := s.now } else s
  let s := s.dropHold t
  (s.setTile t { s.tile t with anchor := none }).put (R.TILE_MC_ANC_CTL_BUSY t) 0

/-- Length of one anchor conversion of the recalibration (R373). -/
def State.ancTime (s : State) (r : Recal) : Nat := 1_200_000 + mainsWindow (if r.full then 2 else s.get R.CAL_CTL_MAINS_SEL)

/-- Length of the hold of a bank in step 3 (R373): 64 zero frames, then for each gain the longer of a conversion and 512 frames. -/
def State.bankTime (s : State) (t : Nat) (r : Recal) : Nat :=
  64 * s.period t + 4 * max (s.ancTime r) (1_000_000 + 512 * s.period t)

/-- Banks of step 3: 16, and two tap banks in tiles 0 and 9. -/
def calBanks (t : Nat) : Nat := if t = 0 ∨ t = 9 then 18 else 16

/-- Fast-drive channels measured per bank (R373). -/
def State.fdCount (s : State) (r : Recal) : Nat := if r.full then s.get R.CAL_LIM_FD_FULL else s.get R.CAL_LIM_FD_QUICK

/-- The next part of a step. -/
def Recal.next (r : Recal) (now : Nat) : Recal :=
  { r with part := r.part + 1, count := 0, abandoned := 0, since := now, started := none, held := none }

/-- The next eligible channel of a bank in rotation. -/
def State.nextChannel (s : State) (t b : Nat) : Option Nat :=
  ((List.range 512).map fun i => 512 * b + (Tbl.getD s.cal.fdNext (16 * t + b) 0 + i) % 512).find? fun q => s.channelEligible t q false

/-- The rotation moves past a channel. -/
def State.pastChannel (s : State) (t q : Nat) : State :=
  { s with cal.fdNext := Tbl.put s.cal.fdNext (16 * t + q / 512) ((q + 1) % 512) }

/-- A part in progress that is complete at a frame edge ends there (R373). -/
def State.partEnds (s : State) (t f : Nat) (r : Recal) : State :=
  match r.started with
  | none => s
  | some n =>
    if r.step = 3 then
      if n + s.bankTime t r ≤ f then (if r.part < 16 then s.dropHold t else s).setRecal t (r.next f) else s
    else match r.held with
      | none => s
      | some q =>
        if n + 2 * s.ancTime r ≤ f then
          let r := { r with done := r.done ++ [q], count := r.count + 1, abandoned := 0, since := f, started := none, held := none }
          (s.pastChannel t q).setRecal t (if s.fdCount r ≤ r.count then r.next f else r)
        else s

/-- A part that waits starts at a frame edge at which it is eligible (R374, R375). -/
def State.partStarts (s : State) (t f : Nat) (r : Recal) : State :=
  if r.started.isSome then s
  else if r.step = 3 ∧ r.part < calBanks t then
    if 16 ≤ r.part then s.setRecal t { r with started := some f }
    else if s.bankEligible t r.part && !s.flag (R.TILE_MC_HOLD_HOLD t) && !s.flag (R.TILE_MC_HOLD_USE t) then
      (s.wr (R.TILE_MC_HOLD t) (BitVec.ofNat 32 (3 * 2 ^ 30 + r.part))).setRecal t { r with started := some f }
    else s
  else if r.step = 4 ∧ r.part < 16 then
    match s.nextChannel t r.part with
    | none => s
    | some q => s.setRecal t { r with started := some f, held := some q }
  else s

/-- The recalibration of a tile at a frame edge. -/
def State.recalEdge (s : State) (t f : Nat) : State :=
  match s.recalOf t with
  | none => s
  | some r =>
    if r.step = 3 ∨ r.step = 4 then
      let s := s.partEnds t f r
      match s.recalOf t with
      | none => s
      | some r => s.partStarts t f r
    else s

/-- A bank or channel abandoned ABANDON_MAX times, or not eligible for 10 s, is left out (R376). -/
def doCalDefer (t : Fin 20) (s : State) : State :=
  let t := t.val
  match s.recalOf t with
  | none => s
  | some r =>
    if (r.step = 3 ∧ r.part < 16 ∨ r.step = 4 ∧ r.part < 16) ∧ r.started = none ∧ s.ctrlUp then
      let often := decide (s.get R.CAL_LIM_ABANDON_MAX ≤ r.abandoned)
      let s := if often then s else s.advanceTo (r.since + 10_000_000_000)
      let s := match (if r.step = 4 && often then s.nextChannel t r.part else none) with
        | some q =>
          let r := { r with count := r.count + 1, abandoned := 0, since := s.now }
          (s.pastChannel t q).setRecal t (if s.fdCount r ≤ r.count then r.next s.now else r)
        | none => s.setRecal t { r.next s.now with skipped := r.skipped ++ [r.part] }
      (((s.count (R.CAL_TILE_0_DEFER t)).put (R.CAL_TILE_1_REASON t) Code.CAL_DEFERRED).count (whole (R.CAL_CNT 3))).ev Ev.stepDeferred
        Code.CAL_DEFERRED
    else s

/-! ## Triggers and starts (R372, R379) -/

def calIdle : Nat := 0
def calQueued : Nat := 1
def calQuick : Nat := 2
def calFull : Nat := 3
def calFault : Nat := 4

/-- A trigger of a quick recalibration; ignored for a tile queued or running, and for automatic ones while a sweep runs. -/
def State.calTrigger (s : State) (t : Nat) (auto : Bool) : State :=
  if s.cal.queue.contains t || (s.recalOf t).isSome || (auto && s.flag R.CAL_SWEEP_RUN) then s
  else { s.put (R.CAL_TILE_0_STATE t) calQueued with cal.queue := s.cal.queue ++ [t] }

/-- AGE_MAX hours after the tile's last completed recalibration (R372). -/
def doCalAgeTrigger (t : Fin 20) (s : State) : State :=
  match Tbl.look s.cal.lastDone t.val with
  | none => s
  | some n =>
    if s.flag R.CAL_CTL_ENABLE && s.ctrlUp && !s.cal.queue.contains t.val && (s.recalOf t.val).isNone && !s.flag R.CAL_SWEEP_RUN then
      (s.advanceTo (n + s.get R.CAL_LIM_AGE_MAX * 3_600_000_000_000)).calTrigger t.val true
    else s

/-- A junction reading more than CAL_DT from T_CAL triggers (R372). -/
def State.calDrift (s : State) (t : Nat) (reading : Int) : State :=
  let d := reading - sx 16 (s.get (R.CAL_TILE_0_T_CAL t))
  if s.flag R.CAL_CTL_ENABLE && s.ctrlUp && (Tbl.look s.cal.lastDone t).isSome && decide (s.get R.CAL_CTL_CAL_DT * 10 < d.natAbs) then
    s.calTrigger t true
  else s

/-- A recalibration begins at its step 1. -/
def State.recalBegin (s : State) (t : Nat) (full : Bool) : State :=
  ((s.setRecal t ⟨full, 1, 0, 0, 0, s.now, none, none, [], [], 0⟩).put (R.CAL_TILE_0_STATE t) (if full then calFull else calQuick)).put
    (R.CAL_TILE_0_STEP t) 1

/-- The next recalibration starts (R372, R379): the sweep's tile, one at a time, or the head of the queue while fewer than CAL_PAR quick
ones run. -/
def doRecalStart (s : State) : State :=
  if s.hubIn && !s.flag R.THM_STS_SHUTDOWN then
    let k := s.get R.CAL_SWEEP_TILE
    if s.flag R.CAL_SWEEP_RUN && (s.recalOf k).isNone then s.recalBegin k true
    else match s.cal.queue with
      | [] => s
      | t :: r =>
        if (s.cal.recal.filter fun x => !x.2.full).length < s.get R.CAL_CTL_CAL_PAR && (s.recalOf t).isNone then
          ({ s with cal.queue := r }.recalBegin t false).ev Ev.recalibrationStarted
        else s
  else s

/-- The sweep goes on to its next tile, or ends after tile 19 (R379). -/
def State.sweepNext (s : State) (t : Nat) (complete : Bool) : State :=
  if s.flag R.CAL_SWEEP_RUN && s.get R.CAL_SWEEP_TILE == t then
    let s := if complete then s.put ⟨R.CAL_SWEEP, t, t⟩ 1 else s
    if t < 19 then s.put R.CAL_SWEEP_TILE (t + 1) else (s.put R.CAL_SWEEP_RUN 0).count (whole (R.CAL_CNT 1))
  else s

/-! ## Trims and results (R366, R367, R373, R377) -/

/-- Key of a table word: tile, table and address. -/
def tblKey (t table addr : Nat) : Nat := t * 2 ^ 18 + table * 2 ^ 16 + addr

/-- A table word put in force. -/
def State.putTbl (s : State) (k : Nat) (w : Word) : State := { s with cal.tables := Tbl.put s.cal.tables k w }

/-- A trim set to `v` steps, at most ±2,047; beyond, the end stop with EV 91, and the report of a drive or integrator bank (R366, R484). -/
def State.setTrim (s : State) (t i : Nat) (v : Int) : State :=
  let c := max (-2047) (min 2047 v)
  let stop := decide (c ≠ v)
  let s := s.putTbl (tblKey t 2 i) (BitVec.ofNat 32 (b2n stop * 2 ^ 31 + tc 12 c))
  if stop then
    let s := ((s.put (R.CAL_TILE_1_REASON t) Code.CAL_TRIM_LIMIT).ev Ev.calibrationFault Code.CAL_TRIM_LIMIT).ev Ev.faultReport
    if i < 32 then s.autoReports (bankCells t (i % 16)) else s
  else s

/-- The results of a completed step (R373): trims of its index range, and table words of the banks and channels that it measured. -/
def State.stepResults (s : State) (t : Nat) (r : Recal) (res : CalResult) : State :=
  let trimOk (i : Nat) : Bool := match r.step with
    | 2 => i == 34
    | 3 => decide (16 ≤ i) && decide (i < 16 + calBanks t) && !r.skipped.contains (i - 16)
    | 4 => decide (i < 16) && r.done.any (· / 512 == i)
    | 5 => i == 35
    | 6 => i == 36
    | _ => false
  let s := (res.trims.filter fun x => trimOk x.1).foldl (fun s x => s.setTrim t x.1 x.2) s
  if r.step = 3 then
    let ws := res.words.filter fun x => decide (x.1 < corrEntries t) && !r.skipped.contains (x.1 / 2048)
    s.setTile t { s.tile t with corrWait := (s.tile t).corrWait ++ ws.map fun x => (x.1, x.2, s.now) }
  else if r.step = 4 then (res.words.filter fun x => r.done.contains x.1 && decide (x.1 < 8192)).foldl (fun s x => s.putTbl (tblKey t 1 x.1) x.2) s
  else s

/-- The first fold of R377 on one element: INTEG goes into both state phases. -/
def State.foldInteg (s : State) (e : Nat) : State :=
  let x := s.elem e
  let r := x.out.getD x.toElemRec
  if s.status e = 0 ∧ r.ageH ≤ bits (s.tile (tileOf e)).use.dith 31 24 then
    let k := tblKey (tileOf e) 0 (e % 4096 * 8)
    let add (w : Word) : Word := BitVec.ofInt 32 (sx 32 w.toNat + r.integ)
    let s := (s.putTbl k (add (s.tblWord e 0))).putTbl (k + 1) (add (s.tblWord e 1))
    s.setElem e { x with integ := 0, out := x.out.map fun o => { o with integ := 0 } }
  else s

/-- The switching code of an element before its trim (R186, R242), on the arm of its switching phase. -/
def State.switchCode (s : State) (e : Nat) : Nat :=
  let ph := s.phiNow e (!(s.elem e).home) - s.phiNow e (s.elem e).home
  let c := s.pinCodes e ph 0
  max c.1 c.2

/-- The second fold of R377: a trimmed element's PIN currents are scaled by (c + PIN_TRIM) / c, rounded to nearest. -/
def State.foldPin (s : State) (e : Nat) : State :=
  let x := s.elem e
  let r := x.out.getD x.toElemRec
  let c := s.switchCode e
  if r.trimmed ∧ 0 < c then
    let scale (v : Nat) : Nat := (max 0 (min 65_535 (roundDiv ((v : Int) * (c + r.pinTrim)) c))).toNat
    let s := (List.range 4).foldl (fun s i =>
      let w := s.tblWord e (4 + i)
      s.putTbl (tblKey (tileOf e) 0 (e % 4096 * 8 + 4 + i)) (BitVec.ofNat 32 (scale (bits w 31 16) * 2 ^ 16 + scale (bits w 15 0)))) s
    let f (o : ElemRec) : ElemRec := { o with pinTrim := 0, trimmed := false, trimRun := 0 }
    s.setElem e { x with toElemRec := f x.toElemRec, out := x.out.map f }
  else s

/-- A recalibration leaves its tile (R377, R392). -/
def State.recalLeaves (s : State) (t state : Nat) : State :=
  (({ s with cal.recal := Tbl.del s.cal.recal t }.put (R.CAL_TILE_0_STATE t) (if s.cal.queue.contains t then calQueued else state)).put
    (R.CAL_TILE_0_STEP t) 0)

/-- Step 7 (R377): both folds at one frame edge, then T_CAL, IDLE, EV 89 and the sweep's next tile. -/
def State.foldsDone (s : State) (t : Nat) (r : Recal) : State :=
  let es := (s.elemsOf t).map (·.1)
  let s := es.foldl State.foldPin (es.foldl State.foldInteg s)
  let s := ((s.recalLeaves t calIdle).put (R.CAL_TILE_0_T_CAL t) (tc 16 r.temp)).ev Ev.recalibrationCompleted
  let s := { s with cal.lastDone := Tbl.put s.cal.lastDone t s.now }
  let s := if r.full then s else s.count (whole (R.CAL_CNT 0))
  s.sweepNext t true

/-- The anchor self-check fails (R367): the recalibration stops, every correction stands, and the tile is reported (R484). -/
def State.anchorFault (s : State) (t : Nat) : State :=
  let s := ((s.recalLeaves t calFault).put (R.CAL_TILE_1_REASON t) Code.CAL_ANCHOR_FAULT).ev Ev.calibrationFault Code.CAL_ANCHOR_FAULT
  ((s.put ⟨R.GLB_STS, t, t⟩ 1).ev Ev.faultReport).sweepNext t false

/-- A step of a tile's recalibration completes (R373). Steps 3 and 4 complete when every bank has been measured or deferred, step 7 at a
frame edge outside G0 to E of every transition. -/
def doRecalStepDone (t : Fin 20) (res : CalResult) (s : State) : State :=
  let t := t.val
  match s.recalOf t with
  | none => s
  | some r =>
    if s.hubIn = false then s
    else
      let next (s : State) : State :=
        let k := if r.step = 5 ∧ r.full = false then 7 else r.step + 1
        (s.setRecal t { r with step := k, part := 0, count := 0, abandoned := 0, since := s.now, started := none, held := none, skipped := [],
                               done := [] }).put (R.CAL_TILE_0_STEP t) k
      let conversions (n : Nat) : State := s.advanceTo (r.since + n * s.ancTime r)
      match r.step with
      | 1 =>
        let s := conversions 3
        if res.ok then (next s).setRecal t { ((next s).recalOf t).getD r with temp := sx 16 (s.get (R.TILE_HK_VAL_VALUE t 136)) }
        else s.anchorFault t
      | 2 => next ((conversions (if t = 0 ∨ t = 9 then 8 else 4)).stepResults t r res)
      | 3 => if r.part < calBanks t then s else next (s.stepResults t r res)
      | 4 => if r.part < 16 then s else next (s.stepResults t r res)
      | 5 => next ((conversions 8).stepResults t r res)
      | 6 => next ((conversions 128).stepResults t r res)
      | _ =>
        let f := s.nextEdge t
        if s.fab.trans.any fun tr => decide (1 ≤ tr.phase) && tr.loads.any fun x => tileOfPos 0 x.1 == t || tileOfPos 1 x.1 == t then s
        else (s.advanceTo f).foldsDone t r

/-- Every running recalibration and the sweep end (R392). -/
def State.calAbort (s : State) : State :=
  let s := s.cal.recal.foldl (fun s x => (s.dropHold x.1).recalLeaves x.1 calIdle) s
  s.put R.CAL_SWEEP_RUN 0

/-- After a control-domain reset each interrupted recalibration starts again at step 1 (R379). -/
def State.calRestart (s : State) : State := s.cal.recal.foldl (fun s x => (s.dropHold x.1).recalBegin x.1 x.2.full) s

/-! ## CAL registers (R371, R393) -/

def State.calRefuse (s : State) (code : Nat) : State := s.refuse R.CAL_CTL_REFUSE Ev.calibrationOrThermalRefusal code
def State.calTaken (s : State) : State := s.put R.CAL_CTL_REFUSE 0

/-- The check of `CAL_CTL`.ENABLE. -/
def calCheck (s : State) : Option Nat :=
  let dt := s.get R.CAL_CTL_CAL_DT
  let par := s.get R.CAL_CTL_CAL_PAR
  if dt < 5 ∨ 100 < dt ∨ par < 1 ∨ 4 < par ∨ s.get R.CAL_CTL_MAINS_SEL = 3 then some Code.CAL_CONFIG else none

/-- A write of `CAL_CTL` (R393). -/
def doCalCtlWrite (v : Word) (s : State) : State :=
  s.calTaken.ctlWrite R.CAL_CTL R.CAL_CTL_ENABLE R.CAL_CTL_REFUSE Ev.calibrationOrThermalRefusal Code.CAL_CONFIG calCheck v

/-- A write of `CAL_LIM`, RWC throughout. -/
def calLimWrite (v : Word) (s : State) : State :=
  s.calTaken.lockedWrite R.CAL_LIM R.CAL_CTL_ENABLE R.CAL_CTL_REFUSE Ev.calibrationOrThermalRefusal Code.CAL_CONFIG v

/-- A write of `CAL_CMD` (R372, R379, R392, R393). -/
def calCmdWrite (v : Word) (s : State) : State :=
  let t := bits v 12 8
  let go := bit v 0
  if go && (s.flag R.CAL_SWEEP_RUN || (!bit v 1 && (s.cal.queue.contains t || (s.recalOf t).isSome))) then s.calRefuse Code.CAL_BUSY
  else if go && decide (19 < t) then s.calRefuse Code.CAL_CONFIG
  else
    let s := (s.take R.CAL_CMD v).calTaken
    let s := if bit v 2 then s.calAbort else s
    if go then
      if bit v 1 then (s.wr R.CAL_SWEEP (BitVec.ofNat 32 (2 ^ 31))).ev Ev.recalibrationStarted else s.calTrigger t false
    else s

def doCalGo (v : Word) (s : State) : State := if bit v 0 then calCmdWrite v s else s
def doCalAbort (v : Word) (s : State) : State := if bit v 2 then calCmdWrite v s else s

/-- The word of a table as the host reads it: a write that waits for the frame edge is shown; a trim never set reads 0. -/
def State.tblRead (s : State) (t table addr : Nat) : Word :=
  let k := tblKey t table addr
  match Tbl.look (s.tile t).tblWait k with
  | some w => w
  | none => match Tbl.look s.cal.tables k with
    | some w => w
    | none => if table = 2 then 0 else BitVec.ofNat 32 (Config.free 1 k)

/-- The limits of R368 on a word of an element record, with the other words as they read. -/
def State.recordOk (s : State) (t addr : Nat) (v : Word) : Bool :=
  let w := addr % 8
  let word (i : Nat) : Word := if i = w then v else s.tblRead t 0 (addr / 8 * 8 + i)
  let is := [4, 5, 6, 7].flatMap fun i => [bits (word i) 31 16, bits (word i) 15 0]
  match w with
  | 0 | 1 => true
  | 2 => decide (200 ≤ bits v 15 0) && decide (bits v 15 0 ≤ 2000)
  | 3 => decide (36_045 ≤ bits v 31 16) && decide (2 * (sx 16 (bits v 15 0)).natAbs ≤ bits v 31 16)
  | _ => (is.zip (is.drop 1)).all (fun x => decide (x.1 < x.2)) && decide (is.getD 7 0 ≤ 32_000)

/-- The first failing condition of R371. -/
def State.tblCheck (s : State) (t table addr : Nat) (v : Word) : Option Nat :=
  if table = 0 then
    let st := s.status (tileFirst t + addr / 8)
    if !s.recordOk t addr v then some Code.CAL_CONFIG
    else if addr % 8 ≠ 2 ∧ st ≠ 3 then some Code.CAL_TABLE_LOCKED
    else none
  else
    let st := s.status (tileFirst t + addr / 2)
    if (s.fdch (fdKey t addr)).active ≠ 0 ∨ (st ≠ 0 ∧ st ≠ 3) then some Code.CAL_TABLE_LOCKED else none

/-- ADDR advances at each access of `CAL_TBL_DATA`. -/
def State.tblNext (s : State) : State := s.put R.CAL_TBL_SEL_ADDR (s.get R.CAL_TBL_SEL_ADDR + 1)

/-- The word that `CAL_TBL_SEL` names lies in a table. -/
def State.tblNamed (s : State) : Bool :=
  let addr := s.get R.CAL_TBL_SEL_ADDR
  s.get R.CAL_TBL_SEL_TILE < 20 && (match s.get R.CAL_TBL_SEL_TBL with
    | 0 => decide (addr < 32_768)
    | 1 => decide (addr < 8192)
    | 2 => decide (addr < 37)
    | _ => false)

/-- A write of `CAL_TBL_DATA` (R371): in force from the tile's next frame edge. Trims are read-only. -/
def doCalTableWrite (v : Word) (s : State) : State :=
  let t := s.get R.CAL_TBL_SEL_TILE
  let table := s.get R.CAL_TBL_SEL_TBL
  let addr := s.get R.CAL_TBL_SEL_ADDR
  if s.tblNamed && decide (table < 2) then
    match s.tblCheck t table addr v with
    | some code => (s.calRefuse code).tblNext
    | none => ((s.setTile t { s.tile t with tblWait := Tbl.put (s.tile t).tblWait (tblKey t table addr) v }).calTaken).tblNext
  else s.tblNext

/-- A read of `CAL_TBL_DATA`. -/
def doCalTableRead (s : State) : State :=
  let v := if s.tblNamed then s.tblRead (s.get R.CAL_TBL_SEL_TILE) (s.get R.CAL_TBL_SEL_TBL) (s.get R.CAL_TBL_SEL_ADDR) else 0
  { s with bus := v }.tblNext

/-- Words 0 and 1 of `CAL_TILE_t`: TBL_VALID and AGE derived. -/
def State.calTile0 (s : State) (t : Nat) : Word := setBits (s.rd (R.CAL_TILE_0 t)) 24 24 (b2n (s.tblValid t))
def State.calTile1 (s : State) (t : Nat) : Word :=
  setBits (s.rd (R.CAL_TILE_1 t)) 15 0 (match Tbl.look s.cal.lastDone t with
    | none => 0
    | some n => min 65_535 ((s.now - n) / 3_600_000_000_000))

/-- The table writes that wait take effect at a frame edge (R371). -/
def State.tblEdge (s : State) (t : Nat) : State :=
  if (s.tile t).tblWait.isEmpty then s
  else ((s.tile t).tblWait.foldl (fun s x => s.putTbl x.1 x.2) s).setTile t { s.tile t with tblWait := [] }

end Sys2Proof.Machine
end

