-- ==== Sys2Proof/Machine/Recorder.lean ====
section
/-!
DEFINITION. Sys2Proof/Machine/Recorder.lean: the recorder's own steps: writes and closes of open records, flushing, the log store and
its mirror, the wear area and the cairn ("Events and the recorder").
-/
namespace Sys2Proof.Machine

/-! ## Cairn (R463, R464) -/

/-- The 32 bytes of a cairn slot (R463): words 0 to 6 and their CRC. -/
def Cairn.words (c : Cairn) : List Nat :=
  let w := [c.kind % 256 * 2 ^ 24 + 1 * 2 ^ 16 + c.code % 2 ^ 16, c.sec % 2 ^ 32, c.ns % 2 ^ 32,
            c.src % 2 ^ 11 * 2 ^ 21 + c.idx % 2 ^ 18, c.w4 % 2 ^ 32, c.w5 % 2 ^ 32, c.w6 % 2 ^ 32]
  w ++ [(crc32 (w.flatMap (natBe 4))).toNat]

/-- A cairn record appended in the next free slot (R464: the cairn fills in slot order). -/
def State.cairnAppend (s : State) (c : Cairn) : State :=
  let s := { s with nv.cairn := s.nv.cairn ++ [c] }
  s.put R.EVT_CAIRN_STS_USED s.nv.cairn.length

/-- A device cairn record (R464): written with EV 10 while a slot is free; otherwise DROP counts it and EV 11 is raised once. -/
def State.cairnDevice (s : State) (kind code src idx w4 w5 w6 : Nat) : State :=
  if s.nv.cairn.length < 256 then
    (s.cairnAppend ⟨false, kind, code, tai s.now, s.now % 1_000_000_000, src, idx, w4, w5, w6⟩).ev Ev.cairnWritten
  else
    let firstDrop := s.get R.EVT_CAIRN_STS_DROP == 0
    let s := s.count R.EVT_CAIRN_STS_DROP
    if firstDrop then s.ev Ev.cairnFull Code.EVT_CAIRN_FULL else s

/-- A write of `EVT_CAIRN_HOST_CTL` (R464): with WRITE = 1 a host record of kind 0x80, refused unless more than 32 slots are
free. -/
def doCairnHostWrite (v : Word) (s : State) : State :=
  if asks R.EVT_CAIRN_HOST_CTL_WRITE v then
    if s.nv.cairn.length < 224 then
      s.cairnAppend ⟨false, 0x80, 0, tai s.now, s.now % 1_000_000_000, 0, 0,
        s.get (whole (R.EVT_CAIRN_HOST 0)), s.get (whole (R.EVT_CAIRN_HOST 1)), s.get (whole (R.EVT_CAIRN_HOST 2))⟩
    else s.put R.EVT_CTL_REFUSE Code.EVT_CAIRN_FULL
  else s

/-! ## Open records (R449, R450) -/

/-- A further write of a source's open record, 10 µs after its previous write, with every occurrence joined since (R450). -/
def doRecordWrite (src : Nat) (s : State) : State :=
  match s.evt.opens.find? (·.rec_.src == src) with
  | none => s
  | some o =>
    if s.hubIn && decide (0 < o.joined) then
      let s := s.advanceTo (o.writtenAt + 10_000)
      let (s, o') := s.writeOpen o false s.now
      { s with evt.opens := s.evt.opens.map fun x => if x.rec_.src == src then o' else x }
    else s

/-- The close of a source's open record at T_FIRST + COAL ms (R449). -/
def doRecordClose (src : Nat) (s : State) : State :=
  match s.evt.opens.find? (·.rec_.src == src) with
  | none => s
  | some o =>
    if s.hubIn then
      let s := s.advanceTo (o.openedAt + s.get (R.EVT_SRC_COAL src) * 1_000_000)
      s.closeRec src s.now
    else s

/-! ## Flushing and the log store (R457, R461, R462) -/

/-- LS_STATE codes of `EVT_STS`. -/
def lsOff : Nat := 0
def lsOk : Nat := 1
def lsFailed : Nat := 2

/-! ## The wear area (R459) -/

/-- The wear counts of tiles 0 and 9, keyed by 1,024 · (tile / 9) + port. -/
def State.wearCounts (s : State) : Tbl Nat :=
  (s.regs.filterMap fun e =>
    if R.TILE_FD_WEAR 0 0 ≤ e.1 ∧ e.1 < R.TILE_FD_WEAR 0 1024 then some ((e.1 - R.TILE_FD_WEAR 0 0) / 4, e.2.toNat)
    else if R.TILE_FD_WEAR 9 0 ≤ e.1 ∧ e.1 < R.TILE_FD_WEAR 9 1024 then
      some (1024 + (e.1 - R.TILE_FD_WEAR 9 0) / 4, e.2.toNat)
    else none)

/-- A save of the wear counts into the copy with the older generation (R459). -/
def State.wearSave (s : State) : State :=
  let older := if s.nv.wearA.gen ≤ s.nv.wearB.gen then true else false
  let c : WearCopy := ⟨(max s.nv.wearA.gen s.nv.wearB.gen) + 1, tai s.now % 2 ^ 32, true, s.wearCounts⟩
  let s := { s with evt.lastWearSave := s.now }
  if older then { s with nv.wearA := c } else { s with nv.wearB := c }

/-! ## Blocks (R457, R461) -/

/-- How many closed records, at most 127, can be flushed from `EVT_FLUSHED` on, in SEQ order. -/
def State.flushable (s : State) : Nat :=
  let head := s.get (whole R.EVT_HEAD)
  let first := s.get (whole R.EVT_FLUSHED)
  let n := min 127 ((head + 2 ^ 32 - first) % 2 ^ 32)
  let isOpen (i : Nat) : Bool := s.evt.opens.any fun o => o.rec_.seq == (first + i) % 2 ^ 32
  match (List.range n).find? isOpen with
  | some i => i
  | none => n

/-- Closed records waiting to be flushed. -/
def State.closedWaiting (s : State) : Nat :=
  (s.get (whole R.EVT_HEAD) + 2 ^ 32 - s.get (whole R.EVT_FLUSHED)) % 2 ^ 32 - s.evt.opens.length

/-- The next block of a running flush: to the log store, or to the mirror once the log store has failed; the flush ends where no
closed record waits, or where the mirror is full or its channel lost (R457, R462). A power-fail flush ends with the wear counts
(R458, R459). -/
def State.nextBlock (s : State) : State :=
  let n := s.flushable
  let mirror := s.get R.EVT_STS_LS_STATE == lsFailed
  let room := s.evt.mirror.length + n ≤ s.get R.EVT_MIR_SIZE_MB * 256 * 127 ∧ s.svc.ddrLost0 = false
  if n = 0 ∨ (mirror = true ∧ ¬ room) then
    let s := { s with evt.block := none, evt.lastFlush := s.now }
    if s.svc.pfail && !mirror then s.wearSave else s
  else { s with evt.block := some ⟨s.get (whole R.EVT_FLUSHED), n, s.evt.blockNumber, 0, mirror⟩ }

/-- The start of a flush at the earliest of its causes (R457): FLUSH_MS after the previous one, 1,024 closed records, or 1 ms after
an occurrence with FLUSH = 1. Nothing is flushed while ENABLE or LS_EN reads 0. -/
def doFlushStart (s : State) : State :=
  if s.hubIn && s.flag R.EVT_CTL_ENABLE && s.flag R.EVT_CTL_LS_EN && s.evt.block.isNone then
    let byTime := s.evt.lastFlush + s.get R.EVT_CTL_FLUSH_MS * 1_000_000
    let due := match s.evt.flushDue with
      | none => byTime
      | some d => min d byTime
    let s := if 1024 ≤ s.closedWaiting then s else s.advanceTo due
    { s with evt.flushDue := none }.nextBlock
  else s

/-- The failure of the log store (R461): EV 8 with its notices, LS_STATE FAILED, the cairn record, and flushing to the mirror from
then on. Later than 39 ms into a power-fail sequence no cairn record is written (R513). -/
def State.logStoreFail (s : State) : State :=
  let s := (s.put R.EVT_STS_LS_STATE lsFailed).put R.EVT_STS_MIRROR 1
  let s := s.ev Ev.logStoreFailed Code.EVT_LOG_STORE_FAIL
  let s := if s.svc.pfail && decide (s.svc.pfailAt + 39_000_000 < s.now) then s
    else s.cairnDevice 0x01 Code.EVT_LOG_STORE_FAIL Ev.logStoreFailed 0
      ((s.get (whole R.EVT_FLUSHED) + 2 ^ 32 - 1) % 2 ^ 32) 0 0
  s.nextBlock

/-- The records of a block, from the ring. -/
def State.blockRecords (s : State) (first count : Nat) : List Rec :=
  (List.range count).map fun i => Tbl.getD s.evt.ring ((first + i) % 16_384) Rec.empty

/-- A block that has reached its store: `EVT_FLUSHED` advances and the next block starts (R457, R462). -/
def State.blockStored (s : State) (b : FlushBlk) : State :=
  let s := s.put (whole R.EVT_FLUSHED) ((b.first + b.count) % 2 ^ 32)
  let s := { s with evt.blockNumber := s.evt.blockNumber + 1 }
  let s := if b.mirror then
      { s with evt.mirror := s.evt.mirror ++ (s.blockRecords b.first b.count).map fun r => { r with vol := true } }
    else { s with evt.logBlocks := s.evt.logBlocks ++ [(b.first, b.count)], nv.logNext := (b.first + b.count) % 2 ^ 32 }
  s.nextBlock

/-- The read-back of a flushed block (R457, R461): `ok` tells whether it compares. Three failures in succession fail the log
store. -/
def doFlushBlockDone (ok : Bool) (s : State) : State :=
  match s.evt.block with
  | none => s
  | some b =>
    if b.mirror || ok then s.blockStored b
    else if b.fails + 1 < 3 then { s with evt.block := some { b with fails := b.fails + 1 } }
    else s.logStoreFail

/-- An xSPI operation not complete within 10 ms fails the log store (R461). -/
def doLogStoreTimeout (s : State) : State :=
  match s.evt.block with
  | none => s
  | some b => if b.mirror then s else s.logStoreFail

/-- The check of `EVT_CTL`.ENABLE (R466). -/
def evtCheck (s : State) : Option Nat :=
  if s.get R.EVT_CTL_FLUSH_MS = 0 then some Code.EVT_CONFIG
  else if s.flag R.EVT_CTL_LS_EN && (decide (s.get (whole R.EVT_LS_SIZE) < 64) || s.get R.EVT_MIR_SIZE_MB == 0) then
    some Code.EVT_CONFIG
  else none

/-- LS_STATE follows ENABLE and LS_EN: OFF while nothing is flushed to the log store, OK once it is (EVT_STS table). -/
def State.lsFollow (s : State) : State :=
  if s.flag R.EVT_CTL_ENABLE && s.flag R.EVT_CTL_LS_EN then
    if s.get R.EVT_STS_LS_STATE = lsOff then s.put R.EVT_STS_LS_STATE lsOk else s
  else if s.get R.EVT_STS_LS_STATE = lsOk then s.put R.EVT_STS_LS_STATE lsOff else s

/-- A write of `EVT_CTL` (R466). -/
def doEvtCtlWrite (v : Word) (s : State) : State :=
  (s.ctlWrite R.EVT_CTL R.EVT_CTL_ENABLE R.EVT_CTL_REFUSE Ev.recorderConfigurationRefused Code.EVT_CONFIG evtCheck v).lsFollow

/-- The test of the log store with one block (R462): on a pass the mirror's records go to the log region in SEQ order and EV 9 is
raised. -/
def State.logStoreTest (s : State) (passed : Bool) : State :=
  if s.get R.EVT_STS_LS_STATE = lsOff then s
  else if passed then
    let s := { s with
      evt.logBlocks := s.evt.logBlocks ++ (match s.evt.mirror with
        | [] => []
        | r :: l => [(r.seq, l.length + 1)]), evt.mirror := [],
      nv.logNext := if s.evt.mirror.isEmpty then s.nv.logNext else s.get (whole R.EVT_FLUSHED) }
    ((s.put R.EVT_STS_MIRROR 0).put R.EVT_STS_LS_STATE lsOk).ev Ev.logStoreRestored
  else s.put R.EVT_STS_LS_STATE lsFailed

/-- A write of `EVT_CTL` with RETRY = 1 (R462); a write that is discarded tests nothing (R538). -/
def doEvtRetry (v : Word) (passed : Bool) (s : State) : State :=
  if asks R.EVT_CTL_RETRY v then
    if s.flag R.EVT_CTL_ENABLE && s.rwcHit R.EVT_CTL v then doEvtCtlWrite v s
    else (doEvtCtlWrite v s).logStoreTest passed
  else s

/-- A write of the log and mirror configuration, locked while ENABLE reads 1 (R466). -/
def evtCfgWrite (a : Nat) (v : Word) (s : State) : State :=
  s.lockedWrite a R.EVT_CTL_ENABLE R.EVT_CTL_REFUSE Ev.recorderConfigurationRefused Code.EVT_CONFIG v

/-- A write of `EVT_PEND_n`: each 1 clears its bit (R453). -/
def doEvtPendClear (n : Nat) (v : Word) (s : State) : State := if n < 48 then s.take (R.EVT_PEND n) v else s

/-- A write of `EVT_SRC_n`; for EV 8 REC, ALERT and FLUSH stay 1, and for EV 92 and EV 94 REC stays 1 (R447). -/
def evtSrcWrite (n : Nat) (v : Word) (s : State) : State :=
  let s := s.take (R.EVT_SRC n) v
  if n = 8 then ((s.put (R.EVT_SRC_REC n) 1).put (R.EVT_SRC_ALERT n) 1).put (R.EVT_SRC_FLUSH n) 1
  else if n = 92 ∨ n = 94 then s.put (R.EVT_SRC_REC n) 1
  else s

/-- The 60 s save of the wear counts, skipped while the log store has failed (R459). -/
def doWearSave (s : State) : State :=
  if s.hubIn then
    let s := s.advanceTo (s.evt.lastWearSave + 60_000_000_000)
    if s.get R.EVT_STS_LS_STATE = lsFailed then { s with evt.lastWearSave := s.now } else s.wearSave
  else s

end Sys2Proof.Machine
end

