-- ==== Sys2Proof/Machine/Thermal.lean ====
section
/-!
DEFINITION. Sys2Proof/Machine/Thermal.lean: the housekeeping scan, the temperature sensors' checks and substitutes, throttle levels, the
protective shutdown, and the HK and THM registers ("Monitor conversion", "Anchor calibration and thermal management").
-/
namespace Sys2Proof.Machine

/-! ## Protective shutdown (R391) -/

/-- The shutdown line: every blanker is driven and every latch closes, every circuit goes to DARK, recalibrations end, and the source with
its reading is recorded (`source` as SRC of `THM_STS`). -/
def State.shutdown (s : State) (source : Nat) (reading : Int) : State :=
  if s.flag R.THM_STS_SHUTDOWN then s
  else
    let s := (s.put R.THM_STS_SHUTDOWN 1).calAbort
    let s := { s with cal.queue := [] }
    let s := s.cir.ctxs.foldl (fun s x =>
      let c := s.ctx x.1
      if c.state = Cs.idle then s
      else if c.waits then (s.endLight x.1 Code.THM_SHUTDOWN).leaveWait x.1 Cs.dark Code.THM_SHUTDOWN
      else if c.lit then s.leaveLit x.1 Cs.dark Code.THM_SHUTDOWN s.nextPers
      else s.setCtx x.1 { c with state := Cs.dark, reason := Code.THM_SHUTDOWN }) s
    let s := s.close (List.range 2048)
    let s := s.shutdownOff.ev Ev.protectiveShutdown Code.THM_SHUTDOWN
    s.cairnDevice 3 Code.THM_SHUTDOWN Ev.protectiveShutdown 0 source (tc 32 reading) 0

/-! ## Throttle levels (R386 to R388, R394) -/

/-- Junction thresholds of THR1 to THR4, and of the shutdown, in 0.01 °C. -/
def junctionLevels : List Int := [9500, 10000, 10500, 11000]
def junctionShutdown : Int := 11800

/-- A THM word in force in the round in progress (R394). -/
def State.polWord (s : State) (a : Nat) : Word := Tbl.getD s.thm.pol a (s.rd a)

/-- A field of it. -/
def State.thmField (s : State) (f : Fld) : Nat := bits (s.polWord f.addr) f.hi f.lo

/-- Photonic thresholds of THR1 to THR4, and of the shutdown, in 0.01 °C. -/
def State.photonicLevels (s : State) : List Int :=
  [s.thmField R.THM_PHO_A_T1, s.thmField R.THM_PHO_A_T2, s.thmField R.THM_PHO_B_T3, s.thmField R.THM_PHO_B_T4].map fun (v : Nat) =>
    (v * 10 : Int)
def State.photonicShutdown (s : State) : Int := s.thmField R.THM_PHO_SD_SD * 10

/-- The level that a value reaches. -/
def levelOf (thr : List Int) (v : Int) : Nat := (thr.filter fun x => decide (x ≤ v)).length

/-- The level changes (R387, R388): EV 93; a rise names its source. -/
def State.setLevel (s : State) (l : Nat) (source : Option Nat) : State :=
  let s := (s.put R.THM_STS_LEVEL l).ev Ev.throttleLevel
  let s := { s with thm.quiet := 0 }
  match source with
  | none => s
  | some k => s.put R.THM_STS_SRC k

/-- A source reaches a level (R387). -/
def State.rise (s : State) (l source : Nat) : State :=
  if s.level < l ∧ s.ctrlUp ∧ s.flag R.THM_STS_SHUTDOWN = false then s.setLevel l (some source) else s

/-- Accepted THM writes made before a round's start come into force (R394). -/
def State.applyPolicy (s : State) (start : Nat) : State :=
  let (now, later) := (s.thm.polWait.filter fun w => decide (w.2.2 < start), s.thm.polWait.filter fun w => !decide (w.2.2 < start))
  let pol := now.foldl (fun m w => Tbl.put m w.1 w.2.1) s.thm.pol
  { s with thm.pol := if later.isEmpty then [] else pol, thm.polWait := later }

/-- Junction reading of a tile in 0.01 °C. -/
def State.junction (s : State) (t : Nat) : Int := sx 16 (s.get (R.TILE_HK_VAL_VALUE t 136))

/-- The end of a whole round (R388): the level falls by one step after DN_ROUNDS quiet rounds and SUB_HOLD. -/
def State.roundEnds (s : State) : State :=
  let l := s.level
  let h : Int := s.thmField R.THM_CTL_HYST * 10
  let jt := junctionLevels.getD (l - 1) 0 - h
  let pt := s.photonicLevels.getD (l - 1) 0 - h
  let quiet := decide (0 < l) && !s.thm.suspectRound && s.thm.useLast.all (fun x => decide (x.2 < pt)) &&
    (List.range 20).all (fun t => decide (s.junction t < jt)) && decide (s.thm.hubMax < jt)
  let n := if quiet then s.thm.quiet + 1 else 0
  let held := match s.thm.lastFail with
    | none => false
    | some f => decide (s.now < f + s.thmField R.THM_TIME_SUB_HOLD * 1_000_000_000)
  let s := { s with thm.quiet := n, thm.seen := [], thm.suspectRound := false, thm.hubMax := sx 16 (s.get R.THM_JCT_HUB),
                    thm.hotMax := (s.thm.useLast.map (·.2)).foldl max (-32_768) }
  if s.ctrlUp && quiet && decide (s.thmField R.THM_TIME_DN_ROUNDS ≤ n) && !held && decide (s.thmField R.THM_CTL_FLOOR < l) &&
      !s.flag R.THM_STS_SHUTDOWN then s.setLevel (l - 1) none
  else s

/-- The hub's junction reading, every 1 ms (R386, R391). -/
def doHubJunctionSample (r : BitVec 16) (s : State) : State :=
  if s.ctrlUp then
    let s := (s.advanceTo (gridFrom 1_000_000 s.now)).put R.THM_JCT_HUB r.toNat
    let s := { s with thm.hubMax := max s.thm.hubMax r.toInt }
    if junctionShutdown ≤ r.toInt then s.shutdown 0 r.toInt else s.rise (levelOf junctionLevels r.toInt) 0
  else s

/-! ## Sensor checks (R381 to R385) -/

/-- Sensor `l` of a tile has failed. -/
def State.sensorFailed (s : State) (t l : Nat) : Bool := bit (s.rd (R.THM_FAIL (4 * t + l / 32))) (l % 32)

/-- Neighbours of sensor `l` (R381). -/
def neighbours (l : Nat) : List Nat :=
  (if 0 < l % 64 then [l - 1] else []) ++ (if l % 64 < 63 then [l + 1] else []) ++ [if l < 64 then l + 64 else l - 64]

/-- Twice the median of one to three values, or twice their mean when there are two (R381). -/
def median2 (l : List Int) : Option Int := match l with
  | [a] => some (2 * a)
  | [a, b] => some (a + b)
  | [a, b, c] => some (2 * (a + b + c - max a (max b c) - min a (min b c)))
  | _ => none

/-- A sensor fails (R382), and is recorded when it was the hottest before its first suspect reading (R384). -/
def State.failSensor (s : State) (t l : Nat) (hot : Option Int) : State :=
  let n := 128 * t + l
  let s := (s.put ⟨R.THM_FAIL (n / 32), n % 32, n % 32⟩ 1).ev (Ev.sensorFailed t)
  let s := s.setTile t { s.tile t with suspect := Tbl.del (s.tile t).suspect l }
  let s := { s with thm.lastFail := some s.now, thm.firstHot := Tbl.del s.thm.firstHot n }
  match hot with
  | none => s
  | some v => if s.ctrlUp then (s.ev Ev.hottestSensorFailed).cairnDevice 2 0 Ev.hottestSensorFailed 0 n (tc 32 v) s.level else s

/-- The check of one sensor on the readings of the round (R382). `good` tells which sensors had not failed before and read within range. -/
def State.checkSensor (s : State) (t : Nat) (good : Nat → Bool) (l : Nat) : State :=
  let x := s.tile t
  let n := 128 * t + l
  let wasHot : Option Int := match Tbl.look s.thm.useLast n with
    | none => none
    | some v => if s.thm.hotMax ≤ v then some v else none
  let count := Tbl.getD x.suspect l 0
  let hot := if count = 0 then wasHot else Tbl.look s.thm.firstHot n
  if good l = false then { s with thm.suspectRound := true }.failSensor t l hot
  else
    let read (j : Nat) : Int := Tbl.getD x.reading j 0
    let far := match median2 (((neighbours l).filter good).map read) with
      | none => false
      | some m => decide (2 * (s.thmField R.THM_CTL_XCHK_DT * 10) < (2 * read l - m).natAbs)
    if far then
      let s := { s with thm.suspectRound := true }
      if s.thmField R.THM_TIME_XCHK_N ≤ count + 1 then s.failSensor t l hot
      else
        let s := s.setTile t { x with suspect := Tbl.put x.suspect l (count + 1) }
        match hot with
        | none => s
        | some v => { s with thm.firstHot := Tbl.put s.thm.firstHot n v }
    else { s with thm.firstHot := Tbl.del s.thm.firstHot n }.setTile t { x with suspect := Tbl.del x.suspect l }

/-- The substitute of a failed sensor (R383). -/
def State.substitute (s : State) (t l : Nat) : Int :=
  let ok (j : Nat) : Bool := !s.sensorFailed t j
  let near := (neighbours l).filter ok
  let all := (List.range 128).filter ok
  let from_ := if near.isEmpty then all else near
  let add : Int := s.thmField R.THM_CTL_SUB_ADD * 10
  match from_.map fun j => Tbl.getD (s.tile t).reading j 0 with
  | [] => s.junction t + add
  | v :: vs => vs.foldl max v + add

/-- The checks of a tile's sensors on the readings of the round, then the substitutes (R382, R383). -/
def State.checkSensors (s : State) (t : Nat) : State :=
  let x := s.tile t
  let before := (List.range 128).filter fun l => s.sensorFailed t l
  let good (l : Nat) : Bool := !before.contains l && x.posted.contains l &&
    decide (-4000 ≤ Tbl.getD x.reading l 0) && decide (Tbl.getD x.reading l 0 ≤ 15_000)
  let ls := (List.range 128).filter fun l => !before.contains l
  let s := ls.foldl (fun s l => s.checkSensor t good l) s
  let subst := ((List.range 128).filter fun l => s.sensorFailed t l).map fun l => (l, s.substitute t l)
  s.setTile t { s.tile t with subst := subst }

/-- A tile's own sources against the thresholds (R387, R391): `hot` is its highest value in use. -/
def State.compareTile (s : State) (t : Nat) (hot : Int) : State :=
  if s.photonicShutdown ≤ hot then s.shutdown 2 hot
  else if junctionShutdown ≤ s.junction t then s.shutdown 1 (s.junction t)
  else
    let p := levelOf s.photonicLevels hot
    let j := levelOf junctionLevels (s.junction t)
    let f := s.thmField R.THM_CTL_FLOOR
    s.rise (max j (max p f)) (if max p f ≤ j then 1 else if f ≤ p then 2 else 3)

/-- The highest value in use of a tile's sensors. -/
def State.hottestOf (s : State) (t : Nat) : Int := (List.range 128).foldl (fun (b : Int) l => max b (s.sensor (128 * t + l))) (-32_768)

/-- The values in use of a tile's sensors at its check, kept for the next round. -/
def State.noteUse (s : State) (t : Nat) : State :=
  let m := (List.range 128).foldl (fun (m : Tbl Int) l => Tbl.put m (128 * t + l) (s.sensor (128 * t + l))) s.thm.useLast
  { s with thm.useLast := m, thm.seen := s.thm.seen ++ [t] }

/-- A tile's check of a round (R382, R383, R387, R391), after channel 136: failures and substitutes, then the tile's own sources against the
thresholds; the twentieth tile of a round ends it. -/
def State.tileCheck (s : State) (t : Nat) : State :=
  let s := if s.thm.seen.contains t then s.roundEnds else s
  let s := (s.checkSensors t).noteUse t
  let s := s.compareTile t (s.hottestOf t)
  if s.thm.seen.length = 20 then s.roundEnds else s

/-- A failed sensor re-enters the check with a count of 0 (R385). -/
def State.reinstate (s : State) (t l : Nat) : State :=
  let n := 128 * t + l
  let x := s.tile t
  let s := s.setTile t { x with subst := Tbl.del x.subst l, suspect := Tbl.del x.suspect l }
  (s.put ⟨R.THM_FAIL (n / 32), n % 32, n % 32⟩ 0).ev (Ev.sensorReinstated t)

/-- A host write of 1 to bits of `THM_FAIL_n` (R385). -/
def doSensorReinstate (n : Fin 80) (v : Word) (s : State) : State :=
  let bs := (List.range 32).filter fun b => bit v b && bit (s.rd (R.THM_FAIL n.val)) b
  bs.foldl (fun s b => s.reinstate (n.val / 4) ((32 * n.val + b) % 128)) s

/-! ## The housekeeping scan (R354 to R357) -/

/-- The start of the first round in which channel `n` has not been converted yet at `now`. -/
def hkRound (n now : Nat) : Nat := gridFrom 10_000_000 (now - 50_000 * (n + 1))

/-- A round begins: the masks written before it take effect, and the rounds completed are counted (R354, R356). -/
def State.hkBegin (s : State) (t start : Nat) : State :=
  let x := s.tile t
  if x.round = start + 1 then s
  else
    let s := if x.round = 0 then s else s.put (R.TILE_HK_CTL_RND t) (s.get (R.TILE_HK_CTL_RND t) + 1)
    (s.setTile t { x with round := start + 1, posted := [], mask := (List.range 6).map fun n => s.rd (R.TILE_HK_MASK t n) }).applyPolicy
      start

/-- A channel's value is posted, with its limit check (R355, R357); the tenth round in a row outside the limits is reported (R484). -/
def State.hkPost (s : State) (t n : Nat) (value : BitVec 16) : State :=
  let value : Int := if (n = 133 ∧ t ≠ 0 ∧ t ≠ 9) ∨ (139 ≤ n ∧ n ≤ 143) ∨ 176 ≤ n then 0 else value.toInt
  let lim := decide (128 ≤ n) && (decide (value < sx 16 (s.get (R.TILE_HK_LIM_LO t (n - 128)))) ||
    decide (sx 16 (s.get (R.TILE_HK_LIM_HI t (n - 128))) < value))
  let was := s.flag (R.TILE_HK_VAL_LIM t n)
  let s := s.wr (R.TILE_HK_VAL t n) (BitVec.ofNat 32 (2 ^ 31 + b2n lim * 2 ^ 30 + s.get (R.TILE_HK_CTL_RND t) * 2 ^ 16 + tc 16 value))
  let x := s.tile t
  let s := if n < 128 then
      s.setTile t { x with reading := Tbl.put x.reading n value, readAt := Tbl.put x.readAt n s.now, posted := x.posted ++ [n],
                           prevReading := match Tbl.look x.reading n with
                             | none => x.prevReading
                             | some v => Tbl.put x.prevReading n v }
    else s
  if 128 ≤ n then
    let k := if lim then Tbl.getD x.supplyOut n 0 + 1 else 0
    let s := s.setTile t { s.tile t with supplyOut := Tbl.set 0 x.supplyOut n k }
    let s := if lim && !was then s.ev (Ev.housekeepingLimit t) else s
    if k = 10 then (s.ev Ev.faultReport).autoReports (tileCells t) else s
  else s

/-- A channel's 50 µs slot of the round (R354): converted and posted unless its mask bit in force reads 0. After channel 136 the tile checks
its sensors, and its junction reading may trigger a recalibration (R372, R382). -/
def doHkChannelSlot (t : Fin 20) (n : Fin 192) (value : BitVec 16) (s : State) : State :=
  let t := t.val
  let n := n.val
  let start := hkRound n s.now
  let s := (s.hkBegin t start).advanceTo (start + 50_000 * (n + 1))
  let on := bit ((s.tile t).mask.getD (n / 32) 0) (n % 32)
  let s := if on then s.hkPost t n value else s
  if n = 136 then
    let s := s.tileCheck t
    if on then s.calDrift t value.toInt else s
  else s

/-- Channels whose mask bit may not be cleared while the loops run (R356). -/
def hkLocked (n : Nat) : Word := if n < 4 then 0xFFFF_FFFF else if n = 4 then 0x0000_00C4 else 0

/-- A write of `TILE_HK_MASK_n` (R356): judged bit by bit; it takes effect at the next round. -/
def doHkMaskWrite (t : Fin 20) (n : Fin 6) (v : Word) (s : State) : State :=
  let a := R.TILE_HK_MASK t.val n.val
  let keep := if s.flag (R.TILE_LP_CTL_ENABLE t.val) then s.rd a &&& hkLocked n.val &&& ~~~v else 0
  let s := s.wr a (v ||| keep)
  if keep = 0 then s.put (R.TILE_HK_CTL_REFUSE t.val) 0
  else s.refuse (R.TILE_HK_CTL_REFUSE t.val) (Ev.conversionRefusal t.val) Code.HK_MASK_LOCKED

/-- A write of a housekeeping limit. -/
def hkLimWrite (t n : Nat) (v : Word) (s : State) : State := (s.take (R.TILE_HK_LIM t n) v).put (R.TILE_HK_CTL_REFUSE t) 0

/-! ## THM registers (R394) -/

/-- The THM registers that the host may write. -/
def thmReg (k : Nat) : Nat := [R.THM_CTL, R.THM_TIME, R.THM_PHO_A, R.THM_PHO_B, R.THM_PHO_SD].getD k R.THM_CTL

/-- The limits of R394 on a write. -/
def State.thmOk (s : State) (k : Nat) (v : Word) : Bool :=
  let now (i : Nat) : Word := if i = k then v else s.rd (thmReg i)
  let t1 := bits (now 2) 15 0
  let t2 := bits (now 2) 31 16
  let t3 := bits (now 3) 15 0
  let t4 := bits (now 3) 31 16
  let sd := bits (now 4) 15 0
  let within (lo hi n : Nat) : Bool := decide (lo ≤ n) && decide (n ≤ hi)
  match k with
  | 0 => within 20 200 (bits v 31 24) && within 10 200 (bits v 23 16) && within 10 100 (bits v 15 8) && within 0 4 (bits v 2 0)
  | 1 => within 10 3600 (bits v 31 20) && within 10 4095 (bits v 19 8) && within 1 15 (bits v 3 0)
  | _ => decide (t1 < t2) && decide (t2 < t3) && decide (t3 < t4) && decide (t4 < sd) && decide (sd ≤ 1050)

/-- A write of a THM register: accepted, and in force from the next round, or discarded (R394). -/
def doThmWrite (k : Fin 5) (v : Word) (s : State) : State :=
  let a := thmReg k.val
  if s.thmOk k.val v then
    let old := s.polWord a
    let s := (s.take a v).put R.THM_STS_REFUSE 0
    { s with thm.pol := Tbl.put s.thm.pol a old, thm.polWait := s.thm.polWait ++ [(a, s.rd a, s.now)] }
  else s.refuse R.THM_STS_REFUSE Ev.calibrationOrThermalRefusal Code.THM_CONFIG

/-- `THM_STS` as it reads: HOLD_S derived. -/
def State.thmSts (s : State) : Word :=
  let hold := match s.thm.lastFail with
    | none => 0
    | some f => (f + s.thmField R.THM_TIME_SUB_HOLD * 1_000_000_000 - s.now + 999_999_999) / 1_000_000_000
  setBits (s.rd R.THM_STS) 9 0 (min 0x3FF hold)

/-- `THM_HOT` as it reads: the lowest sensor with the highest value in use. -/
def State.thmHot (s : State) : Word :=
  let best := (List.range 2560).foldl (fun (b : Nat × Int) n => if b.2 < s.sensor n then (n, s.sensor n) else b) (0, s.sensor 0)
  BitVec.ofNat 32 (best.1 * 2 ^ 20 + tc 16 best.2)

end Sys2Proof.Machine
end

