-- ==== Sys2Proof/Machine/Frame.lean ====
section
/-!
DEFINITION. Sys2Proof/Machine/Frame.lean: the frame edge of a tile (R231, R232): outputs transfer, positions and belays advance, what was
written since takes force, conversion and drive start their frame, and the engine serves the elements of the next one.
-/
namespace Sys2Proof.Machine

/-! ## The engine fence (R477, R478, R481) -/

/-- An entry of `fence` that stands for the edge at which the new engine's first outputs take effect. -/
def fenceShown : Nat := 8

/-- Every probe and learning run of a tile ends in conflict (R274, R279). -/
def State.probesEnd (s : State) (t code : Nat) : State :=
  let s := s.endProbe t code
  match (s.tile t).learn with
  | none => s
  | some _ => s.endLearn t 3 code

/-- The records of a tile as the hub's last good mirror holds them; the outputs in force stay (R255, R478). With no mirror since a
control-domain reset (R256) the records stand. -/
def State.fromMirror (s : State) (t : Nat) : State :=
  if (s.tile t).mirror.isEmpty then s
  else (tileElems t).foldl (fun s e =>
    let x := s.elem e
    let m := Tbl.getD (s.tile t).mirror e Elem.reset
    s.setElem e { x with toElemRec := { m.toElemRec with duty := x.duty, drv := x.drv } }) s

/-- A fence write takes effect at the tile's frame edge (R477): a spare or returning engine starts from the mirror, and a spare no longer
named is free. The edge after that shows the change (EV 6). -/
def State.fenceEdge (s : State) (t : Nat) : State :=
  match Tbl.look s.svc.fence t with
  | none => s
  | some o =>
    let s := { s with svc.fence := Tbl.del s.svc.fence t }
    if o = fenceShown then s.ev Ev.engineOwnershipChanged
    else
      let s := (s.put (R.TILE_OWNER_OWNER t) o).probesEnd t Code.CFG_PROBE_CONFLICT
      let s := { s with svc.spare0 := if o != 1 && s.svc.spare0 == some t then none else s.svc.spare0,
                        svc.spare1 := if o != 2 && s.svc.spare1 == some t then none else s.svc.spare1 }
      let s := if o = 0 then (s.put (R.GLB_ENG_STATE t) 0).put (R.GLB_ENG_HEALTHY t) 0 else s
      if o = 3 then s else { s.fromMirror t with svc.fence := Tbl.put s.svc.fence t fenceShown }

/-! ## Outputs transfer (R232, R254) -/

/-- The output that the ended frame computed for an element becomes its record: its heater duty is released to the bank, a probe's PIN code
is loaded, and the GEN of the record follows (R254, R273, R296). A movement that has its own plan keeps its heater target. -/
def State.transfer (s : State) (e fn at_ : Nat) : State :=
  let x := s.elem e
  match x.out with
  | none => s
  | some o =>
    if o.skip then s.setElem e { x with skip := true, stale := false, out := none }
    else
      let plan := x.belay.isSome || x.belayDue || (match x.prov with
        | none => false
        | some v => v.ramp)
      let o := if plan then { o with htr := x.htr, drv := x.drv, duty := x.duty, dflip := x.dflip } else o
      let s := s.setElem e { x with toElemRec := o, gen := fn % 256, stale := false, out := none }
      let s := if plan then s else s.loopDuty e o.duty at_
      let t := tileOf e
      let q := e % 4096 * 2
      match o.pinCode with
      | some v =>
        let s := (s.fdLoad (fdKey t q) (max 0 v).toNat 1).1
        (s.fdLoad (fdKey t (q + 1)) (max 0 (-v)).toNat 1).1
      | none => if x.pinCode.isSome then s.loadCommitted e else s

/-- A pre-ramp at a frame edge: its next ramp frame, none while a throttle holds it (R189, R220, R227). -/
def State.rampEdge (s : State) (cx : LawCx) (e at_ : Nat) : State :=
  let x := s.elem e
  match x.prov with
  | none => s
  | some v =>
    if v.ramp = false ∨ v.n ≤ v.k ∨ (1 ≤ s.level ∧ v.reverting = false) then s
    else
      let s := s.setElem e { x with prov := some { v with k := v.k + 1 } }
      s.drive cx e (rampTarget v.phi0 v.dphi (v.k + 1) v.n (s.tau e) cx.p) false at_

/-! ## What takes force at an edge (R248, R259, R270, R371, R387) -/

/-- The candidates of a learning run copied into the crosstalk table, with XT_EN set (R279). -/
def State.applyLearned (s : State) (t : Nat) : State :=
  let x := s.tile t
  if x.applyDue then
    let xt := x.cap.filter fun w => decide (w.1 < 65_536)
    (s.setTile t { x with applyDue := false, xt := xt }).put (R.TILE_LP_CTL_XT_EN t) 1
  else s

/-- The parameter words as they stand written. -/
def State.lpWords (s : State) (t : Nat) : LpUse :=
  ⟨s.rd (R.TILE_LP_CTL t), s.rd (R.TILE_LP_GAIN t), s.rd (R.TILE_LP_DITH t), s.rd (R.TILE_LP_CLAMP t), s.rd (R.TILE_LP_PIN t),
    s.rd (R.TILE_LP_VHTR t), s.rd (R.TILE_LP_LOW t)⟩

/-- FF_X of an element under given words. -/
def State.ffxUnder (s : State) (u : LpUse) (e : Nat) : Int := if bit u.ctl 4 then s.crosstalk e (min (bits u.ctl 12 8) 16) else 0

/-- The words written since the last edge come into force: a change of XT_EN or NB keeps every heater target (R248), and a change of
DITH_AMP makes every stored pair too old (R259). -/
def State.takeWords (s : State) (t : Nat) : State :=
  let old := (s.tile t).use
  let s0 := s
  let s := s.applyLearned t
  let new := s.lpWords t
  let s := if bits old.ctl 12 4 != bits new.ctl 12 4 then
      (tileElems t).foldl (fun s e =>
        let d := s.ffxUnder new e - s0.ffxUnder old e
        if d = 0 then s else s.setElem e { s.elem e with integ := (s.elem e).integ - d }) s
    else s
  let s := if bits old.dith 15 0 != bits new.dith 15 0 then
      (tileElems t).foldl (fun s e => s.setElem e { s.elem e with ageH := 255, ageP := 255 }) s
    else s
  s.setTile t { s.tile t with use := new }

/-- The throttle level takes effect in the tile (R387). The schedule freezes once every tile has THR3, and resumes once every tile has left
it, unless a holdover keeps it frozen (R161, R162, R487). -/
def State.levelEdge (s : State) (t : Nat) : State :=
  let all3 (s : State) : Bool := (List.range 20).all fun k => decide (3 ≤ (s.tile k).level)
  let none3 (s : State) : Bool := (List.range 20).all fun k => decide ((s.tile k).level < 3)
  let s' := s.setTile t { s.tile t with level := s.level }
  if !all3 s && all3 s' then s'.freeze
  else if !none3 s && none3 s' && s'.svc.frozenTiles.isEmpty then s'.unfreeze
  else s'

/-- The loops start or stop driving (R257, R258). An element's modelled heater target is its record's while they drive, and off otherwise. -/
def State.drivesEdge (s : State) (t : Nat) : State :=
  let x := s.tile t
  let on := s.flag (R.TILE_LP_CTL_ENABLE t)
  if on = x.drives then s
  else
    let s := (tileElems t).foldl (fun s e => s.setElem e { s.elem e with drv := if on then (s.elem e).htr else 0, out := none }) s
    s.setTile t { s.tile t with drives := on, missed := [] }

/-- Everything that waits for the edge. -/
def State.latchEdge (s : State) (t f : Nat) : State :=
  let s := (((s.takeWords t).put (R.TILE_LP_UCODE_LAW_USE t) (s.get (R.TILE_LP_UCODE_LAW_SET t))).tblEdge t).levelEdge t
  let x := s.tile t
  let s := if x.periodDue then s.put (R.TILE_LP_PERIOD_P_USE t) (s.get (R.TILE_LP_PERIOD_P_SET t)) else s
  let v := s.rd (R.TILE_HK_VAL t 130)
  let s := if bit v 31 && decide (2_250 ≤ sx 16 v.toNat) && decide (sx 16 v.toNat ≤ 2_750) then
      s.put (R.TILE_LP_VHTR_V_HTR t) (bits v 15 0) else s
  let x := s.tile t
  let s := s.setTile t { x with periodDue := false, rotFrames := x.rotFrames + 1,
                                pendingFrames := if s.flag (R.TILE_LP_UCODE_PENDING t) then x.pendingFrames + 1 else 0 }
  ((s.drivesEdge t).pwEdge t f).recalEdge t f

/-! ## Probes and learning runs at an edge (R274, R279) -/

/-- A probe whose tail is complete, that was stopped, or that meets a conflict or THR2 ends; a learning run likewise. -/
def State.probeEdge (s : State) (t : Nat) : State :=
  let x := s.tile t
  let bad (e : Nat) : Bool := let k := s.status e
    k == 6 || k == 2 || k == 4
  match x.probe, x.learn with
  | some p, _ =>
    if x.stopDue ∨ p.phase p.k = 3 then s.endProbe t Code.DONE
    else if 2 ≤ x.level then s.endProbe t Code.THM_THROTTLED
    else if p.set.any (fun y => bad y.1) then s.endProbe t Code.CFG_PROBE_CONFLICT
    else s
  | none, some l =>
    if 2 ≤ x.level then s.endLearn t 3 Code.THM_THROTTLED
    else if (l.hist.map (·.1)).any (fun j => !l.dead.contains j && bad (tileFirst t + j)) then s.endLearn t 3 Code.CFG_PROBE_CONFLICT
    else s
  | none, none => s

/-! ## The engine serves a frame (R232, R233, R251, R253) -/

/-- What a probe or learning run asks of an element in this frame: its injection on the heater, the PIN code, and whether INTEG and the
proportional term are held. -/
structure Inject where
  heater : Option Int
  pin : Option Int
  hold : Bool
  probed : Bool
  deriving DecidableEq, Repr

/-- The injection of an element (R273, R277). -/
def State.injection (s : State) (t : Nat) (lit : List (Nat × Nat × Nat)) (e : Nat) : Inject :=
  let x := s.tile t
  let isLit := lit.any (·.1 == e)
  match x.probe, x.learn with
  | some p, _ =>
    if p.set.any (·.1 == e) then
      let v := p.inject e p.k
      if bit p.cfg 4 then ⟨none, some v, false, true⟩ else ⟨some v, none, isLit, true⟩
    else ⟨none, none, false, false⟩
  | none, some l => if l.k < 511 then ⟨some (s.learnInject l lit e), none, isLit, true⟩ else ⟨none, none, false, false⟩
  | none, none => ⟨none, none, false, false⟩

/-- One element served: its next output waits for the edge; a set element is captured and a receiver's error correlated. The low-light
event comes with the first LOWLIGHT of the tile. -/
def State.serveOne (s0 : State) (cx : LawCx) (lit : List (Nat × Nat × Nat)) (s : State) (e : Nat) : State :=
  let t := tileOf e
  let x := s.elem e
  if s.skips t e then s.setElem e { x with out := some { x.toElemRec with skip := true } }
  else
    let j := s.injection t lit e
    let r := s.serve s0 cx lit e j.heater j.hold
    let out := { r.out with pinCode := j.pin }
    let dim (y : Nat × Elem) : Bool := y.1 != e && (match y.2.out with
      | none => y.2.lowlight
      | some o => o.lowlight)
    let s := if out.lowlight && !x.lowlight && !(s.elemsOf t).any dim then s.evElem (Ev.lowLight t) e else s
    let s := s.setElem e { x with out := some out }
    match (s.tile t).probe, (s.tile t).learn with
    | some p, _ =>
      if j.probed then
        let v := if bit p.cfg 4 then j.pin.getD 0 else j.heater.getD 0
        s.capture t p.cfg (captureWords p e p.k (s.get (whole (R.TILE_LP_FN t))) (s0.pairOf cx lit e) v (r.err.getD 0)
          (if bit p.cfg 4 then v.natAbs else out.duty))
      else s
    | none, some l => match r.err with
      | none => s
      | some err => if l.k < 511 ∧ lit.any (·.1 == e) = true then s.setTile t { s.tile t with learn := some (l.add e err) } else s
    | none, none => s

/-- The transmitters of a learning run take this frame's injection into their modelled phase (R278). -/
def State.learnPhase (s : State) (t p : Nat) (lit : List (Nat × Nat × Nat)) : State :=
  match (s.tile t).learn with
  | none => s
  | some l =>
    let es := (tileElems t).filter fun e => sensorOf e % 3 == l.pass || (Tbl.look l.hist (e % 4096)).isSome
    s.setTile t { s.tile t with learn := some (s.learnHist p l (fun e => s.learnInject l lit e) es) }

/-- The next frame of a probe or learning run. -/
def State.probeNext (s : State) (t : Nat) : State :=
  match (s.tile t).probe, (s.tile t).learn with
  | some p, _ => s.setTile t { s.tile t with probe := some { p with k := p.k + 1 } }
  | none, some l => s.learnNext t l
  | none, none => s

/-- The engine's work in a frame: elements in the order of R233 while the capacity lasts; LOAD shows the work in units of 32 lane-cycles.
`s0` is the state before this edge's transfers. -/
def State.serveTile (s0 : State) (t : Nat) (s : State) : State :=
  let cx := s.lawCx t
  let img := s.image t true
  let slot := s.get (R.TILE_LP_UCODE_LAW_USE t)
  let lit := s0.litSpan t
  let s := s.learnPhase t cx.p lit
  let order := s.serveOrder (tileElems t)
  let cost (e : Nat) : Nat := if s.skips t e then 0 else s.serveCost img slot cx.nb e (s.injection t lit e).probed
  let (in_, left, work) := fitWork (s.capacity t (cx.p / 25_000)) (order.map fun e => (e, cost e)) (lawCost img slot 0)
  let s := (in_.foldl (State.serveOne s0 cx lit) s).probeNext t
  let w := min 65_535 (work / 32)
  let s := (s.put (R.TILE_LP_LOAD_LAST t) w).put (R.TILE_LP_LOAD_PEAK t) (max w (s.get (R.TILE_LP_LOAD_PEAK t)))
  s.setTile t { s.tile t with missed := left }

/-! ## The edge -/

/-- The end of the frame in progress (R251, R264): entries abandoned in it are counted and reported, and elements without an output are held. -/
def State.frameEnds (s : State) (t : Nat) (abandoned : List Nat) : State :=
  let gone := abandoned.filter fun e => (s.elem e).out.isSome
  let x := s.tile t
  let s := gone.foldl (fun s e => s.evElem (Ev.entryAbandoned t) e) s
  let s := if x.endAt.isSome then s.hold gone
    else if x.drives && s.engineServes t then s.endFrame t (x.missed ++ gone)
    else s
  s.setTile t { s.tile t with endAt := none, abandonRun := if gone.isEmpty then 0 else x.abandonRun + 1 }

/-- Outputs transfer and every movement in progress takes its next step at edge `f` (R232): `s0` is the state at the edge before it. -/
def State.movesEdge (s0 : State) (t f : Nat) (s : State) : State :=
  let cx := s0.lawCx t
  let fn := s.get (whole (R.TILE_LP_FN t))
  let mine (s : State) (p : Elem → Bool) : List Nat := ((s.elemsOf t).filter fun y => p y.2).map (·.1)
  let lit := s0.litSpan t
  let s := (mine s fun x => x.out.isSome).foldl (fun s e => s.transfer e fn f) s
  let s := (mine s fun x => x.belay.isSome && !x.belayDue).foldl (fun s e =>
    let x0 := s0.elem e
    s.belayEdge cx e (s0.pairOf cx lit e) (x0.out.map (·.perr)) x0.out.isNone f) s
  let s := s.specEdge t (s.rampFrames t)
  let s := (mine s fun x => x.prov.isSome).foldl (fun s e => s.rampEdge cx e f) s
  let s := (mine s fun x => x.belayDue).foldl (fun s e =>
    let s := s.startBelay e (s.cell (posOf e))
    s.drive cx e (s.elem e).htr true f) s
  s.circuitEdge t

/-- The frame edge of a tile (R231, R232): time reaches it, the frame that ends transfers its outputs, what was written takes force, and the
next frame starts. -/
def State.frameEdge (s : State) (t : Nat) (abandoned : List Nat) : State :=
  let f := s.nextEdge t
  let s := (s.advanceTo f).frameEnds t abandoned
  let s0 := s
  let s := s.wr (R.TILE_LP_FN t) (s.rd (R.TILE_LP_FN t) + 1)
  let s := (s.elemsOf t).foldl (fun s y => s.setElem y.1 { s.elem y.1 with hmod := s0.hmodAt y.1 f }) s
  let s := s.setTile t { s.tile t with edge := f }
  let s := if (s.tile t).drives && !s.engineServes t then s.hold (tileElems t) else s
  let s := (State.movesEdge s0 t f s).fenceEdge t
  let s := ((s.latchEdge t f).probeEdge t).seqEdge t f
  if (s.tile t).drives && s.engineServes t then State.serveTile s0 t s else s

/-- The frame edge of a tile; `abandoned` names the elements whose entry in the frame that ends did not end in 2,048 lane-cycles (R264). -/
def doFrameEdge (t : Fin 20) (abandoned : List (Fin 4096)) (s : State) : State :=
  if s.svc.por then s.frameEdge t.val (abandoned.map fun l => tileFirst t.val + l.val) else s

end Sys2Proof.Machine
end

