-- ==== Sys2Proof/Machine/Service.lean ====
section
/-!
DEFINITION. Sys2Proof/Machine/Service.lean: firmware changes, loop engines and their spares, the crevasse map's host side, holdover, memory
errors, DDR channels, the configuration area, and the GLB and MEM registers ("Staying in service").
-/
namespace Sys2Proof.Machine

/-! ## GLB registers (R470, R491, R494) -/

/-- A refused GLB write (R494): its code in `GLB_CTL`.REFUSE, and EV 101. -/
def State.svcRefuse (s : State) (code : Nat) : State := s.refuse R.GLB_CTL_REFUSE Ev.serviceConfigurationRefused code

/-- A control-domain reset asked for by firmware begins 100 µs after now (R470). -/
def State.softReset (s : State) : State := { s with svc.resetAt := some (s.now + 100_000, 3) }

/-- The ECC bivouac has been asked to end while another cause holds (R491). -/
def State.otherCause (s : State) : Bool := s.svc.causes.any (· != 3)

/-- A write of `GLB_CTL` (R470, R491): one that is refused is discarded whole (R538). -/
def glbCtlWrite (v : Word) (s : State) : State :=
  let rst := asks R.GLB_CTL_SOFT_RST v
  let biv := asks R.GLB_CTL_BIV_CLR v
  if biv && s.otherCause then s.svcRefuse Code.SVC_CONFIG
  else if rst && s.svc.fw.isSome then s.svcRefuse Code.SVC_BUSY
  else
    let s := if biv then { s with svc.eccBiv := false } else s
    if rst then s.softReset else s

/-- A write of SOFT_RST (R470). -/
def doSoftReset (v : Word) (s : State) : State := if asks R.GLB_CTL_SOFT_RST v then glbCtlWrite v s else s

/-- A write of BIV_CLR (R491). -/
def doBivClr (v : Word) (s : State) : State := if asks R.GLB_CTL_BIV_CLR v then glbCtlWrite v s else s

/-- A write of `GLB_WDT`: 10 ms to 10,000 ms (R494). -/
def glbWdtWrite (v : Word) (s : State) : State :=
  let p := bits v 13 0
  if p < 10 ∨ 10_000 < p then s.svcRefuse Code.SVC_CONFIG else s.take R.GLB_WDT v

/-- A write of `GLB_FLT_CFG`: WATCH_FENCE from 1 (R494). -/
def glbFltCfgWrite (v : Word) (s : State) : State :=
  if bits v 7 0 = 0 then s.svcRefuse Code.SVC_CONFIG else s.take R.GLB_FLT_CFG v

/-- A write of `GLB_ARB_CTL` with ADVANCE = 1 raises ARB_MIN to ARB_ACT; it never falls (R503). -/
def doArbAdvance (v : Word) (s : State) : State :=
  if asks R.GLB_ARB_CTL_ADVANCE v then
    let m := max s.nv.arbMin s.svc.active.arbVer
    { s with nv.arbMin := m }.put R.GLB_FW_ARB_ARB_MIN m
  else s

/-! ## Firmware changes (R473 to R475) -/

/-- Size of the staging region (R492). -/
def stagingBytes : Nat := 128 * 2 ^ 20

/-- Bytes of the staging region as a big-endian field. -/
def State.stagedField (s : State) (o n : Nat) : Nat := beNat ((List.range n).map fun i => Tbl.getD s.svc.staged (o + i) 0)

/-- MNT_FW_STAGE (R417, R473). -/
def opFwStage : OpSpec := opWarden 0x7002 false
  (fun p => decide (1 ≤ u p 4 2) && decide (u p 4 2 ≤ 1024) && u p 6 2 == 0 && p.length == 8 + u p 4 2 &&
    decide (u p 0 4 + u p 4 2 ≤ stagingBytes)) fun q s =>
  if s.svc.fw.isSome then (s, Code.SVC_BUSY, [])
  else
    let bytes := q.p.drop 8
    let m := (List.range bytes.length).foldl (fun m i => Tbl.set 0 m (u q.p 0 4 + i) (bytes.getD i 0)) s.svc.staged
    ({ s with svc.staged := m }, Code.DONE, [])

/-- MNT_FW_ACTIVATE (R417, R473, R475): SIZE = 0 while the former group keeps the previous image activates that one. -/
def opFwActivate : OpSpec := opWarden 0x7003 false (fun p => p.length == 4) fun q s =>
  if s.svc.fw.isSome then (s, Code.SVC_BUSY, [])
  else
    let size := u q.p 0 4
    let kept := size == 0 && s.svc.keptSince.isSome
    let x : FwChange := ⟨1, size, if kept then s.svc.standby else ⟨0, 0⟩, kept, q.r, s.flag R.GLB_FW_0_STBY_READY⟩
    (({ s with svc.fw := some x }.put R.GLB_FW_0_BUSY 1).put R.GLB_FW_0_STBY_READY 0, Code.ACCEPTED, [])

/-- A firmware change fails (R473): the final completion and EV 3; nothing else changes. -/
def State.fwFails (s : State) (code : Nat) : State := match s.svc.fw with
  | none => s
  | some x =>
    let s := ({ s with svc.fw := none }.put R.GLB_FW_0_BUSY 0).put R.GLB_FW_0_STBY_READY (b2n x.wasReady)
    (s.ev Ev.firmwareChangeFailed code).complete x.req true code []

/-- The header of R500 as staged, and LEN = SIZE. -/
def State.stagedFormed (s : State) (size : Nat) : Bool :=
  s.stagedField 0 4 == 0x5A4D_4249 && s.stagedField 4 2 == 1 && decide (1 ≤ s.stagedField 6 2) && s.stagedField 9 3 == 0 &&
    s.stagedField 12 4 == size && decide (4096 ≤ size) && decide (size ≤ 16_777_216)

/-- Steps 1 and 2 of a change end (R473): `sigOk` is the verdict on the image's signature, `started` whether the standby group started the
image and shadows the active group. -/
def doFwStandbyReady (sigOk started : Bool) (s : State) : State := match s.svc.fw with
  | none => s
  | some x =>
    if x.step = 3 ∨ s.ctrlUp = false then s
    else
      let image : FwImage := if x.kept then x.image else ⟨s.stagedField 6 2, s.stagedField 8 1⟩
      let lost := s.svc.ddrLost0 && s.svc.ddrLost1
      if !x.kept && (lost || !s.stagedFormed x.size || !sigOk) then s.fwFails Code.SVC_IMAGE_INVALID
      else if image.arbVer < s.nv.arbMin then s.fwFails Code.SVC_IMAGE_ROLLBACK
      else if !started then s.fwFails Code.SVC_IMAGE_INVALID
      else { s with svc.fw := some { x with step := 3, image := image } }

/-- Epochs at which something is verified, decided or armed (R57, R175, R205, R209). -/
def State.plannedEpochs (s : State) : List Nat :=
  (s.cir.ctxs.filter fun x => x.2.waits).map (·.2.eplan) ++ (s.trv.journal.flatMap fun t => t.remaining.map fun k => (t.stage k).e) ++
    s.cir.leaves.map (·.e) ++ s.fab.trans.map (·.e) ++ (match s.sch.swap with
      | none => []
      | some w => [w.esw])

/-- The first instant from `h` on with none of the instants `xs` from 5 µs before it to 25 µs after it. -/
def clearOf (xs : List Nat) : Nat → Nat → Nat
  | 0, h => h
  | n + 1, h => match xs.find? fun x => decide (h ≤ x + 5_000) && decide (x ≤ h + 25_000) with
    | none => h
    | some x => clearOf xs n (x + 5_001)

/-- Instant H of R474. -/
def State.handoverAt (s : State) : Nat :=
  let xs := s.plannedEpochs.flatMap fun e => [e - 5_000, e - 1_000]
  clearOf xs (xs.length + 1) s.now

/-- Step 3 of a change, over by H + 20 µs (R473, R474, R475): the standby group takes the hub, and the former group keeps the previous
image; or the old group resumes. -/
def doFwHandover (ok : Bool) (s : State) : State := match s.svc.fw with
  | none => s
  | some x =>
    if x.step = 3 ∧ s.hubIn = true ∧ s.tm.step = none then
      let s := s.advanceTo (s.handoverAt + 20_000)
      if ok then
        let old := s.svc.active
        let s := { s with svc.active := x.image, svc.standby := old, svc.fw := none, svc.keptSince := some s.now }
        let s := ((s.put R.GLB_FW_0_ACT_GRP (1 - s.get R.GLB_FW_0_ACT_GRP)).put R.GLB_FW_0_BUSY 0).put R.GLB_ARB_CTL_ARB_ACT x.image.arbVer
        let s := (s.put R.GLB_FW_1_VER_ACT x.image.imgVer).put R.GLB_FW_1_VER_STBY old.imgVer
        (s.complete x.req true Code.DONE []).ev Ev.firmwareChanged
      else s.fwFails Code.SVC_IMAGE_INVALID
    else s

/-- KEEP runs out (R475): the former group begins to load the active image from staging. -/
def doFwKeepExpiry (s : State) : State := match s.svc.keptSince with
  | none => s
  | some n =>
    if s.svc.fw.isSome then s
    else { s.advanceTo (n + s.get R.GLB_FW_0_KEEP * 1_000_000_000) with svc.keptSince := none }

/-- The former group has loaded the active image and shadows it (R471, R475). -/
def doStandbyReloadDone (s : State) : State :=
  if s.ctrlUp && s.svc.keptSince.isNone && s.svc.fw.isNone && !s.flag R.GLB_FW_0_STBY_READY then
    ({ s with svc.standby := s.svc.active }.put R.GLB_FW_0_STBY_READY 1).put R.GLB_FW_1_VER_STBY s.svc.active.imgVer
  else s

/-! ## Identity and soft reset by opcode (R417, R542) -/

/-- MNT_IDENTITY (R417, R542). -/
def opIdentity : OpSpec := opAny 0x7001 true (fun p => p.length == 0) fun _ s =>
  (s, Code.DONE, [0x5A, 0x4D, 0x31, 0x30, 0x32, 0x34, 0, 0] ++ natBe 2 (s.get R.GLB_REV_SREV) ++ natBe 2 (s.get R.GLB_FW_1_VER_ACT) ++
    natBe 4 (s.get (whole R.GLB_SERIAL_HI)) ++ natBe 4 (s.get (whole R.GLB_SERIAL_LO)))

/-- MNT_SOFT_RESET (R417, R470). -/
def opSoftReset : OpSpec := opWarden 0x7005 false (fun p => p.length == 0) fun _ s =>
  if s.svc.fw.isSome then (s, Code.SVC_BUSY, []) else (s.softReset, Code.DONE, [])

/-! ## The crevasse map by opcode (R482, R483) -/

/-- MNT_CELL (R417, R483): ACTION 0 clears the host and the automatic state, 1 and 2 set the host state. -/
def opCell : OpSpec := opWarden 0x7004 false
  (fun p => p.length == 8 && decide (u p 0 1 < 2) && decide (u p 1 1 < 20) && decide (u p 2 2 < 512) && decide (u p 4 1 < 3) &&
    u p 5 3 == 0) fun q s =>
  let n := (u q.p 0 1 * 20 + u q.p 1 1) * 512 + u q.p 2 2
  let act := u q.p 4 1
  let e := n * 4
  if act = 0 ∧ s.bankFenced (tileOf e) (e % 4096 / 256) = true then (s.complete q.r true Code.SVC_FENCE_REFUSED [], Code.ACCEPTED, [])
  else
    let s' := { s with svc.crvHost := Tbl.set 0 s.svc.crvHost n act }
    let s' := if act = 0 then { s' with svc.crvAuto := Tbl.del s'.svc.crvAuto n, svc.reports := Tbl.del s'.svc.reports n } else s'
    let s' := State.crvChange s s'.crvChanged [n]
    (s'.complete q.r true Code.DONE [], Code.ACCEPTED, [])

/-! ## Loop engines (R476 to R481) -/

/-- A fence write for a tile: it takes effect at the tile's next frame edge (R477). One that replaces a change not yet shown shows it. -/
def State.fenceTo (s : State) (t o : Nat) : State :=
  let s := if Tbl.look s.svc.fence t = some fenceShown then s.ev Ev.engineOwnershipChanged else s
  { s with svc.fence := Tbl.put s.svc.fence t o }

/-- The hub declares a tile's engine failed (R476): EV 5 and its report, and the fence to a free spare (R478) or to none (R480). -/
def doEngineDeclareFailed (t : Fin 20) (s : State) : State :=
  let t := t.val
  if s.hubIn && s.tileOwner t == 0 && s.get (R.GLB_ENG_STATE t) == 0 then
    let s := ((s.put (R.GLB_ENG_STATE t) 1).put (R.GLB_ENG_HEALTHY t) 0).ev Ev.engineFailed Code.SVC_ENGINE_FAILED
    let s := s.ev Ev.faultReport
    if s.svc.spare0.isNone then { s with svc.spare0 := some t }.fenceTo t 1
    else if s.svc.spare1.isNone then { s with svc.spare1 := some t }.fenceTo t 2
    else ((s.fenceTo t 3).ev Ev.noSpareEngine).autoReports (tileCells t)
  else s

/-- The frame edge at which a fence takes effect (R478, R480): a spare loaded from the mirror serves the frame that begins there. -/
def doSpareTakeover (t : Fin 20) (s : State) : State :=
  match Tbl.look s.svc.fence t.val with
  | none => s
  | some o => if s.svc.por && o != fenceShown then s.frameEdge t.val [] else s

/-- A write of `GLB_ENG_t` (R481): one that is refused is discarded whole (R538); a TEST of an engine not FAILED starts nothing. -/
def glbEngWrite (t : Nat) (v : Word) (s : State) : State :=
  let ret := asks (R.GLB_ENG_RETURN t) v
  if ret && !s.flag (R.GLB_ENG_HEALTHY t) then s.svcRefuse Code.SVC_CONFIG
  else
    let s := if asks (R.GLB_ENG_TEST t) v && s.get (R.GLB_ENG_STATE t) == 1 then
        { s.put (R.GLB_ENG_STATE t) 2 with svc.engTest := Tbl.put s.svc.engTest t s.now }
      else s
    if ret then s.fenceTo t 0 else s

/-- A write of TEST (R481). -/
def doEngineTest (t : Fin 20) (v : Word) (s : State) : State := if asks (R.GLB_ENG_TEST t) v then glbEngWrite t v s else s

/-- A write of RETURN (R481). -/
def doEngineReturn (t : Fin 20) (v : Word) (s : State) : State := if asks (R.GLB_ENG_RETURN t) v then glbEngWrite t v s else s

/-- The 10 ms self-test ends (R481). -/
def doEngineTestDone (t : Fin 20) (pass : Bool) (s : State) : State :=
  match Tbl.look s.svc.engTest t.val with
  | none => s
  | some n =>
    let s := { s.advanceTo (n + 10_000_000) with svc.engTest := Tbl.del s.svc.engTest t.val }
    (s.put (R.GLB_ENG_STATE t) 1).put (R.GLB_ENG_HEALTHY t) (b2n pass)

/-! ## Holdover (R486 to R489) -/

/-- A holdover freeze of the schedule by every tile in `ts` (R487, R489). -/
def State.holdoverFreeze (s : State) (ts : List Nat) : State :=
  if s.flag R.GLB_STS_HO_FROZEN then s
  else ({ s with svc.frozenTiles := ts }.put R.GLB_STS_HO_FROZEN 1).freeze.ev Ev.holdoverFreeze

/-- A tile enters holdover (R486). -/
def State.enterHoldover (s : State) (t : Nat) : State :=
  if s.inHoldover t then s else { s with svc.holdover := Tbl.put s.svc.holdover t s.now }

/-- With REFCLK and the sync marks both lost the tiles freeze the schedule (R489). -/
def State.dualLoss (s : State) : State := if s.svc.refLost && !s.hubIn then s.holdoverFreeze (List.range 20) else s

/-- REFCLK leaves its limits (R134, R486): REF_OK and VALID clear, EV 18, and every tile is in holdover. -/
def doRefclkLoss (s : State) : State :=
  if s.svc.por && !s.svc.refLost then
    let s := { s with svc.refLost := true, svc.refGoodSince := none }
    let s := ((s.put R.TIME_STS_REF_OK 0).put R.TIME_STS_VALID 0).ev Ev.referenceFault
    ((List.range 20).foldl State.enterHoldover s).dualLoss
  else s

/-- REFCLK returns (R488): tiles that receive sync marks leave holdover. -/
def doRefclkReturn (s : State) : State :=
  if s.svc.por && s.svc.refLost then
    let s := { s with svc.refLost := false, svc.refGoodSince := if s.hubIn then some s.now else none,
                      svc.holdover := if s.hubIn then [] else s.svc.holdover }
    s.put R.TIME_STS_REF_OK 1
  else s

/-- A tile has received no sync mark for 10 µs (R136, R380, R486). -/
def doTileHoldoverEntry (t : Fin 20) (s : State) : State :=
  if s.svc.por then (((s.advanceTo (s.svc.lastMark + 10_000)).enterHoldover t.val).holdsEnd t.val).dualLoss else s

/-- After 10 s of holdover the tiles freeze the active schedule (R487). -/
def doHoldoverFreeze (s : State) : State := match s.svc.holdover with
  | [] => s
  | x :: r =>
    let first := r.foldl (fun m y => min m y.2) x.2
    let s := s.advanceTo (first + 10_000_000_000)
    s.holdoverFreeze ((s.svc.holdover.filter fun y => decide (y.2 + 10_000_000_000 ≤ s.now)).map (·.1))

/-- The hub has been in service with REF_OK = 1 for 1 s: the freeze ends as R162 ends one (R487, R489). -/
def doHoldoverFreezeEnd (s : State) : State := match s.svc.refGoodSince with
  | none => s
  | some n =>
    if s.flag R.GLB_STS_HO_FROZEN && s.hubIn && s.flag R.TIME_STS_REF_OK then
      let s := { s.advanceTo (n + 1_000_000_000) with svc.frozenTiles := [] }.put R.GLB_STS_HO_FROZEN 0
      if (List.range 20).all fun t => decide ((s.tile t).level < 3) then s.unfreeze else s
    else s

/-! ## Memory errors (R490, R491) -/

/-- Whether a scrubbed word lies in a tile. -/
def eccInTile : EccWord → Bool
  | .element _ | .channel _ _ | .slotMap _ | .program _ | .capture _ _ => true
  | .hubTable _ | .ring _ | .key _ | .sa _ _ _ => false

/-- An element holds its outputs and reads STALE until its next frame (R490). -/
def State.staleElem (s : State) (e : Nat) : State := s.setElem e { s.elem e with stale := true, out := none }

/-- A MACsec SA cleared (R429). -/
def State.clearSa (s : State) (port dir an : Nat) : State :=
  let k := saKey port dir an
  let s := { s with net.sas := Tbl.del s.net.sas k }.put ⟨R.CMD_SAK_VALID, k, k⟩ 0
  (if dir = 0 then s.showTxPn port an 0 else s).ev Ev.saChange

/-- What the loss of an uncorrectable word leaves (R490): a region with a good copy is written back from it. -/
def State.eccLost (s : State) : EccWord → State
  | .element e =>
    let x := s.elem e.val
    let s := match Tbl.look (s.tile (tileOf e.val)).mirror e.val with
      | none => s
      | some m => s.setElem e.val { x with toElemRec := { m.toElemRec with duty := x.duty, drv := x.drv } }
    s.staleElem e.val
  | .channel t q => s.staleElem (tileFirst t.val + q.val / 2)
  | .slotMap t => { s with fab.trans := s.fab.trans.map fun tr =>
      if tr.slotClass && decide (tr.phase ≤ 1) && !tr.refused.contains t.val then { tr with refused := tr.refused ++ [t.val] } else tr }
  | .program _ => s
  | .capture t a => s.setTile t.val { s.tile t.val with cap := Tbl.put (s.tile t.val).cap a.val 0xFFFF_FFFF }
  | .hubTable good => if good then s else { s with svc.eccBiv := true }
  | .ring k => { s with evt.ring := Tbl.del s.evt.ring k.val }.count (whole R.EVT_LOST)
  | .key n => s.changeKey n.val none
  | .sa p d an => s.clearSa p.val d.val an.val

/-- The scrubber finds an error in a word (R490, R491): corrected and counted with EV 97, or uncorrectable with EV 98 and restored. -/
def doEccScrub (w : EccWord) (correctable : Bool) (s : State) : State :=
  if s.svc.por then
    let base := if eccInTile w then 0 else 2
    if correctable then (s.count (whole (R.GLB_ECC base))).ev Ev.eccCorrected
    else ((s.count (whole (R.GLB_ECC (base + 1)))).ev Ev.eccUncorrectable).eccLost w
  else s

/-! ## DDR channels (R492, R493) -/

/-- Bits of CH_OK and LIB_OK from the channels that are enabled and not lost. -/
def State.showMem (s : State) : State :=
  let en := s.get R.MEM_CTL_CH_EN
  let on (c : Nat) (lost : Bool) : Nat := b2n (s.flag R.MEM_CTL_ENABLE && en / 2 ^ c % 2 == 1 && !lost)
  let ok := on 0 s.svc.ddrLost0 + 2 * on 1 s.svc.ddrLost1
  (s.put R.MEM_STS_CH_OK ok).put R.MEM_STS_LIB_OK (b2n (ok != 0))

/-- A channel fails (R493): EV 99, its single regions are lost, and with both channels lost loads, swaps and a firmware change end. -/
def doDdrChannelLoss (c : Fin 2) (s : State) : State :=
  if s.get R.MEM_STS_CH_OK / 2 ^ c.val % 2 = 1 then
    let s := if c.val = 0 then { s with svc.ddrLost0 := true, evt.mirror := [] } else { s with svc.ddrLost1 := true }
    let s := s.showMem.ev Ev.ddrChannelLost Code.SVC_DDR_DEGRADED
    if s.get R.MEM_STS_CH_OK = 0 then
      let s := s.put R.SCHD_CTL_ENABLE 0
      match s.svc.fw with
      | none => s
      | some x => if x.step = 3 then s else s.fwFails Code.SVC_IMAGE_INVALID
    else s
  else s

/-- A refused MEM write (R494). -/
def State.memRefuse (s : State) : State := s.refuse R.MEM_CTL_REFUSE Ev.serviceConfigurationRefused Code.SVC_CONFIG

/-- A write of `MEM_CTL` (R493, R494): setting ENABLE trains the enabled channels and refuses when none trains; RETRAIN trains the lost
ones. `ok0` and `ok1` tell whether each channel trains. -/
def memCtlWrite (v : Word) (ok0 ok1 : Bool) (s : State) : State :=
  if s.flag R.MEM_CTL_ENABLE && s.rwcHit R.MEM_CTL v then s.memRefuse
  else
    let was := s.flag R.MEM_CTL_ENABLE
    let s := s.take R.MEM_CTL v
    let en := s.get R.MEM_CTL_CH_EN
    let lost (c : Nat) (ok : Bool) : Bool := en / 2 ^ c % 2 == 1 && !ok
    if !was && s.flag R.MEM_CTL_ENABLE then
      if (en % 2 = 1 ∧ ok0 = true) ∨ (en / 2 = 1 ∧ ok1 = true) then
        { s with svc.ddrLost0 := lost 0 ok0, svc.ddrLost1 := lost 1 ok1 }.showMem
      else (s.put R.MEM_CTL_ENABLE 0).showMem.memRefuse
    else if s.flag R.MEM_CTL_ENABLE && asks R.MEM_CTL_RETRAIN v then
      { s with svc.ddrLost0 := s.svc.ddrLost0 && !ok0, svc.ddrLost1 := s.svc.ddrLost1 && !ok1 }.showMem
    else s.showMem

/-- A write of `MEM_CTL` (R494). -/
def doMemCtlWrite (v : Word) (ok0 ok1 : Bool) (s : State) : State := memCtlWrite v ok0 ok1 s

/-- A write of RETRAIN (R493). -/
def doMemRetrain (v : Word) (ok0 ok1 : Bool) (s : State) : State :=
  if asks R.MEM_CTL_RETRAIN v then memCtlWrite v ok0 ok1 s else s

/-- A scrub of a DDR channel (R492): corrections and uncorrectable words are counted. -/
def doDdrScrub (c : Fin 2) (corrected uncorrectable : Nat) (s : State) : State :=
  if s.get R.MEM_STS_CH_OK / 2 ^ c.val % 2 = 1 then
    (s.countN (whole (R.MEM_ECC (2 * c.val))) corrected).countN (whole (R.MEM_ECC (2 * c.val + 1))) uncorrectable
  else s

/-! ## The configuration area (R504) -/

/-- Hub registers that the configuration area saves, ports apart. -/
def savedHub : List Nat :=
  [R.TIME_PTP_CFG, R.TIME_PPS_CFG, R.TIME_CLK_CFG, R.NET_CTL, R.NET_TENQ4, R.CMD_CTL, R.CMD_UDP, R.EVT_CTL, R.EVT_LS_BASE, R.EVT_LS_SIZE,
   R.EVT_MIR_SIZE, R.CAL_CTL, R.CAL_LIM, R.THM_CTL, R.THM_TIME, R.THM_PHO_A, R.THM_PHO_B, R.THM_PHO_SD, R.PLC_CTL, R.PLC_W0, R.PLC_W1,
   R.PLC_LIM0, R.PLC_LIM1, R.PLC_LIM2, R.PLC_LOSS_TGT, R.TRV_CTL, R.TRV_SPEC_CFG, R.SCHD_CTL, R.EPO_GB, R.EPO_BELAY_CFG, R.EPO_OUT_CFG,
   R.GLB_WDT, R.GLB_FLT_CFG, R.GLB_FW_0, R.GLB_BOOT] ++
  (List.range 4).flatMap fun n => [R.TIME_ASYM_IN n, R.TIME_ASYM_OUT n, R.NET_DSCP_COL n, R.NET_TENQ n]

/-- Offsets of a port's block that it saves: all but the SA table, the SCIs, the PNs, the active gate list and what the port counts. -/
def savedPort (o : Nat) : Bool :=
  decide (o ≤ 0x2C) || decide (0x100 ≤ o ∧ o ≤ 0x104) || decide (0x200 ≤ o ∧ o < 0x240) || decide (0x300 ≤ o ∧ o ≤ 0x30C) ||
    decide (0x400 ≤ o ∧ o < 0x500) || o == 0x600

/-- Whether the configuration area saves a register (R504). -/
def saved (a : Nat) : Bool :=
  savedHub.contains a || decide (R.EVT_SRC 0 ≤ a ∧ a ≤ R.EVT_SRC 1535) || decide (R.NET_POL_0 0 ≤ a ∧ a ≤ R.NET_POL_3 65) ||
    (decide (R.PORT_CTL 0 ≤ a ∧ a < R.PORT_CTL 4) && savedPort (a % 4096)) ||
    (decide (0x0100_0000 ≤ a ∧ a < 0x0240_0000) &&
      (let t := (a - 0x0100_0000) / 0x10_0000
       decide (R.TILE_LP_CTL t ≤ a ∧ a ≤ R.TILE_LP_LOW t) || decide (R.TILE_MC_SEQ t 0 ≤ a ∧ a ≤ R.TILE_MC_SEQ t 15) ||
         a == R.TILE_FD_GUARD_CFG || a == R.TILE_FD_LAT_CFG t))

/-- The saved registers as they stand: what the host may write of each, where it differs from its reset value. -/
def State.configNow (s : State) : Tbl Word :=
  (s.regs.filter fun e => saved e.1).filterMap fun e =>
    let w := writeFields (fieldsAt e.1) (resetWord e.1) e.2
    if w = resetWord e.1 then none else some (e.1, w)

/-- The copy that a start takes: the good one of higher generation (R504). -/
def NvSt.config (n : NvSt) : Option CfgCopy :=
  match n.cfgA.good, n.cfgB.good with
  | true, true => some (if n.cfgB.gen ≤ n.cfgA.gen then n.cfgA else n.cfgB)
  | true, false => some n.cfgA
  | false, true => some n.cfgB
  | false, false => none

/-- Firmware writes the older copy after a change of a saved register or of the crevasse map (R483, R504). A write that a power failure
cuts leaves a copy that fails its CRC (R514). -/
def doConfigAreaSave (cut : Bool) (s : State) : State :=
  let c : CfgCopy := ⟨max s.nv.cfgA.gen s.nv.cfgB.gen + 1, !cut, s.configNow, s.svc.crvHost, s.svc.crvAuto⟩
  let same := match s.nv.config with
    | none => false
    | some o => o.regs == c.regs && o.crvHost == c.crvHost && o.crvAuto == c.crvAuto
  if s.hubIn && s.stage == 6 && !same then
    if !s.nv.cfgA.good || (s.nv.cfgB.good && decide (s.nv.cfgA.gen ≤ s.nv.cfgB.gen)) then { s with nv.cfgA := c } else { s with nv.cfgB := c }
  else s

/-! ## The JTAG port (R531) -/

/-- The device's identification code (R531). -/
def idcode : Word := 0x1102_4F79

/-- An instruction loaded through the JTAG port (R531): only BYPASS, IDCODE and SAMPLE/PRELOAD unless STAGE reads LATCH, ROM or HALT; any
other is loaded as BYPASS. EXTEST drives no port blanker or latch. -/
def doJtagInstruction (i : JtagIns) (s : State) : State :=
  let open_ := s.stage == 0 || s.stage == 1 || s.stage == 7
  let i := match i with
    | .extest | .other => if open_ then i else .bypass
    | _ => i
  { s with svc.jtag := i, svc.jtagDr := if i = .idcode then idcode else 0 }

/-! ## Request rows -/

def doMntIdentity (f : Frame) (s : State) : State := doAfisk opIdentity f s
def doMntFwStage (f : Frame) (s : State) : State := doAfisk opFwStage f s
def doMntFwActivate (f : Frame) (s : State) : State := doAfisk opFwActivate f s
def doMntCell (f : Frame) (s : State) : State := doAfisk opCell f s
def doMntSoftReset (f : Frame) (s : State) : State := doAfisk opSoftReset f s

end Sys2Proof.Machine
end

