-- ==== Sys2Proof/Machine/RegAccess.lean ====
section
/-!
DEFINITION. Sys2Proof/Machine/RegAccess.lean: BAR0 accesses: where an address points, what a read returns with its side effects, and how each
register takes a write (R7 to R16, R538).
-/
namespace Sys2Proof.Machine

/-! ## Addresses -/

/-- The index of `a` in an array of `n` places `stride` apart from `base`. -/
def idx (base stride n a : Nat) : Option Nat :=
  if base ≤ a ∧ a < base + stride * n ∧ (a - base) % stride = 0 then some ((a - base) / stride) else none

/-- A number as an index below `n`. -/
def toFin (n k : Nat) [NeZero n] : Fin n := Fin.ofNat n k

/-- The circuit table window (R53), the cairn window (R463) and the ring window (R451). -/
def inCirWindow (a : Nat) : Bool := decide (0x1000_0000 ≤ a ∧ a < 0x1100_0000)
def inCairnWindow (a : Nat) : Bool := decide (0x80_4000 ≤ a ∧ a < 0x80_6000)
def inRingWindow (a : Nat) : Bool := decide (0x88_0000 ≤ a ∧ a < 0x90_0000)

/-- The microcode window of a tile (R269). -/
def inUcodeWindow (a : Nat) : Bool := decide (0x0100_0000 ≤ a ∧ a < 0x0240_0000 ∧ 0xE_0000 ≤ a % 0x10_0000)

/-- Windows whose writes are discarded with EV 0 (R53, the EVT register section). -/
def inReadOnlyWindow (a : Nat) : Bool := inCirWindow a || inCairnWindow a || inRingWindow a

/-- An aligned address at which the manual places a register, window or table entry (R9, R10). -/
def mapped (a : Nat) : Bool := a % 4 == 0 && (inReadOnlyWindow a || inUcodeWindow a || (regRow a).isSome)

/-- EV 0 (R9, R10); its DATA is the address. -/
def State.accessError (s : State) (a : Nat) : State := s.raise { occ Ev.accessError with data := some (a % 2 ^ 32) }

/-! ## Reads -/

/-- A slot of the cairn as its words read (R463); what a slot whose CRC fails holds is open. -/
def State.cairnWord (s : State) (n w : Nat) : Word := match s.nv.cairn[n]? with
  | none => 0
  | some c => BitVec.ofNat 32 (if c.torn then Config.free 7 (8 * n + w) else c.words.getD w 0)

/-- A word of `CMD_SES_n`. -/
def State.sesWord (s : State) (n w : Nat) : Word := match Tbl.look s.cmd.sessions n with
  | none => 0
  | some x => BitVec.ofNat 32 (match w with
    | 0 => 2 ^ 31 + x.tenant * 2 ^ 24 + x.outstanding.length * 2 ^ 16 + x.last
    | 1 => x.lease
    | 2 => x.high / 2 ^ 32
    | _ => x.high)

/-- A word of `CMD_GRANT_n`. -/
def State.grantWord (s : State) (n w : Nat) : Word := match Tbl.look s.cir.grants n with
  | none => 0
  | some g => BitVec.ofNat 32
      (if w = 0 then 2 ^ 31 + b2n g.out * 2 ^ 30 + g.port * 2 ^ 20 + g.grantee * 2 ^ 14 + g.owner * 2 ^ 8 else g.lease)

/-- Cell positions lit by two tenants in some slot (R91). -/
def State.sharedCells (s : State) : Nat :=
  let lit := (s.cir.ctxs.filter fun e => e.2.lit).map fun e => (e.2.tenant, (if e.2.scheduled then some (ctxSlot e.1) else none), e.2.hops.map (·.pos))
  let meets (a b : Option Nat) : Bool := a.isNone || b.isNone || a == b
  ((lit.flatMap fun x => x.2.2.filter fun p =>
    lit.any fun y => y.1 != x.1 && meets x.2.1 y.2.1 && y.2.2.contains p).eraseDups).length

/-- `PLC_STS` as it reads. -/
def State.plcSts (s : State) : Word :=
  let busy := s.cir.run.isSome || s.sch.lib.any fun e => e.2.lstate == Ls.placing
  BitVec.ofNat 32 (b2n busy * 2 ^ 31 + s.cir.queue.length * 2 ^ 16 + min s.sharedCells 65_535)

/-- The two bits of each entry of `GLB_CRV_n` (R483). -/
def State.crvWord (s : State) (n : Nat) : Word := BitVec.ofNat 32 ((List.range 16).foldl (fun v i => v + s.crv (16 * n + i) * 4 ^ i) 0)

/-- A register of a hub block other than the stored ones, as it reads. -/
def State.hubView (s : State) (a : Nat) : Option Word :=
  match a / 0x10_0000 with
  | 0 => match idx (R.GLB_ENG 0) 4 20 a, idx (R.GLB_CRV 0) 4 1280 a with
    | some t, _ => some (setBits (s.rd a) 28 27 (s.tileOwner t))
    | _, some n => some (s.crvWord n)
    | _, _ => none
  | 2 => if a = R.SCHD_STS then some s.schdSts else if a = R.SCHD_CYC_CNT then some s.cycCount
    else match idx (R.SCHD_LIB_0 0) 4 128 a with
      | some k => some (s.libWord (k / 2) (k % 2))
      | none => none
  | 3 => if a = R.PLC_STS then some s.plcSts else none
  | 5 => if a = R.TRV_STS then some s.trvSts else if a = R.TRV_SPEC_STS then some s.specSts
    else match idx (R.TRV_STAGE_0 0) 4 32 a, idx (R.TRV_MOVE_0 0) 4 260 a with
      | some k, _ => some (s.trvStageWord (k / 2) (k % 2))
      | _, some k => some (s.trvMoveWord (k / 4) (k % 4))
      | _, _ => none
  | 6 => if a = R.CMD_STS then some (BitVec.ofNat 32 (s.cmd.sessions.length * 2 ^ 16 + s.inq))
    else match idx (R.CMD_SES_0 0) 4 128 a, idx (R.CMD_GRANT_0 0) 4 1024 a with
      | some k, _ => some (s.sesWord (k / 4) (k % 4))
      | _, some k => some (s.grantWord (k / 2) (k % 2))
      | _, _ => none
  | 9 => if a = R.THM_STS then some s.thmSts else if a = R.THM_HOT then some s.thmHot else none
  | 10 => match idx (R.CAL_TILE_0 0) 4 40 a with
    | some k => some (if k % 2 = 0 then s.calTile0 (k / 2) else s.calTile1 (k / 2))
    | none => none
  | 11 => match idx (R.PORT_GATE_CTL 0) 0x1000 4 a with
    | some n => some (setBits (s.rd a) 15 8 (s.gateCur n))
    | none => none
  | _ => none

/-- A register of tile `t` other than the stored ones, as it reads; `o` is its offset in the tile block. -/
def State.tileView (s : State) (t o : Nat) : Option Word :=
  match o / 0x1_0000 with
  | 1 => if o = 0x1_0040 then some (s.lpSts t) else if o = 0x1_0034 then some (s.prbSts t) else none
  | 2 => if o = 0x2_0000 then some (s.pwSts t)
    else match idx 0x2_010C 0x40 16 o, idx 0x2_0110 0x40 16 o, idx 0x2_1000 4 4096 o, idx 0x2_9000 4 4096 o with
      | some b, _, _, _ => some (s.pwBsts t b)
      | _, some b, _, _ => some (s.pwAge t b)
      | _, _, some x, _ => some (s.pwDuty (tileFirst t + x))
      | _, _, _, some x => some (s.pwAct (tileFirst t + x))
      | _, _, _, _ => none
  | 3 => if o = 0x3_0000 then some (s.fdSts t)
    else match idx 0x3_1000 4 1024 o, idx 0x3_4000 4 8192 o with
      | some p, _ => some (s.portWord (portKey (t == 9) p))
      | _, some q => some (s.fdWord t q)
      | _, _ => none
  | 4 => if o = 0x4_0304 then some (s.corrRead t (s.get (R.TILE_MC_CORR_ADDR_IDX t)))
    else match idx 0x4_4000 4 1024 o, idx 0x4_8000 4 8192 o with
      | some p, _ => some (Tbl.getD (s.tile t).taps p 0)
      | _, some q => some (Tbl.getD (s.tile t).smp q 0)
      | _, _ => none
  | 8 | 9 => some (s.estWord (tileFirst t + (o - 0x8_0000) / 32) (o % 32 / 4))
  | 10 | 11 | 12 | 13 => some (s.xtWord t ((o - 0xA_0000) / 64) (o % 64 / 4))
  | 14 | 15 => some (Tbl.getD (s.image t false) ((o - 0xE_0000) / 4) 0)
  | _ => none

/-- What a read of a mapped register or window returns where it has no side effect. -/
def State.view (s : State) (a : Nat) : Word :=
  if inCirWindow a then
    BitVec.ofNat 32 ((ctxWords ((a - 0x1000_0000) / 64) (s.ctx ((a - 0x1000_0000) / 64))).getD (a % 64 / 4) 0)
  else if inCairnWindow a then s.cairnWord ((a - 0x80_4000) / 32) (a % 32 / 4)
  else if inRingWindow a then
    BitVec.ofNat 32 ((Tbl.getD s.evt.ring ((a - 0x88_0000) / 32) Rec.empty).words.getD (a % 32 / 4) 0)
  else
    match (if 0x0100_0000 ≤ a then s.tileView ((a - 0x0100_0000) / 0x10_0000) (a % 0x10_0000) else s.hubView a) with
    | some w => w
    | none => readFields (fieldsAt a) (s.rd a)

/-- A BAR0 read of one register (R8 to R10, R16): the word is left on the bus. -/
def readReg (a : Nat) (s : State) : State :=
  if mapped a = false then { s.accessError a with bus := 0 }
  else if a = R.TIME_NOW_0 then doTimeNowSnapshot s
  else if a = R.TIME_PPS_CAP_0 then doPpsCapRead s
  else if a = R.SCHD_CYC_START_HI then doSchdCycStartSnapshot s
  else if a = R.EPO_NEXT_0 then doEpoNextSnapshot s
  else if a = R.EPO_XLAST_0 then doEpoXlastSnapshot s
  else if a = R.TRV_CUR_0 then doTrvCurSnapshot s
  else if a = R.CAL_TBL_DATA then doCalTableRead s
  else if 0x0100_0000 ≤ a ∧ a < 0x0240_0000 then
    let t := (a - 0x0100_0000) / 0x10_0000
    if a = R.TILE_LP_CAP_DATA t then doCapDataRead (toFin 20 t) s
    else if a = R.TILE_LP_LOAD t then let (s', w) := s.readLoad t; { s' with bus := w }
    else if a = R.TILE_MC_TRIG_T_HI t then doMcTrigTSnapshot (toFin 20 t) s
    else { s with bus := s.view a }
  else { s with bus := s.view a }

/-! ## Writes -/

/-- A write in block GLB. -/
def writeGlb (a : Nat) (v : Word) (s : State) : State :=
  if a = R.GLB_CTL then glbCtlWrite v s
  else if a = R.GLB_WDT then glbWdtWrite v s
  else if a = R.GLB_FLT_CFG then glbFltCfgWrite v s
  else if a = R.GLB_ARB_CTL then doArbAdvance v s
  else match idx (R.GLB_ENG 0) 4 20 a with
    | some t => glbEngWrite t v s
    | none => s.take a v

/-- A write in block TIME. -/
def writeTime (a : Nat) (v : Word) (s : State) : State :=
  if a = R.TIME_CTL then timeCtlWrite v s
  else if a = R.TIME_INC_HI then timeIncHiWrite v s
  else if a = R.TIME_INC_LO then doTimeIncCommit v s
  else if a = R.TIME_ADJ_CTL then timeAdjCtlWrite v s
  else if a = R.TIME_PTP_CFG then doTimePtpCfgWrite v s
  else if a = R.TIME_PPS_CFG then timePpsCfgWrite v s
  else timePlainWrite a v s

/-- A write in block PLC. -/
def writePlc (a : Nat) (v : Word) (s : State) : State :=
  if a = R.PLC_CTL then doPlcCtlWrite v s
  else if (polRegs.drop 1).contains a then doPlcPolicyWrite (toFin 6 ((polRegs.drop 1).idxOf a)) v s
  else s.take a v

/-- A write in block EPO. -/
def writeEpo (a : Nat) (v : Word) (s : State) : State :=
  if a = R.EPO_CTL then doEpoCtlWrite v s
  else if a = R.EPO_GB then doEpoGbWrite v s
  else if a = R.EPO_BELAY_CFG then doEpoBelayCfgWrite v s
  else if a = R.EPO_OUT_CFG then epoOutCfgWrite v s
  else s.take a v

/-- A write in block CMD. -/
def writeCmd (a : Nat) (v : Word) (s : State) : State :=
  if a = R.CMD_CTL then doCmdCtlWrite v s
  else if a = R.CMD_UDP then cmdUdpWrite v s
  else if a = R.CMD_LEASE_CFG then leaseCfgWrite v s
  else if a = R.CMD_MBX_CFG then doCmdMbxCfgWrite v s
  else if a = R.CMD_MBX_REQ_BASE_LO ∨ a = R.CMD_MBX_REQ_BASE_HI ∨ a = R.CMD_MBX_CPL_BASE_LO ∨ a = R.CMD_MBX_CPL_BASE_HI then mbxBaseWrite a v s
  else if a = R.CMD_MBX_REQ_TAIL then doMbxDoorbell v s
  else if a = R.CMD_MBX_CPL_HEAD then doMbxCplHeadWrite v s
  else if a = R.CMD_KEY_CTL then keyCtlWrite v s
  else if a = R.CMD_SAK_CTL then sakCtlWrite v s
  else match idx (R.CMD_OWN_IN 0) 4 256 a, idx (R.CMD_OWN_OUT 0) 4 256 a with
    | some n, _ => doOwnerWrite false (toFin 256 n) v s
    | _, some n => doOwnerWrite true (toFin 256 n) v s
    | _, _ => s.take a v

/-- A write in block NET. -/
def writeNet (a : Nat) (v : Word) (s : State) : State :=
  if a = R.NET_CTL then doNetCtlWrite v s
  else if (idx (R.NET_TENQ 0) 4 4 a).isSome || a == R.NET_TENQ4 then netCfgWrite a v s
  else match idx (R.NET_POL_0 0) 4 264 a with
    | some k => policerWrite (k / 4) (k % 4) v s
    | none => s.take a v

/-- A write in block EVT. -/
def writeEvt (a : Nat) (v : Word) (env : WriteEnv) (s : State) : State :=
  if a = R.EVT_CTL then (if asks R.EVT_CTL_RETRY v then doEvtRetry v env.logStore s else doEvtCtlWrite v s)
  else if a = R.EVT_LS_BASE ∨ a = R.EVT_LS_SIZE ∨ a = R.EVT_MIR_SIZE then evtCfgWrite a v s
  else if a = R.EVT_CAIRN_HOST_CTL then doCairnHostWrite v s
  else match idx (R.EVT_PEND 0) 4 48 a, idx (R.EVT_SRC 0) 4 1536 a with
    | some n, _ => doEvtPendClear n v s
    | _, some n => evtSrcWrite n v s
    | _, _ => s.take a v

/-- A write in block THM. -/
def writeThm (a : Nat) (v : Word) (s : State) : State :=
  match idx (R.THM_FAIL 0) 4 80 a, (List.range 5).find? fun k => thmReg k == a with
  | some n, _ => doSensorReinstate (toFin 80 n) v s
  | _, some k => doThmWrite (toFin 5 k) v s
  | _, _ => s.take a v

/-- A write in block CAL. -/
def writeCal (a : Nat) (v : Word) (s : State) : State :=
  if a = R.CAL_CTL then doCalCtlWrite v s
  else if a = R.CAL_LIM then calLimWrite v s
  else if a = R.CAL_CMD then calCmdWrite v s
  else if a = R.CAL_TBL_DATA then doCalTableWrite v s
  else s.take a v

/-- A write in block PORT; `o` is the offset in the port's block. -/
def writePort (port o a : Nat) (v : Word) (s : State) : State :=
  if o = 0 then doPortCtlWrite (toFin 4 port) v s
  else if o = 0x100 then doMsecTxAnWrite (toFin 4 port) v s
  else if o < 0x40 ∨ (0x104 ≤ o ∧ o ≤ 0x114) then portCfgWrite port a v s
  else if o = 0x300 then gateCtlWrite port v s
  else if o = 0x600 then queueSampleWrite port v s
  else match idx 0x200 4 16 o with
    | some k => shaperWrite port (k / 4) (k % 4) v s
    | none => s.take a v

/-- A write in a tile's LP sub-block. -/
def writeLp (t o a : Nat) (v : Word) (s : State) : State :=
  let i := toFin 20 t
  if o = 0x1_0000 then doTileLpCtlWrite i v s
  else if o = 0x1_0004 then doLpPeriodWrite i v s
  else if o ≤ 0x1_001C then doLpParamWrite i (toFin 6 ((o - 0x1_0008) / 4)) v s
  else if o = 0x1_0020 then ucodeWrite t v s
  else if o = 0x1_0024 then probeCfgWrite t v s
  else if o = 0x1_0054 then learnCtlWrite t v s
  else match idx 0x1_0100 4 128 o with
    | some n => probeSetWrite t n v s
    | none => s.take a v

/-- A write in a tile's PW sub-block. -/
def writePw (t o a : Nat) (v : Word) (s : State) : State :=
  let i := toFin 20 t
  if 0x2_0100 ≤ o ∧ o < 0x2_0500 then
    let b := (o - 0x2_0100) / 0x40
    match o % 0x40 with
    | 0 => doPwmBctlWrite i (toFin 16 b) v s
    | 4 => pwTimWrite t b v s
    | 8 => pwTopWrite t b v s
    | _ => s.take a v
  else match idx 0x2_0800 4 128 o, idx 0x2_1000 4 4096 o, idx 0x2_5000 4 4096 o with
    | some k, _, _ => doPwmUsetWrite i (toFin 16 (k / 8)) (toFin 8 (k % 8)) v s
    | _, some x, _ => doPwmDutyWrite i (toFin 4096 x) v s
    | _, _, some x => doPwmChcfgWrite i (toFin 4096 x) v s
    | _, _, _ => s.take a v

/-- A write in a tile's FD sub-block. -/
def writeFd (t o a : Nat) (v : Word) (s : State) : State :=
  let i := toFin 20 t
  let out := t == 9
  if o = 0x3_0004 then doFdTileStrobe i v s
  else if o = 0x3_0600 then doBlkCfgWrite out v s
  else if o = 0x3_0800 then doGuardCfgWrite v s
  else if o = 0x3_0B00 then doLatCfgWrite out v s
  else match idx 0x3_0100 16 16 o, idx 0x3_0640 4 32 o, idx 0x3_0900 4 32 o with
    | some b, _, _ => fdCtlWrite t b v s
    | _, some n, _ => doBlkForceWrite out (toFin 32 n) v s
    | _, _, some n => doGuardStsClear (toFin 32 n) v s
    | _, _, _ => match idx 0x3_2000 4 1024 o, idx 0x3_4000 4 8192 o with
      | some p, _ => doWearWrite out (toFin 1024 p) v s
      | _, some q => doFdCodeWrite i (toFin 8192 q) v s
      | _, _ => s.take a v

/-- A write in a tile's MC or HK sub-block. -/
def writeMc (t o a : Nat) (v : Word) (s : State) : State :=
  let i := toFin 20 t
  if o = 0x4_0000 then mcCtlWrite t v s
  else if o = 0x4_0180 ∨ o = 0x4_01B0 then mcCfgWrite t a v s
  else if o = 0x4_01A0 then doMcHoldWrite i v s
  else if o = 0x4_0304 then doCorrDataWrite i v s
  else if o = 0x4_0400 then mcSyncWrite v s
  else if o = 0x4_0500 then ancCtlWrite t v s
  else match idx 0x4_0100 4 16 o, idx 0x5_0010 4 6 o, idx 0x5_0400 4 64 o with
    | some n, _, _ => mcSeqWrite t n v s
    | _, some n, _ => doHkMaskWrite i (toFin 6 n) v s
    | _, _, some n => hkLimWrite t n v s
    | _, _, _ => s.take a v

/-- A write in a tile block; `o` is the offset in it. -/
def writeTile (t o a : Nat) (v : Word) (s : State) : State :=
  match o / 0x1_0000 with
  | 1 => writeLp t o a v s
  | 2 => writePw t o a v s
  | 3 => writeFd t o a v s
  | 4 | 5 => writeMc t o a v s
  | 10 | 11 | 12 | 13 =>
    doXtTableWrite (toFin 81920 (tileFirst t + (o - 0xA_0000) / 64)) (toFin 16 (o % 64 / 4)) v s
  | 14 | 15 => doUcodeWindowWrite (toFin 20 t) (toFin 32768 ((o - 0xE_0000) / 4)) v s
  | _ => s.take a v

/-- A BAR0 write of one register (R8 to R10, R16, R538). A write of a register with no writable field has no effect. -/
def writeReg (a : Nat) (v : Word) (env : WriteEnv) (s : State) : State :=
  if mapped a = false || inReadOnlyWindow a then s.accessError a
  else if 0x0100_0000 ≤ a then writeTile ((a - 0x0100_0000) / 0x10_0000) (a % 0x10_0000) a v s
  else match a / 0x10_0000 with
    | 0 => writeGlb a v s
    | 1 => writeTime a v s
    | 2 => if a = R.SCHD_CTL then doSchdCtlWrite v s else s.take a v
    | 3 => writePlc a v s
    | 4 => writeEpo a v s
    | 5 => if a = R.TRV_CTL then doTrvCtlWrite v s else if a = R.TRV_SPEC_CFG then doTrvSpecCfgWrite v s else s.take a v
    | 6 => writeCmd a v s
    | 7 => writeNet a v s
    | 8 => writeEvt a v env s
    | 9 => writeThm a v s
    | 10 => writeCal a v s
    | 11 => writePort ((a - 0xB0_0000) / 0x1000) (a % 0x1000) a v s
    | _ => if a = R.MEM_CTL then memCtlWrite v env.ddr0 env.ddr1 s else s.take a v

/-- A write of a register (R538): judged and taken or discarded whole by its own rule. -/
def doPlainRegisterWrite (a : Nat) (v : Word) (env : WriteEnv) (s : State) : State := if mapped a then writeReg a v env s else s

/-- An access that is not an aligned access to a register, or a write to a read-only window (R9, R10): it reads 0, is discarded, and raises
EV 0. -/
def doAccessError (write : Bool) (a : Nat) (s : State) : State :=
  if write then (if mapped a = false || inReadOnlyWindow a then s.accessError a else s)
  else if mapped a then s else { s.accessError a with bus := 0 }

end Sys2Proof.Machine
end

