-- ==== Sys2Proof/Machine/Telemetry.lean ====
section
/-!
DEFINITION. Sys2Proof/Machine/Telemetry.lean: the telemetry, register and event opcodes, and the frames that name no request (R405, R415,
R416, R418, R452, R454).
-/
namespace Sys2Proof.Machine

/-! ## Telemetry (R226, R415) -/

/-- Whether a tenant may see that an element holds a speculative position: the warden and the tenant whose circuit is its source (R226). -/
def State.provSeen (s : State) (e tenant : Nat) : Bool :=
  tenant == 0 || match (s.elem e).prov with
    | none => true
    | some v => match v.source with
      | .circuit i => (s.ctx i).tenant == tenant
      | .stage id k => s.trv.journal.any fun t => t.id == id && (t.stage k).moves.any fun m =>
          (s.ctx m.ctx).tenant == tenant && (pathAll (path (s.ctx m.ctx).input m.new)).contains e
      | .slot n => s.cir.ctxs.any fun c =>
          c.2.scheduled && ctxSlot c.1 == n && c.2.tenant == tenant && (pathAll c.2.hops).contains e

/-- STATUS as the element would have it without speculation (R226). -/
def State.statusHidden (s : State) (e : Nat) : Nat :=
  (s.setElem e { s.elem e with prov := none }).status e

/-- Whether an element lies on the committed path of a circuit of a tenant (R415); the warden sees every element. -/
def State.elemVisible (s : State) (e tenant : Nat) : Bool :=
  tenant == 0 || s.cir.ctxs.any fun c => c.2.state != Cs.idle && c.2.tenant == tenant && (pathAll c.2.hops).contains e

/-- PIN current in force in 0.25 µA: of the phase in force, or of the committed state where the speculative position is hidden. -/
def State.pinSeen (s : State) (e : Nat) (seen : Bool) : Nat :=
  let ph := if seen then (s.elem e).pinPh
    else (s.setElem e { s.elem e with prov := none }).pinFor e (s.cell (posOf e))
  s.pinCurrent e ph.natAbs

/-- One record of TEL_ELEMENT (R415). -/
def State.telElement (s : State) (tenant e : Nat) : List Byte :=
  if s.elemVisible e tenant = false then natBe 1 0xF ++ List.replicate 7 0
  else
    let x := s.elem e
    let seen := s.provSeen e tenant
    natBe 1 (if seen then s.status e else s.statusHidden e) ++
      natBe 1 (b2n x.home * 128 + b2n (s.cell (posOf e)) * 64 + b2n x.lowlight * 32 + b2n x.clamp * 16 + b2n x.trimmed * 8) ++
      natBe 2 (if x.prov.isSome then 0 else x.wLast) ++ natBe 2 (s.pinSeen e seen / 4) ++ [0, 0]

/-- TEL_ELEMENT (R415). -/
def opTelElement : OpSpec := opAny 0x5001 true
  (fun p => p.length == 8 && decide (1 ≤ u p 4 2) && decide (u p 4 2 ≤ 128) && u p 6 2 == 0 && decide (u p 0 4 + u p 4 2 ≤ 81_920)) fun q s =>
  (s, Code.DONE, (List.range (u q.p 4 2)).flatMap fun i => s.telElement q.r.tenant (u q.p 0 4 + i))

/-- One record of TEL_PORT (R415): visible to the warden, the port's owner and a grantee. -/
def State.telPort (s : State) (tenant at_ : Nat) (out : Bool) (p : Nat) : List Byte :=
  if tenant = 0 ∨ (s.right out p tenant at_).isSome then
    let k := portKey out p
    natBe 2 (match s.tapPower k with
      | none => 0x8000
      | some v => tc 16 v) ++
      natBe 1 (128 + b2n (s.blanked k) * 64 + (s.port k).lstate * 8 + b2n (s.guardLatched k) * 4) ++ [0]
  else [0, 0, 0, 0]

/-- TEL_PORT (R415). -/
def opTelPort : OpSpec := opAny 0x5002 true
  (fun p => p.length == 8 && decide (u p 0 1 < 2) && u p 1 1 == 0 && decide (1 ≤ u p 4 2) && decide (u p 4 2 ≤ 256) && u p 6 2 == 0 &&
    decide (u p 2 2 + u p 4 2 ≤ 1024)) fun q s =>
  (s, Code.DONE, (List.range (u q.p 4 2)).flatMap fun i => s.telPort q.r.tenant q.at_ (u q.p 0 1 == 1) (u q.p 2 2 + i))

/-- TEL_STATUS (R415). -/
def opTelStatus : OpSpec := opAny 0x5003 true (fun p => p.length == 0) fun _ s =>
  let (act, frozen, slot) := match s.sch.active with
    | none => (false, false, 0)
    | some a => (true, a.frozen.isSome, s.slotShown a)
  (s, Code.DONE, natBe 1 s.level ++ natBe 1 (s.get R.TIME_STS_VALID * 128 + s.get R.TIME_STS_SRV_STATE) ++
    natBe 1 (b2n act * 128 + b2n frozen * 64 + b2n s.bivouac * 32 + s.get R.THM_STS_SHUTDOWN * 16) ++ natBe 1 slot ++ be48 s.now)

/-! ## Registers by opcode (R416) -/

/-- Addresses that the register opcodes refuse: keys and the mailbox. -/
def regDenied (a : Nat) : Bool := decide (0x60_3000 ≤ a ∧ a ≤ 0x60_380F) || decide (0x60_0200 ≤ a ∧ a ≤ 0x60_0223)

/-- REG_READ (R416). -/
def opRegRead : OpSpec := opWarden 0x6001 true
  (fun p => p.length == 8 && u p 0 4 % 4 == 0 && decide (1 ≤ u p 4 2) && decide (u p 4 2 ≤ 256) && u p 6 2 == 0) fun q s =>
  let as := (List.range (u q.p 4 2)).map fun i => u q.p 0 4 + 4 * i
  if as.any regDenied then (s, Code.SES_REG_DENIED, [])
  else
    let (s, out) := as.foldl (fun (x : State × List Byte) a => let s := readReg a x.1; (s, x.2 ++ natBe 4 s.bus.toNat)) (s, [])
    (s, Code.DONE, out)

/-- Writes of REG_WRITE in order, up to the first denied address (R416): the state, how many were made, and whether all were. -/
def regWrites (env : WriteEnv) : List (Nat × Nat) → State → Nat → State × Nat × Bool
  | [], s, n => (s, n, true)
  | (a, v) :: r, s, n => if regDenied a then (s, n, false) else regWrites env r (writeReg a (BitVec.ofNat 32 v) env s) (n + 1)

/-- REG_WRITE (R416). -/
def opRegWrite (env : WriteEnv) : OpSpec := opWarden 0x6002 false
  (fun p => decide (1 ≤ u p 0 2) && decide (u p 0 2 ≤ 128) && u p 2 2 == 0 && p.length == 4 + 8 * u p 0 2 &&
    (List.range (u p 0 2)).all fun i => u p (4 + 8 * i) 4 % 4 == 0) fun q s =>
  let (s, n, all) := regWrites env ((List.range (u q.p 0 2)).map fun i => (u q.p (4 + 8 * i) 4, u q.p (8 + 8 * i) 4)) s 0
  (s, if all then Code.DONE else Code.SES_REG_DENIED, natBe 2 n)

/-! ## Subscriptions and record reads (R418, R452, R454) -/

/-- The subscriptions of a session. -/
def State.subs (s : State) (sess : Nat) : List Nat :=
  if sess = 32 then s.cmd.mbxSubs
  else match Tbl.look s.cmd.sessions sess with
    | none => []
    | some x => x.subs

/-- The subscriptions of a session replaced. -/
def State.setSubs (s : State) (sess : Nat) (l : List Nat) : State :=
  if sess = 32 then { s with cmd.mbxSubs := l }
  else match Tbl.look s.cmd.sessions sess with
    | none => s
    | some x => { s with cmd.sessions := Tbl.put s.cmd.sessions sess { x with subs := l } }

/-- Whether the bitmap of a subscription names the source at place `i`. -/
def mapBit (p : List Byte) (i : Nat) : Bool := u p (4 + i / 8) 1 / 2 ^ (7 - i % 8) % 2 == 1

/-- The sources that the bitmap names (R418). -/
def namedSources (p : List Byte) : List Nat := ((List.range (u p 2 2)).filter (mapBit p)).map (u p 0 2 + ·)

/-- A bitmap in its form: as long as COUNT asks, within the 1,536 sources, and zero past COUNT. -/
def mapOk (p : List Byte) : Bool :=
  let n := u p 2 2
  let bytes := (n + 7) / 8
  decide (1 ≤ n) && decide (n ≤ 1536) && decide (u p 0 2 + n ≤ 1536) && p.length == 4 + bytes &&
    (List.range (8 * bytes - n)).all fun i => !mapBit p (n + i)

/-- EVT_SUBSCRIBE (R418, R454). -/
def opSubscribe : OpSpec := opAny 0x8001 true mapOk fun q s =>
  let new := namedSources q.p
  let all := s.subs q.r.sess ++ new.filter fun x => !(s.subs q.r.sess).contains x
  if q.r.tenant != 0 && new.any fun x => !tenantVisible x then (s, Code.EVT_SUB_DENIED, [])
  else if 256 < all.length then (s, Code.EVT_SUB_LIMIT, [])
  else (s.setSubs q.r.sess all, Code.DONE, [])

/-- EVT_UNSUBSCRIBE (R418): COUNT 0 with no bitmap drops every subscription. -/
def opUnsubscribe : OpSpec := opAny 0x8002 true (fun p => mapOk p || (p.length == 4 && u p 2 2 == 0)) fun q s =>
  let left := if u q.p 2 2 = 0 then [] else (s.subs q.r.sess).filter fun x => !(namedSources q.p).contains x
  (s.setSubs q.r.sess left, Code.DONE, [])

/-- EVT_READ (R452). -/
def opEvtRead : OpSpec := opWarden 0x8003 true
  (fun p => p.length == 8 && decide (1 ≤ u p 4 2) && decide (u p 4 2 ≤ 32) && u p 6 2 == 0) fun q s =>
  let i := u q.p 0 4
  let head := s.get (whole R.EVT_HEAD)
  let back := (head + 2 ^ 32 - i) % 2 ^ 32
  let r (n : Nat) : Rec := Tbl.getD s.evt.ring ((i + n) % 2 ^ 32 % 16_384) Rec.empty
  if back = 0 ∨ 16_384 < back ∨ (head < i ∧ (r 0).seq ≠ i) then (s, Code.EVT_RANGE, [])
  else (s, Code.DONE, (List.range (min (u q.p 4 2) back)).flatMap fun n => (r n).bytes)

/-! ## Frames that are no request (R405) -/

/-- Every opcode of R410 to R418. -/
def knownOpcodes : List Nat :=
  [0x1001, 0x1002, 0x1003, 0x1004, 0x2001, 0x2002, 0x2003, 0x2004, 0x2005, 0x2006, 0x2007, 0x2008, 0x2009, 0x200A, 0x3001, 0x3002, 0x3003,
   0x3004, 0x3005, 0x3006, 0x4001, 0x4002, 0x4003, 0x4004, 0x5001, 0x5002, 0x5003, 0x6001, 0x6002, 0x7001, 0x7002, 0x7003, 0x7004, 0x7005,
   0x8001, 0x8002, 0x8003]

/-- A frame of a known opcode that would be answered or would wait is no such step; every other frame is dropped, or answered with
SES_BAD_OPCODE (R405). -/
def doAfiskFrameDropped (f : Frame) (s : State) : State :=
  let s' := doAfisk (opUnknown f.opcode) f s
  if knownOpcodes.contains f.opcode && (s'.cmd.outQ != s.cmd.outQ || s'.cmd.ingress != s.cmd.ingress) then s else s'

/-! ## Policers and shapers (R434, R438) -/

/-- A write of word `k` of `NET_POL_p` (R434). -/
def doPolicerWrite (p : Fin 66) (k : Fin 4) (v : Word) (s : State) : State := policerWrite p k v s

/-- A write of word `k` of `PORT_Q_q` (R438). -/
def doShaperWrite (port q k : Fin 4) (v : Word) (s : State) : State := shaperWrite port q k v s

/-! ## Request rows -/

def doTelElement (f : Frame) (s : State) : State := doAfisk opTelElement f s
def doTelPort (f : Frame) (s : State) : State := doAfisk opTelPort f s
def doTelStatus (f : Frame) (s : State) : State := doAfisk opTelStatus f s
def doRegRead (f : Frame) (s : State) : State := doAfisk opRegRead f s
def doRegWrite (f : Frame) (env : WriteEnv) (s : State) : State := doAfisk (opRegWrite env) f s
def doEvtSubscribe (f : Frame) (s : State) : State := doAfisk opSubscribe f s
def doEvtUnsubscribe (f : Frame) (s : State) : State := doAfisk opUnsubscribe f s
def doEvtRead (f : Frame) (s : State) : State := doAfisk opEvtRead f s

end Sys2Proof.Machine
end

