-- ==== Sys2Proof/Machine/Startup.lean ====
section
/-!
DEFINITION. Sys2Proof/Machine/Startup.lean: cold reset, the start-up stages, control-domain resets and the restart, failover, and the power-fail
sequence ("Start-up, base camp and power failure", "Staying in service", "Network time").
-/
namespace Sys2Proof.Machine

/-! ## Control-domain resets (R4 to R6, R409, R468 to R471) -/

/-- The reset domain of a register. -/
def domAt (a : Nat) : Option Dom := (regRow a).map (·.dom)

/-- Control-domain registers that are rebuilt from the tiles with the values they had: the engines, the calibration states, the throttle
status and the epoch engine's control. -/
def rebuilt (a : Nat) : Bool :=
  a == R.EPO_CTL || a == R.THM_STS || (idx (R.GLB_ENG 0) 4 20 a).isSome || (idx (R.CAL_TILE_0 0) 4 40 a).isSome

/-- The servo restarts in HOLDOVER where it was locked (R138, R139). -/
def State.servoAfter (s : State) : Nat :=
  let v := s.get R.TIME_STS_SRV_STATE
  if v = srvLocked ∨ v = srvHoldover then srvHoldover else srvFreerun

/-- The registers after a control-domain reset (R4, R6, R121, R160). -/
def State.dropControl (s : State) : State :=
  let past := match s.sch.swap with
    | none => false
    | some w => w.past
  let keep (a : Nat) : Bool := domAt a != some .control || rebuilt a ||
    (past && (a == R.SCHD_SWAP || a == R.SCHD_SWAP_T_HI || a == R.SCHD_SWAP_T_LO))
  let s' := { s with regs := s.regs.filter fun e => keep e.1 }
  let s' := (s'.put R.TIME_STS_VALID (s.get R.TIME_STS_VALID)).put R.TIME_STS_REF_OK (s.get R.TIME_STS_REF_OK)
  ((s'.put R.TIME_STS_SRV_STATE s.servoAfter).put R.THM_STS_REFUSE 0).put R.EPO_CTL_REFUSE 0

/-- What the hub holds in its own memory is dropped (R104, R409, R434, R441, R453, R462); repairs that ran or waited are taken up again. -/
def State.dropHub (s : State) : State :=
  let repairs := ((match s.cir.run with
    | none => []
    | some r => [r.goal]) ++ s.cir.waitRuns).filterMap fun g => match g with
      | .repair n sl => some (n, sl)
      | .request _ => none
  { s with
    cmd := { s.cmd with sessions := [], nonces := [], posted := [], mbxOutstanding := [], mbxSubs := [], held := [], fullSince := none,
                        stallReported := false, ingress := [], outQ := [], mbxUid := s.cmd.nextUid, nextUid := s.cmd.nextUid + 1 }
    net := { s.net with policers := [], queues := [], gates := [], lineBusy := [] }
    evt := { s.evt with block := none, flushDue := none, rate := [], mirror := [], lostRun := false }
    cir := { s.cir with queue := [], run := none, waitRuns := [], noRepair := s.cir.noRepair ++ repairs }
    tm := { s.tm with step := none, heldHi := none, ppsHighUntil := none, lastPps := none, ppsUnread := false, lockRun := 0, master := false }
    thm := { s.thm with pol := [], polWait := [] } }

/-- The hub's mirrors of the element records are invalid (R256), and every calibration hold ends with the sync marks (R380). -/
def State.tilesAlone (s : State) : State :=
  (List.range 20).foldl (fun s t =>
    let s := s.holdsEnd t
    (s.setTile t { s.tile t with mirror := [], mirrorK := 0 }).put (R.TILE_LP_STS_MIRROR_OK t) 0) s

/-- The cause recorded (`GLB_RST_CAUSE`), and a firmware change ended without a completion. -/
def State.noteReset (s : State) (cause : Nat) : State :=
  let s := (s.put R.GLB_RST_CAUSE_CAUSE cause).count R.GLB_RST_CAUSE_COUNT
  let s := if s.svc.fw.isSome then (s.put R.GLB_FW_0_BUSY 0).put R.GLB_FW_0_STBY_READY 0 else s
  { s with svc := { s.svc with ctrlReset := true, fwRuns := false, fw := none, resetAt := none, freezeEnd := none, refGoodSince := none,
                               outAt := s.now },
           evt.tileLostAt := s.get (whole R.EVT_TILE_LOST) }

/-- A control-domain reset begins (R4, R5, R138, R160, R212, R256, R380, R409, R514, R530): in service, in a start-up, which resumes at ROM, or
during the power-fail sequence, whose flush is abandoned. The running traverse is suspended. -/
def State.beginReset (s : State) (cause : Nat) : State :=
  if s.svc.por = false ∨ s.svc.ctrlReset = true ∨ s.stage = 0 ∨ s.stage = 7 then s
  else
    let s := (((s.noteReset cause).dropControl).dropHub).tilesAlone.suspendHead
    if s.stage = 6 ∨ s.stage = 8 then s else s.put R.GLB_BOOT_STAGE 1

/-- A soft reset whose instant has come begins (R470). -/
def State.resetDue (s : State) : State := match s.svc.resetAt with
  | none => s
  | some (at_, cause) => if at_ ≤ s.now then s.beginReset cause else s

/-- HUB_RST_N low for `width` ns (R4, R468, R529, R530): pulses below 100 ns are ignored, and the control domain stays in reset while it is
low. -/
def doWarmReset (width : Nat) (s : State) : State :=
  if width < 100 ∨ s.svc.por = false then s else { s.beginReset 1 with svc.rstRise := s.now + width }

/-! ## Failover (R471, R472) -/

/-- The active group is lost: a failover with a freeze of at most 100 µs where the standby group is ready, else a warm reset (R471). -/
def State.groupLost (s : State) (freeze : Nat) : State :=
  if s.ctrlUp = false ∨ s.svc.freezeEnd.isSome = true then s
  else if s.flag R.GLB_FW_0_STBY_READY then
    { s with svc.freezeEnd := some (s.now + min freeze 100_000), svc.outAt := s.now, evt.tileLostAt := s.get (whole R.EVT_TILE_LOST) }
  else s.beginReset 2

/-- The hub watchdog expires (R4, R471); `freeze` is how long the failover takes. -/
def doHubWatchdogExpiry (freeze : Nat) (s : State) : State := s.groupLost freeze

/-- A fatal fault of the active group (R471). -/
def doHubFatalFault (freeze : Nat) (s : State) : State := s.groupLost freeze

/-- The tile occurrences of an interval without the hub, in time order, with EV 12 where some were lost (R460). -/
def State.hubBack (s : State) : State :=
  let q := s.evt.tileQ
  let s : State := q.foldl (fun (s : State) x => s.record x.1 x.2) { s with evt.tileQ := [] }
  if s.evt.tileLostAt < s.get (whole R.EVT_TILE_LOST) then s.ev Ev.tileEventsLost else s

/-- The epochs of a class at which something waits for its verification. -/
def State.waitingEpochs (s : State) (cls : Bool) : List Nat :=
  let circuits := (s.cir.ctxs.filter fun x => x.2.waits && x.2.scheduled == cls).map (·.2.eplan)
  let stages := (s.trv.journal.filter fun t => t.slotScope == cls && t.timedNow).flatMap fun t => t.remaining.map fun k => (t.stage k).e
  let leaves := if cls then [] else s.cir.leaves.map (·.e)
  let swap := match s.sch.swap with
    | none => []
    | some w => if cls && !w.past then [w.esw] else []
  ((circuits ++ stages ++ leaves ++ swap).filter fun e => (s.trans cls e).isNone).eraseDups

/-- An epoch whose point of no return fell in the freeze and whose G0 has passed (R472): its circuits fail, its swap is lost, and stages and
circuits that leave go to a later epoch. -/
def State.missedEpoch (s : State) (cls : Bool) (e : Nat) : State :=
  let lost := (s.cir.ctxs.filter fun x => x.2.waits && x.2.scheduled == cls && x.2.eplan == e).map (·.1)
  let s := lost.foldl State.verifyFails s
  let s := match s.stageDue cls e, s.trv.journal with
    | some k, t :: _ => s.setHead (s.stageWaits t k (s.stageFrom t s.now))
    | _, _ => s
  let s := if cls then s else { s with cir.leaves := s.cir.leaves.map fun l => if l.e == e then { l with e := s.nextPers } else l }
  match s.sch.swap with
  | none => s
  | some w => if cls && w.esw == e && !w.past then s.swapEnds Code.SCH_SWAP_LOST true else s

/-- An epoch whose point of no return fell in the freeze: verified and armed now where its G0 lies ahead (R472). -/
def State.lateEpoch (s : State) (cls : Bool) (e : Nat) : State :=
  if s.now < e - s.gb then
    match s.sch.swap with
    | none => s.verifyEpoch cls e
    | some w => if cls && w.esw == e then s.verifySwap w else s.verifyEpoch cls e
  else s.missedEpoch cls e

/-- Every request opcode (R410 to R418). -/
def allOps (env : WriteEnv) : List OpSpec :=
  [opChallenge, opOpen, opClose, opKeepalive, opCirRequest, opCirRelease, opCirEnable, opCirDisable, opCirAttr, opCirLease, opCirRead,
   opGrantCreate, opGrantRevoke, opGrantLease, opSchLoadBegin, opSchLoadSlot, opSchLoadEnd, opSchErase, opSchSwap, opSchCancel] ++
  [opTrvRequest, opTrvAbort, opTrvResume, opTrvRollback, opTelElement, opTelPort, opTelStatus, opRegRead, opRegWrite env, opIdentity,
   opFwStage, opFwActivate, opCell, opSoftReset, opSubscribe, opUnsubscribe, opEvtRead]

/-- A frame of the ingress queue processed (R472). -/
def State.processQueued (s : State) (env : WriteEnv) (f : Frame) (at_ : Nat) : State :=
  s.process (((allOps env).find? (·.opcode == f.opcode)).getD (opUnknown f.opcode)) f at_

/-- The end of a failover freeze (R471, R472): the groups exchange, EV 4, what fell in the freeze is verified or lost, and the frames that
waited are processed. -/
def doFailoverFreezeEnd (env : WriteEnv) (s : State) : State := match s.svc.freezeEnd with
  | none => s
  | some f =>
    let s := s.advanceTo f
    let began := s.svc.outAt
    let s := { s with svc.freezeEnd := none, svc.active := s.svc.standby, svc.standby := s.svc.active,
                      svc.refGoodSince := if s.svc.refLost then none else some s.now }
    let s := ((s.put R.GLB_FW_0_ACT_GRP (1 - s.get R.GLB_FW_0_ACT_GRP)).put R.GLB_FW_0_STBY_READY 0).hubBack.ev Ev.failover
    let fell (e : Nat) : Bool := decide (began ≤ e - 5_000) && decide (e - 5_000 ≤ s.now)
    let s := ((s.waitingEpochs true).filter fell).foldl (fun s e => s.lateEpoch true e) s
    let s := ((s.waitingEpochs false).filter fell).foldl (fun s e => s.lateEpoch false e) s
    let q := s.cmd.ingress
    q.foldl (fun s x => s.processQueued env x.1 x.2) { s with cmd.ingress := [] }

/-! ## The saved configuration (R138, R425, R441, R504, R505) -/

/-- Saved registers whose bit 0 enables their block. -/
def enables (a : Nat) : Bool :=
  [R.TIME_PTP_CFG, R.NET_CTL, R.CMD_CTL, R.EVT_CTL, R.CAL_CTL, R.PLC_CTL, R.TRV_CTL, R.TRV_SPEC_CFG, R.SCHD_CTL].contains a ||
    (idx (R.PORT_CTL 0) 0x1000 4 a).isSome ||
    (decide (0x0100_0000 ≤ a) && (a % 0x10_0000 == 0x1_0000 || a % 0x10_0000 == 0x3_0B00))

/-- One saved word written back, its ENABLE left at 0; a guard band and a frame period take effect as written. -/
def State.restoreReg (s : State) (a : Nat) (w : Word) : State :=
  let w := if enables a then setBits w 0 0 0 else w
  let s := s.wr a (writeFields (fieldsAt a) (s.rd a) w)
  if a = R.EPO_GB then s.put R.EPO_GB_GB_USE (bits w 12 0)
  else if 0x0100_0000 ≤ a ∧ a % 0x10_0000 = 0x1_0004 then s.put ⟨a, 19, 16⟩ (bits w 3 0)
  else s

/-- A port's active gate list follows its restored shadow list where GATE_EN was saved as 1 (R441). -/
def State.restoreGate (s : State) (port : Nat) : State :=
  if s.flag (R.PORT_GATE_CTL_GATE_EN port) then
    let s := (List.range 64).foldl (fun s k => s.wr (R.PORT_GCLA port k) (s.rd (R.PORT_GCL port k))) s
    let base := nearest (s.get (R.PORT_GATE_BASE_HI_B port) * 2 ^ 32 + s.get (whole (R.PORT_GATE_BASE_LO port))) s.now
    { s with net.gates := Tbl.put s.net.gates port ⟨base, s.get (R.PORT_GATE_CTL_NENT port), none⟩ }
  else s

/-- The registers of the configuration that a start takes, for which `p` holds. -/
def State.restoreConfig (s : State) (p : Nat → Bool) : State := match s.nv.config with
  | none => s.ev Ev.configurationAreaFault
  | some c =>
    let s := (c.regs.filter fun e => p e.1).foldl (fun s e => s.restoreReg e.1 e.2) s
    (List.range 4).foldl State.restoreGate s

/-- The saved word of a register that enables a block; where none is saved, its reset word. -/
def State.savedWord (s : State) (a : Nat) : Word := match s.nv.config with
  | none => resetWord a
  | some c => (Tbl.look c.regs a).getD (resetWord a)

/-- A block enabled as saved, by the write that enables it (R509). -/
def State.enableAs (s : State) (a : Nat) (write : Word → State → State) : State :=
  if bit (s.savedWord a) 0 then write (s.savedWord a) s else s

/-- TIME, NET and PORT, EVT, SCHD and CAL as saved; CMD, PLC and TRV stand where they are retained. -/
def State.enableSaved (s : State) (cold : Bool) : State :=
  let s := s.enableAs R.TIME_PTP_CFG doTimePtpCfgWrite
  let s := s.enableAs R.NET_CTL doNetCtlWrite
  let s := (List.range 4).foldl (fun s n => s.enableAs (R.PORT_CTL n) (doPortCtlWrite (toFin 4 n))) s
  let s := if cold then s.enableAs R.CMD_CTL doCmdCtlWrite else s
  let s := s.enableAs R.EVT_CTL doEvtCtlWrite
  let s := if cold then s.enableAs R.PLC_CTL doPlcCtlWrite else s
  let s := if cold then (s.enableAs R.TRV_CTL doTrvCtlWrite).enableAs R.TRV_SPEC_CFG doTrvSpecCfgWrite else s
  let s := s.enableAs R.SCHD_CTL doSchdCtlWrite
  s.enableAs R.CAL_CTL doCalCtlWrite

/-! ## Restart after a control-domain reset (R104, R138, R160, R212, R390, R460, R469) -/

/-- A tile's counter as an offset in ps; an unlisted tile is at 0. -/
def tileOffset (off : List (Fin 20 × Int)) (t : Nat) : Int := match off.find? fun x => x.1.val == t with
  | none => 0
  | some x => x.2

/-- A value put into a rising list. -/
def insertRising (x : Int) : List Int → List Int
  | [] => [x]
  | y :: l => if x ≤ y then x :: y :: l else y :: insertRising x l

/-- The median of the tile counters, as an offset in ps from device time (R138). -/
def medianOffset (off : List (Fin 20 × Int)) : Int :=
  let sorted := (List.range 20).foldl (fun l t => insertRising (tileOffset off t) l) []
  (sorted.getD 9 0 + sorted.getD 10 0) / 2

/-- Device time loaded from the tiles (R138): tiles more than 1 ns from the median are resynchronised under R135. -/
def State.loadTime (s : State) (off : List (Fin 20 × Int)) : State :=
  let m := medianOffset off
  let s := { s with t := ((s.t : Int) + m * 2 ^ 32 / 1_000).toNat }
  let s := s.setInc s.tm.inc
  (List.range 20).foldl (fun s t =>
    if 1_000 < (tileOffset off t - m).natAbs then (s.put ⟨R.TIME_TILE_STS, t, t⟩ 1).ev Ev.tileResync else s) s

/-- A context is carried by a transition in progress. -/
def State.inTrans (s : State) (i : Nat) : Bool := s.fab.trans.any fun t => t.lights.contains i

/-- Circuits whose epoch had not been armed are re-timed from now, PENDING ones placed again, circuits that leave go to a later epoch, and loss
checks start again (R58, R104, R539). -/
def State.circuitsBack (s : State) : State :=
  let x := s.now
  let waits := (s.cir.ctxs.filter fun e => e.2.waits && !s.inTrans e.1).map (·.1)
  let s : State := waits.foldl (fun (s : State) i => s.retime i x) s
  let s : State := (waits.filter fun i => (s.ctx i).state == Cs.pending).foldl State.queueUp s
  let armed (l : Leave) : Bool := s.fab.trans.any fun t => !t.slotClass && t.e == l.e
  let s := { s with cir.leaves := s.cir.leaves.map fun (l : Leave) => if decide (l.e ≤ x + 5_000) && !armed l then { l with e := s.nextPers } else l }
  { s with cir.ctxs := s.cir.ctxs.map fun (e : Nat × Ctx) => (e.1, if e.2.check.isSome then { e.2 with check := some (x, 0) } else e.2),
           cir.deferUntil := s.cir.deferUntil.map fun _ => x,
           cir.retryAt := if s.cir.noRepair.isEmpty then s.cir.retryAt else some x }

/-- Library entries that were LOADING read EMPTY (R412), and an armed swap whose point of no return has not passed is lost (R160). -/
def State.schedulesBack (s : State) : State :=
  let s := { s with sch.lib := s.sch.lib.filter fun e => e.2.lstate != Ls.loading }
  match s.sch.swap with
  | none => s
  | some w => if w.past then s else s.swapEnds Code.SCH_SWAP_LOST true

/-- Throttle and calibration after the restart (R379, R390). -/
def State.thermalBack (s : State) : State :=
  let failed := (List.range 80).any fun n => s.rd (R.THM_FAIL n) != 0
  { s with thm.quiet := 0, thm.lastFail := if failed then some s.now else s.thm.lastFail }.calRestart

/-- The control domain accepts requests again (R469); `off` are the tile counters in ps about device time. A soft reset that is due begins
first. -/
def doControlRestart (off : List (Fin 20 × Int)) (s : State) : State :=
  let s := match s.svc.resetAt with
    | none => s
    | some (at_, cause) => (s.advanceTo at_).beginReset cause
  if s.svc.por && s.svc.ctrlReset && s.stage == 6 then
    let s := s.advanceTo s.svc.rstRise
    let s := { s with svc.ctrlReset := false, svc.fwRuns := true, svc.lastMark := s.now,
                      svc.refGoodSince := if s.svc.refLost then none else some s.now }
    let s := s.loadTime off
    let s := memCtlWrite (setBits (resetWord R.MEM_CTL) 0 0 1) (!s.svc.ddrLost0) (!s.svc.ddrLost1) s
    let s := s.restoreConfig fun a => domAt a == some .control && a != R.EPO_CTL
    let s := (s.evt.opens.map (·.rec_.src)).foldl (fun s src => s.closeRec src s.now) s
    let s := { s with evt.lastFlush := s.now }.hubBack
    let s := s.raise { occ Ev.controlDomainRestart with aux := some (s.get R.GLB_RST_CAUSE_CAUSE) }
    let s := (s.enableSaved false).thermalBack.schedulesBack.circuitsBack
    let s := if s.suspendedHead.isSome then s.ev Ev.traverseSuspended Code.TRV_BIVOUAC else s
    if s.flag R.GLB_STS_HO_FROZEN then s.ev Ev.holdoverFreeze else s
  else s

/-! ## Cold reset and the start-up stages (R3, R499 to R511) -/

/-- POR_N low for `width` ns (R3, R328, R529): below 100 ns it is ignored; from there every latch is closed on hold-up energy, and every domain
and the retained region are reset. The commands that wait and the frames that have left stand. -/
def doColdReset (width : Nat) (s : State) : State :=
  if width < 100 then s
  else
    let c := State.cold { s.nv with emergency := true }
    { c with pending := s.pending, free := s.free, cmd.sent := s.cmd.sent, cmd.msixCompletion := s.cmd.msixCompletion,
             cmd.msixAlert := s.cmd.msixAlert }

/-- POR_N rises (R327, R328, R499): tiles 0 and 9 sense every latch and close those of `notDark`, which read OPEN (0) or INDET (1); an emergency
close before is counted and reported. -/
def doPorRelease (notDark : List (Fin 2048 × Fin 2)) (s : State) : State :=
  if s.svc.por then s
  else
    let s := { s with svc.por := true }.put R.TIME_STS_REF_OK 1
    let s := (List.range 2048).foldl (fun s k => s.setPort k { s.port k with sense := 2 }) s
    let s := notDark.foldl (fun s x => s.setPort x.1.val { s.port x.1.val with lstate := if x.2.val = 0 then 2 else 0, sense := x.2.val }) s
    let s := s.closeAll ((List.range 2048).filter fun k => notDark.any fun x => x.1.val == k) s.now true
    if s.nv.emergency then
      [0, 9].foldl (fun s t => (s.count (whole (R.TILE_FD_LAT_CNT t 3))).ev (Ev.emergencyClose t)) { s with nv.emergency := false }
    else s

/-- Whether a slot holds a valid image (R500, R501): none, valid, or refused with a code. -/
inductive Slot where
  | empty
  | valid (v : FwImage)
  | refused (code : Nat)
  deriving DecidableEq, Repr

/-- A slot judged (R500, R501). -/
def State.judgeSlot (s : State) (b : BootImage) : Slot :=
  if !b.wellFormed || b.imgVer == 0 || decide (65_535 < b.imgVer) || decide (255 < b.arbVer) || decide (b.len < 4096) ||
      decide (16_777_216 < b.len) then .empty
  else if !b.sigOk then .refused Code.BOOT_SIG_FAIL
  else if b.arbVer < s.nv.arbMin then .refused Code.BOOT_ROLLBACK
  else .valid ⟨b.imgVer, b.arbVer⟩

/-- Both groups take an image from a slot. -/
def State.bootFrom (s : State) (slotB : Bool) (v : FwImage) (refused : Nat) (fallback : Bool) : State :=
  let s := { s with svc.active := v, svc.standby := v, svc.bootRefused := refused, svc.bootStart := s.now }
  let s := ((s.put R.GLB_BOOT_STAGE 1).put R.GLB_BOOT_SLOT (b2n slotB)).put R.GLB_BOOT_FALLBACK (b2n fallback)
  let s := if refused = 0 then s else s.put R.GLB_BOOT_CODE refused
  ((s.put R.GLB_FW_1_VER_ACT v.imgVer).put R.GLB_FW_1_VER_STBY v.imgVer).put R.GLB_ARB_CTL_ARB_ACT v.arbVer

/-- Start-up stops (R499). -/
def State.halt (s : State) (code : Nat) : State :=
  { (s.put R.GLB_BOOT_STAGE 7).put R.GLB_BOOT_CODE code with svc.fwRuns := false }

/-- The ROM stage with the images of slots A and B (R501, R503): it starts when LATCH is over and HUB_RST_N is high. -/
def doBootRom (a b : BootImage) (s : State) : State :=
  if s.svc.por && (s.stage == 0 || (s.stage == 1 && s.svc.ctrlReset)) then
    let s := s.advanceTo s.svc.rstRise
    let s := { s with svc.ctrlReset := false, svc.bootTries := 1, fab.noOpen := false }.put R.GLB_FW_ARB_ARB_MIN s.nv.arbMin
    match s.judgeSlot a, s.judgeSlot b with
    | .valid x, .valid y => if y.imgVer ≤ x.imgVer then s.bootFrom false x 0 false else s.bootFrom true y 0 false
    | .valid x, .refused c => s.bootFrom false x c true
    | .refused c, .valid y => s.bootFrom true y c true
    | .valid x, .empty => s.bootFrom false x 0 false
    | .empty, .valid y => s.bootFrom true y 0 false
    | _, _ => s.halt Code.BOOT_NO_IMAGE
  else s

/-- 10 s after the start of a boot attempt the image has not entered RESTORE (R502): the other slot, holding `other`, is booted once. -/
def doBootWatchdogExpiry (other : BootImage) (s : State) : State :=
  if s.svc.por && s.stage == 1 && !s.svc.ctrlReset then
    let s := s.advanceTo (s.svc.bootStart + 10_000_000_000)
    if s.svc.bootTries = 1 then
      match s.judgeSlot other with
      | .valid x => { s.bootFrom (!s.flag R.GLB_BOOT_SLOT) x 0 true with svc.bootTries := 2 }
      | _ => s.halt Code.BOOT_NO_IMAGE
    else s.halt Code.BOOT_NO_IMAGE
  else s

/-- The wear copy that a start takes: the good one of higher generation (R459). -/
def NvSt.wear (n : NvSt) : Option WearCopy :=
  match n.wearA.good, n.wearB.good with
  | true, true => some (if n.wearB.gen ≤ n.wearA.gen then n.wearA else n.wearB)
  | true, false => some n.wearA
  | false, true => some n.wearB
  | false, false => none

/-- Wear counts restored (R459): the saved count, the close pulses made since POR_N rose, and an emergency close that R328 reports. -/
def State.restoreWear (s : State) : State :=
  let s' := if s.nv.wear.isNone then s.ev Ev.configurationAreaFault else s
  let saved := match s.nv.wear with
    | none => []
    | some w => w.counts
  (List.range 2048).foldl (fun s k =>
    let t := portTile k
    let n := Tbl.getD saved k 0 + s.get (whole (R.TILE_FD_WEAR t (k % 1024))) + s.get (whole (R.TILE_FD_LAT_CNT t 3))
    s.put (whole (R.TILE_FD_WEAR t (k % 1024))) (min n (2 ^ 32 - 1))) s'

/-- Key of a correction entry in the calibration area, beside the tables of `CAL_TBL_SEL`. -/
def corrKey (t i : Nat) : Nat := tblKey t 3 i

/-- The tables of a cold start (R266, R505): microcode in both banks, and the element, drive and correction tables of the calibration area, or of
manufacture. -/
def State.loadTables (s : State) : State :=
  let area := if s.nv.calHeld then s.nv.calArea else []
  let s := { s with cal.tables := area.filter (fun e => e.1 / 2 ^ 16 % 4 != 3), cal.loaded := true }
  (List.range 20).foldl (fun s t =>
    let corr := (area.filter fun e => e.1 / 2 ^ 16 == 4 * t + 3).map fun e => (e.1 % 2 ^ 16, e.2)
    s.setTile t { s.tile t with bankA := shippedBank, bankB := shippedBank, corr := corr }) s

/-- The RESTORE stage (R457, R459, R499, R504, R505): `ok0` and `ok1` tell whether each DDR channel trains. A start-up resumed after a
control-domain reset keeps the tables and counters in the tiles. -/
def doRestoreStage (ok0 ok1 : Bool) (s : State) : State :=
  if s.svc.por && s.stage == 1 && !s.svc.ctrlReset then
    let first := !s.cal.loaded
    let s := { s with svc.fwRuns := true, evt.lastFlush := s.now, evt.lastWearSave := s.now }.put R.GLB_BOOT_STAGE 2
    let s := if first then (s.put (whole R.EVT_HEAD) s.nv.logNext).put (whole R.EVT_FLUSHED) s.nv.logNext else s
    let s := (s.put R.EVT_CAIRN_STS_USED s.nv.cairn.length).hubBack.ev Ev.startUpStage
    let s := if s.get R.GLB_RST_CAUSE_COUNT = 0 then s
      else s.raise { occ Ev.controlDomainRestart with aux := some (s.get R.GLB_RST_CAUSE_CAUSE) }
    let s := if s.flag R.GLB_BOOT_FALLBACK then s.ev Ev.imageFallback s.svc.bootRefused else s
    let s := memCtlWrite (setBits (resetWord R.MEM_CTL) 0 0 1) ok0 ok1 s
    let s := s.restoreConfig fun a => first || domAt a == some .control
    let s := match s.nv.config with
      | none => { s with svc.crvHost := [], svc.crvAuto := [] }
      | some c => { s with svc.crvHost := c.crvHost, svc.crvAuto := c.crvAuto }
    if first then s.loadTables.restoreWear else s
  else s

/-- Operating range of a supply channel in mV (R355, R523); the latch supply is measured in tiles 0 and 9. -/
def supplyRange (t ch : Nat) : Option (Int × Int) :=
  match ch with
  | 0 => some (728, 772)
  | 1 => some (1164, 1236)
  | 2 => some (2375, 2625)
  | 3 | 4 => some (1710, 1890)
  | 5 => if t = 0 ∨ t = 9 then some (3135, 3465) else none
  | _ => none

/-- A supply of the tile reads outside its range in both rounds (R506, R507). -/
def supplyBad (t : Nat) (b : BaseTile) : Bool :=
  b.supply.any fun x => match supplyRange t x.1.val with
    | none => false
    | some (lo, hi) => [x.2.1, x.2.2].all fun r => decide (r.toInt < lo) || decide (hi < r.toInt)

/-- A base camp fault (R507). -/
def State.baseFault (s : State) : State := (s.put R.GLB_BOOT_CODE Code.BOOT_BASECAMP_FAIL).ev Ev.startUpFault Code.BOOT_BASECAMP_FAIL

/-- One tile's base camp ends (R367, R373, R377, R507, R508). -/
def State.campTile (s : State) (full : Bool) (t : Nat) (b : BaseTile) : State :=
  let s := { s with cal.camped := s.cal.camped ++ [t] }
  let sensor := (List.range 4).any fun k => s.rd (R.THM_FAIL (4 * t + k)) != 0
  let s := if sensor then s.baseFault else s
  if !b.anchorOk then (s.baseFault.anchorFault t).autoReports (tileCells t)
  else
    let s := if b.deferred then s.baseFault else s
    let trimOk (i : Nat) : Bool := decide (i < 16 + calBanks t) || i == 34 || i == 35 || (full && i == 36)
    let s := (b.trims.filter fun x => trimOk x.1).foldl (fun s x => s.setTrim t x.1 x.2) s
    let s := (b.fd.filter fun x => decide (x.1 < 8192)).foldl (fun s x => s.putTbl (tblKey t 1 x.1) x.2) s
    let corr := (b.corr.filter fun x => decide (x.1 < corrEntries t)).foldl (fun c x => Tbl.put c x.1 x.2) (s.tile t).corr
    let s := { s.setTile t { s.tile t with corr := corr } with cal.lastDone := Tbl.put s.cal.lastDone t s.now }
    (s.put (R.CAL_TILE_0_T_CAL t) b.temp.toNat).ev Ev.recalibrationCompleted

/-- The BASECAMP stage (R506 to R508) with what each tile finds, in tile order; tiles that have completed it are not recalibrated again. -/
def doBasecampStage (tiles : Vector BaseTile 20) (s : State) : State :=
  if s.svc.por && s.stage == 2 && s.svc.fwRuns then
    let full := !s.flag R.GLB_BOOT_BC_MODE
    let s := (s.put R.GLB_BOOT_STAGE 3).ev Ev.startUpStage
    let todo := (List.range 20).filter fun t => !s.cal.camped.contains t
    let wide := todo.any fun t => t == 0 || t == 9
    let took := if todo.isEmpty then 0 else if !full then 3_054_000_000 else if wide then 35_174_000_000 else 33_953_000_000
    let s := s.advanceTo (s.now + took)
    if (List.range 20).any fun t => supplyBad t (tiles.get (toFin 20 t)) then (s.baseFault).halt Code.BOOT_BASECAMP_FAIL
    else
      let s := todo.foldl (fun s t => s.campTile full t (tiles.get (toFin 20 t))) s
      let corr := (List.range 20).flatMap fun t => (s.tile t).corr.map fun e => (corrKey t e.1, e.2)
      { s with nv.calArea := corr.foldl (fun m e => Tbl.put m e.1 e.2) s.cal.tables, nv.calHeld := s.nv.calHeld || full }
  else s

/-- An enable of orders 1 to 4 (R509): the block's control register written with ENABLE = 1; a refusal stops start-up with its code. -/
def State.mustEnable (s : State) (en re : Fld) (write : Word → State → State) : State :=
  if s.stage = 7 then s
  else
    let s := write (setBits (s.rd en.addr) 0 0 1) s
    if s.flag en then s
    else
      let code := s.get re
      (s.ev Ev.startUpFault code).halt code

/-- A block of order 5 that its saved word enables and its check refuses (R509). -/
def State.mayEnable (s : State) (before : State) : State :=
  let blocks := [(R.TIME_PTP_CFG_ENABLE, R.TIME_STS_REFUSE), (R.NET_CTL_ENABLE, R.NET_CTL_REFUSE), (R.CMD_CTL_ENABLE, R.CMD_CTL_REFUSE),
    (R.EVT_CTL_ENABLE, R.EVT_CTL_REFUSE), (R.PLC_CTL_ENABLE, R.PLC_CTL_REFUSE), (R.TRV_CTL_ENABLE, R.TRV_CTL_REFUSE),
    (R.TRV_SPEC_CFG_ENABLE, R.TRV_CTL_REFUSE), (R.SCHD_CTL_ENABLE, R.SCHD_CTL_REFUSE), (R.CAL_CTL_ENABLE, R.CAL_CTL_REFUSE)] ++
    (List.range 4).map fun n => (R.PORT_CTL_ENABLE n, R.PORT_CTL_REFUSE n)
  blocks.foldl (fun s b =>
    if bit (before.savedWord b.1.addr) 0 && !s.flag b.1 then (s.put R.GLB_BOOT_CODE (s.get b.2)).ev Ev.startUpFault (s.get b.2) else s) s

/-- The ENABLE stage (R509). -/
def doEnableStage (s : State) : State :=
  if s.svc.por && s.stage == 3 && s.svc.fwRuns then
    let s := { s.put R.GLB_BOOT_STAGE 4 with svc.lastMark := s.now }.ev Ev.startUpStage
    let s := (List.range 20).foldl (fun s t => s.mustEnable (R.TILE_MC_CTL_ENABLE t) (R.TILE_MC_CTL_REFUSE t) (mcCtlWrite t)) s
    let s := (List.range 20).foldl (fun s t => s.mustEnable (R.TILE_LP_CTL_ENABLE t) (R.TILE_LP_CTL_REFUSE t) (doTileLpCtlWrite (toFin 20 t))) s
    let s : State := [false, true].foldl (fun (s : State) out =>
      s.mustEnable (R.TILE_FD_LAT_CFG_ENABLE (sideTile out)) (R.TILE_FD_LAT_CFG_REFUSE (sideTile out)) (doLatCfgWrite out)) s
    let s : State := s.mustEnable R.EPO_CTL_ENABLE R.EPO_CTL_REFUSE doEpoCtlWrite
    if s.stage = 7 then s else (s.enableSaved true).mayEnable s
  else s

/-- One latch verified (R510, R320, R321): an open pulse sensed OPEN, and a close pulse sensed DARK. -/
def State.verifyLatch (s : State) (k : Nat) (failOpen failClose : Bool) : State :=
  let t := portTile k
  let out := decide (1024 ≤ k)
  let bad (s : State) : State :=
    (s.put ⟨R.GLB_PORT_FLT (k / 32), k % 32, k % 32⟩ 1).raise
      { occ Ev.latchVerification Code.BOOT_LATCH_VERIFY with subj := 2, idx := k % 1024 + b2n out * 1024 }
  if (s.port k).lstate != 0 then s
  else if failOpen then
    let r := s.get (R.TILE_FD_LAT_CFG_OPEN_RETRY t)
    let s := (s.countN (whole (R.TILE_FD_LAT_CNT t 0)) (r + 1)).countN (whole (R.TILE_FD_LAT_CNT t 2)) (r + 1)
    bad ((s.setPort k { s.port k with lstate := 4, sense := 2 }).evPort (Ev.latchOpenFailed t) out (k % 1024) 0 Code.PRT_LATCH_OPEN_FAIL)
  else
    let s := (s.count (whole (R.TILE_FD_LAT_CNT t 0))).closePulse k s.now 3 0
    if failClose then
      let s := (List.range 3).foldl (fun s i => (s.count (whole (R.TILE_FD_LAT_CNT t 2))).closePulse k s.now 3 (i + 1)) s
      let s := (s.count (whole (R.TILE_FD_LAT_CNT t 2))).setPort k { s.port k with lstate := 5, sense := 0, pulse := none, flt := true }
      bad ((s.evPort (Ev.latchCloseFailed t) out (k % 1024) 0 Code.PRT_LATCH_CLOSE_FAIL).reportPort k)
    else s.setPort k { s.port k with lstate := 0, sense := 2, pulse := none, tries := 0 }

/-- The VERIFY stage and the entry into READY (R499, R510, R511): the ports whose open or close fails. -/
def doVerifyStage (failOpen failClose : List (Fin 2048)) (s : State) : State :=
  if s.svc.por && s.stage == 4 && s.svc.fwRuns then
    let s := (s.put R.GLB_BOOT_STAGE 5).ev Ev.startUpStage
    let rounds (t : Nat) : Nat := let m := max 1 (s.get (R.TILE_FD_LAT_CFG_OPEN_MAX t)); (1024 + m - 1) / m
    let s := s.advanceTo (s.now + max (rounds 0) (rounds 9) * 172_000)
    let s := (List.range 2048).foldl (fun s k => s.verifyLatch k (failOpen.any (·.val == k)) (failClose.any (·.val == k))) s
    let s := ((s.put R.GLB_BOOT_STAGE 6).put R.GLB_FW_0_STBY_READY 1).ev Ev.startUpStage
    { s with svc.refGoodSince := if s.svc.refLost then none else some s.now }
  else s

/-! ## Power failure (R458, R512 to R514) -/

/-- PFAIL_N low for `width` ns (R512): from 1 µs on, the power-fail sequence runs to its end and the module waits for POR_N. `torn` tells that a
cairn record of the last 1 ms was still being written (R465). -/
def doPowerFail (width : Nat) (torn : Bool) (s : State) : State :=
  if width < 1_000 ∨ s.svc.por = false ∨ s.svc.pfail = true then s
  else
    let f := s.now
    let up := s.hubIn
    let s := (s.advanceTo (f + 1_100)).put R.GLB_BOOT_STAGE 8
    let s := (s.ev Ev.powerFailSequence).emergencyClose
    let s := s.advanceTo (f + 20_000)
    let s := (List.range 20).foldl State.holdsEnd s
    let s := if s.svc.fw.isSome then s.put R.GLB_FW_0_BUSY 0 else s
    let s := { s with drv.off := true, svc.pfail := true, svc.pfailAt := f, svc.fw := none, svc.resetAt := none,
                      evt.block := none, cmd.posted := [], cmd.held := [], cmd.ingress := [], net.queues := [] }
    let late := match s.nv.cairn.getLast? with
      | none => false
      | some c => decide (f < c.sec * 1_000_000_000 + c.ns + 1_000_000)
    let s := if torn && late then { s with nv.cairn := s.nv.cairn.dropLast ++ s.nv.cairn.getLast?.toList.map fun c => { c with torn := true } } else s
    if up then
      let s := (s.evt.opens.map (·.rec_.src)).foldl (fun s src => s.closeRec src s.now) s
      let (s, _, _) := s.newRecord (occ Ev.powerFailFlush) s.now false true
      if s.flag R.EVT_CTL_ENABLE && s.flag R.EVT_CTL_LS_EN then s.nextBlock
      else if s.get R.EVT_STS_LS_STATE = lsFailed then s else s.wearSave
    else s

end Sys2Proof.Machine
end

