-- ==== Sys2Proof/Machine/Final.lean ====
section
/-!
DEFINITION. Sys2Proof/Machine/Final.lean: what follows every command (bivouac, work that becomes due, the frames that leave, outputs and
status bits that follow the state), and one meaning per command.
-/
namespace Sys2Proof.Machine

/-! ## Bivouac (R62, R215, R216, R539, R540) -/

/-- The causes of bivouac that hold: 1 traverse, 2 THR4, 3 ECC (R216). -/
def State.causesNow (s : State) : List Nat :=
  (if s.trv.journal.any Trav.suspended then [1] else []) ++ (if s.level = 4 then [2] else []) ++ if s.svc.eccBiv then [3] else []

/-- A bivouac that THR4 begins suspends the running traverse (R215). -/
def State.enterThr4 (s : State) : State := match s.trv.journal with
  | [] => s
  | t :: _ => if t.timedNow then s.suspendHead.ev Ev.traverseSuspended Code.TRV_BIVOUAC else s

/-- A bivouac ends: what waits for an epoch that it prevented is timed from now, and deferred releases have their cause behind them (R539,
R540). -/
def State.leaveBivouac (s : State) : State :=
  let x := s.now
  let waits := (s.cir.ctxs.filter fun e => e.2.waits && decide (e.2.eplan ≤ x + 5_000) && !s.inTrans e.1).map (·.1)
  let s : State := waits.foldl (fun (s : State) i => s.retime i x) s
  let armed (l : Leave) : Bool := s.fab.trans.any fun t => !t.slotClass && t.e == l.e
  { s with cir.leaves := s.cir.leaves.map fun (l : Leave) => if decide (l.e ≤ x + 5_000) && !armed l then { l with e := s.nextPers } else l,
           cir.deferUntil := if s.cir.deferred.isEmpty then s.cir.deferUntil else some x }

/-- The causes follow the state, the one that began first in front (R216). -/
def State.settleBivouac (s : State) : State :=
  let s := if s.level = 4 && !s.svc.causes.contains 2 then s.enterThr4 else s
  let new := s.causesNow
  let old := s.svc.causes
  if old = new then s
  else
    let s := { s with svc.causes := old.filter new.contains ++ new.filter fun c => !old.contains c }
    if new.isEmpty then s.leaveBivouac else s

/-! ## Work that becomes due -/

/-- Circuits of inactive entries whose lease has expired are removed (R151). -/
def State.settleLibrary (s : State) : State :=
  if s.hubIn && s.sch.lib.any (fun e => e.2.lstate != 6 && e.2.circuits.any fun c => c.lease != 0 && decide (c.lease ≤ tai s.now)) then
    s.purgeLib (fun c => c.lease != 0 && decide (c.lease ≤ tai s.now)) Code.CIR_LEASE_EXPIRED
  else s

/-- What the command has made due (R66, R151, R211, R215, R375). -/
def State.settleWork (s : State) : State := s.settleRevokes.settleHolds.dropOrphans.settleLibrary.settleBivouac

/-! ## Outputs and status bits that follow the state -/

/-- Whether a bit of `EVT_PEND_n` reads 1 (R453). -/
def State.alertDue (s : State) : Bool := (List.range 48).any fun n => s.rd (R.EVT_PEND n) != 0

/-- ALERT_N and its status bit; each assertion signals MSI-X vector 1 (R453). -/
def State.showAlert (s : State) : State :=
  if s.alertDue && !s.flag R.EVT_STS_ALERT then
    { s with cmd.msixAlert := s.cmd.msixAlert ++ [s.now] }.put R.EVT_STS_ALERT 1
  else s.put R.EVT_STS_ALERT (b2n s.alertDue)

/-- `GLB_STS`.BIVOUAC, CAUSE and HOLDOVER (R216, R486). -/
def State.showGlb (s : State) : State :=
  let biv := !s.svc.causes.isEmpty
  ((s.put R.GLB_STS_BIVOUAC (b2n biv)).put R.GLB_STS_CAUSE (s.svc.causes.headD 0)).put R.GLB_STS_HOLDOVER (b2n !s.svc.holdover.isEmpty)

/-- PPS_OUT, EPOCH_OUT and SYNC_OUT fall at the end of their pulses; PPS_OUT is low while VALID or OUT_EN reads 0, and in a control-domain
reset (R132, R168, R352). -/
def State.showPulses (s : State) : State :=
  let pps := s.ctrlUp && s.flag R.TIME_PPS_CFG_OUT_EN && s.flag R.TIME_STS_VALID
  { s with tm.ppsHighUntil := s.tm.ppsHighUntil.filter fun n => pps && decide (s.now < n),
           fab.epochOut := s.fab.epochOut.filter fun x => decide (s.now < x.2),
           fab.syncOut := s.fab.syncOut.filter fun x => decide (s.now < x.2) }

/-- Every output and status bit that follows the state. -/
def State.show (s : State) : State := (s.showPulses.showGlb.put R.TIME_STS_RUNNING (b2n s.engineRuns)).showAlert

/-- What follows every command: work that is due, the frames made enter their queues (R435), and the outputs follow. -/
def State.settle (s : State) : State := s.settleWork.flushOut.show

/-! ## Meanings -/

/-- The fabric and the hub act while POR_N is high (R3). -/
def live (f : State → State) (s : State) : State := if s.svc.por then f s else s

/-- BAR0 accesses are served from RESTORE on, with the control domain out of reset, until PCIe stops (R499, R503, R512). -/
def viaBar (f : State → State) (s : State) : State := if s.ctrlUp && !s.svc.pfail then f s else s

/-- A command: a soft reset whose instant has come begins first, and what follows every command follows. -/
def run (f : State → State) (s : State) : Host.Outcome State Fault Refusal := .next (f s.resetDue).settle

/-- With no command waiting the time clock ticks once, while POR_N is high (R116). -/
def idle (s : State) : Host.Outcome State Fault Refusal := run (live State.tick) s

/-- COLD_RESET (R3). -/
def execColdReset (width : Nat) (s : State) : Host.Outcome State Fault Refusal := run (doColdReset width) s

/-- POR_RELEASE (R499). -/
def execPorRelease (notDark : List (Fin 2048 × Fin 2)) (s : State) : Host.Outcome State Fault Refusal := run (doPorRelease notDark) s

/-- BOOT_ROM (R501). -/
def execBootRom (a b : BootImage) (s : State) : Host.Outcome State Fault Refusal := run (live (doBootRom a b)) s

/-- BOOT_WATCHDOG_EXPIRY (R502). -/
def execBootWatchdogExpiry (other : BootImage) (s : State) : Host.Outcome State Fault Refusal := run (live (doBootWatchdogExpiry other)) s

/-- RESTORE_STAGE (R504). -/
def execRestoreStage (ok0 ok1 : Bool) (s : State) : Host.Outcome State Fault Refusal := run (live (doRestoreStage ok0 ok1)) s

/-- BASECAMP_STAGE (R506). -/
def execBasecampStage (tiles : Vector BaseTile 20) (s : State) : Host.Outcome State Fault Refusal := run (live (doBasecampStage tiles)) s

/-- ENABLE_STAGE (R509). -/
def execEnableStage (s : State) : Host.Outcome State Fault Refusal := run (live doEnableStage) s

/-- VERIFY_STAGE (R510). -/
def execVerifyStage (failOpen failClose : List (Fin 2048)) (s : State) : Host.Outcome State Fault Refusal := run (live (doVerifyStage failOpen failClose)) s

/-- WARM_RESET (R468). -/
def execWarmReset (width : Nat) (s : State) : Host.Outcome State Fault Refusal := run (live (doWarmReset width)) s

/-- HUB_WATCHDOG_EXPIRY (R471). -/
def execHubWatchdogExpiry (freeze : Nat) (s : State) : Host.Outcome State Fault Refusal := run (live (doHubWatchdogExpiry freeze)) s

/-- CONTROL_RESTART (R469). -/
def execControlRestart (off : List (Fin 20 × Int)) (s : State) : Host.Outcome State Fault Refusal := run (live (doControlRestart off)) s

/-- SOFT_RESET (R470). -/
def execSoftReset (v : Word) (s : State) : Host.Outcome State Fault Refusal := run (viaBar (doSoftReset v)) s

/-- POWER_FAIL (R512). -/
def execPowerFail (width : Nat) (torn : Bool) (s : State) : Host.Outcome State Fault Refusal := run (live (doPowerFail width torn)) s

/-- EMERGENCY_CLOSE (R328). -/
def execEmergencyClose (s : State) : Host.Outcome State Fault Refusal := run (live doEmergencyClose) s

/-- PCIE_RESET (R427). -/
def execPcieReset (s : State) : Host.Outcome State Fault Refusal := run (live doPcieReset) s

/-- REFCLK_LOSS (R486). -/
def execRefclkLoss (s : State) : Host.Outcome State Fault Refusal := run (live doRefclkLoss) s

/-- REFCLK_RETURN (R488). -/
def execRefclkReturn (s : State) : Host.Outcome State Fault Refusal := run (live doRefclkReturn) s

/-- TILE_HOLDOVER_ENTRY (R486). -/
def execTileHoldoverEntry (t : Fin 20) (s : State) : Host.Outcome State Fault Refusal := run (live (doTileHoldoverEntry t)) s

/-- HOLDOVER_FREEZE (R487). -/
def execHoldoverFreeze (s : State) : Host.Outcome State Fault Refusal := run (live doHoldoverFreeze) s

/-- HOLDOVER_FREEZE_END (R487). -/
def execHoldoverFreezeEnd (s : State) : Host.Outcome State Fault Refusal := run (live doHoldoverFreezeEnd) s

/-- PLAIN_REGISTER_WRITE (R538). -/
def execPlainRegisterWrite (a : Nat) (v : Word) (env : WriteEnv) (s : State) : Host.Outcome State Fault Refusal := run (viaBar (doPlainRegisterWrite a v env)) s

/-- ACCESS_ERROR (R9). -/
def execAccessError (write : Bool) (a : Nat) (s : State) : Host.Outcome State Fault Refusal := run (viaBar (doAccessError write a)) s

/-- GUARD_SAMPLE (R41). -/
def execGuardSample (readings : List (Fin 1024 × Int)) (s : State) : Host.Outcome State Fault Refusal := run (live (doGuardSample readings)) s

/-- GUARD_LATCH (R42). -/
def execGuardLatch (p : Fin 1024) (s : State) : Host.Outcome State Fault Refusal := run (live (doGuardLatch p)) s

/-- GUARD_STS_CLEAR (R45). -/
def execGuardStsClear (n : Fin 32) (v : Word) (s : State) : Host.Outcome State Fault Refusal := run (viaBar (doGuardStsClear n v)) s

/-- GUARD_CFG_WRITE (R47). -/
def execGuardCfgWrite (v : Word) (s : State) : Host.Outcome State Fault Refusal := run (viaBar (doGuardCfgWrite v)) s

/-- OWNER_WRITE (R65). -/
def execOwnerWrite (out : Bool) (n : Fin 256) (v : Word) (s : State) : Host.Outcome State Fault Refusal := run (viaBar (doOwnerWrite out n v)) s

/-- CIRCUIT_PLACEMENT (R93). -/
def execCircuitPlacement (s : State) : Host.Outcome State Fault Refusal := run (live doCircuitPlacement) s

/-- REARRANGE_RUN_END (R102). -/
def execRearrangeRunEnd (s : State) : Host.Outcome State Fault Refusal := run (live doRearrangeRunEnd) s

/-- CIRCUIT_ARM (R57). -/
def execCircuitArm (i : Fin 262144) (s : State) : Host.Outcome State Fault Refusal := run (live (doCircuitArm i)) s

/-- POINT_OF_NO_RETURN (R175). -/
def execPointOfNoReturn (cls : Bool) (e : Nat) (s : State) : Host.Outcome State Fault Refusal := run (live (doPointOfNoReturn cls e)) s

/-- DECISION_INSTANT (R209). -/
def execDecisionInstant (cls : Bool) (e : Nat) (s : State) : Host.Outcome State Fault Refusal := run (live (doDecisionInstant cls e)) s

/-- BLANK_STROBE (R175). -/
def execBlankStrobe (cls : Bool) (e : Nat) (hub : Bool) (s : State) : Host.Outcome State Fault Refusal := run (live (doBlankStrobe cls e hub)) s

/-- SELF_STROBE_DETECT (R165). -/
def execSelfStrobeDetect (cls : Bool) (e : Nat) (tile : Fin 20) (s : State) : Host.Outcome State Fault Refusal := run (live (doSelfStrobeDetect cls e tile)) s

/-- SWITCH_STROBE (R175). -/
def execSwitchStrobe (cls : Bool) (e : Nat) (s : State) : Host.Outcome State Fault Refusal := run (live (doSwitchStrobe cls e)) s

/-- READY_SAMPLE (R179). -/
def execReadySample (cls : Bool) (e : Nat) (nak : List (Fin 20)) (s : State) : Host.Outcome State Fault Refusal := run (live (doReadySample cls e nak)) s

/-- UNBLANK_STROBE (R178). -/
def execUnblankStrobe (cls : Bool) (e : Nat) (s : State) : Host.Outcome State Fault Refusal := run (live (doUnblankStrobe cls e)) s

/-- REOFFER_UNBLANK (R180). -/
def execReofferUnblank (out : Bool) (p : Fin 1024) (e : Nat) (s : State) : Host.Outcome State Fault Refusal := run (live (doReofferUnblank out p e)) s

/-- EPOCH_COMMIT (R175). -/
def execEpochCommit (cls : Bool) (e : Nat) (s : State) : Host.Outcome State Fault Refusal := run (live (doEpochCommit cls e)) s

/-- LOSS_CHECK_DEADLINE (R58). -/
def execLossCheckDeadline (i : Fin 262144) (s : State) : Host.Outcome State Fault Refusal := run (live (doLossCheckDeadline i)) s

/-- CIRCUIT_LEASE_EXPIRY (R70). -/
def execCircuitLeaseExpiry (i : Fin 262144) (s : State) : Host.Outcome State Fault Refusal := run (live (doCircuitLeaseExpiry i)) s

/-- GRANT_LEASE_EXPIRY (R66). -/
def execGrantLeaseExpiry (n : Fin 512) (s : State) : Host.Outcome State Fault Refusal := run (live (doGrantLeaseExpiry n)) s

/-- SESSION_LEASE_EXPIRY (R69). -/
def execSessionLeaseExpiry (i : Fin 32) (s : State) : Host.Outcome State Fault Refusal := run (live (doSessionLeaseExpiry i)) s

/-- DEFERRED_RELEASE (R540). -/
def execDeferredRelease (s : State) : Host.Outcome State Fault Refusal := run (live doDeferredRelease) s

/-- SCHEDULE_PLACEMENT_DONE (R148). -/
def execSchedulePlacementDone (n : Fin 64) (s : State) : Host.Outcome State Fault Refusal := run (live (doSchedulePlacementDone n)) s

/-- STALE_REPLACEMENT_DONE (R150). -/
def execStaleReplacementDone (n : Fin 64) (s : State) : Host.Outcome State Fault Refusal := run (live (doStaleReplacementDone n)) s

/-- REPAIR_RETRY (R110). -/
def execRepairRetry (s : State) : Host.Outcome State Fault Refusal := run (live doRepairRetry) s

/-- PLC_CTL_WRITE (R112). -/
def execPlcCtlWrite (v : Word) (s : State) : Host.Outcome State Fault Refusal := run (viaBar (doPlcCtlWrite v)) s

/-- PLC_POLICY_WRITE (R112). -/
def execPlcPolicyWrite (k : Fin 6) (v : Word) (s : State) : Host.Outcome State Fault Refusal := run (viaBar (doPlcPolicyWrite k v)) s

/-- TIME_INC_COMMIT (R117). -/
def execTimeIncCommit (v : Word) (s : State) : Host.Outcome State Fault Refusal := run (viaBar (doTimeIncCommit v)) s

/-- TIME_VALID_SET (R121). -/
def execTimeValidSet (v : Word) (s : State) : Host.Outcome State Fault Refusal := run (viaBar (doTimeValidSet v)) s

/-- TIME_VALID_CLR (R121). -/
def execTimeValidClr (v : Word) (s : State) : Host.Outcome State Fault Refusal := run (viaBar (doTimeValidClr v)) s

/-- TIME_STEP_ARM (R122). -/
def execTimeStepArm (v : Word) (s : State) : Host.Outcome State Fault Refusal := run (viaBar (doTimeStepArm v)) s

/-- TIME_STEP_APPLY (R123). -/
def execTimeStepApply (s : State) : Host.Outcome State Fault Refusal := run (live doTimeStepApply) s

/-- TIME_STEP_NO_WINDOW (R123). -/
def execTimeStepNoWindow (s : State) : Host.Outcome State Fault Refusal := run (live doTimeStepNoWindow) s

/-- TIME_PTP_CFG_WRITE (R139). -/
def execTimePtpCfgWrite (v : Word) (s : State) : Host.Outcome State Fault Refusal := run (viaBar (doTimePtpCfgWrite v)) s

/-- PTP_FRAME (R127). -/
def execPtpFrame (rx : EthRx) (udp : Bool) (domain : Nat) (master : Bool) (offset : Option Int) (inc : Option Nat) (s : State) : Host.Outcome State Fault Refusal := run (live (doPtpFrame rx udp domain master offset inc)) s

/-- SERVO_HOLDOVER (R139). -/
def execServoHoldover (s : State) : Host.Outcome State Fault Refusal := run (live doServoHoldover) s

/-- PPS_CAPTURE (R131). -/
def execPpsCapture (falling : Bool) (err : Int) (s : State) : Host.Outcome State Fault Refusal := run (live (doPpsCapture falling err)) s

/-- PPS_CAP_READ (R131). -/
def execPpsCapRead (s : State) : Host.Outcome State Fault Refusal := run (viaBar doPpsCapRead) s

/-- PPS_OUT_PULSE (R132). -/
def execPpsOutPulse (s : State) : Host.Outcome State Fault Refusal := run (live doPpsOutPulse) s

/-- TREF_GATE (R133). -/
def execTrefGate (ppb : Int) (s : State) : Host.Outcome State Fault Refusal := run (live (doTrefGate ppb)) s

/-- TREF_LOSS (R133). -/
def execTrefLoss (s : State) : Host.Outcome State Fault Refusal := run (live doTrefLoss) s

/-- TIME_NOW_SNAPSHOT (R140). -/
def execTimeNowSnapshot (s : State) : Host.Outcome State Fault Refusal := run (viaBar doTimeNowSnapshot) s

/-- SYNC_MARK (R135). -/
def execSyncMark (off : List (Fin 20 × Int)) (s : State) : Host.Outcome State Fault Refusal := run (live (doSyncMark off)) s

/-- SCH_LOAD_BEGIN (R412). -/
def execSchLoadBegin (f : Frame) (s : State) : Host.Outcome State Fault Refusal := run (live (doSchLoadBegin f)) s

/-- SCH_LOAD_SLOT (R412). -/
def execSchLoadSlot (f : Frame) (s : State) : Host.Outcome State Fault Refusal := run (live (doSchLoadSlot f)) s

/-- SCH_LOAD_END (R412). -/
def execSchLoadEnd (f : Frame) (s : State) : Host.Outcome State Fault Refusal := run (live (doSchLoadEnd f)) s

/-- SCH_ERASE (R412). -/
def execSchErase (f : Frame) (s : State) : Host.Outcome State Fault Refusal := run (live (doSchErase f)) s

/-- SCH_SWAP (R154). -/
def execSchSwap (f : Frame) (s : State) : Host.Outcome State Fault Refusal := run (live (doSchSwap f)) s

/-- SCH_CANCEL (R158). -/
def execSchCancel (f : Frame) (s : State) : Host.Outcome State Fault Refusal := run (live (doSchCancel f)) s

/-- SCH_LOAD_TIMEOUT (R412). -/
def execSchLoadTimeout (n : Fin 64) (s : State) : Host.Outcome State Fault Refusal := run (live (doSchLoadTimeout n)) s

/-- SCHD_CTL_WRITE (R170). -/
def execSchdCtlWrite (v : Word) (s : State) : Host.Outcome State Fault Refusal := run (viaBar (doSchdCtlWrite v)) s

/-- EPO_CTL_WRITE (R169). -/
def execEpoCtlWrite (v : Word) (s : State) : Host.Outcome State Fault Refusal := run (viaBar (doEpoCtlWrite v)) s

/-- EPO_GB_WRITE (R166). -/
def execEpoGbWrite (v : Word) (s : State) : Host.Outcome State Fault Refusal := run (viaBar (doEpoGbWrite v)) s

/-- EPO_BELAY_CFG_WRITE (R195). -/
def execEpoBelayCfgWrite (v : Word) (s : State) : Host.Outcome State Fault Refusal := run (viaBar (doEpoBelayCfgWrite v)) s

/-- EPO_NEXT_SNAPSHOT (R163). -/
def execEpoNextSnapshot (s : State) : Host.Outcome State Fault Refusal := run (viaBar doEpoNextSnapshot) s

/-- EPO_XLAST_SNAPSHOT (R179). -/
def execEpoXlastSnapshot (s : State) : Host.Outcome State Fault Refusal := run (viaBar doEpoXlastSnapshot) s

/-- SCHD_CYC_START_SNAPSHOT (R143). -/
def execSchdCycStartSnapshot (s : State) : Host.Outcome State Fault Refusal := run (viaBar doSchdCycStartSnapshot) s

/-- HUB_JUNCTION_SAMPLE (R386). -/
def execHubJunctionSample (r : BitVec 16) (s : State) : Host.Outcome State Fault Refusal := run (live (doHubJunctionSample r)) s

/-- FRAME_EDGE (R232). -/
def execFrameEdge (t : Fin 20) (abandoned : List (Fin 4096)) (s : State) : Host.Outcome State Fault Refusal := run (live (doFrameEdge t abandoned)) s

/-- BELAY_SUBSTEP (R189). -/
def execBelaySubstep (t : Fin 20) (j : Fin 16) (s : State) : Host.Outcome State Fault Refusal := run (live (doBelaySubstep t j)) s

/-- BELAY_OVERRUN (R192). -/
def execBelayOverrun (e : Fin 81920) (s : State) : Host.Outcome State Fault Refusal := run (live (doBelayOverrun e)) s

/-- FRAME_STRETCH (R252). -/
def execFrameStretch (t : Fin 20) (s : State) : Host.Outcome State Fault Refusal := run (live (doFrameStretch t)) s

/-- HEATER_CLAMP_REPORT (R240). -/
def execHeaterClampReport (e : Fin 81920) (s : State) : Host.Outcome State Fault Refusal := run (live (doHeaterClampReport e)) s

/-- MIRROR_STREAM_END (R255). -/
def execMirrorStreamEnd (t : Fin 20) (ok : Bool) (s : State) : Host.Outcome State Fault Refusal := run (live (doMirrorStreamEnd t ok)) s

/-- UCODE_FALLBACK (R264). -/
def execUcodeFallback (t : Fin 20) (s : State) : Host.Outcome State Fault Refusal := run (live (doUcodeFallback t)) s

/-- TILE_LP_CTL_WRITE (R257). -/
def execTileLpCtlWrite (t : Fin 20) (v : Word) (s : State) : Host.Outcome State Fault Refusal := run (viaBar (doTileLpCtlWrite t v)) s

/-- LP_PERIOD_WRITE (R250). -/
def execLpPeriodWrite (t : Fin 20) (v : Word) (s : State) : Host.Outcome State Fault Refusal := run (viaBar (doLpPeriodWrite t v)) s

/-- LP_PARAM_WRITE (R259). -/
def execLpParamWrite (t : Fin 20) (k : Fin 6) (v : Word) (s : State) : Host.Outcome State Fault Refusal := run (viaBar (doLpParamWrite t k v)) s

/-- XT_TABLE_WRITE (R248). -/
def execXtTableWrite (e : Fin 81920) (j : Fin 16) (v : Word) (s : State) : Host.Outcome State Fault Refusal := run (viaBar (doXtTableWrite e j v)) s

/-- UCODE_COMMIT (R267). -/
def execUcodeCommit (t : Fin 20) (v : Word) (s : State) : Host.Outcome State Fault Refusal := run (viaBar (doUcodeCommit t v)) s

/-- UCODE_CHECK_DONE (R267). -/
def execUcodeCheckDone (t : Fin 20) (sigOk : Bool) (s : State) : Host.Outcome State Fault Refusal := run (live (doUcodeCheckDone t sigOk)) s

/-- UCODE_EXCHANGE (R268). -/
def execUcodeExchange (t : Fin 20) (s : State) : Host.Outcome State Fault Refusal := run (live (doUcodeExchange t)) s

/-- UCODE_COMMIT_TIMEOUT (R268). -/
def execUcodeCommitTimeout (t : Fin 20) (s : State) : Host.Outcome State Fault Refusal := run (live (doUcodeCommitTimeout t)) s

/-- UCODE_CANCEL (R268). -/
def execUcodeCancel (t : Fin 20) (v : Word) (s : State) : Host.Outcome State Fault Refusal := run (viaBar (doUcodeCancel t v)) s

/-- UCODE_WINDOW_WRITE (R269). -/
def execUcodeWindowWrite (t : Fin 20) (n : Fin 32768) (v : Word) (s : State) : Host.Outcome State Fault Refusal := run (viaBar (doUcodeWindowWrite t n v)) s

/-- LAW_SET_WRITE (R270). -/
def execLawSetWrite (t : Fin 20) (v : Word) (s : State) : Host.Outcome State Fault Refusal := run (viaBar (doLawSetWrite t v)) s

/-- PROBE_START (R271). -/
def execProbeStart (t : Fin 20) (v : Word) (s : State) : Host.Outcome State Fault Refusal := run (viaBar (doProbeStart t v)) s

/-- PROBE_STOP (R274). -/
def execProbeStop (t : Fin 20) (v : Word) (s : State) : Host.Outcome State Fault Refusal := run (viaBar (doProbeStop t v)) s

/-- CAP_DATA_READ (R276). -/
def execCapDataRead (t : Fin 20) (s : State) : Host.Outcome State Fault Refusal := run (viaBar (doCapDataRead t)) s

/-- LEARN_START (R277). -/
def execLearnStart (t : Fin 20) (v : Word) (s : State) : Host.Outcome State Fault Refusal := run (viaBar (doLearnStart t v)) s

/-- LEARN_ABORT (R279). -/
def execLearnAbort (t : Fin 20) (v : Word) (s : State) : Host.Outcome State Fault Refusal := run (viaBar (doLearnAbort t v)) s

/-- PWM_UPDATE_POINT (R292). -/
def execPwmUpdatePoint (t : Fin 20) (b : Fin 16) (s : State) : Host.Outcome State Fault Refusal := run (live (doPwmUpdatePoint t b)) s

/-- PWM_BCTL_WRITE (R297). -/
def execPwmBctlWrite (t : Fin 20) (b : Fin 16) (v : Word) (s : State) : Host.Outcome State Fault Refusal := run (viaBar (doPwmBctlWrite t b v)) s

/-- PWM_TOP_ARM (R298). -/
def execPwmTopArm (t : Fin 20) (b : Fin 16) (v : Word) (s : State) : Host.Outcome State Fault Refusal := run (viaBar (doPwmTopArm t b v)) s

/-- PWM_TOP_DISCARD (R300). -/
def execPwmTopDiscard (t : Fin 20) (b : Fin 16) (s : State) : Host.Outcome State Fault Refusal := run (live (doPwmTopDiscard t b)) s

/-- PWM_DUTY_WRITE (R296). -/
def execPwmDutyWrite (t : Fin 20) (x : Fin 4096) (v : Word) (s : State) : Host.Outcome State Fault Refusal := run (viaBar (doPwmDutyWrite t x v)) s

/-- PWM_CHCFG_WRITE (R288). -/
def execPwmChcfgWrite (t : Fin 20) (x : Fin 4096) (v : Word) (s : State) : Host.Outcome State Fault Refusal := run (viaBar (doPwmChcfgWrite t x v)) s

/-- PWM_USET_WRITE (R299). -/
def execPwmUsetWrite (t : Fin 20) (b : Fin 16) (n : Fin 8) (v : Word) (s : State) : Host.Outcome State Fault Refusal := run (viaBar (doPwmUsetWrite t b n v)) s

/-- FD_CODE_WRITE (R306). -/
def execFdCodeWrite (t : Fin 20) (q : Fin 8192) (v : Word) (s : State) : Host.Outcome State Fault Refusal := run (viaBar (doFdCodeWrite t q v)) s

/-- FD_BANK_STROBE (R306). -/
def execFdBankStrobe (t : Fin 20) (b : Fin 16) (v : Word) (s : State) : Host.Outcome State Fault Refusal := run (viaBar (doFdBankStrobe t b v)) s

/-- FD_TILE_STROBE (R306). -/
def execFdTileStrobe (t : Fin 20) (v : Word) (s : State) : Host.Outcome State Fault Refusal := run (viaBar (doFdTileStrobe t v)) s

/-- FD_BCTL_WRITE (R311). -/
def execFdBctlWrite (t : Fin 20) (b : Fin 16) (v : Word) (s : State) : Host.Outcome State Fault Refusal := run (viaBar (doFdBctlWrite t b v)) s

/-- BLK_CFG_WRITE (R316). -/
def execBlkCfgWrite (out : Bool) (v : Word) (s : State) : Host.Outcome State Fault Refusal := run (viaBar (doBlkCfgWrite out v)) s

/-- BLK_FORCE_WRITE (R314). -/
def execBlkForceWrite (out : Bool) (n : Fin 32) (v : Word) (s : State) : Host.Outcome State Fault Refusal := run (viaBar (doBlkForceWrite out n v)) s

/-- LATCH_CLOSE_SENSE (R320). -/
def execLatchCloseSense (out : Bool) (p : Fin 1024) (sense : Fin 3) (s : State) : Host.Outcome State Fault Refusal := run (live (doLatchCloseSense out p sense)) s

/-- LATCH_OPEN_START (R321). -/
def execLatchOpenStart (out : Bool) (p : Fin 1024) (s : State) : Host.Outcome State Fault Refusal := run (live (doLatchOpenStart out p)) s

/-- LATCH_OPEN_SENSE (R321). -/
def execLatchOpenSense (out : Bool) (p : Fin 1024) (sense : Fin 3) (s : State) : Host.Outcome State Fault Refusal := run (live (doLatchOpenSense out p sense)) s

/-- LATCH_AUDIT (R323). -/
def execLatchAudit (out : Bool) (senses : List (Fin 1024 × Fin 3)) (s : State) : Host.Outcome State Fault Refusal := run (live (doLatchAudit out senses)) s

/-- WEAR_WRITE (R325). -/
def execWearWrite (out : Bool) (p : Fin 1024) (v : Word) (s : State) : Host.Outcome State Fault Refusal := run (viaBar (doWearWrite out p v)) s

/-- LAT_CFG_WRITE (R326). -/
def execLatCfgWrite (out : Bool) (v : Word) (s : State) : Host.Outcome State Fault Refusal := run (viaBar (doLatCfgWrite out v)) s

/-- BANK_READOUT (R336). -/
def execBankReadout (t : Fin 20) (codes : List (BitVec 14)) (refBad : Bool) (s : State) : Host.Outcome State Fault Refusal := run (live (doBankReadout t codes refBad)) s

/-- TAP_READOUT (R349). -/
def execTapReadout (out : Bool) (codes : List (BitVec 14)) (refBad : Bool) (s : State) : Host.Outcome State Fault Refusal := run (live (doTapReadout out codes refBad)) s

/-- SPARE_ROTATION (R343). -/
def execSpareRotation (t : Fin 20) (ofs gerr : BitVec 12) (s : State) : Host.Outcome State Fault Refusal := run (live (doSpareRotation t ofs gerr)) s

/-- TRIG_IN_EDGE (R350). -/
def execTrigInEdge (falling : Bool) (s : State) : Host.Outcome State Fault Refusal := run (live (doTrigInEdge falling)) s

/-- SYNC_OUT_PULSE (R352). -/
def execSyncOutPulse (s : State) : Host.Outcome State Fault Refusal := run (live doSyncOutPulse) s

/-- MC_CTL_WRITE (R362). -/
def execMcCtlWrite (t : Fin 20) (v : Word) (s : State) : Host.Outcome State Fault Refusal := run (viaBar (doMcCtlWrite t v)) s

/-- MC_COMMIT (R339). -/
def execMcCommit (t : Fin 20) (v : Word) (s : State) : Host.Outcome State Fault Refusal := run (viaBar (doMcCommit t v)) s

/-- MC_HOLD_WRITE (R353). -/
def execMcHoldWrite (t : Fin 20) (v : Word) (s : State) : Host.Outcome State Fault Refusal := run (viaBar (doMcHoldWrite t v)) s

/-- CORR_DATA_WRITE (R345). -/
def execCorrDataWrite (t : Fin 20) (v : Word) (s : State) : Host.Outcome State Fault Refusal := run (viaBar (doCorrDataWrite t v)) s

/-- MC_TRIG_T_SNAPSHOT (R350). -/
def execMcTrigTSnapshot (t : Fin 20) (s : State) : Host.Outcome State Fault Refusal := run (viaBar (doMcTrigTSnapshot t)) s

/-- HK_CHANNEL_SLOT (R354). -/
def execHkChannelSlot (t : Fin 20) (n : Fin 192) (value : BitVec 16) (s : State) : Host.Outcome State Fault Refusal := run (live (doHkChannelSlot t n value)) s

/-- HK_MASK_WRITE (R356). -/
def execHkMaskWrite (t : Fin 20) (n : Fin 6) (v : Word) (s : State) : Host.Outcome State Fault Refusal := run (viaBar (doHkMaskWrite t n v)) s

/-- ANCHOR_START (R359). -/
def execAnchorStart (t : Fin 20) (v : Word) (s : State) : Host.Outcome State Fault Refusal := run (viaBar (doAnchorStart t v)) s

/-- ANCHOR_DONE (R359). -/
def execAnchorDone (t : Fin 20) (res : BitVec 24) (s : State) : Host.Outcome State Fault Refusal := run (live (doAnchorDone t res)) s

/-- CAL_AGE_TRIGGER (R372). -/
def execCalAgeTrigger (t : Fin 20) (s : State) : Host.Outcome State Fault Refusal := run (live (doCalAgeTrigger t)) s

/-- RECAL_START (R372). -/
def execRecalStart (s : State) : Host.Outcome State Fault Refusal := run (live doRecalStart) s

/-- RECAL_STEP_DONE (R373). -/
def execRecalStepDone (t : Fin 20) (res : CalResult) (s : State) : Host.Outcome State Fault Refusal := run (live (doRecalStepDone t res)) s

/-- CAL_DEFER (R376). -/
def execCalDefer (t : Fin 20) (s : State) : Host.Outcome State Fault Refusal := run (live (doCalDefer t)) s

/-- CAL_CTL_WRITE (R393). -/
def execCalCtlWrite (v : Word) (s : State) : Host.Outcome State Fault Refusal := run (viaBar (doCalCtlWrite v)) s

/-- CAL_GO (R393). -/
def execCalGo (v : Word) (s : State) : Host.Outcome State Fault Refusal := run (viaBar (doCalGo v)) s

/-- CAL_ABORT (R392). -/
def execCalAbort (v : Word) (s : State) : Host.Outcome State Fault Refusal := run (viaBar (doCalAbort v)) s

/-- CAL_TABLE_WRITE (R371). -/
def execCalTableWrite (v : Word) (s : State) : Host.Outcome State Fault Refusal := run (viaBar (doCalTableWrite v)) s

/-- CAL_TABLE_READ (R371). -/
def execCalTableRead (s : State) : Host.Outcome State Fault Refusal := run (viaBar doCalTableRead) s

/-- SENSOR_REINSTATE (R385). -/
def execSensorReinstate (n : Fin 80) (v : Word) (s : State) : Host.Outcome State Fault Refusal := run (viaBar (doSensorReinstate n v)) s

/-- THM_WRITE (R394). -/
def execThmWrite (k : Fin 5) (v : Word) (s : State) : Host.Outcome State Fault Refusal := run (viaBar (doThmWrite k v)) s

/-- SES_CHALLENGE (R402). -/
def execSesChallenge (f : Frame) (s : State) : Host.Outcome State Fault Refusal := run (live (doSesChallenge f)) s

/-- SES_OPEN (R402). -/
def execSesOpen (f : Frame) (s : State) : Host.Outcome State Fault Refusal := run (live (doSesOpen f)) s

/-- SES_CLOSE (R410). -/
def execSesClose (f : Frame) (s : State) : Host.Outcome State Fault Refusal := run (live (doSesClose f)) s

/-- SES_KEEPALIVE (R410). -/
def execSesKeepalive (f : Frame) (s : State) : Host.Outcome State Fault Refusal := run (live (doSesKeepalive f)) s

/-- CIR_REQUEST (R411). -/
def execCirRequest (f : Frame) (s : State) : Host.Outcome State Fault Refusal := run (live (doCirRequest f)) s

/-- CIR_RELEASE (R411). -/
def execCirRelease (f : Frame) (s : State) : Host.Outcome State Fault Refusal := run (live (doCirRelease f)) s

/-- CIR_ENABLE (R411). -/
def execCirEnable (f : Frame) (s : State) : Host.Outcome State Fault Refusal := run (live (doCirEnable f)) s

/-- CIR_DISABLE (R411). -/
def execCirDisable (f : Frame) (s : State) : Host.Outcome State Fault Refusal := run (live (doCirDisable f)) s

/-- CIR_ATTR (R72). -/
def execCirAttr (f : Frame) (s : State) : Host.Outcome State Fault Refusal := run (live (doCirAttr f)) s

/-- CIR_LEASE (R70). -/
def execCirLease (f : Frame) (s : State) : Host.Outcome State Fault Refusal := run (live (doCirLease f)) s

/-- CIR_READ (R73). -/
def execCirRead (f : Frame) (s : State) : Host.Outcome State Fault Refusal := run (live (doCirRead f)) s

/-- GRANT_CREATE (R411). -/
def execGrantCreate (f : Frame) (s : State) : Host.Outcome State Fault Refusal := run (live (doGrantCreate f)) s

/-- GRANT_REVOKE (R66). -/
def execGrantRevoke (f : Frame) (s : State) : Host.Outcome State Fault Refusal := run (live (doGrantRevoke f)) s

/-- GRANT_LEASE (R70). -/
def execGrantLease (f : Frame) (s : State) : Host.Outcome State Fault Refusal := run (live (doGrantLease f)) s

/-- TRV_REQUEST (R198). -/
def execTrvRequest (f : Frame) (s : State) : Host.Outcome State Fault Refusal := run (live (doTrvRequest f)) s

/-- TRV_ABORT (R208). -/
def execTrvAbort (f : Frame) (s : State) : Host.Outcome State Fault Refusal := run (live (doTrvAbort f)) s

/-- TRV_RESUME (R213). -/
def execTrvResume (f : Frame) (s : State) : Host.Outcome State Fault Refusal := run (live (doTrvResume f)) s

/-- TRV_ROLLBACK (R213). -/
def execTrvRollback (f : Frame) (s : State) : Host.Outcome State Fault Refusal := run (live (doTrvRollback f)) s

/-- TRAVERSE_TIMED (R202). -/
def execTraverseTimed (s : State) : Host.Outcome State Fault Refusal := run (live doTraverseTimed) s

/-- TRV_CTL_WRITE (R228). -/
def execTrvCtlWrite (v : Word) (s : State) : Host.Outcome State Fault Refusal := run (viaBar (doTrvCtlWrite v)) s

/-- TRV_SPEC_CFG_WRITE (R229). -/
def execTrvSpecCfgWrite (v : Word) (s : State) : Host.Outcome State Fault Refusal := run (viaBar (doTrvSpecCfgWrite v)) s

/-- TRV_CUR_SNAPSHOT (R202). -/
def execTrvCurSnapshot (s : State) : Host.Outcome State Fault Refusal := run (viaBar doTrvCurSnapshot) s

/-- TEL_ELEMENT (R415). -/
def execTelElement (f : Frame) (s : State) : Host.Outcome State Fault Refusal := run (live (doTelElement f)) s

/-- TEL_PORT (R415). -/
def execTelPort (f : Frame) (s : State) : Host.Outcome State Fault Refusal := run (live (doTelPort f)) s

/-- TEL_STATUS (R415). -/
def execTelStatus (f : Frame) (s : State) : Host.Outcome State Fault Refusal := run (live (doTelStatus f)) s

/-- REG_READ (R416). -/
def execRegRead (f : Frame) (s : State) : Host.Outcome State Fault Refusal := run (live (doRegRead f)) s

/-- REG_WRITE (R416). -/
def execRegWrite (f : Frame) (env : WriteEnv) (s : State) : Host.Outcome State Fault Refusal := run (live (doRegWrite f env)) s

/-- MNT_IDENTITY (R417). -/
def execMntIdentity (f : Frame) (s : State) : Host.Outcome State Fault Refusal := run (live (doMntIdentity f)) s

/-- MNT_FW_STAGE (R417). -/
def execMntFwStage (f : Frame) (s : State) : Host.Outcome State Fault Refusal := run (live (doMntFwStage f)) s

/-- MNT_FW_ACTIVATE (R473). -/
def execMntFwActivate (f : Frame) (s : State) : Host.Outcome State Fault Refusal := run (live (doMntFwActivate f)) s

/-- FW_STANDBY_READY (R473). -/
def execFwStandbyReady (sigOk started : Bool) (s : State) : Host.Outcome State Fault Refusal := run (live (doFwStandbyReady sigOk started)) s

/-- FW_HANDOVER (R474). -/
def execFwHandover (ok : Bool) (s : State) : Host.Outcome State Fault Refusal := run (live (doFwHandover ok)) s

/-- FW_KEEP_EXPIRY (R475). -/
def execFwKeepExpiry (s : State) : Host.Outcome State Fault Refusal := run (live doFwKeepExpiry) s

/-- MNT_CELL (R483). -/
def execMntCell (f : Frame) (s : State) : Host.Outcome State Fault Refusal := run (live (doMntCell f)) s

/-- MNT_SOFT_RESET (R417). -/
def execMntSoftReset (f : Frame) (s : State) : Host.Outcome State Fault Refusal := run (live (doMntSoftReset f)) s

/-- EVT_SUBSCRIBE (R454). -/
def execEvtSubscribe (f : Frame) (s : State) : Host.Outcome State Fault Refusal := run (live (doEvtSubscribe f)) s

/-- EVT_UNSUBSCRIBE (R418). -/
def execEvtUnsubscribe (f : Frame) (s : State) : Host.Outcome State Fault Refusal := run (live (doEvtUnsubscribe f)) s

/-- EVT_READ (R452). -/
def execEvtRead (f : Frame) (s : State) : Host.Outcome State Fault Refusal := run (live (doEvtRead f)) s

/-- MBX_DOORBELL (R399). -/
def execMbxDoorbell (v : Word) (s : State) : Host.Outcome State Fault Refusal := run (viaBar (doMbxDoorbell v)) s

/-- MBX_CPL_HEAD_WRITE (R399). -/
def execMbxCplHeadWrite (v : Word) (s : State) : Host.Outcome State Fault Refusal := run (viaBar (doMbxCplHeadWrite v)) s

/-- MBX_STALL (R400). -/
def execMbxStall (s : State) : Host.Outcome State Fault Refusal := run (live doMbxStall) s

/-- CMD_MBX_CFG_WRITE (R420). -/
def execCmdMbxCfgWrite (v : Word) (s : State) : Host.Outcome State Fault Refusal := run (viaBar (doCmdMbxCfgWrite v)) s

/-- CMD_CTL_WRITE (R420). -/
def execCmdCtlWrite (v : Word) (s : State) : Host.Outcome State Fault Refusal := run (viaBar (doCmdCtlWrite v)) s

/-- KEY_SET (R401). -/
def execKeySet (v : Word) (s : State) : Host.Outcome State Fault Refusal := run (viaBar (doKeySet v)) s

/-- KEY_CLEAR (R401). -/
def execKeyClear (v : Word) (s : State) : Host.Outcome State Fault Refusal := run (viaBar (doKeyClear v)) s

/-- ETH_FRAME_RX (R424). -/
def execEthFrameRx (rx : EthRx) (kind : EthKind) (s : State) : Host.Outcome State Fault Refusal := run (live (doEthFrameRx rx kind)) s

/-- EGRESS_FRAME_START (R439). -/
def execEgressFrameStart (port : Fin 4) (s : State) : Host.Outcome State Fault Refusal := run (live (doEgressFrameStart port)) s

/-- SAK_SET (R429). -/
def execSakSet (v : Word) (s : State) : Host.Outcome State Fault Refusal := run (viaBar (doSakSet v)) s

/-- SAK_CLEAR (R429). -/
def execSakClear (v : Word) (s : State) : Host.Outcome State Fault Refusal := run (viaBar (doSakClear v)) s

/-- MSEC_TX_AN_WRITE (R430). -/
def execMsecTxAnWrite (port : Fin 4) (v : Word) (s : State) : Host.Outcome State Fault Refusal := run (viaBar (doMsecTxAnWrite port v)) s

/-- POLICER_WRITE (R434). -/
def execPolicerWrite (p : Fin 66) (k : Fin 4) (v : Word) (s : State) : Host.Outcome State Fault Refusal := run (viaBar (doPolicerWrite p k v)) s

/-- SHAPER_WRITE (R438). -/
def execShaperWrite (port q k : Fin 4) (v : Word) (s : State) : Host.Outcome State Fault Refusal := run (viaBar (doShaperWrite port q k v)) s

/-- GATE_COMMIT (R440). -/
def execGateCommit (port : Fin 4) (v : Word) (s : State) : Host.Outcome State Fault Refusal := run (viaBar (doGateCommit port v)) s

/-- GATE_LIST_APPLY (R440). -/
def execGateListApply (port : Fin 4) (s : State) : Host.Outcome State Fault Refusal := run (live (doGateListApply port)) s

/-- QUEUE_SAMPLE (R442). -/
def execQueueSample (port : Fin 4) (s : State) : Host.Outcome State Fault Refusal := run (live (doQueueSample port)) s

/-- LINK_CHANGE (R445). -/
def execLinkChange (port : Fin 4) (up : Bool) (s : State) : Host.Outcome State Fault Refusal := run (live (doLinkChange port up)) s

/-- NET_CTL_WRITE (R444). -/
def execNetCtlWrite (v : Word) (s : State) : Host.Outcome State Fault Refusal := run (viaBar (doNetCtlWrite v)) s

/-- PORT_CTL_WRITE (R444). -/
def execPortCtlWrite (port : Fin 4) (v : Word) (s : State) : Host.Outcome State Fault Refusal := run (viaBar (doPortCtlWrite port v)) s

/-- RECORD_WRITE (R450). -/
def execRecordWrite (src : Nat) (s : State) : Host.Outcome State Fault Refusal := run (live (doRecordWrite src)) s

/-- RECORD_CLOSE (R449). -/
def execRecordClose (src : Nat) (s : State) : Host.Outcome State Fault Refusal := run (live (doRecordClose src)) s

/-- FLUSH_START (R457). -/
def execFlushStart (s : State) : Host.Outcome State Fault Refusal := run (live doFlushStart) s

/-- FLUSH_BLOCK_DONE (R457). -/
def execFlushBlockDone (ok : Bool) (s : State) : Host.Outcome State Fault Refusal := run (live (doFlushBlockDone ok)) s

/-- LOG_STORE_TIMEOUT (R461). -/
def execLogStoreTimeout (s : State) : Host.Outcome State Fault Refusal := run (live doLogStoreTimeout) s

/-- EVT_RETRY (R462). -/
def execEvtRetry (v : Word) (passed : Bool) (s : State) : Host.Outcome State Fault Refusal := run (viaBar (doEvtRetry v passed)) s

/-- EVT_PEND_CLEAR (R453). -/
def execEvtPendClear (n : Nat) (v : Word) (s : State) : Host.Outcome State Fault Refusal := run (viaBar (doEvtPendClear n v)) s

/-- CAIRN_HOST_WRITE (R464). -/
def execCairnHostWrite (v : Word) (s : State) : Host.Outcome State Fault Refusal := run (viaBar (doCairnHostWrite v)) s

/-- EVT_CTL_WRITE (R466). -/
def execEvtCtlWrite (v : Word) (s : State) : Host.Outcome State Fault Refusal := run (viaBar (doEvtCtlWrite v)) s

/-- WEAR_SAVE (R459). -/
def execWearSave (s : State) : Host.Outcome State Fault Refusal := run (live doWearSave) s

/-- ENGINE_DECLARE_FAILED (R476). -/
def execEngineDeclareFailed (t : Fin 20) (s : State) : Host.Outcome State Fault Refusal := run (live (doEngineDeclareFailed t)) s

/-- SPARE_TAKEOVER (R478). -/
def execSpareTakeover (t : Fin 20) (s : State) : Host.Outcome State Fault Refusal := run (live (doSpareTakeover t)) s

/-- ENGINE_TEST (R481). -/
def execEngineTest (t : Fin 20) (v : Word) (s : State) : Host.Outcome State Fault Refusal := run (viaBar (doEngineTest t v)) s

/-- ENGINE_TEST_DONE (R481). -/
def execEngineTestDone (t : Fin 20) (pass : Bool) (s : State) : Host.Outcome State Fault Refusal := run (live (doEngineTestDone t pass)) s

/-- ENGINE_RETURN (R481). -/
def execEngineReturn (t : Fin 20) (v : Word) (s : State) : Host.Outcome State Fault Refusal := run (viaBar (doEngineReturn t v)) s

/-- ECC_SCRUB (R490). -/
def execEccScrub (w : EccWord) (correctable : Bool) (s : State) : Host.Outcome State Fault Refusal := run (live (doEccScrub w correctable)) s

/-- BIV_CLR (R491). -/
def execBivClr (v : Word) (s : State) : Host.Outcome State Fault Refusal := run (viaBar (doBivClr v)) s

/-- DDR_CHANNEL_LOSS (R493). -/
def execDdrChannelLoss (c : Fin 2) (s : State) : Host.Outcome State Fault Refusal := run (live (doDdrChannelLoss c)) s

/-- MEM_RETRAIN (R493). -/
def execMemRetrain (v : Word) (ok0 ok1 : Bool) (s : State) : Host.Outcome State Fault Refusal := run (viaBar (doMemRetrain v ok0 ok1)) s

/-- MEM_CTL_WRITE (R494). -/
def execMemCtlWrite (v : Word) (ok0 ok1 : Bool) (s : State) : Host.Outcome State Fault Refusal := run (viaBar (doMemCtlWrite v ok0 ok1)) s

/-- CONFIG_AREA_SAVE (R504). -/
def execConfigAreaSave (cut : Bool) (s : State) : Host.Outcome State Fault Refusal := run (live (doConfigAreaSave cut)) s

/-- ARB_ADVANCE (R503). -/
def execArbAdvance (v : Word) (s : State) : Host.Outcome State Fault Refusal := run (viaBar (doArbAdvance v)) s

/-- HUB_FATAL_FAULT (R471). -/
def execHubFatalFault (freeze : Nat) (s : State) : Host.Outcome State Fault Refusal := run (live (doHubFatalFault freeze)) s

/-- FAILOVER_FREEZE_END (R472). -/
def execFailoverFreezeEnd (env : WriteEnv) (s : State) : Host.Outcome State Fault Refusal := run (live (doFailoverFreezeEnd env)) s

/-- STANDBY_RELOAD_DONE (R475). -/
def execStandbyReloadDone (s : State) : Host.Outcome State Fault Refusal := run (live doStandbyReloadDone) s

/-- CELL_LOSS_REFRESH (R84). -/
def execCellLossRefresh (parts : List (Fin 20480 × Nat)) (s : State) : Host.Outcome State Fault Refusal := run (live (doCellLossRefresh parts)) s

/-- DDR_SCRUB (R492). -/
def execDdrScrub (c : Fin 2) (corrected uncorrectable : Nat) (s : State) : Host.Outcome State Fault Refusal := run (live (doDdrScrub c corrected uncorrectable)) s

/-- PPS_OK_TIMEOUT (R140). -/
def execPpsOkTimeout (s : State) : Host.Outcome State Fault Refusal := run (live doPpsOkTimeout) s

/-- AFISK_FRAME_DROPPED (R405). -/
def execAfiskFrameDropped (f : Frame) (s : State) : Host.Outcome State Fault Refusal := run (live (doAfiskFrameDropped f)) s

/-- JTAG_INSTRUCTION (R531). -/
def execJtagInstruction (i : JtagIns) (s : State) : Host.Outcome State Fault Refusal := run (doJtagInstruction i) s

end Sys2Proof.Machine
end

