-- ==== Sys2Proof/Machine/Dispatch.lean ====
section
/-!
DEFINITION. Sys2Proof/Machine/Dispatch.lean: one arm per command.
-/
namespace Sys2Proof.Machine

def exec (i : Instr) (s : State) : Host.Outcome State Fault Refusal :=
  match i with
  | .coldReset width => Sys2Proof.Machine.execColdReset width s
  | .porRelease notDark => Sys2Proof.Machine.execPorRelease notDark s
  | .bootRom a b => Sys2Proof.Machine.execBootRom a b s
  | .bootWatchdogExpiry other => Sys2Proof.Machine.execBootWatchdogExpiry other s
  | .restoreStage ok0 ok1 => Sys2Proof.Machine.execRestoreStage ok0 ok1 s
  | .basecampStage tiles => Sys2Proof.Machine.execBasecampStage tiles s
  | .enableStage => Sys2Proof.Machine.execEnableStage s
  | .verifyStage failOpen failClose => Sys2Proof.Machine.execVerifyStage failOpen failClose s
  | .warmReset width => Sys2Proof.Machine.execWarmReset width s
  | .hubWatchdogExpiry freeze => Sys2Proof.Machine.execHubWatchdogExpiry freeze s
  | .controlRestart off => Sys2Proof.Machine.execControlRestart off s
  | .softReset v => Sys2Proof.Machine.execSoftReset v s
  | .powerFail width torn => Sys2Proof.Machine.execPowerFail width torn s
  | .emergencyClose => Sys2Proof.Machine.execEmergencyClose s
  | .pcieReset => Sys2Proof.Machine.execPcieReset s
  | .refclkLoss => Sys2Proof.Machine.execRefclkLoss s
  | .refclkReturn => Sys2Proof.Machine.execRefclkReturn s
  | .tileHoldoverEntry t => Sys2Proof.Machine.execTileHoldoverEntry t s
  | .holdoverFreeze => Sys2Proof.Machine.execHoldoverFreeze s
  | .holdoverFreezeEnd => Sys2Proof.Machine.execHoldoverFreezeEnd s
  | .plainRegisterWrite a v env => Sys2Proof.Machine.execPlainRegisterWrite a v env s
  | .accessError write a => Sys2Proof.Machine.execAccessError write a s
  | .guardSample readings => Sys2Proof.Machine.execGuardSample readings s
  | .guardLatch p => Sys2Proof.Machine.execGuardLatch p s
  | .guardStsClear n v => Sys2Proof.Machine.execGuardStsClear n v s
  | .guardCfgWrite v => Sys2Proof.Machine.execGuardCfgWrite v s
  | .ownerWrite out n v => Sys2Proof.Machine.execOwnerWrite out n v s
  | .circuitPlacement => Sys2Proof.Machine.execCircuitPlacement s
  | .rearrangeRunEnd => Sys2Proof.Machine.execRearrangeRunEnd s
  | .circuitArm c => Sys2Proof.Machine.execCircuitArm c s
  | .pointOfNoReturn cls e => Sys2Proof.Machine.execPointOfNoReturn cls e s
  | .decisionInstant cls e => Sys2Proof.Machine.execDecisionInstant cls e s
  | .blankStrobe cls e hub => Sys2Proof.Machine.execBlankStrobe cls e hub s
  | .selfStrobeDetect cls e tile => Sys2Proof.Machine.execSelfStrobeDetect cls e tile s
  | .switchStrobe cls e => Sys2Proof.Machine.execSwitchStrobe cls e s
  | .readySample cls e nak => Sys2Proof.Machine.execReadySample cls e nak s
  | .unblankStrobe cls e => Sys2Proof.Machine.execUnblankStrobe cls e s
  | .reofferUnblank out p e => Sys2Proof.Machine.execReofferUnblank out p e s
  | .epochCommit cls e => Sys2Proof.Machine.execEpochCommit cls e s
  | .lossCheckDeadline c => Sys2Proof.Machine.execLossCheckDeadline c s
  | .circuitLeaseExpiry c => Sys2Proof.Machine.execCircuitLeaseExpiry c s
  | .grantLeaseExpiry n => Sys2Proof.Machine.execGrantLeaseExpiry n s
  | .sessionLeaseExpiry c => Sys2Proof.Machine.execSessionLeaseExpiry c s
  | .deferredRelease => Sys2Proof.Machine.execDeferredRelease s
  | .schedulePlacementDone n => Sys2Proof.Machine.execSchedulePlacementDone n s
  | .staleReplacementDone n => Sys2Proof.Machine.execStaleReplacementDone n s
  | .repairRetry => Sys2Proof.Machine.execRepairRetry s
  | .plcCtlWrite v => Sys2Proof.Machine.execPlcCtlWrite v s
  | .plcPolicyWrite k v => Sys2Proof.Machine.execPlcPolicyWrite k v s
  | .timeIncCommit v => Sys2Proof.Machine.execTimeIncCommit v s
  | .timeValidSet v => Sys2Proof.Machine.execTimeValidSet v s
  | .timeValidClr v => Sys2Proof.Machine.execTimeValidClr v s
  | .timeStepArm v => Sys2Proof.Machine.execTimeStepArm v s
  | .timeStepApply => Sys2Proof.Machine.execTimeStepApply s
  | .timeStepNoWindow => Sys2Proof.Machine.execTimeStepNoWindow s
  | .timePtpCfgWrite v => Sys2Proof.Machine.execTimePtpCfgWrite v s
  | .ptpFrame rx udp domain master offset inc => Sys2Proof.Machine.execPtpFrame rx udp domain master offset inc s
  | .servoHoldover => Sys2Proof.Machine.execServoHoldover s
  | .ppsCapture falling err => Sys2Proof.Machine.execPpsCapture falling err s
  | .ppsCapRead => Sys2Proof.Machine.execPpsCapRead s
  | .ppsOutPulse => Sys2Proof.Machine.execPpsOutPulse s
  | .trefGate ppb => Sys2Proof.Machine.execTrefGate ppb s
  | .trefLoss => Sys2Proof.Machine.execTrefLoss s
  | .timeNowSnapshot => Sys2Proof.Machine.execTimeNowSnapshot s
  | .syncMark off => Sys2Proof.Machine.execSyncMark off s
  | .schLoadBegin f => Sys2Proof.Machine.execSchLoadBegin f s
  | .schLoadSlot f => Sys2Proof.Machine.execSchLoadSlot f s
  | .schLoadEnd f => Sys2Proof.Machine.execSchLoadEnd f s
  | .schErase f => Sys2Proof.Machine.execSchErase f s
  | .schSwap f => Sys2Proof.Machine.execSchSwap f s
  | .schCancel f => Sys2Proof.Machine.execSchCancel f s
  | .schLoadTimeout n => Sys2Proof.Machine.execSchLoadTimeout n s
  | .schdCtlWrite v => Sys2Proof.Machine.execSchdCtlWrite v s
  | .epoCtlWrite v => Sys2Proof.Machine.execEpoCtlWrite v s
  | .epoGbWrite v => Sys2Proof.Machine.execEpoGbWrite v s
  | .epoBelayCfgWrite v => Sys2Proof.Machine.execEpoBelayCfgWrite v s
  | .epoNextSnapshot => Sys2Proof.Machine.execEpoNextSnapshot s
  | .epoXlastSnapshot => Sys2Proof.Machine.execEpoXlastSnapshot s
  | .schdCycStartSnapshot => Sys2Proof.Machine.execSchdCycStartSnapshot s
  | .hubJunctionSample r => Sys2Proof.Machine.execHubJunctionSample r s
  | .frameEdge t abandoned => Sys2Proof.Machine.execFrameEdge t abandoned s
  | .belaySubstep t j => Sys2Proof.Machine.execBelaySubstep t j s
  | .belayOverrun e => Sys2Proof.Machine.execBelayOverrun e s
  | .frameStretch t => Sys2Proof.Machine.execFrameStretch t s
  | .heaterClampReport e => Sys2Proof.Machine.execHeaterClampReport e s
  | .mirrorStreamEnd t ok => Sys2Proof.Machine.execMirrorStreamEnd t ok s
  | .ucodeFallback t => Sys2Proof.Machine.execUcodeFallback t s
  | .tileLpCtlWrite t v => Sys2Proof.Machine.execTileLpCtlWrite t v s
  | .lpPeriodWrite t v => Sys2Proof.Machine.execLpPeriodWrite t v s
  | .lpParamWrite t k v => Sys2Proof.Machine.execLpParamWrite t k v s
  | .xtTableWrite e j v => Sys2Proof.Machine.execXtTableWrite e j v s
  | .ucodeCommit t v => Sys2Proof.Machine.execUcodeCommit t v s
  | .ucodeCheckDone t sigOk => Sys2Proof.Machine.execUcodeCheckDone t sigOk s
  | .ucodeExchange t => Sys2Proof.Machine.execUcodeExchange t s
  | .ucodeCommitTimeout t => Sys2Proof.Machine.execUcodeCommitTimeout t s
  | .ucodeCancel t v => Sys2Proof.Machine.execUcodeCancel t v s
  | .ucodeWindowWrite t n v => Sys2Proof.Machine.execUcodeWindowWrite t n v s
  | .lawSetWrite t v => Sys2Proof.Machine.execLawSetWrite t v s
  | .probeStart t v => Sys2Proof.Machine.execProbeStart t v s
  | .probeStop t v => Sys2Proof.Machine.execProbeStop t v s
  | .capDataRead t => Sys2Proof.Machine.execCapDataRead t s
  | .learnStart t v => Sys2Proof.Machine.execLearnStart t v s
  | .learnAbort t v => Sys2Proof.Machine.execLearnAbort t v s
  | .pwmUpdatePoint t b => Sys2Proof.Machine.execPwmUpdatePoint t b s
  | .pwmBctlWrite t b v => Sys2Proof.Machine.execPwmBctlWrite t b v s
  | .pwmTopArm t b v => Sys2Proof.Machine.execPwmTopArm t b v s
  | .pwmTopDiscard t b => Sys2Proof.Machine.execPwmTopDiscard t b s
  | .pwmDutyWrite t x v => Sys2Proof.Machine.execPwmDutyWrite t x v s
  | .pwmChcfgWrite t x v => Sys2Proof.Machine.execPwmChcfgWrite t x v s
  | .pwmUsetWrite t b n v => Sys2Proof.Machine.execPwmUsetWrite t b n v s
  | .fdCodeWrite t q v => Sys2Proof.Machine.execFdCodeWrite t q v s
  | .fdBankStrobe t b v => Sys2Proof.Machine.execFdBankStrobe t b v s
  | .fdTileStrobe t v => Sys2Proof.Machine.execFdTileStrobe t v s
  | .fdBctlWrite t b v => Sys2Proof.Machine.execFdBctlWrite t b v s
  | .blkCfgWrite out v => Sys2Proof.Machine.execBlkCfgWrite out v s
  | .blkForceWrite out n v => Sys2Proof.Machine.execBlkForceWrite out n v s
  | .latchCloseSense out p sense => Sys2Proof.Machine.execLatchCloseSense out p sense s
  | .latchOpenStart out p => Sys2Proof.Machine.execLatchOpenStart out p s
  | .latchOpenSense out p sense => Sys2Proof.Machine.execLatchOpenSense out p sense s
  | .latchAudit out senses => Sys2Proof.Machine.execLatchAudit out senses s
  | .wearWrite out p v => Sys2Proof.Machine.execWearWrite out p v s
  | .latCfgWrite out v => Sys2Proof.Machine.execLatCfgWrite out v s
  | .bankReadout t codes refBad => Sys2Proof.Machine.execBankReadout t codes refBad s
  | .tapReadout out codes refBad => Sys2Proof.Machine.execTapReadout out codes refBad s
  | .spareRotation t ofs gerr => Sys2Proof.Machine.execSpareRotation t ofs gerr s
  | .trigInEdge falling => Sys2Proof.Machine.execTrigInEdge falling s
  | .syncOutPulse => Sys2Proof.Machine.execSyncOutPulse s
  | .mcCtlWrite t v => Sys2Proof.Machine.execMcCtlWrite t v s
  | .mcCommit t v => Sys2Proof.Machine.execMcCommit t v s
  | .mcHoldWrite t v => Sys2Proof.Machine.execMcHoldWrite t v s
  | .corrDataWrite t v => Sys2Proof.Machine.execCorrDataWrite t v s
  | .mcTrigTSnapshot t => Sys2Proof.Machine.execMcTrigTSnapshot t s
  | .hkChannelSlot t n value => Sys2Proof.Machine.execHkChannelSlot t n value s
  | .hkMaskWrite t n v => Sys2Proof.Machine.execHkMaskWrite t n v s
  | .anchorStart t v => Sys2Proof.Machine.execAnchorStart t v s
  | .anchorDone t res => Sys2Proof.Machine.execAnchorDone t res s
  | .calAgeTrigger t => Sys2Proof.Machine.execCalAgeTrigger t s
  | .recalStart => Sys2Proof.Machine.execRecalStart s
  | .recalStepDone t res => Sys2Proof.Machine.execRecalStepDone t res s
  | .calDefer t => Sys2Proof.Machine.execCalDefer t s
  | .calCtlWrite v => Sys2Proof.Machine.execCalCtlWrite v s
  | .calGo v => Sys2Proof.Machine.execCalGo v s
  | .calAbort v => Sys2Proof.Machine.execCalAbort v s
  | .calTableWrite v => Sys2Proof.Machine.execCalTableWrite v s
  | .calTableRead => Sys2Proof.Machine.execCalTableRead s
  | .sensorReinstate n v => Sys2Proof.Machine.execSensorReinstate n v s
  | .thmWrite k v => Sys2Proof.Machine.execThmWrite k v s
  | .sesChallenge f => Sys2Proof.Machine.execSesChallenge f s
  | .sesOpen f => Sys2Proof.Machine.execSesOpen f s
  | .sesClose f => Sys2Proof.Machine.execSesClose f s
  | .sesKeepalive f => Sys2Proof.Machine.execSesKeepalive f s
  | .cirRequest f => Sys2Proof.Machine.execCirRequest f s
  | .cirRelease f => Sys2Proof.Machine.execCirRelease f s
  | .cirEnable f => Sys2Proof.Machine.execCirEnable f s
  | .cirDisable f => Sys2Proof.Machine.execCirDisable f s
  | .cirAttr f => Sys2Proof.Machine.execCirAttr f s
  | .cirLease f => Sys2Proof.Machine.execCirLease f s
  | .cirRead f => Sys2Proof.Machine.execCirRead f s
  | .grantCreate f => Sys2Proof.Machine.execGrantCreate f s
  | .grantRevoke f => Sys2Proof.Machine.execGrantRevoke f s
  | .grantLease f => Sys2Proof.Machine.execGrantLease f s
  | .trvRequest f => Sys2Proof.Machine.execTrvRequest f s
  | .trvAbort f => Sys2Proof.Machine.execTrvAbort f s
  | .trvResume f => Sys2Proof.Machine.execTrvResume f s
  | .trvRollback f => Sys2Proof.Machine.execTrvRollback f s
  | .traverseTimed => Sys2Proof.Machine.execTraverseTimed s
  | .trvCtlWrite v => Sys2Proof.Machine.execTrvCtlWrite v s
  | .trvSpecCfgWrite v => Sys2Proof.Machine.execTrvSpecCfgWrite v s
  | .trvCurSnapshot => Sys2Proof.Machine.execTrvCurSnapshot s
  | .telElement f => Sys2Proof.Machine.execTelElement f s
  | .telPort f => Sys2Proof.Machine.execTelPort f s
  | .telStatus f => Sys2Proof.Machine.execTelStatus f s
  | .regRead f => Sys2Proof.Machine.execRegRead f s
  | .regWrite f env => Sys2Proof.Machine.execRegWrite f env s
  | .mntIdentity f => Sys2Proof.Machine.execMntIdentity f s
  | .mntFwStage f => Sys2Proof.Machine.execMntFwStage f s
  | .mntFwActivate f => Sys2Proof.Machine.execMntFwActivate f s
  | .fwStandbyReady sigOk started => Sys2Proof.Machine.execFwStandbyReady sigOk started s
  | .fwHandover ok => Sys2Proof.Machine.execFwHandover ok s
  | .fwKeepExpiry => Sys2Proof.Machine.execFwKeepExpiry s
  | .mntCell f => Sys2Proof.Machine.execMntCell f s
  | .mntSoftReset f => Sys2Proof.Machine.execMntSoftReset f s
  | .evtSubscribe f => Sys2Proof.Machine.execEvtSubscribe f s
  | .evtUnsubscribe f => Sys2Proof.Machine.execEvtUnsubscribe f s
  | .evtRead f => Sys2Proof.Machine.execEvtRead f s
  | .mbxDoorbell v => Sys2Proof.Machine.execMbxDoorbell v s
  | .mbxCplHeadWrite v => Sys2Proof.Machine.execMbxCplHeadWrite v s
  | .mbxStall => Sys2Proof.Machine.execMbxStall s
  | .cmdMbxCfgWrite v => Sys2Proof.Machine.execCmdMbxCfgWrite v s
  | .cmdCtlWrite v => Sys2Proof.Machine.execCmdCtlWrite v s
  | .keySet v => Sys2Proof.Machine.execKeySet v s
  | .keyClear v => Sys2Proof.Machine.execKeyClear v s
  | .ethFrameRx rx kind => Sys2Proof.Machine.execEthFrameRx rx kind s
  | .egressFrameStart port => Sys2Proof.Machine.execEgressFrameStart port s
  | .sakSet v => Sys2Proof.Machine.execSakSet v s
  | .sakClear v => Sys2Proof.Machine.execSakClear v s
  | .msecTxAnWrite port v => Sys2Proof.Machine.execMsecTxAnWrite port v s
  | .policerWrite p k v => Sys2Proof.Machine.execPolicerWrite p k v s
  | .shaperWrite port q k v => Sys2Proof.Machine.execShaperWrite port q k v s
  | .gateCommit port v => Sys2Proof.Machine.execGateCommit port v s
  | .gateListApply port => Sys2Proof.Machine.execGateListApply port s
  | .queueSample port => Sys2Proof.Machine.execQueueSample port s
  | .linkChange port up => Sys2Proof.Machine.execLinkChange port up s
  | .netCtlWrite v => Sys2Proof.Machine.execNetCtlWrite v s
  | .portCtlWrite port v => Sys2Proof.Machine.execPortCtlWrite port v s
  | .recordWrite src => Sys2Proof.Machine.execRecordWrite src s
  | .recordClose src => Sys2Proof.Machine.execRecordClose src s
  | .flushStart => Sys2Proof.Machine.execFlushStart s
  | .flushBlockDone ok => Sys2Proof.Machine.execFlushBlockDone ok s
  | .logStoreTimeout => Sys2Proof.Machine.execLogStoreTimeout s
  | .evtRetry v passed => Sys2Proof.Machine.execEvtRetry v passed s
  | .evtPendClear n v => Sys2Proof.Machine.execEvtPendClear n v s
  | .cairnHostWrite v => Sys2Proof.Machine.execCairnHostWrite v s
  | .evtCtlWrite v => Sys2Proof.Machine.execEvtCtlWrite v s
  | .wearSave => Sys2Proof.Machine.execWearSave s
  | .engineDeclareFailed t => Sys2Proof.Machine.execEngineDeclareFailed t s
  | .spareTakeover t => Sys2Proof.Machine.execSpareTakeover t s
  | .engineTest t v => Sys2Proof.Machine.execEngineTest t v s
  | .engineTestDone t pass => Sys2Proof.Machine.execEngineTestDone t pass s
  | .engineReturn t v => Sys2Proof.Machine.execEngineReturn t v s
  | .eccScrub w correctable => Sys2Proof.Machine.execEccScrub w correctable s
  | .bivClr v => Sys2Proof.Machine.execBivClr v s
  | .ddrChannelLoss c => Sys2Proof.Machine.execDdrChannelLoss c s
  | .memRetrain v ok0 ok1 => Sys2Proof.Machine.execMemRetrain v ok0 ok1 s
  | .memCtlWrite v ok0 ok1 => Sys2Proof.Machine.execMemCtlWrite v ok0 ok1 s
  | .configAreaSave cut => Sys2Proof.Machine.execConfigAreaSave cut s
  | .arbAdvance v => Sys2Proof.Machine.execArbAdvance v s
  | .hubFatalFault freeze => Sys2Proof.Machine.execHubFatalFault freeze s
  | .failoverFreezeEnd env => Sys2Proof.Machine.execFailoverFreezeEnd env s
  | .standbyReloadDone => Sys2Proof.Machine.execStandbyReloadDone s
  | .cellLossRefresh parts => Sys2Proof.Machine.execCellLossRefresh parts s
  | .ddrScrub c corrected uncorrectable => Sys2Proof.Machine.execDdrScrub c corrected uncorrectable s
  | .ppsOkTimeout => Sys2Proof.Machine.execPpsOkTimeout s
  | .afiskFrameDropped f => Sys2Proof.Machine.execAfiskFrameDropped f s
  | .jtagInstruction c => Sys2Proof.Machine.execJtagInstruction c s

end Sys2Proof.Machine
end

