-- ==== Sys2Proof/Safety.lean ====
section
/-!
DEFINITION. Sys2Proof/Safety.lean: the notions in which claims are made: when commands are served, what a command leaves, what the recorder
may change, and what the status bits and pins agree with.
-/
namespace Sys2Proof.Machine

/-! ## When a command acts -/

/-- The module runs: POR_N is high, and no announced soft reset waits for its instant (R3, R470). -/
def State.Live (s : State) : Prop := s.svc.por = true ∧ s.svc.resetAt = none

/-- The host is served: the module runs, the control domain is out of reset, and no power failure has begun (R499, R512). -/
def State.Served (s : State) : Prop := s.Live ∧ s.ctrlUp = true ∧ s.svc.pfail = false

/-- A command completes with its own effect: `t` is what the command leaves and satisfies `P`; what follows every command (`settle`: work
that has become due, the frames made, pins and status bits) follows it. -/
def Leaves (i : Instr) (s : State) (P : State → Prop) : Prop := ∃ t, exec i s = .next t.settle ∧ P t

/-! ## Frames -/

/-- Registers that an occurrence may change (R447, R450, R453, R456, R460): the head, the lost and flushed counts, the pending bits. -/
abbrev evtReg (a : Nat) : Prop :=
  a = R.EVT_HEAD ∨ a = R.EVT_FLUSHED ∨ a = R.EVT_LOST ∨ a = R.EVT_TILE_LOST ∨ (R.EVT_PEND 0 ≤ a ∧ a < R.EVT_PEND 48)

/-- Flushing, the log store, its mirror and the rates of events agree: what an occurrence leaves of the recorder. -/
def EvtSt.SameStore (a b : EvtSt) : Prop :=
  b.lastFlush = a.lastFlush ∧ b.block = a.block ∧ b.blockNumber = a.blockNumber ∧ b.logBlocks = a.logBlocks ∧ b.mirror = a.mirror ∧
    b.rate = a.rate ∧ b.lastWearSave = a.lastWearSave ∧ b.tileLostAt = a.tileLostAt

/-- `t` differs from `s` at most by what the recorder does with occurrences: records, notices among the frames made, draws of free values,
and the registers of `evtReg`. -/
structure State.Recorded (s t : State) : Prop where
  pending : t.pending = s.pending
  time : t.t = s.t
  bus : t.bus = s.bus
  tm : t.tm = s.tm
  cmd : t.cmd = { s.cmd with outQ := t.cmd.outQ }
  evt : s.evt.SameStore t.evt
  net : t.net = s.net
  svc : t.svc = s.svc
  nv : t.nv = s.nv
  fab : t.fab = s.fab
  cir : t.cir = s.cir
  sch : t.sch = s.sch
  trv : t.trv = s.trv
  tiles : t.tiles = s.tiles
  drv : t.drv = s.drv
  cal : t.cal = s.cal
  thm : t.thm = s.thm
  rd : ∀ a, ¬ evtReg a → t.rd a = s.rd a

/-- The parts of the state, registers and the queue of commands apart. `frames` are the frames made by the current command, `recorder` the
record of occurrences with the counter of free values, `cmd` the rest of the command interface. -/
inductive Part
  | time | bus | tm | cmd | frames | recorder | net | svc | nv | fab | cir | sch | trv | tiles | drv | cal | thm
  deriving DecidableEq, Repr

/-- Two states agree in a part. -/
def Part.same (p : Part) (s t : State) : Prop := match p with
  | .time => t.t = s.t
  | .bus => t.bus = s.bus
  | .tm => t.tm = s.tm
  | .cmd => t.cmd = { s.cmd with outQ := t.cmd.outQ }
  | .frames => t.cmd.outQ = s.cmd.outQ
  | .recorder => t.evt = s.evt ∧ t.free = s.free
  | .net => t.net = s.net
  | .svc => t.svc = s.svc
  | .nv => t.nv = s.nv
  | .fab => t.fab = s.fab
  | .cir => t.cir = s.cir
  | .sch => t.sch = s.sch
  | .trv => t.trv = s.trv
  | .tiles => t.tiles = s.tiles
  | .drv => t.drv = s.drv
  | .cal => t.cal = s.cal
  | .thm => t.thm = s.thm

/-- From `s` to `t` nothing changes but the parts `ps` and the registers `rs`; where `recorder` is among the parts, an occurrence may have
been taken, so the registers of `evtReg` may have changed too. The queue of commands never changes. -/
def State.Touches (s t : State) (ps : List Part) (rs : List Nat) : Prop :=
  t.pending = s.pending ∧ (∀ p, p ∉ ps → p.same s t) ∧
    ∀ a, a ∉ rs → ¬ (Part.recorder ∈ ps ∧ evtReg a) → t.rd a = s.rd a

/-- The parts that an occurrence touches. -/
def Part.occ : List Part := [.recorder, .frames]

/-- What a host write of a register with an ENABLE bit leaves (R13, R538): while ENABLE reads 1, one that changes a locked field is discarded
whole with `lock`; otherwise its fields are taken, and setting ENABLE runs the check, which on refusal leaves ENABLE at 0. -/
def State.CtlWritten (s t : State) (a : Nat) (en re : Fld) (src lock : Nat) (check : State → Option Nat) (v : Word) : Prop :=
  let u := s.take a v
  let locked : Bool := s.flag en && s.rwcHit a v
  let sets : Bool := !s.flag en && u.flag en
  (locked = true → t = s.refuse re src lock) ∧
  (locked = false → ∀ c, sets = true → check u = some c → t = (u.put en 0).refuse re src c) ∧
  (locked = false → (sets = true → check u = none) → t = u)

/-- What a host write of a register without an ENABLE bit of its own leaves: discarded whole with `lock` where it changes a locked field
while `en` reads 1, taken otherwise (R538). -/
def State.LockedWritten (s t : State) (a : Nat) (en re : Fld) (src lock : Nat) (v : Word) : Prop :=
  if s.flag en = true ∧ s.rwcHit a v = true then t = s.refuse re src lock else t = s.take a v

/-- A fast-drive channel after a strobe of its bank by the host: a shadow written by `now` loads, and one whose range differs while a code
is not 0 is dropped (R306, R313). -/
def FdCh.strobed (x : FdCh) (now : Nat) : FdCh :=
  match x.pend with
  | none => x
  | some n =>
    if n ≤ now then
      if x.range ≠ x.rangeUse ∧ ¬ (x.code = 0 ∧ x.active = 0) then { x with pend := none }
      else { x with active := x.code, rangeUse := x.range, pend := none }
    else x

/-! ## Paths -/

/-- The line of a path after its first `n` stages: the line on which it enters, or that of stage `n − 1` (R20, R21). -/
def lineAfter (input route n : Nat) : Nat := (((path input route).take n).getLast?.map (·.line)).getD input

/-! ## Requests (R405) -/

/-- A request that arrives and passes orders 1 to 4 of R405: its requester, the key that tags its answers, and the state it then finds. A
mailbox request acts as tenant 0; a network one belongs to an open session, or opens one. -/
def State.admitted (s : State) (spec : OpSpec) (f : Frame) : Option (Requester × TagKey × State) :=
  if f.opcode ≠ spec.opcode then none
  else match s.arrive f with
    | (_, none) => none
    | (u, some at_) =>
      let u := u.advanceTo at_
      match f.via with
      | .mailbox =>
        if f.magic = 0x4146 ∧ f.ver = 1 ∧ f.typ = 1 ∧ f.length = f.rcvd ∧ 32 ≤ f.length ∧ f.flags / 2 = 0 ∧ f.code = 0 ∧ f.stamp = 0 ∧
            f.opcode / 0x1000 ≠ 1 then
          some (⟨32, u.cmd.mbxUid, 0, f.reqId, f.opcode, at_, 4, 0, 0⟩, .none, u)
        else none
      | .net rx src srcUdp _ =>
        if f.formed = false ∨ f.headerZero = false then none
        else if f.session = 0xFF then
          let r : Requester := ⟨0xFF, 0, f.tenant % 64, f.reqId, f.opcode, at_, rx.port, src, srcUdp⟩
          match Tbl.look u.cmd.keys (f.tenant % 64) with
          | none => none
          | some kt =>
            let nD : BitVec 64 := BitVec.ofNat 64 (beNat (f.params.take 8))
            if f.opcode = 0x1001 then some (r, .tenant kt 3 (Config.nonce u.free), u)
            else if f.opcode = 0x1002 ∧ f.auth = true ∧ f.tag = gmac kt (BitVec.ofNat 96 (2 * 2 ^ 64 + nD.toNat)) f.bytes then
              some (r, .tenant kt 4 nD, u)
            else none
        else match Tbl.look u.cmd.sessions f.session with
          | none => none
          | some x =>
            let w := 2 ^ u.get R.CMD_CTL_REPLAY_W
            let x' := { x with lease := tai at_ + u.get R.CMD_LEASE_CFG_SES_LEASE }
            if f.session < 32 ∧ x.tenant = f.tenant ∧ tai at_ < x.lease ∧ f.opens = false ∧ f.auth = true ∧
                f.tag = gmac x.key (BitVec.ofNat 96 f.seq.toNat) f.bytes ∧ x'.judge w f.seq.toNat = .accept then
              some (⟨f.session, x.uid, x.tenant, f.reqId, f.opcode, at_, rx.port, src, srcUdp⟩, .session x.key,
                { u with cmd.sessions := Tbl.put u.cmd.sessions f.session (x'.accept w f.seq.toNat) })
            else none

/-- The code with which orders 5 to 10 of R405 refuse an admitted request, the first that applies; `none` where none does. -/
def State.orders (u : State) (spec : OpSpec) (r : Requester) (p : List Byte) : Option Nat :=
  if spec.known = false then some Code.SES_BAD_OPCODE
  else if spec.ok p = false then some Code.SES_BAD_PARAM
  else if spec.warden = true ∧ r.tenant ≠ 0 then some spec.wardenCode
  else if r.reqId ∈ u.outstanding r.sess then some Code.SES_REQ_ID_BUSY
  else if 64 ≤ (u.outstanding r.sess).length then some Code.SES_OUTSTANDING
  else if u.flag R.THM_STS_SHUTDOWN = true ∧ spec.always = false then some Code.THM_SHUTDOWN
  else none

/-- A request that passes every order: it acts in the state given, counted as accepted and awaiting its final completion. -/
def State.acts (s : State) (spec : OpSpec) (f : Frame) : Option (Requester × TagKey × State) :=
  match s.admitted spec f with
  | none => none
  | some (r, key, u) => match u.orders spec r f.params with
    | some _ => none
    | none => some (r, key, (u.count (whole (R.CMD_CNT 4))).await r)

/-- The request rows: the opcode of each (R410 to R418) with the frame that carries it. -/
def requestRow : Instr → Option (OpSpec × Frame)
  | .schLoadBegin f => some (opSchLoadBegin, f)
  | .schLoadSlot f => some (opSchLoadSlot, f)
  | .schLoadEnd f => some (opSchLoadEnd, f)
  | .schErase f => some (opSchErase, f)
  | .schSwap f => some (opSchSwap, f)
  | .schCancel f => some (opSchCancel, f)
  | .sesChallenge f => some (opChallenge, f)
  | .sesOpen f => some (opOpen, f)
  | .sesClose f => some (opClose, f)
  | .sesKeepalive f => some (opKeepalive, f)
  | .cirRequest f => some (opCirRequest, f)
  | .cirRelease f => some (opCirRelease, f)
  | .cirEnable f => some (opCirEnable, f)
  | .cirDisable f => some (opCirDisable, f)
  | .cirAttr f => some (opCirAttr, f)
  | .cirLease f => some (opCirLease, f)
  | .cirRead f => some (opCirRead, f)
  | .grantCreate f => some (opGrantCreate, f)
  | .grantRevoke f => some (opGrantRevoke, f)
  | .grantLease f => some (opGrantLease, f)
  | .trvRequest f => some (opTrvRequest, f)
  | .trvAbort f => some (opTrvAbort, f)
  | .trvResume f => some (opTrvResume, f)
  | .trvRollback f => some (opTrvRollback, f)
  | .telElement f => some (opTelElement, f)
  | .telPort f => some (opTelPort, f)
  | .telStatus f => some (opTelStatus, f)
  | .regRead f => some (opRegRead, f)
  | .mntIdentity f => some (opIdentity, f)
  | .mntFwStage f => some (opFwStage, f)
  | .mntFwActivate f => some (opFwActivate, f)
  | .mntCell f => some (opCell, f)
  | .mntSoftReset f => some (opSoftReset, f)
  | .evtSubscribe f => some (opSubscribe, f)
  | .evtUnsubscribe f => some (opUnsubscribe, f)
  | .evtRead f => some (opEvtRead, f)
  | .regWrite f env => some (opRegWrite env, f)
  | _ => none

/-- A state that answers a requester with one reply, ahead of the frames made meanwhile (R406, R407): a final one ends the request, and a
refusal is the session's last. -/
def State.answered (v : State) (r : Requester) (key : TagKey) (code : Nat) (params : List Byte) : State :=
  ((if code = Code.ACCEPTED then v else v.endRequest r).setLast r.sess r.uid code).reply
    { kind := .reply, final := code != Code.ACCEPTED, sess := r.sess, uid := r.uid, tenant := r.tenant, reqId := r.reqId,
      opcode := r.opcode, code := code, stamp := r.stamp, params := params, key := key, port := r.port, addr := r.addr, udp := r.udp }

/-- What a request leaves that passes every order of R405: the state `v` of its effect, answered with `code` and `params`. -/
def Serves (i : Instr) (spec : OpSpec) (f : Frame) (s : State) (P : State → Requester → State → Nat → List Byte → Prop) : Prop :=
  ∀ r key w, s.acts spec f = some (r, key, w) →
    Leaves i s fun t => ∃ v code params, t = v.answered r key code params ∧ P w r v code params

/-! ## Status bits and pins -/

/-- The status bits follow the state: BIVOUAC and CAUSE the causes of bivouac (R216), HOLDOVER the tiles in holdover (R486), RUNNING the epoch
engine (R122), and ALERT the pending bits (R453); a pin that pulses is high only to the end of its pulse, and PPS_OUT only while VALID and
OUT_EN read 1 and the control domain runs (R132, R168, R352). -/
structure State.PinsAgree (s : State) : Prop where
  bivouac : s.flag R.GLB_STS_BIVOUAC = !s.svc.causes.isEmpty
  cause : s.get R.GLB_STS_CAUSE = s.svc.causes.headD 0 % 8
  holdover : s.flag R.GLB_STS_HOLDOVER = !s.svc.holdover.isEmpty
  running : s.flag R.TIME_STS_RUNNING = s.engineRuns
  alert : s.flag R.EVT_STS_ALERT = s.alertDue
  pps : ∀ n, s.tm.ppsHighUntil = some n →
    s.now < n ∧ s.ctrlUp = true ∧ s.flag R.TIME_PPS_CFG_OUT_EN = true ∧ s.flag R.TIME_STS_VALID = true
  epochOut : ∀ x, s.fab.epochOut = some x → s.now < x.2
  syncOut : ∀ x, s.fab.syncOut = some x → s.now < x.2

end Sys2Proof.Machine
end

