-- ==== Sys2Proof/Certificates/Slice0/Obligations.lean ====
section
/-!
DEFINITION. Sys2Proof/Certificates/Slice0/Obligations.lean: the statements about the block, by chapter of the manual. `Leaves i s P` says that command `i`
completes in `s` and that what it leaves satisfies `P`; what follows every command (`State.settle`) has its own statements.
-/
open Sys2Proof Sys2Proof.Machine

/-! ## Network time -/

/-- R117, R121: a write of `TIME_INC_LO` puts the pair held and written in force within ±1,000 ppm of nominal, and refuses it outside. The warden sets
and clears VALID; a write with both action bits set is discarded whole (R538). R122, R123: GO = 1 arms the step written in `TIME_ADJ_S` and
`TIME_ADJ_NS`, or refuses it: a step already armed, a part out of range, or more than 1 µs while the epoch engine runs. An armed step that finds no
window within 1 ms is discarded with TIM_ADJ_NO_WINDOW. -/
def Obligations.TimeIncrementValidityAndSteps : Prop :=
  (∀ (s : State) (v : Word), s.Served →
  (Leaves (.timeIncCommit v) s fun t =>
    let hi := (s.tm.heldHi.map BitVec.toNat).getD (s.tm.inc / 2 ^ 32)
    let inc := hi * 2 ^ 32 + v.toNat
    let ok : Bool := decide (0xFFBE76C9 ≤ inc ∧ inc ≤ 0x100418937)
    t.tm = { s.tm with heldHi := none, inc := if ok then inc else s.tm.inc } ∧
    t.get R.TIME_STS_REFUSE = (if ok then 0 else Code.TIM_INC_RANGE) ∧
    (ok → t.rd R.TIME_INC_HI = BitVec.ofNat 32 (inc / 2 ^ 32) ∧ t.rd R.TIME_INC_LO = v ∧
      s.Touches t [.tm] [R.TIME_INC_HI, R.TIME_INC_LO, R.TIME_STS]) ∧
    (¬ ok → s.Touches t [.tm, .recorder, .frames] [R.TIME_STS])) ∧
  (Leaves (.timeValidSet v) s fun t =>
    let on := asks R.TIME_CTL_VALID_SET v
    let off := asks R.TIME_CTL_VALID_CLR v
    if on && !off then t.flag R.TIME_STS_VALID = true ∧ t.get R.TIME_STS_REFUSE = 0 ∧ s.Touches t [] [R.TIME_STS] else t = s) ∧
  (Leaves (.timeValidClr v) s fun t =>
    let on := asks R.TIME_CTL_VALID_SET v
    let off := asks R.TIME_CTL_VALID_CLR v
    if off && !on then t.flag R.TIME_STS_VALID = false ∧ t.get R.TIME_STS_REFUSE = 0 ∧ s.Touches t [] [R.TIME_STS] else t = s)) ∧
  ( (∀ (s : State) (v : Word), s.Served → asks R.TIME_ADJ_CTL_GO v = true → Leaves (.timeStepArm v) s fun t =>
    let sec := (s.rd R.TIME_ADJ_S).toInt
    let ns := (s.rd R.TIME_ADJ_NS).toInt
    let step := sec * 1_000_000_000 + ns
    let code :=
      if s.tm.step.isSome then some Code.TIM_ADJ_BUSY
      else if 999_999_999 < ns.natAbs ∨ (0 < sec ∧ ns < 0) ∨ (sec < 0 ∧ 0 < ns) then some Code.TIM_ADJ_RANGE
      else if s.flag R.TIME_STS_RUNNING = true ∧ 1_000 < step.natAbs then some Code.TIM_STEP_RUNNING
      else none
    match code with
    | none =>
      t.tm = { s.tm with step := some (step, s.now) } ∧ t.flag R.TIME_ADJ_CTL_ARMED = true ∧ t.get R.TIME_STS_REFUSE = 0 ∧
        s.Touches t [.tm] [R.TIME_ADJ_CTL, R.TIME_STS]
    | some c => t.get R.TIME_STS_REFUSE = c ∧ s.Touches t [.recorder, .frames] [R.TIME_STS]) ∧
  (∀ (s : State) (step : Int) (armed : Nat), s.Live → s.tm.step = some (step, armed) → s.flag R.TIME_STS_RUNNING = true → Leaves .timeStepNoWindow s fun t =>
    t.tm = { s.tm with step := none } ∧ t.flag R.TIME_ADJ_CTL_ARMED = false ∧ t.get R.TIME_STS_REFUSE = Code.TIM_ADJ_NO_WINDOW ∧
    t.t = max s.t ((armed + 1_000_000) * 2 ^ 32) ∧
    s.Touches t [.tm, .time, .recorder, .frames] [R.TIME_ADJ_CTL, R.TIME_STS]))

/-- R139: the servo leaves LOCKED for HOLDOVER 3 s after the last usable Sync; a write of `TIME_PTP_CFG` that leaves ENABLE at 0 puts it in FREERUN, and
one that changes a locked field while ENABLE reads 1 is discarded whole. R139: what a usable PTP message tells the servo: the offset measured, a run
of 16 consecutive intervals below LOCK_THR reaching LOCKED and setting VALID (R121), and the increment the servo writes. -/
def Obligations.ServoFollowsSyncAndEnable : Prop :=
  ( (∀ s : State, s.Live → s.ctrlUp = true → s.get R.TIME_STS_SRV_STATE = srvLocked →
    Leaves .servoHoldover s fun t =>
      t.get R.TIME_STS_SRV_STATE = srvHoldover ∧ t.t = max s.t ((s.tm.lastSync + 3_000_000_000) * 2 ^ 32) ∧ t.tm = { s.tm with lockRun := 0 } ∧
      s.Touches t [.tm, .time, .recorder, .frames] [R.TIME_STS]) ∧
  (∀ (s : State) (v : Word), s.Served → s.flag R.TIME_PTP_CFG_ENABLE = true → s.rwcHit R.TIME_PTP_CFG v = true →
    Leaves (.timePtpCfgWrite v) s fun t =>
      t.get R.TIME_STS_REFUSE = Code.TIM_PTP_CONFIG ∧ s.Touches t [.recorder, .frames] [R.TIME_STS]) ∧
  (∀ (s : State) (v : Word), s.Served → bits v 0 0 = 0 → ¬ (s.flag R.TIME_PTP_CFG_ENABLE = true ∧ s.rwcHit R.TIME_PTP_CFG v = true) →
    Leaves (.timePtpCfgWrite v) s fun t =>
      t.get R.TIME_STS_SRV_STATE = srvFreerun ∧ t.flag R.TIME_PTP_CFG_ENABLE = false ∧ t.get R.TIME_STS_REFUSE = 0 ∧
      s.Touches t [.tm, .recorder, .frames] [R.TIME_STS, R.TIME_PTP_CFG])) ∧
  (∀ (s u w : State) (rx : EthRx) (udp master : Bool) (domain : Nat) (ofs : Int) (inc : Nat),
  s.Live → rx.port < 4 → s.receive rx true = (u, true) → rx.port = u.get R.TIME_PTP_CFG_PORT → u.police rx 65 = (w, true) →
  domain = w.get R.TIME_PTP_CFG_DOMAIN → (udp = true ↔ w.get R.TIME_PTP_CFG_TRANSPORT ≠ 0) → w.flag R.TIME_PTP_CFG_ENABLE = true →
  (w.get R.TIME_STS_SRV_STATE = srvLocking ∨ w.get R.TIME_STS_SRV_STATE = srvHoldover) → incMin ≤ inc → inc ≤ incMax →
  Leaves (.ptpFrame rx udp domain master (some ofs) (some inc)) s fun t =>
    let run := if ofs.natAbs < w.get R.TIME_PTP_CFG_LOCK_THR then w.tm.lockRun + 1 else 0
    t.tm.master = master ∧ t.tm.lastSync = w.now ∧ t.tm.inc = inc ∧
    t.rd R.TIME_SRV_OFS = BitVec.ofInt 32 (max (-2 ^ 31) (min (2 ^ 31 - 1) ofs)) ∧
    (if 16 ≤ run then t.get R.TIME_STS_SRV_STATE = srvLocked ∧ t.flag R.TIME_STS_VALID = true ∧ t.tm.lockRun = 0
      else t.get R.TIME_STS_SRV_STATE = w.get R.TIME_STS_SRV_STATE ∧ t.flag R.TIME_STS_VALID = w.flag R.TIME_STS_VALID ∧
        t.tm.lockRun = run))

/-- R131: the selected edge of PPS_IN is captured with an error of at most ±2 ns, OVW telling of a capture that was not read; a read of `TIME_PPS_CAP`
word 0 returns it and clears OVW. PPS_OK falls 1.1 s after the last edge. R132: PPS_OUT rises when NS equals OUT_OFS · 1,000 ns, at or after now,
and stays high OUT_WIDTH milliseconds. R133: at the end of a gate TREF_PPB takes the result and TREF_OK tells whether it lies within ±2,000 ppm; a
loss of the reference or a result outside raises its event and clears TREF_OK. A read of `TIME_NOW` word 0 takes seconds, nanoseconds and fraction
of one instant (R116, R140). R135: a sync mark comes 1 µs after the last; tiles leave holdover unless REFCLK is lost; a tile found more than 1 ns
off is reloaded and its bit of `TIME_TILE_STS` set. -/
def Obligations.TimePinsSnapshotsAndSyncMarks : Prop :=
  ( (∀ (s : State) (falling : Bool) (err : Int), s.Live → s.ctrlUp = true → s.flag R.TIME_PPS_CFG_IN_EDGE = falling →
    Leaves (.ppsCapture falling err) s fun t =>
      t.flag R.TIME_STS_PPS_OK = true ∧ t.tm.lastPps = some s.now ∧
      (s.flag R.TIME_PPS_CFG_IN_EN = true →
        let at_ := ((s.t : Int) + max (-2) (min 2 err) * 2 ^ 32).toNat
        t.get R.TIME_PPS_CAP_0_SEC = at_ / 2 ^ 32 / 1_000_000_000 / 2 ^ 32 % 2 ^ 16 ∧
        t.rd R.TIME_PPS_CAP_1 = BitVec.ofNat 32 (at_ / 2 ^ 32 / 1_000_000_000) ∧
        t.rd R.TIME_PPS_CAP_2 = BitVec.ofNat 32 (at_ / 2 ^ 32 % 1_000_000_000) ∧
        t.rd R.TIME_PPS_CAP_3 = BitVec.ofNat 32 at_ ∧
        t.flag R.TIME_PPS_CAP_0_OVW = s.tm.ppsUnread ∧ t.tm.ppsUnread = true ∧
        s.Touches t [.tm, .recorder, .frames]
          [R.TIME_STS, R.TIME_PPS_CAP_0, R.TIME_PPS_CAP_1, R.TIME_PPS_CAP_2, R.TIME_PPS_CAP_3]) ∧
      (s.flag R.TIME_PPS_CFG_IN_EN = false → s.Touches t [.tm] [R.TIME_STS])) ∧
  (∀ s : State, s.Served → Leaves .ppsCapRead s fun t =>
    t.bus = s.rd R.TIME_PPS_CAP_0 ∧ t.flag R.TIME_PPS_CAP_0_OVW = false ∧ t.tm = { s.tm with ppsUnread := false } ∧
    t.get R.TIME_PPS_CAP_0_SEC = s.get R.TIME_PPS_CAP_0_SEC ∧ s.Touches t [.tm, .bus] [R.TIME_PPS_CAP_0]) ∧
  (∀ (s : State) (n : Nat), s.Live → s.ctrlUp = true → s.tm.lastPps = some n → Leaves .ppsOkTimeout s fun t =>
    t.flag R.TIME_STS_PPS_OK = false ∧ t.tm = { s.tm with lastPps := none } ∧ t.t = max s.t ((n + 1_100_000_000) * 2 ^ 32) ∧
    s.Touches t [.tm, .time] [R.TIME_STS]) ∧
  (∀ s : State, s.Live → s.ctrlUp = true → s.flag R.TIME_PPS_CFG_OUT_EN = true → s.flag R.TIME_STS_VALID = true →
    Leaves .ppsOutPulse s fun t =>
      t.now % 1_000_000_000 = s.get R.TIME_PPS_CFG_OUT_OFS * 1_000 % 1_000_000_000 ∧ s.now ≤ t.now ∧
      t.tm = { s.tm with ppsHighUntil := some (t.now + s.get R.TIME_PPS_CFG_OUT_WIDTH * 1_000_000) } ∧
      s.Touches t [.tm, .time] [])) ∧
  ( (∀ (s : State) (ppb : Int), s.Live → s.ctrlUp = true → s.flag R.TIME_CLK_CFG_TREF_EN = true →
    Leaves (.trefGate ppb) s fun t =>
      if ppb.natAbs ≤ 2_000_000 then
        t.flag R.TIME_STS_TREF_OK = true ∧ t.get R.TIME_CLK_CFG_TREF_PPB = (BitVec.ofInt 24 ppb).toNat ∧
        s.Touches t [] [R.TIME_STS, R.TIME_CLK_CFG]
      else t = (s.put R.TIME_STS_TREF_OK 0).ev Ev.referenceFault) ∧
  (∀ s : State, s.Live → s.ctrlUp = true → s.flag R.TIME_CLK_CFG_TREF_EN = true →
    Leaves .trefLoss s fun t => t = (s.put R.TIME_STS_TREF_OK 0).ev Ev.referenceFault) ∧
  (∀ s : State, s.Served → Leaves .timeNowSnapshot s fun t =>
    t.get R.TIME_NOW_0_SEC = s.now / 1_000_000_000 / 2 ^ 32 % 2 ^ 16 ∧ t.rd R.TIME_NOW_1 = BitVec.ofNat 32 (s.now / 1_000_000_000) ∧
    t.rd R.TIME_NOW_2 = BitVec.ofNat 32 (s.now % 1_000_000_000) ∧ t.rd R.TIME_NOW_3 = BitVec.ofNat 32 s.t ∧
    t.bus = t.rd R.TIME_NOW_0 ∧ s.Touches t [.bus] [R.TIME_NOW_0, R.TIME_NOW_1, R.TIME_NOW_2, R.TIME_NOW_3]) ∧
  (∀ (s : State) (off : List (Fin 20 × Int)), s.Live → s.hubIn = true → Leaves (.syncMark off) s fun t =>
    t.t = max s.t ((s.svc.lastMark + 1_000) * 2 ^ 32) ∧
    t.svc = { s.svc with lastMark := t.now, holdover := if s.svc.refLost then s.svc.holdover else [] } ∧
    (∀ e, e ∈ off → 1_000 < e.2.natAbs → (t.rd R.TIME_TILE_STS).getLsbD e.1.val = true) ∧
    (∀ n : Nat, n < 32 → (∀ e, e ∈ off → 1_000 < e.2.natAbs → e.1.val ≠ n) →
      (t.rd R.TIME_TILE_STS).getLsbD n = (s.rd R.TIME_TILE_STS).getLsbD n) ∧
    s.Touches t [.time, .svc, .recorder, .frames] [R.TIME_TILE_STS]))

/-! ## Management ports and traffic control -/

/-- R434, R438: a taken write of a policer word fills both buckets to CBS and PBS, or empties them, by TOK_RST; one that leaves PIR below CIR or PBS
below CBS is refused (NET_POL table). A write of a shaper word sets the bucket to CBS or to 0 by TOK_RST. R429, R430: SET installs the staged key as
the association named, and CLEAR removes it; both wipe the staging registers. Refused for the transmit association in use, a PN of 0, or a high PN
word without XPN. A change of TX_AN to an association that is not valid is discarded. -/
def Obligations.PolicersShapersAndMacsec : Prop :=
  ( (∀ (s : State) (p : Fin 66) (k : Fin 4) (v : Word), s.Served → Leaves (.policerWrite p k v) s fun t =>
    let u := s.take (R.NET_POL_0 p + 4 * k) v
    if u.get (R.NET_POL_0_CIR p) ≤ u.get (R.NET_POL_1_PIR p) ∧ u.get (R.NET_POL_2_CBS p) ≤ u.get (R.NET_POL_3_PBS p) then
      (t.policer p).tc = (if t.flag (R.NET_POL_0_TOK_RST p) then t.get (R.NET_POL_2_CBS p) * uB else 0) ∧
      (t.policer p).tp = (if t.flag (R.NET_POL_0_TOK_RST p) then t.get (R.NET_POL_3_PBS p) * uB else 0) ∧
      t.rd (R.NET_POL_0 p + 4 * k) = u.rd (R.NET_POL_0 p + 4 * k) ∧
      (∀ q : Fin 66, q ≠ p → t.policer q = s.policer q) ∧ s.Touches t [.net] [R.NET_POL_0 p + 4 * k]
    else t = s.refuse R.NET_CTL_REFUSE Ev.networkConfigurationRefused Code.NET_CONFIG) ∧
  (∀ (s : State) (port q : Fin 4) (k : Fin 4) (v : Word), s.Served → k.val = 1 ∨ k.val = 2 → Leaves (.shaperWrite port q k v) s fun t =>
    t.rd (R.PORT_Q_0 port q + 4 * k) = (s.take (R.PORT_Q_0 port q + 4 * k) v).rd (R.PORT_Q_0 port q + 4 * k) ∧
    (t.queue port q).tokens = (if t.flag (R.PORT_Q_1_TOK_RST port q) then ((t.get (R.PORT_Q_2_CBS port q) * uB : Nat) : Int) else 0) ∧
    (t.queue port q).at_ = s.now ∧ (t.queue port q).frames = (s.queue port q).frames ∧
    s.Touches t [.net] [R.PORT_Q_0 port q + 4 * k]) ∧
  (∀ (s : State) (port q : Fin 4) (k : Fin 4) (v : Word), s.Served → k.val = 0 ∨ k.val = 3 → Leaves (.shaperWrite port q k v) s fun t =>
    s.LockedWritten t (R.PORT_Q_0 port q + 4 * k) R.NET_CTL_ENABLE (R.PORT_CTL_REFUSE port) Ev.networkConfigurationRefused
      Code.NET_CFG_LOCKED v)) ∧
  ( (∀ (s : State) (v : Word) (set : Bool), s.Served → asks R.CMD_SAK_CTL_SET v = set → asks R.CMD_SAK_CTL_CLEAR v = !set →
    Leaves (if set then .sakSet v else .sakClear v) s fun t =>
      let port := bits v 9 8
      let dir := bits v 4 4
      let an := bits v 3 2
      let pn := (s.rd R.CMD_SAK_PN_HI).toNat * 2 ^ 32 + (s.rd R.CMD_SAK_PN_LO).toNat
      let xpn := s.flag (R.PORT_MSEC_XPN port)
      let k := saKey port dir an
      if (dir = 0 ∧ an = s.get (R.PORT_MSEC_TX_AN port) ∧ s.flag (R.PORT_MSEC_MS_EN port) = true) ∨ pn = 0 ∨
          (xpn = false ∧ s.rd R.CMD_SAK_PN_HI ≠ 0) then
        t = s.put R.CMD_CTL_REFUSE Code.NET_SAK_REFUSED
      else
        Tbl.look t.net.sas k = (if set then some ⟨s.stagedSakKey, s.stagedSalt, s.rd R.CMD_SAK_SSCI, xpn, pn, pn, false⟩ else none) ∧
        (∀ j, j ≠ k → Tbl.look t.net.sas j = Tbl.look s.net.sas j) ∧
        (t.rd R.CMD_SAK_VALID).getLsbD k = set ∧
        (∀ w, w < 8 → t.rd (R.CMD_SAK_KEY w) = 0) ∧ (∀ w, w < 3 → t.rd (R.CMD_SAK_SALT w) = 0) ∧
        (dir = 0 → t.rd (R.PORT_TXPN_HI port an) = BitVec.ofNat 32 ((if set then pn else 0) / 2 ^ 32) ∧
          t.rd (R.PORT_TXPN_LO port an) = BitVec.ofNat 32 (if set then pn else 0))) ∧
  (∀ (s : State) (port : Fin 4) (v : Word), s.Served → Leaves (.msecTxAnWrite port v) s fun t =>
    let an := bits v 5 4
    if s.flag (R.PORT_CTL_ENABLE port) = true ∧ s.rwcHit (R.PORT_MSEC port) v = true then
      t = s.refuse (R.PORT_CTL_REFUSE port) Ev.networkConfigurationRefused Code.NET_CFG_LOCKED
    else if an ≠ s.get (R.PORT_MSEC_TX_AN port) ∧ (s.rd R.CMD_SAK_VALID).getLsbD (saKey port 0 an) = false then
      t = s.refuse (R.PORT_CTL_REFUSE port) Ev.networkConfigurationRefused Code.NET_SAK_REFUSED
    else t = s.take (R.PORT_MSEC port) v))

/-- R440, R442: COMMIT arms a good shadow list for its base or refuses with NET_GATE_INVALID; at the base the list becomes the active one and its event
is raised. At the end of a sample interval each queue's starts, largest depth, largest delay and depth are posted and counted anew. R444, R445:
writes of `NET_CTL` and `PORT_CTL_n` obey R13, with the checks listed there; a change of a link shows in `PORT_CTL_n` and raises its event. -/
def Obligations.GatesLinksAndPortEnables : Prop :=
  ( (∀ (s : State) (port : Fin 4) (v : Word), s.Served → asks (R.PORT_GATE_CTL_COMMIT port) v = true →
    Leaves (.gateCommit port v) s fun t =>
      let u := s.take (R.PORT_GATE_CTL port) v
      if u.gateListOk port = true then
        t.flag (R.PORT_GATE_CTL_PENDING port) = true ∧
        (t.gate port).pending = some (nearest ((s.get (R.PORT_GATE_BASE_HI_B port)) * 2 ^ 32 + (s.rd (R.PORT_GATE_BASE_LO port)).toNat) s.now,
          u.get (R.PORT_GATE_CTL_NENT port), (List.range 64).map fun k => s.rd (R.PORT_GCL port k)) ∧
        (t.gate port).base = (s.gate port).base ∧ (t.gate port).nent = (s.gate port).nent ∧ s.Touches t [.net] [R.PORT_GATE_CTL port]
      else t = s.refuse (R.PORT_CTL_REFUSE port) Ev.networkConfigurationRefused Code.NET_GATE_INVALID) ∧
  (∀ (s : State) (port : Fin 4) (b n : Nat) (ws : List Word), s.Live → s.ctrlUp = true → (s.gate port).pending = some (b, n, ws) →
    Leaves (.gateListApply port) s fun t =>
      t.gate port = ⟨b, n, none⟩ ∧ (∀ k, k < 64 → t.rd (R.PORT_GCLA port k) = ws.getD k 0) ∧
      t.flag (R.PORT_GATE_CTL_PENDING port) = false ∧ t.t = max s.t (b * 2 ^ 32) ∧
      s.Touches t [.net, .time, .recorder, .frames] (R.PORT_GATE_CTL port :: (List.range 64).map (R.PORT_GCLA port))) ∧
  (∀ (s : State) (port q : Fin 4), s.Live → s.ctrlUp = true → 1 ≤ s.get (R.PORT_QS_CFG_INTERVAL port) → Leaves (.queueSample port) s fun t =>
    sched t.now % (s.get (R.PORT_QS_CFG_INTERVAL port) * 1_000) = 0 ∧ s.now ≤ t.now ∧
    t.get ⟨R.PORT_QSMP_0 port q, 15, 0⟩ = min (s.queue port q).started 0xFFFF ∧
    t.rd (R.PORT_QSMP_1 port q) = BitVec.ofNat 32 (s.queue port q).depthMax ∧
    t.rd (R.PORT_QSMP_2 port q) = BitVec.ofNat 32 (min (s.queue port q).delayMax 0xFFFF_FFFF) ∧
    t.rd (R.PORT_QSMP_3 port q) = BitVec.ofNat 32 (s.queue port q).depth ∧
    (t.queue port q).started = 0 ∧ (t.queue port q).delayMax = 0 ∧ (t.queue port q).depthMax = (s.queue port q).depth ∧
    (t.queue port q).frames = (s.queue port q).frames)) ∧
  ( (∀ (s : State) (v : Word), s.Served → Leaves (.netCtlWrite v) s fun t =>
    s.CtlWritten t R.NET_CTL R.NET_CTL_ENABLE R.NET_CTL_REFUSE Ev.networkConfigurationRefused Code.NET_CFG_LOCKED netCheck v) ∧
  (∀ s : State, netCheck s = none ↔
    (∀ n, n < 4 → s.get (R.PORT_Q_0_QMAX n 0) + s.get (R.PORT_Q_0_QMAX n 1) + s.get (R.PORT_Q_0_QMAX n 2) +
        s.get (R.PORT_Q_0_QMAX n 3) ≤ 98_304 ∧ ∀ q, q < 4 → 1_600 ≤ s.get (R.PORT_Q_0_QMAX n q)) ∧
    (∀ q, q ∈ s.namedQueues → ∀ n, n < 4 → ¬ (1 ≤ s.get (R.PORT_Q_1_CIR n q) ∧ s.get (R.PORT_Q_1_CIR n q) ≤ 0x3E7))) ∧
  (∀ (s : State) (port : Fin 4) (v : Word), s.Served → Leaves (.portCtlWrite port v) s fun t =>
    s.CtlWritten t (R.PORT_CTL port) (R.PORT_CTL_ENABLE port) (R.PORT_CTL_REFUSE port) Ev.networkConfigurationRefused Code.NET_CFG_LOCKED
      (portCheck port) v) ∧
  (∀ (s : State) (n : Nat), n < 4 → (portCheck n s = none ↔
    (s.get (R.PORT_CTL_SPEED n) = 1 ∨ s.get (R.PORT_CTL_SPEED n) = 2) ∧ s.get (R.PORT_CTL_FEC n) ≠ 3 ∧
    ¬ (s.get (R.PORT_CTL_FEC n) = 2 ∧ s.get (R.PORT_CTL_SPEED n) = 1) ∧ (s.rd (R.PORT_MAC_HI n)).getLsbD 8 = false ∧
    (s.flag (R.PORT_MSEC_MS_EN n) = true → (s.rd R.CMD_SAK_VALID).getLsbD (saKey n 0 (s.get (R.PORT_MSEC_TX_AN n))) = true))) ∧
  (∀ (s : State) (port : Fin 4) (up : Bool), s.Live → s.ctrlUp = true → s.flag (R.PORT_CTL_LINK port) = !up →
    Leaves (.linkChange port up) s fun t =>
      t.flag (R.PORT_CTL_LINK port) = up ∧ t = (s.put (R.PORT_CTL_LINK port) (b2n up)).ev Ev.link))

/-- R423, R424: a frame with a bad FCS, or shorter than 64 or longer than 1,600 bytes, is counted and dropped; one that passes reception answers an ARP
request under policer 65 from queue 0, and any other frame that is neither answered nor PTP is counted. -/
def Obligations.ReceivedFramesAreAnsweredOrCounted : Prop :=  (∀ (s : State) (rx : EthRx) (kind : EthKind), s.Live → rx.port < 4 → s.portRuns rx.port = true → rx.fcsOk = false →
    Leaves (.ethFrameRx rx kind) s fun t =>
      t = ((s.advanceTo (s.ingressStamp rx)).count (whole (R.PORT_CNT rx.port 0))).count (whole (R.PORT_CNT rx.port 3))) ∧
  (∀ (s : State) (rx : EthRx) (kind : EthKind), s.Live → rx.port < 4 → s.portRuns rx.port = true → rx.fcsOk = true →
    (rx.len < 64 ∨ 1_600 < rx.len) → Leaves (.ethFrameRx rx kind) s fun t =>
      t = ((s.advanceTo (s.ingressStamp rx)).count (whole (R.PORT_CNT rx.port 0))).count (whole (R.PORT_CNT rx.port 2))) ∧
  (∀ (s u : State) (rx : EthRx), s.Live → rx.port < 4 → s.receive rx false = (u, true) →
    Leaves (.ethFrameRx rx .other) s fun t => t = u.count (whole (R.PORT_CNT rx.port 1))) ∧
  (∀ (s u w : State) (rx : EthRx) (admitted : Bool), s.Live → rx.port < 4 → s.receive rx false = (u, true) → rx.toUs = true →
    u.rd (R.PORT_IP4 rx.port) ≠ 0 → u.police rx 65 = (w, admitted) →
    Leaves (.ethFrameRx rx .arpRequest) s fun t =>
      t = if admitted = true then w.enqueue rx.port 0 (.control false) rx.len else w)

/-- R435, R437, R439: of the frames that may start once the line is free, that of the lowest queue starts: it leaves its queue, its shaped length leaves
the bucket, and an Afisk frame goes out. -/
def Obligations.EgressServesLowestQueueFirst : Prop := ∀ (s : State) (port q : Fin 4) (f : EgressFrame) (rest : List EgressFrame),
  s.Live → s.portRuns port = true → s.flag (R.PORT_CTL_LINK port) = true → s.flag (R.PORT_MSEC_MS_EN port) = false →
  let u := s.advanceTo (Tbl.getD s.net.lineBusy port 0)
  u.mayStart port q = true → (∀ j : Fin 4, j.val < q.val → u.mayStart port j = false) →
  (u.queue port q).frames = f :: rest → (u.queue port q).waiting = [] →
  Leaves (.egressFrameStart port) s fun t =>
    let shaped := f.len + s.get (R.PORT_Q_3_OVH port q)
    (t.queue port q).frames = rest ∧ (t.queue port q).tokens = u.bucket port q (u.queue port q) - ((shaped * uB : Nat) : Int) ∧
    Tbl.getD t.net.lineBusy port 0 = u.now + (8 * shaped + s.rate port - 1) / s.rate port ∧
    (∀ m, f.item = .afisk m → ∃ x, t.cmd.sent = s.cmd.sent ++ [x] ∧ x.msg = m ∧ x.at_ = u.now) ∧
    ((∃ b, f.item = .control b) → t.cmd.sent = s.cmd.sent)

/-! ## Events and the recorder -/

/-- R446, R448, R456: an occurrence of a recorded source without coalescing takes the slot of `EVT_HEAD` as a closed record of REPEAT 1 whose words are
those of the occurrence, and `EVT_HEAD` advances; where the ring holds no unflushed record in that slot nothing is lost. AUX and DATA are those
stated, and otherwise free values. R453, R460: an occurrence of a source with ALERT = 1 sets its bit of `EVT_PEND_n`, and ALERT_N follows at the end
of the command. While the hub is out of service a tile's occurrence waits in the tile's queue of 512, is counted lost beyond it, and a hub source's
is lost. -/
def Obligations.OccurrencesAreRecordedAndAlert : Prop :=
  (∀ (s : State) (o : Occ), o.src < 1536 → s.hubIn = true →
  s.flag (R.EVT_SRC_REC o.src) = true → s.get (R.EVT_SRC_COAL o.src) = 0 →
  let head := (s.rd R.EVT_HEAD).toNat
  let slot := head % 16_384
  (head + 2 ^ 32 - (s.rd R.EVT_FLUSHED).toNat) % 2 ^ 32 < 16_384 →
  let t := s.raise o
  let r := Tbl.getD t.evt.ring slot Rec.empty
  r.src = o.src ∧ r.tenant = o.tenant ∧ r.subj = o.subj ∧ r.idx = o.idx ∧ r.code = o.code ∧ r.seq = head ∧ r.rep = 1 ∧ r.first = s.now ∧
  r.last = s.now ∧ r.open_ = false ∧ r.vol = false ∧ r.pfail = false ∧
  r.gen = ((Tbl.getD s.evt.ring slot Rec.empty).gen + 1) % 256 ∧ (∀ x, o.aux = some x → r.aux = x) ∧ (∀ x, o.data = some x → r.data = x) ∧
  t.rd R.EVT_HEAD = BitVec.ofNat 32 (head + 1) ∧ t.rd R.EVT_LOST = s.rd R.EVT_LOST ∧ t.rd R.EVT_FLUSHED = s.rd R.EVT_FLUSHED ∧
  (∀ j, j ≠ slot → Tbl.getD t.evt.ring j Rec.empty = Tbl.getD s.evt.ring j Rec.empty) ∧ s.Touches t [.recorder, .frames] []) ∧
  ( (∀ (s : State) (o : Occ), o.src < 1536 → s.hubIn = true → s.flag (R.EVT_SRC_ALERT o.src) = true → s.evt.opens = [] →
    (s.raise o |>.rd (R.EVT_PEND (o.src / 32))).getLsbD (o.src % 32) = true ∧ (s.raise o).show.flag R.EVT_STS_ALERT = true) ∧
  (∀ (s : State) (o : Occ), s.hubIn = false → o.src < 256 → s.raise o = s) ∧
  (∀ (s : State) (o : Occ), s.hubIn = false → 256 ≤ o.src → o.src < 1536 →
    let waiting := s.evt.tileQ.filter fun q => (q.1.src - 256) / 64 == (o.src - 256) / 64
    if waiting.length < 512 then s.raise o = { s with evt.tileQ := s.evt.tileQ ++ [(o, s.now)] }
    else (s.raise o).rd R.EVT_TILE_LOST = BitVec.ofNat 32 (min ((s.rd R.EVT_TILE_LOST).toNat + 1) (2 ^ 32 - 1)) ∧
      s.Touches (s.raise o) [] [R.EVT_TILE_LOST]))

/-- R449, R450: the open record of a source is written again, 10 µs after its previous write, with every occurrence joined since; at the end of its
coalescing time it is closed: written with OPEN = 0, after which the source has no open record. R457, R461, R462: a flush starts at its earliest
cause with the closed records that follow `EVT_FLUSHED`, at most 127 in a block; a block that reads back right advances `EVT_FLUSHED` past it and
stands in the log; a third failure in succession, or an operation of more than 10 ms, fails the log store, with a cairn record while a slot is free.
R453, R459, R462, R464, R466: writes of the recorder's registers: `EVT_CTL` obeys R13 and LS_STATE follows it; RETRY tests the log store, a pass
writing the mirror's records to the log; each 1 written to `EVT_PEND_n` clears its bit; the host appends a cairn record while more than 32 slots are
free; and the wear counts are saved to the older copy every 60 s. -/
def Obligations.RecordsCloseFlushAndSave : Prop :=
  ( (∀ (s : State) (src : Nat) (o : OpenRec), s.Live → s.hubIn = true → s.evt.opens.find? (·.rec_.src == src) = some o → 0 < o.joined →
    Leaves (.recordWrite src) s fun t =>
      let r := Tbl.getD t.evt.ring (o.rec_.seq % 16_384) Rec.empty
      r.rep = min (o.rec_.rep + o.joined) 0xFFFF ∧ r.last = o.lastJoin ∧ r.open_ = true ∧ r.seq = o.rec_.seq ∧ r.first = o.rec_.first ∧
      (∀ x, t.evt.opens.find? (·.rec_.src == src) = some x → x.joined = 0 ∧ x.rec_ = r ∧ x.openedAt = o.openedAt ∧ x.writtenAt = t.now) ∧
      t.t = max s.t ((o.writtenAt + 10_000) * 2 ^ 32) ∧ s.Touches t [.time, .recorder] []) ∧
  (∀ (s : State) (src : Nat) (o : OpenRec), s.Live → s.hubIn = true → s.evt.opens.find? (·.rec_.src == src) = some o →
    Leaves (.recordClose src) s fun t =>
      let r := Tbl.getD t.evt.ring (o.rec_.seq % 16_384) Rec.empty
      r.rep = min (o.rec_.rep + o.joined) 0xFFFF ∧ r.open_ = false ∧ r.seq = o.rec_.seq ∧
      r.last = (if o.joined = 0 then o.rec_.last else o.lastJoin) ∧
      (∀ x, x ∈ t.evt.opens ↔ x ∈ s.evt.opens ∧ x.rec_.src ≠ src) ∧
      t.t = max s.t ((o.openedAt + s.get (R.EVT_SRC_COAL src) * 1_000_000) * 2 ^ 32) ∧ s.Touches t [.time, .recorder, .frames] [])) ∧
  ( (∀ s : State, s.Live → s.hubIn = true → s.flag R.EVT_CTL_ENABLE = true → s.flag R.EVT_CTL_LS_EN = true → s.evt.block = none →
    s.get R.EVT_STS_LS_STATE ≠ lsFailed → 1 ≤ s.flushable → Leaves .flushStart s fun t =>
      (∃ b, t.evt.block = some b ∧ b.first = (s.rd R.EVT_FLUSHED).toNat ∧ b.count = s.flushable ∧ b.count ≤ 127 ∧ b.fails = 0 ∧
        b.mirror = false) ∧ t.evt.flushDue = none ∧
      (s.closedWaiting < 1024 →
        let byTime := s.evt.lastFlush + s.get R.EVT_CTL_FLUSH_MS * 1_000_000
        t.t = max s.t (min (s.evt.flushDue.getD byTime) byTime * 2 ^ 32)) ∧ s.Touches t [.time, .recorder] []) ∧
  (∀ (s : State) (b : FlushBlk), s.Live → s.evt.block = some b → b.mirror = false → Leaves (.flushBlockDone true) s fun t =>
    t.rd R.EVT_FLUSHED = BitVec.ofNat 32 (b.first + b.count) ∧ t.evt.logBlocks = s.evt.logBlocks ++ [(b.first, b.count)] ∧
    t.nv.logNext = (b.first + b.count) % 2 ^ 32 ∧ s.Touches t [.recorder, .nv] [R.EVT_FLUSHED]) ∧
  (∀ (s : State) (b : FlushBlk), s.Live → s.evt.block = some b → b.mirror = false → b.fails + 1 < 3 →
    Leaves (.flushBlockDone false) s fun t => t = { s with evt.block := some { b with fails := b.fails + 1 } }) ∧
  (∀ (s : State) (b : FlushBlk) (i : Instr), s.Live → s.evt.block = some b → b.mirror = false →
    (i = .logStoreTimeout ∨ i = .flushBlockDone false ∧ 3 ≤ b.fails + 1) → Leaves i s fun t =>
      t.get R.EVT_STS_LS_STATE = lsFailed ∧ t.flag R.EVT_STS_MIRROR = true ∧
      (s.svc.pfail = false → s.nv.cairn.length < 256 → ∃ c, t.nv.cairn = s.nv.cairn ++ [c] ∧ c.kind = 0x01 ∧ c.code = Code.EVT_LOG_STORE_FAIL))) ∧
  ( (∀ (s : State) (v : Word), s.Served → Leaves (.evtCtlWrite v) s fun t => ∃ u,
    s.CtlWritten u R.EVT_CTL R.EVT_CTL_ENABLE R.EVT_CTL_REFUSE Ev.recorderConfigurationRefused Code.EVT_CONFIG evtCheck v ∧
    t.get R.EVT_STS_LS_STATE = (if u.flag R.EVT_CTL_ENABLE = true ∧ u.flag R.EVT_CTL_LS_EN = true then
        (if u.get R.EVT_STS_LS_STATE = lsOff then lsOk else u.get R.EVT_STS_LS_STATE)
      else if u.get R.EVT_STS_LS_STATE = lsOk then lsOff else u.get R.EVT_STS_LS_STATE) ∧ u.Touches t [] [R.EVT_STS]) ∧
  (∀ (s : State) (v : Word) (passed : Bool), s.Served → asks R.EVT_CTL_RETRY v = true → s.flag R.EVT_CTL_ENABLE = true →
    s.flag R.EVT_CTL_LS_EN = true → s.rwcHit R.EVT_CTL v = false → bits v 0 0 = 1 → s.get R.EVT_STS_LS_STATE = lsFailed →
    Leaves (.evtRetry v passed) s fun t =>
      if passed = true then t.get R.EVT_STS_LS_STATE = lsOk ∧ t.flag R.EVT_STS_MIRROR = false ∧ t.evt.mirror = [] ∧
        (∀ r l, s.evt.mirror = r :: l → t.evt.logBlocks = s.evt.logBlocks ++ [(r.seq, l.length + 1)])
      else t.get R.EVT_STS_LS_STATE = lsFailed ∧ t.evt.mirror = s.evt.mirror ∧ t.evt.logBlocks = s.evt.logBlocks) ∧
  (∀ (s : State) (n : Fin 48) (v : Word), s.Served → Leaves (.evtPendClear n v) s fun t =>
    t.rd (R.EVT_PEND n) = s.rd (R.EVT_PEND n) &&& ~~~v ∧ s.Touches t [] [R.EVT_PEND n]) ∧
  (∀ (s : State) (v : Word), s.Served → asks R.EVT_CAIRN_HOST_CTL_WRITE v = true → Leaves (.cairnHostWrite v) s fun t =>
    if 32 < 256 - s.nv.cairn.length then
      t.nv = { s.nv with cairn := s.nv.cairn ++ [⟨false, 0x80, 0, s.now / 1_000_000_000, s.now % 1_000_000_000, 0, 0,
        (s.rd (R.EVT_CAIRN_HOST 0)).toNat, (s.rd (R.EVT_CAIRN_HOST 1)).toNat, (s.rd (R.EVT_CAIRN_HOST 2)).toNat⟩] } ∧
      t.get R.EVT_CAIRN_STS_USED = s.nv.cairn.length + 1 ∧ s.Touches t [.nv] [R.EVT_CAIRN_STS]
    else t = s.put R.EVT_CTL_REFUSE Code.EVT_CAIRN_FULL) ∧
  (∀ s : State, s.Live → s.hubIn = true → Leaves .wearSave s fun t =>
    t.t = max s.t ((s.evt.lastWearSave + 60_000_000_000) * 2 ^ 32) ∧ t.evt = { s.evt with lastWearSave := t.now } ∧
    (let c : WearCopy := ⟨max s.nv.wearA.gen s.nv.wearB.gen + 1, t.now / 1_000_000_000 % 2 ^ 32, true, s.wearCounts⟩
     t.nv = if s.get R.EVT_STS_LS_STATE = lsFailed then s.nv
       else if s.nv.wearA.gen ≤ s.nv.wearB.gen then { s.nv with wearA := c } else { s.nv with wearB := c }) ∧
    s.Touches t [.time, .nv, .recorder] []))

/-! ## The input guard, fast drive, blankers and latches -/

/-- R41 to R45, R47: the second reading in a row above IN_GUARD blanks the input; one below does not; clearing a bit releases the hold and LAT. An
IN_GUARD outside 10.0 to 22.0 dBm is refused. R314, R316, R325, R326: blanker timings out of range are refused, a forced blank drives the blanker,
wear counts are written only while latch ENABLE reads 0, and latch ENABLE does not fall while a port is open or opening. -/
def Obligations.GuardsAndBlankersHoldPorts : Prop :=
  ( (∀ (s : State) (readings : List (Fin 1024 × Int)), s.Live → (readings.map (·.1)).Nodup → Leaves (.guardSample readings) s fun t =>
    let thr := (BitVec.ofNat 16 (s.get R.TILE_FD_GUARD_CFG_IN_GUARD)).toInt * 10
    (∀ p x, (p, x) ∈ readings → thr < x → (Tbl.getD s.fab.guard p.val (0, 0)).1 = 1 → t.guarded p = true) ∧
    (∀ p x, (p, x) ∈ readings → (x ≤ thr ∨ (Tbl.getD s.fab.guard p.val (0, 0)).1 ≠ 1) → t.guarded p = s.guarded p) ∧
    (∀ p x, (p, x) ∈ readings → x ≤ thr → (Tbl.getD t.fab.guard p.val (0, 0)).1 = 0) ∧
    (∀ p : Fin 1024, p ∉ readings.map (·.1) → t.guarded p = s.guarded p ∧ Tbl.getD t.fab.guard p.val (0, 0) = Tbl.getD s.fab.guard p.val (0, 0)) ∧
    t.now = (s.now / 250 + 1) * 250 ∧ t.cir = s.cir ∧ t.fab.ports = s.fab.ports) ∧
  (∀ (s : State) (n : Fin 32) (v : Word), s.Served → Leaves (.guardStsClear n v) s fun t =>
    t.rd (R.TILE_FD_GUARD_STS n) = s.rd (R.TILE_FD_GUARD_STS n) &&& ~~~v ∧
    t.rd (R.TILE_FD_GUARD_LAT n) = s.rd (R.TILE_FD_GUARD_LAT n) &&& ~~~(s.rd (R.TILE_FD_GUARD_STS n) &&& v) ∧
    t.fab.ports = s.fab.ports ∧ s.Touches t [.fab] [R.TILE_FD_GUARD_STS n, R.TILE_FD_GUARD_LAT n]) ∧
  (∀ (s : State) (v : Word), s.Served → Leaves (.guardCfgWrite v) s fun t =>
    if 100 ≤ bits v 15 0 ∧ bits v 15 0 ≤ 220 then
      t.get R.TILE_FD_GUARD_CFG_IN_GUARD = bits v 15 0 ∧ t.get R.TILE_FD_GUARD_REFUSE_REFUSE = 0 ∧
        s.Touches t [] [R.TILE_FD_GUARD_CFG, R.TILE_FD_GUARD_REFUSE]
    else t = s.refuse R.TILE_FD_GUARD_REFUSE_REFUSE Ev.inputGuardRefusal Code.PRT_GUARD_RANGE)) ∧
  ( (∀ (s : State) (out : Bool) (v : Word), s.Served → Leaves (.blkCfgWrite out v) s fun t =>
    if 8 ≤ bits v 12 8 ∧ bits v 12 8 ≤ 20 ∧ 20 ≤ bits v 7 0 ∧ bits v 7 0 ≤ 60 then
      t.rd (R.TILE_FD_BLK_CFG (sideTile out)) = (s.take (R.TILE_FD_BLK_CFG (sideTile out)) v).rd (R.TILE_FD_BLK_CFG (sideTile out)) ∧
      t.get (R.TILE_FD_LAT_CFG_REFUSE (sideTile out)) = 0 ∧
      s.Touches t [] [R.TILE_FD_BLK_CFG (sideTile out), R.TILE_FD_LAT_CFG (sideTile out)]
    else t = s.latRefuse (sideTile out) Code.PRT_BLANK_RANGE) ∧
  (∀ (s : State) (out : Bool) (n : Fin 32) (v : Word), s.Served → Leaves (.blkForceWrite out n v) s fun t =>
    (∀ p : Fin 1024, p.val / 32 = n.val → v.getLsbD (p.val % 32) = true → t.blanked (portKey out p) = true) ∧
    s.Touches t [] [R.TILE_FD_BLK_FORCE (sideTile out) n]) ∧
  (∀ (s : State) (out : Bool) (p : Fin 1024) (v : Word), s.Served → Leaves (.wearWrite out p v) s fun t =>
    if s.flag (R.TILE_FD_LAT_CFG_ENABLE (sideTile out)) = true then t = s.latRefuse (sideTile out) Code.PRT_WEAR_LOCKED
    else t.rd (R.TILE_FD_WEAR (sideTile out) p) = v ∧ t.get (R.TILE_FD_LAT_CFG_REFUSE (sideTile out)) = 0 ∧
      s.Touches t [] [R.TILE_FD_WEAR (sideTile out) p, R.TILE_FD_LAT_CFG (sideTile out)]) ∧
  (∀ (s : State) (out : Bool) (v : Word), s.Served → Leaves (.latCfgWrite out v) s fun t =>
    let a := R.TILE_FD_LAT_CFG (sideTile out)
    let en := R.TILE_FD_LAT_CFG_ENABLE (sideTile out)
    let moving := ∃ e, e ∈ s.fab.ports ∧ portTile e.1 = sideTile out ∧ (e.2.lstate = 1 ∨ e.2.lstate = 2)
    (s.flag en = true → (bits v 0 0 = 0 ∧ moving ∨ s.rwcHit a v = true) → t = s.latRefuse (sideTile out) Code.PRT_LATCH_CONFIG) ∧
    (s.flag en = true → ¬ (bits v 0 0 = 0 ∧ moving ∨ s.rwcHit a v = true) → t.flag en = (bits v 0 0 == 1) ∧ s.Touches t [] [a]) ∧
    (s.flag en = false → bits v 0 0 = 1 →
      let m := t.get (R.TILE_FD_LAT_CFG_OPEN_MAX (sideTile out))
      t.flag en = decide (1 ≤ m ∧ m ≤ 128 ∧ t.get (R.TILE_FD_LAT_CFG_OPEN_RETRY (sideTile out)) ≤ 3) ∧
      s.Touches t [.recorder, .frames] [a])))

/-- R321 to R323, R328: the waiting open of earliest ingress starts its pulse; 170 µs after it the latch is sensed OPEN (and closed where nothing uses
it), pulsed again, or set FAULT_DARK; 2 µs after a close pulse it is sensed DARK, pulsed again up to three times, or set FAULT_OPEN and reported; an
audit that finds a dark latch not dark closes it again; the emergency close pulses every latch in groups of 256. -/
def Obligations.LatchesOpenCloseAndAreAudited : Prop :=  (∀ (s : State) (out : Bool) (p : Fin 1024) (pre post : List OpenWait) (w : OpenWait), s.Live →
    let k := portKey out p
    let tile := sideTile out
    s.fab.waits.filter (fun x => portTile x.port == tile && !s.guardLatched x.port && ((s.port x.port).lstate == 0 || (s.port x.port).lstate == 4))
      = pre ++ w :: post → (∀ x, x ∈ pre → w.ingress < x.ingress) → (∀ x, x ∈ post → w.ingress ≤ x.ingress) → w.port = k →
    s.flag (R.TILE_FD_LAT_CFG_ENABLE tile) = true → (s.opening tile).length < s.get (R.TILE_FD_LAT_CFG_OPEN_MAX tile) →
    s.inHoldover tile = false → s.fab.noOpen = false → s.flag R.THM_STS_SHUTDOWN = false →
    Leaves (.latchOpenStart out p) s fun t =>
      t.port k = { s.port k with lstate := 1, pulse := some s.now, tries := 0, epo := true } ∧
      t.fab.waits = s.fab.waits.filter (·.port != k) ∧ s.Touches t [.fab] [R.TILE_FD_LAT_CNT tile 0]) ∧
  (∀ (s : State) (out : Bool) (p : Fin 1024) (sense : Fin 3) (start : Nat), s.Live → (s.port (portKey out p)).lstate = 1 →
    (s.port (portKey out p)).pulse = some start → Leaves (.latchOpenSense out p sense) s fun t =>
      let x := s.port (portKey out p)
      let y := t.port (portKey out p)
      t.t = max s.t ((start + 170_000) * 2 ^ 32) ∧ y.sense = sense ∧
      (sense.val = 0 → s.portNeeded 263_168 (portKey out p) = true → y.lstate = 2 ∧ y.pulse = none) ∧
      (sense.val = 0 → s.portNeeded 263_168 (portKey out p) = false → y.lstate = 3 ∧ y.pulse = some t.now) ∧
      (sense.val ≠ 0 → x.tries < s.get (R.TILE_FD_LAT_CFG_OPEN_RETRY (sideTile out)) → y.lstate = 1 ∧ y.tries = x.tries + 1 ∧ y.pulse = some t.now) ∧
      (sense.val ≠ 0 → s.get (R.TILE_FD_LAT_CFG_OPEN_RETRY (sideTile out)) ≤ x.tries → y.lstate = 4 ∧ y.pulse = none) ∧
      (∀ j, j ≠ portKey out p → t.port j = s.port j)) ∧
  (∀ (s : State) (out : Bool) (p : Fin 1024) (sense : Fin 3) (start : Nat), s.Live → (s.port (portKey out p)).lstate = 3 →
    (s.port (portKey out p)).pulse = some start → Leaves (.latchCloseSense out p sense) s fun t =>
      let x := s.port (portKey out p)
      let y := t.port (portKey out p)
      t.t = max s.t ((start + 2_000) * 2 ^ 32) ∧ y.sense = sense ∧
      (sense.val = 2 → y.lstate = 0 ∧ y.pulse = none ∧ y.flt = false) ∧
      (sense.val ≠ 2 → x.tries < 3 → y.lstate = 3 ∧ y.tries = x.tries + 1 ∧ y.pulse = some t.now) ∧
      (sense.val ≠ 2 → 3 ≤ x.tries → y.lstate = 5 ∧ y.flt = true ∧
        t.get ⟨R.GLB_PORT_FLT (portKey out p / 32), portKey out p % 32, portKey out p % 32⟩ = 1) ∧
      (∀ j, j ≠ portKey out p → t.port j = s.port j)) ∧
  (∀ (s : State) (out : Bool) (senses : List (Fin 1024 × Fin 3)), s.Live → (senses.map (·.1)).Nodup → Leaves (.latchAudit out senses) s fun t =>
    (∀ p sense, (p, sense) ∈ senses →
      let x := s.port (portKey out p)
      let y := t.port (portKey out p)
      y.sense = sense ∧
      (x.lstate = 0 → sense.val ≠ 2 → y.lstate = 3 ∧ y.flt = true) ∧ (x.lstate = 5 → y.lstate = 3) ∧
      (¬ (x.lstate = 0 ∧ sense.val ≠ 2) → x.lstate ≠ 5 → y = { x with sense := sense })) ∧
    (∀ p : Fin 1024, p ∉ senses.map (·.1) → t.port (portKey out p) = s.port (portKey out p)) ∧
    (∀ p : Fin 1024, t.port (portKey (!out) p) = s.port (portKey (!out) p))) ∧
  (∀ s : State, s.Live → Leaves .emergencyClose s fun t =>
    t.fab.noOpen = true ∧ t.nv.emergency = true ∧ (∀ w, w ∈ t.fab.waits → 2048 ≤ w.port) ∧
    ∀ k, k < 2048 → (t.port k).lstate = 3 ∧ (t.port k).pulse = some (s.now + 60 + k % 1024 / 256 * 180))

/-- R306, R309, R311 to R313: a host code goes to the shadow of a channel of a direct bank, and is refused elsewhere or where its range differs from the
active one while a code is not 0; a strobe loads every shadow written at least 4 ns before; a bank with a code other than 0 is not enabled, and one
in use is not disabled. -/
def Obligations.FastDriveShadowsStrobesAndBanks : Prop :=  (∀ (s : State) (t : Fin 20) (q : Fin 8192) (v : Word), s.Served → Leaves (.fdCodeWrite t q v) s fun u =>
    let b := q.val / 512
    let x := s.fdch (fdKey t q)
    let code := bits v 9 0
    let range := bits v 16 16
    if s.flag (R.TILE_FD_BCTL_SRC t b) = false then u = s.refuse (R.TILE_FD_BCTL_REFUSE t b) (Ev.fastDriveRefusal t) Code.FD_NOT_DIRECT
    else if s.engineServes t = false then u = s
    else if range ≠ x.rangeUse ∧ ¬ (code = 0 ∧ x.active = 0) then
      u = s.refuse (R.TILE_FD_BCTL_REFUSE t b) (Ev.fastDriveRefusal t) Code.FD_RANGE_REFUSED
    else u.fdch (fdKey t q) = { x with code := code, range := range, pend := some s.now } ∧ u.get (R.TILE_FD_BCTL_REFUSE t b) = 0 ∧
      (∀ k, k ≠ fdKey t q → u.fdch k = s.fdch k) ∧ s.Touches u [.drv] [R.TILE_FD_BCTL t b]) ∧
  (∀ (s : State) (t : Fin 20) (v : Word), s.Served → bits v 0 0 = 1 → Leaves (.fdTileStrobe t v) s fun u =>
    u.t = max s.t ((s.now + 4) * 2 ^ 32) ∧
    (∀ q : Fin 8192, u.fdch (fdKey t q) =
      if s.flag (R.TILE_FD_BCTL_SRC t (q.val / 512)) = true then (s.fdch (fdKey t q)).strobed s.now else s.fdch (fdKey t q)) ∧
    s.Touches u [.time, .drv, .recorder, .frames] [R.TILE_FD_CNT t 0]) ∧
  (∀ (s : State) (t : Fin 20) (b : Fin 16) (v : Word), s.Served → bits v 2 2 = 1 → bits v 0 0 = 1 → s.flag (R.TILE_FD_BCTL_ENABLE t b) = true →
    s.flag (R.TILE_FD_BCTL_SRC t b) = true → s.rwcHit (R.TILE_FD_BCTL t b) v = false → Leaves (.fdBankStrobe t b v) s fun u =>
      u.t = max s.t ((s.now + 4) * 2 ^ 32) ∧
      (∀ q : Fin 8192, u.fdch (fdKey t q) = if q.val / 512 = b.val then (s.fdch (fdKey t q)).strobed s.now else s.fdch (fdKey t q))) ∧
  (∀ (s : State) (t : Fin 20) (b : Fin 16) (v : Word), s.Served → bits v 2 2 = 0 → Leaves (.fdBctlWrite t b v) s fun u =>
    let en := R.TILE_FD_BCTL_ENABLE t b
    let refusal (code : Nat) : State := s.refuse (R.TILE_FD_BCTL_REFUSE t b) (Ev.fastDriveRefusal t) code
    (s.flag en = true → s.rwcHit (R.TILE_FD_BCTL t b) v = true → u = refusal Code.FD_CFG_LOCKED) ∧
    (s.flag en = true → s.rwcHit (R.TILE_FD_BCTL t b) v = false → bits v 0 0 = 0 → s.flag (R.TILE_FD_BCTL_SRC t b) = false →
      s.bankInUse t b = true → u = refusal Code.FD_BANK_IN_USE) ∧
    (s.flag en = true → s.rwcHit (R.TILE_FD_BCTL t b) v = false → bits v 0 0 = 0 → s.flag (R.TILE_FD_BCTL_SRC t b) = true →
      u.flag en = false ∧ ∀ k, k ∈ bankChannels t b → u.fdch k = { s.fdch k with pend := none }) ∧
    (s.flag en = false → bits v 0 0 = 1 → (∃ k, k ∈ bankChannels t b ∧ (s.fdch k).code ≠ 0) →
      u.flag en = false ∧ u.get (R.TILE_FD_BCTL_REFUSE t b) = Code.FD_CONFIG ∧ u.drv = s.drv) ∧
    (s.flag en = false → bits v 0 0 = 1 → (∀ k, k ∈ bankChannels t b → (s.fdch k).code = 0) →
      u.flag en = true ∧ ∀ k, k ∈ bankChannels t b → u.fdch k = { s.fdch k with active := 0, rangeUse := (s.fdch k).range, pend := none }))

/-! ## The Afisk command protocol -/

/-- R405, R406: a request that arrives and passes orders 1 to 4 is refused by the first order from 5 to 10 that fails, with that order's code in its one
reply and no other effect; one that passes them all is counted in `CMD_CNT_n` (n = 4), acts, and gets one reply, ahead of the frames made meanwhile.
A frame of another opcode is no such row. -/
def Obligations.RequestsAreRefusedInOrderOrAnsweredOnce : Prop :=  ∀ (i : Instr) (spec : OpSpec) (f : Frame) (s : State), requestRow i = some (spec, f) → s.Live →
    (f.opcode ≠ spec.opcode → Leaves i s fun t => t = s) ∧
    (∀ r key u, s.admitted spec f = some (r, key, u) →
      (∀ code, u.orders spec r f.params = some code → Leaves i s fun t =>
        t.cmd.outQ = (OutMsg.mk .reply (code != Code.ACCEPTED) r.sess r.uid r.tenant r.reqId r.opcode code r.stamp [] key r.port r.addr r.udp)
          :: u.cmd.outQ ∧
        t.cmd.sessions = (u.setLast r.sess r.uid code).cmd.sessions ∧ t.cir = u.cir ∧ t.sch = u.sch ∧ t.trv = u.trv ∧ t.regs = u.regs) ∧
      (u.orders spec r f.params = none → Leaves i s fun t => ∃ v code params,
        (v, code, params) = spec.body ⟨r, f.params, r.stamp⟩ ((u.count (whole (R.CMD_CNT 4))).await r) ∧ t = v.answered r key code params))

/-- R404: an authenticated SEQ above H is accepted and becomes H; one within the window and not yet accepted is accepted; one already accepted is
answered SES_REPLAY; one at or below H − W, or 0, is dropped. A window holds what has been accepted above H − W. R68, R69, R402, R410: a challenge
leaves the tenant a fresh nonce; SES_OPEN with the valid nonce within 1 s takes the lowest free session under the key derived from it, and else is
answered SES_NONCE or SES_LIMIT; SES_CLOSE frees the session; SES_KEEPALIVE returns the lease; a session whose lease has expired is announced and
closed. -/
def Obligations.SessionsAndTheirReplayWindows : Prop :=
  (∀ (x : Session) (w seq : Nat), 1 ≤ seq →
  (x.high < seq → x.judge w seq = .accept ∧ (x.accept w seq).high = seq) ∧
  (seq ≤ x.high → x.high < seq + w → seq ∉ x.seen → x.judge w seq = .accept ∧ (x.accept w seq).high = x.high) ∧
  (seq ≤ x.high → x.high < seq + w → seq ∈ x.seen → x.judge w seq = .replay) ∧
  (seq + w ≤ x.high → x.judge w seq = .drop) ∧
  (x.judge w seq = .accept → ∀ q, q ∈ (x.accept w seq).seen ↔ q = seq ∨ q ∈ x.seen ∧ max x.high seq < q + w) ∧
  (1 ≤ w → x.judge w seq = .accept → (x.accept w seq).judge w seq = .replay)) ∧
  ( (∀ (s : State) (f : Frame), s.Live → Serves (.sesChallenge f) opChallenge f s fun w r v code params =>
    code = Code.DONE ∧ params = f.params ++ natBe 8 (Config.nonce w.free).toNat ∧
    Tbl.look v.cmd.nonces r.tenant = some ⟨Config.nonce w.free, r.stamp⟩ ∧ v.cmd.sessions = w.cmd.sessions ∧ w.Touches v [.cmd, .recorder] []) ∧
  (∀ (s : State) (f : Frame), s.Live → Serves (.sesOpen f) opOpen f s fun w r v code params =>
    let nD : BitVec 64 := BitVec.ofNat 64 (beNat (f.params.take 8))
    let nH : BitVec 64 := BitVec.ofNat 64 (beNat ((f.params.drop 8).take 8))
    ∀ kt, Tbl.look w.cmd.keys r.tenant = some kt →
      ((∀ n, Tbl.look w.cmd.nonces r.tenant = some n → ¬ (n.nonce = nD ∧ r.stamp ≤ n.issued + 1_000_000_000)) →
        code = Code.SES_NONCE ∧ v = w) ∧
      (∀ n, Tbl.look w.cmd.nonces r.tenant = some n → n.nonce = nD → r.stamp ≤ n.issued + 1_000_000_000 →
        Tbl.look v.cmd.nonces r.tenant = none ∧
        ((∀ i, i < 32 → (Tbl.look w.cmd.sessions i).isSome = true) → code = Code.SES_LIMIT ∧ v.cmd.sessions = w.cmd.sessions) ∧
        (∀ i, i < 32 → Tbl.look w.cmd.sessions i = none → (∀ j, j < i → (Tbl.look w.cmd.sessions j).isSome = true) →
          code = Code.DONE ∧
          params = natBe 1 i ++ natBe 1 (w.get R.CMD_CTL_REPLAY_W) ++ [0, 0] ++ natBe 4 (w.get R.CMD_LEASE_CFG_SES_LEASE) ∧
          (∃ x, Tbl.look v.cmd.sessions i = some x ∧ x.tenant = r.tenant ∧ x.key = sessionKey kt nD nH i r.tenant ∧ x.high = 0 ∧ x.seen = [] ∧
            x.lease = r.stamp / 1_000_000_000 + w.get R.CMD_LEASE_CFG_SES_LEASE ∧ x.outstanding = [] ∧ x.subs = [] ∧ x.uid = w.cmd.nextUid) ∧
          (∀ j, j ≠ i → Tbl.look v.cmd.sessions j = Tbl.look w.cmd.sessions j)))) ∧
  (∀ (s : State) (f : Frame), s.Live → Serves (.sesClose f) opClose f s fun w r v code params =>
    code = Code.DONE ∧ params = [] ∧ Tbl.look v.cmd.sessions r.sess = none ∧
    (∀ j, j ≠ r.sess → Tbl.look v.cmd.sessions j = Tbl.look w.cmd.sessions j) ∧ v.cir = w.cir) ∧
  (∀ (s : State) (f : Frame), s.Live → Serves (.sesKeepalive f) opKeepalive f s fun w r v code params =>
    code = Code.DONE ∧ v = w ∧ ∀ x, Tbl.look w.cmd.sessions r.sess = some x → params = natBe 4 (x.lease % 2 ^ 32)) ∧
  (∀ (s : State) (i : Fin 32) (x : Session), s.Live → s.hubIn = true → Tbl.look s.cmd.sessions i = some x →
    Leaves (.sessionLeaseExpiry i) s fun t =>
      Tbl.look t.cmd.sessions i = none ∧ (∀ j, j ≠ i.val → Tbl.look t.cmd.sessions j = Tbl.look s.cmd.sessions j) ∧
      t.t = max s.t (x.lease * 1_000_000_000 * 2 ^ 32) ∧ t.cir = s.cir ∧
      ∃ m l, t.cmd.outQ = s.cmd.outQ ++ m :: l ∧ m.kind = .notice ∧ m.code = Code.SES_LEASE_EXPIRED ∧ m.sess = i.val))

/-- R401, R420: SET and CLEAR install and remove a tenant's key, clear the stage and close the tenant's sessions; a write that sets both is discarded.
Writes of `CMD_CTL` and `CMD_MBX_CFG` obey R13 with the checks of R420; clearing their ENABLE closes every network session, or discards what the
mailbox had posted and held. R399, R400: the doorbell posts every slot from the old tail to the new one with its instant; frames held for a full
completion ring follow as the host frees slots; a ring full for 10 ms raises EV 37 once. -/
def Obligations.KeysEnablesAndMailboxRings : Prop :=
  ( (∀ (s : State) (v : Word) (set : Bool), s.Served → asks R.CMD_KEY_CTL_SET v = set → asks R.CMD_KEY_CTL_CLEAR v = !set →
    Leaves (if set then .keySet v else .keyClear v) s fun t =>
      let tenant := (s.take R.CMD_KEY_CTL v).get R.CMD_KEY_CTL_TENANT
      Tbl.look t.cmd.keys tenant = (if set then some s.stagedKey else none) ∧
      (∀ j, j ≠ tenant → Tbl.look t.cmd.keys j = Tbl.look s.cmd.keys j) ∧
      (∀ w, w < 8 → t.rd (R.CMD_KEY_STAGE w) = 0) ∧
      (∀ j x, Tbl.look t.cmd.sessions j = some x → x.tenant ≠ tenant) ∧
      (∀ j, (∀ e, e ∈ s.cmd.sessions → e.1 = j → e.2.tenant ≠ tenant) → Tbl.look t.cmd.sessions j = Tbl.look s.cmd.sessions j) ∧
      t.cir = s.cir) ∧
  (∀ (s : State) (v : Word), s.Served → asks R.CMD_KEY_CTL_SET v = true → asks R.CMD_KEY_CTL_CLEAR v = true →
    Leaves (.keySet v) s (fun t => t = s) ∧ Leaves (.keyClear v) s fun t => t = s) ∧
  (∀ (s : State) (v : Word), s.Served → Leaves (.cmdCtlWrite v) s fun t => ∃ u,
    s.CtlWritten u R.CMD_CTL R.CMD_CTL_ENABLE R.CMD_CTL_REFUSE Ev.commandConfigurationRefused Code.SES_CONFIG cmdCheck v ∧
    t = (if s.flag R.CMD_CTL_ENABLE = true ∧ u.flag R.CMD_CTL_ENABLE = false then { u with cmd.sessions := [] } else u)) ∧
  (∀ s : State, cmdCheck s = none ↔ (5 ≤ s.get R.CMD_CTL_REPLAY_W ∧ s.get R.CMD_CTL_REPLAY_W ≤ 10) ∧ s.get R.CMD_CTL_PORT_EN ≠ 0 ∧
    s.get R.CMD_UDP_UDP_PORT ≠ 0 ∧ s.get R.CMD_UDP_UDP_PORT ≠ 319 ∧ s.get R.CMD_UDP_UDP_PORT ≠ 320) ∧
  (∀ (s : State) (v : Word), s.Served → Leaves (.cmdMbxCfgWrite v) s fun t => ∃ u,
    s.CtlWritten u R.CMD_MBX_CFG R.CMD_MBX_CFG_ENABLE R.CMD_MBX_CFG_REFUSE Ev.commandConfigurationRefused Code.SES_CONFIG mbxCheck v ∧
    (¬ (s.mbxOn = true ∧ u.mbxOn = false) → t = u) ∧
    (s.mbxOn = true → u.mbxOn = false → t.cmd.posted = [] ∧ t.cmd.held = [] ∧ t.mbxOn = false ∧
      t.get R.CMD_MBX_REQ_HEAD_INDEX = t.get R.CMD_MBX_REQ_TAIL_INDEX ∧ t.cmd.sessions = u.cmd.sessions ∧
      u.Touches t [.cmd] [R.CMD_MBX_REQ_HEAD]))) ∧
  ( (∀ (s : State) (v : Word), s.Served → s.mbxOn = true → Leaves (.mbxDoorbell v) s fun t =>
    let old := s.get R.CMD_MBX_REQ_TAIL_INDEX
    let n := (bits v 15 0 + 2 ^ 16 - old) % 2 ^ 16
    t.get R.CMD_MBX_REQ_TAIL_INDEX = bits v 15 0 ∧
    t.cmd = { s.cmd with posted := s.cmd.posted ++ (List.range n).map fun i => ((old + i) % 2 ^ 16, s.now) } ∧
    s.Touches t [.cmd] [R.CMD_MBX_REQ_TAIL]) ∧
  (∀ (s : State) (v : Word), s.Served → s.mbxOn = true → Leaves (.mbxCplHeadWrite v) s fun t =>
    t.get R.CMD_MBX_CPL_HEAD_INDEX = bits v 15 0 ∧ (t.cmd.held = [] ∨ t.cplFull = true) ∧
    (∃ l, s.cmd.held = l ++ t.cmd.held ∧ (t.cmd.sent.drop s.cmd.sent.length).map (·.msg) = l) ∧ t.cmd.sent.take s.cmd.sent.length = s.cmd.sent) ∧
  (∀ (s : State) (n : Nat), s.Live → s.cmd.fullSince = some n → s.cmd.stallReported = false → Leaves .mbxStall s fun t =>
    t.cmd.stallReported = true ∧ t.t = max s.t ((n + 10_000_000) * 2 ^ 32) ∧ s.Touches t [.cmd, .time, .recorder, .frames] []) ∧
  (∀ s : State, s.Live → s.cmd.stallReported = true → Leaves .mbxStall s fun t => t = s))

/-- R427: a function-level reset, hot reset or loss of the PCIe link clears `CMD_MBX_CFG`.ENABLE with the effect of R420 (unread slots and held frames
are discarded) and raises EV 22; nothing else is reset, sessions run on, and a doorbell posts nothing until the mailbox is enabled again. -/
def Obligations.PcieResetStopsTheMailboxOnly : Prop := ∀ s : State, s.Live → Leaves .pcieReset s fun t =>
  t.mbxOn = false ∧ (s.mbxOn = true → t.cmd.posted = [] ∧ t.cmd.held = []) ∧ t.cmd.sessions = s.cmd.sessions ∧ t.cmd.keys = s.cmd.keys ∧
  (∃ u : State, t = u.ev 22 ∧ u.evt = s.evt) ∧ s.Touches t [.cmd, .recorder, .frames] [R.CMD_MBX_CFG, R.CMD_MBX_REQ_HEAD] ∧
  ∀ v, (doMbxDoorbell v t).cmd.posted = t.cmd.posted

/-! ## The photonic plant -/

/-- R22: the cell of a line at a stage is the line with its stage bit removed, and the line of the cell whose stage bit is 0 is its upper line. R20,
R21: a path enters stage 0 on the line of its input; at stage s it enters its cell on the side that bit b(s) of its line tells, leaves on the side
that bit s of the route word tells, and that bit takes the place of bit b(s); the cell is in CROSS when the sides differ. R23: whatever bits 9:0 of
its route word and its input, a path leaves the last stage on the line that bits 19:10 name. R77: the line after stage 9 has bit 0 from route bit 0
and bit 10 − s from route bit s, s = 1 to 9; every middle line gives exactly one path from any input to any output. -/
def Obligations.RouteWordsFixPaths : Prop :=
  (∀ s L : Nat, s < 20 → L < 1024 →
  let b := stageBit s
  cellOf s L = ((L >>> (b + 1)) <<< b) ||| (L &&& (2 ^ b - 1)) ∧
  (∀ k, (cellOf s L).testBit k = if k < b then L.testBit k else L.testBit (k + 1)) ∧
  (∀ c, c < 512 → (cellOf s L = c ∧ L.testBit b = false ↔ L = lineOf s c false) ∧ (cellOf s L = c ∧ L.testBit b = true ↔ L = lineOf s c true))) ∧
  (∀ i route s : Nat, i < 1024 → s < 20 →
  lineAfter i route 0 = i ∧
  ∃ h, (path i route)[s]? = some h ∧
    let L := lineAfter i route s
    let b := stageBit s
    h.pos = s * 512 + cellOf s L ∧ h.enter = L.testBit b ∧ h.leave = route.testBit s ∧
    (∀ k, (lineAfter i route (s + 1)).testBit k = if k = b then route.testBit s else L.testBit k) ∧
    (h.cross = true ↔ h.enter ≠ h.leave)) ∧
  (∀ i j low : Nat, i < 1024 → j < 1024 → low < 1024 →
  lineAfter i (j * 1024 + low) 20 = j) ∧
  (∀ i j : Nat, i < 1024 → j < 1024 →
  (∀ route, route < 2 ^ 20 →
    (lineAfter i route 10).testBit 0 = route.testBit 0 ∧
    ∀ s, 1 ≤ s → s ≤ 9 → (lineAfter i route 10).testBit (10 - s) = route.testBit s) ∧
  ∀ M, M < 1024 → ∃ route, (route < 2 ^ 20 ∧ lineAfter i route 10 = M ∧ lineAfter i route 20 = j) ∧
    ∀ r, r < 2 ^ 20 → lineAfter i r 10 = M → lineAfter i r 20 = j → r = route)

/-! ## Circuits and tenants -/

/-- R57, R60, R92, R411: a request that passes the checks of R92 makes its context PENDING with the attributes asked for, queues it for placement,
starts the opens that its ports need, and is answered ACCEPTED with CTX and E_PLAN; one that fails is refused with the code and changes nothing.
CIR_ENABLE asks again for a DARK or FAILED circuit as it stands. -/
def Obligations.CircuitRequestsAreAcceptedOrRefused : Prop :=  (∀ (s : State) (f : Frame), s.Live → Serves (.cirRequest f) opCirRequest f s fun w r v code params =>
    let p := f.params
    let flags := u p 5 1
    let a : Ask := ⟨u p 0 2, u p 2 2, flags.testBit 2, u p 4 1, flags.testBit 0, flags.testBit 1, u p 6 1,
      if flags.testBit 3 then some (u p 10 6) else none, expiry (u p 16 4) r.stamp⟩
    let i := a.output * 256 + if a.scheduled then a.slot else 0
    (r.tenant = 0 ∨ a.tenant = r.tenant) →
      (∀ c, w.judge a 262_144 r.stamp = some c → code = c ∧ v = w ∧ params = []) ∧
      (w.judge a 262_144 r.stamp = none →
        let x := v.ctx i
        code = Code.ACCEPTED ∧ params = natBe 4 i ++ natBe 8 (x.eplan % 2 ^ 48) ∧ x.state = Cs.pending ∧ x.input = a.input ∧
        x.scheduled = a.scheduled ∧ x.pinned = a.pinned ∧ x.mayMove = a.mayMove ∧ x.tenant = a.tenant ∧ x.lease = a.lease ∧ x.req = some r ∧
        x.ses = r.sess ∧ x.ingress = r.stamp % 2 ^ 48 ∧ i ∈ v.cir.queue ∧
        ∀ k, k = portKey false a.input ∨ k = portKey true a.output →
          (w.port k).lstate = 0 ∨ (w.port k).lstate = 1 ∨ (w.port k).lstate = 3 ∨ (w.port k).lstate = 4 → (v.port k).epo = true)) ∧
  (∀ (s : State) (f : Frame), s.Live → Serves (.cirEnable f) opCirEnable f s fun w r v code _ =>
    let i := u f.params 0 4
    let c := w.ctx i
    let a : Ask := ⟨c.input, ctxOut i, c.scheduled, ctxSlot i, c.pinned, false, c.tenant, none, c.lease⟩
    (w.known i = false → code = Code.CIR_UNKNOWN ∧ v = w) ∧
    (w.known i = true → (r.tenant = 0 ∨ r.tenant = c.tenant) →
      (c.state ≠ Cs.dark → c.state ≠ Cs.failed → code = Code.CIR_BAD_STATE ∧ v = w) ∧
      ((c.state = Cs.dark ∨ c.state = Cs.failed) → ∀ n, w.judge a i r.stamp = some n → code = n ∧ v = w) ∧
      ((c.state = Cs.dark ∨ c.state = Cs.failed) → w.judge a i r.stamp = none → (c.scheduled = true ∨ ctxSlot i = 0) →
        code = Code.ACCEPTED ∧ (v.ctx i).state = Cs.pending ∧ (v.ctx i).input = c.input ∧ (v.ctx i).tenant = c.tenant ∧ i ∈ v.cir.queue)))

/-- R59, R61, R411: a release or DISABLE that no transition or stage holds up acts at once: the circuit reads IDLE, or DARK, a lit one leaves its lines
reserved until the next persistent epoch, and the requester gets its final completion DONE. One that does not name a circuit of the tenant, or comes
in bivouac, changes nothing. -/
def Obligations.ReleaseAndDisableEndCircuits : Prop := ∀ (s : State) (f : Frame) (dis : Bool), s.Live →
  Serves (if dis then .cirDisable f else .cirRelease f) (if dis then opCirDisable else opCirRelease) f s fun w r v code params =>
    let i := u f.params 0 4
    let c := w.ctx i
    params = [] ∧
    (w.known i = false → code = Code.CIR_UNKNOWN ∧ v = w) ∧
    (w.known i = true → r.tenant ≠ 0 → r.tenant ≠ c.tenant → w.owner false c.input ≠ r.tenant → w.owner true (ctxOut i) ≠ r.tenant →
      code = Code.CIR_NOT_OWNER ∧ v = w) ∧
    (w.known i = true → w.mayEnd i r.tenant = true → w.bivouac = true → code = Code.TRV_BIVOUAC ∧ v = w) ∧
    (w.known i = true → w.mayEnd i r.tenant = true → w.bivouac = false → w.committing i = none → w.stageOf i = none → c.state ≠ Cs.moving →
      code = Code.ACCEPTED ∧ (v.ctx i).state = (if dis then Cs.dark else Cs.idle) ∧
      (∀ route, c.lit = true → c.route = some route →
        v.cir.leaves = w.cir.leaves ++ [⟨i, c.input, route, c.scheduled, ctxSlot i, persFrom (w.now + 5_000)⟩]) ∧
      (w.sessionLive r = true → ∃ m, m ∈ v.cmd.outQ ∧ m.kind = .completion ∧ m.final = true ∧ m.reqId = r.reqId ∧ m.code = Code.DONE))

/-- R70, R72, R73: CIR_ATTR pins or unpins a circuit that no traverse names; CIR_LEASE replaces the expiry of the tenant's own circuit; CIR_READ returns
sixteen words of each context, those of a circuit of another tenant at most in part. R66, R69 to R71, R540: a circuit lease that expires releases
its circuit, and a grant lease revokes its grant, at the start of its TAI second; in bivouac, or with the hub out of service, the release is put off
until the cause has ended. -/
def Obligations.AttributesLeasesAndExpiries : Prop :=
  ( (∀ (s : State) (f : Frame), s.Live → Serves (.cirAttr f) opCirAttr f s fun w r v code params =>
    let i := u f.params 0 4
    let pin : Bool := u f.params 4 1 == 1
    (w.known i = false → code = Code.CIR_UNKNOWN ∧ v = w) ∧
    (w.known i = true → r.tenant ≠ 0 → r.tenant ≠ (w.ctx i).tenant → code = Code.CIR_NOT_OWNER ∧ v = w) ∧
    (w.known i = true → (r.tenant = 0 ∨ r.tenant = (w.ctx i).tenant) →
      if pin = true ∧ (w.ctx i).pinned = false ∧ ((w.ctx i).state = Cs.moving ∨ w.inJournal i = true) then code = Code.CIR_BAD_STATE ∧ v = w
      else code = Code.DONE ∧ params = [] ∧
        v.ctx i = { w.ctx i with pinned := pin, reqId := r.reqId, gen := ((w.ctx i).gen + 1) % 65_536 } ∧
        (∀ j, j ≠ i → v.ctx j = w.ctx j) ∧ w.Touches v [.cir] [])) ∧
  (∀ (s : State) (f : Frame), s.Live → Serves (.cirLease f) opCirLease f s fun w r v code params =>
    let i := u f.params 0 4
    let dur := u f.params 4 4
    let x := if dur = 0 then 0 else r.stamp / 1_000_000_000 + dur
    (w.known i = true → r.tenant ≠ (w.ctx i).tenant → code = Code.CIR_NOT_OWNER ∧ v = w) ∧
    (w.known i = true → r.tenant = (w.ctx i).tenant →
      if (w.ctx i).lease ≠ 0 ∧ (w.ctx i).lease ≤ r.stamp / 1_000_000_000 then code = Code.CIR_LEASE_EXPIRED ∧ v = w
      else code = Code.DONE ∧ params = natBe 4 x ∧
        v.ctx i = { w.ctx i with lease := x, reqId := r.reqId, gen := ((w.ctx i).gen + 1) % 65_536 } ∧
        (∀ j, j ≠ i → v.ctx j = w.ctx j) ∧ w.Touches v [.cir] [])) ∧
  (∀ (s : State) (f : Frame), s.Live → Serves (.cirRead f) opCirRead f s fun w r v code params =>
    let n := u f.params 4 2
    code = Code.DONE ∧ v = w ∧ params.length = 64 * n ∧
    ∀ k, k < n →
      let i := u f.params 0 4 + k
      let c := w.ctx i
      (r.tenant = 0 ∨ c.tenant = r.tenant → c.state ≠ Cs.idle → (params.drop (64 * k)).take 64 = (ctxWords i c).flatMap (natBe 4)) ∧
      (c.state ≠ Cs.idle → r.tenant ≠ 0 → c.tenant ≠ r.tenant → w.right false c.input r.tenant r.stamp = none →
        w.right true (ctxOut i) r.tenant r.stamp = none → (params.drop (64 * k)).take 64 = List.replicate 64 0))) ∧
  ( (∀ (s : State) (i : Fin 262144), s.Live → (s.ctx i).state ≠ Cs.idle → (s.ctx i).lease ≠ 0 → Leaves (.circuitLeaseExpiry i) s fun t =>
    t.t = max s.t ((s.ctx i).lease * 1_000_000_000 * 2 ^ 32) ∧
    ((s.bivouac = true ∨ s.hubIn = false) → (∃ d, d ∈ t.cir.deferred ∧ d.grant = false ∧ d.index = i.val) ∧ t.cir.ctxs = s.cir.ctxs) ∧
    (s.bivouac = false → s.hubIn = true → s.committing i = none → s.stageOf i = none → (s.ctx i).state ≠ Cs.moving →
      (t.ctx i).state = Cs.idle ∧ t.cir.deferred = s.cir.deferred)) ∧
  (∀ (s : State) (n : Fin 512) (g : Grant), s.Live → Tbl.look s.cir.grants n = some g → g.lease ≠ 0 → Leaves (.grantLeaseExpiry n) s fun t =>
    t.t = max s.t (g.lease * 1_000_000_000 * 2 ^ 32) ∧
    ((s.bivouac = true ∨ s.hubIn = false) → (∃ d, d ∈ t.cir.deferred ∧ d.grant = true ∧ d.index = n.val) ∧ t.cir.grants = s.cir.grants) ∧
    (s.bivouac = false → s.hubIn = true → s.grantUsers n = [] → Tbl.look t.cir.grants n = none ∧ t.cir.ctxs = s.cir.ctxs)) ∧
  (∀ (s : State) (d : Deferred), s.Live → s.hubIn = true → s.bivouac = false → s.cir.deferred = [d] → d.grant = false →
    (s.ctx d.index).state ≠ Cs.idle → (s.ctx d.index).state ≠ Cs.moving → s.committing d.index = none → s.stageOf d.index = none →
    Leaves .deferredRelease s fun t =>
      t.cir.deferred = [] ∧ t.cir.deferUntil = none ∧ (t.ctx d.index).state = Cs.idle ∧
      t.t = max s.t ((persFrom (max (s.cir.deferUntil.getD s.now) s.now + 5_000) - 5_000) * 2 ^ 32)))

/-- R63, R66, R67, R70: only a port's owner creates a grant, in the lowest free of 512 entries; its maker revokes it, which frees the entry and, with no
circuit left that uses it, completes; the port's owner extends it. R65, R67: each of the four fields of an ownership write is judged on its own: it
takes the new owner unless a circuit of another tenant uses the port; `CMD_OWN_REFUSE` names the fields refused. -/
def Obligations.GrantsAndOwnership : Prop :=
  ( (∀ (s : State) (f : Frame), s.Live → Serves (.grantCreate f) opGrantCreate f s fun w r v code params =>
    let out : Bool := u f.params 0 1 == 1
    let port := u f.params 2 2
    let dur := u f.params 4 4
    let x := if dur = 0 then 0 else r.stamp / 1_000_000_000 + dur
    (w.owner out port ≠ r.tenant → code = Code.CIR_NOT_OWNER ∧ v = w) ∧
    (w.owner out port = r.tenant → (∀ n, n < 512 → (Tbl.look w.cir.grants n).isSome = true) → code = Code.CIR_GRANT_FULL ∧ v = w) ∧
    (∀ n, w.owner out port = r.tenant → n < 512 → Tbl.look w.cir.grants n = none → (∀ j, j < n → (Tbl.look w.cir.grants j).isSome = true) →
      code = Code.DONE ∧ params = natBe 2 n ++ [0, 0] ++ natBe 4 x ∧
      Tbl.look v.cir.grants n = some ⟨out, port, u f.params 1 1, r.tenant, x⟩ ∧
      (∀ j, j ≠ n → Tbl.look v.cir.grants j = Tbl.look w.cir.grants j) ∧ w.Touches v [.cir] [])) ∧
  (∀ (s : State) (f : Frame), s.Live → Serves (.grantRevoke f) opGrantRevoke f s fun w r v code params =>
    let n := u f.params 0 2
    (Tbl.look w.cir.grants n = none → code = Code.CIR_UNKNOWN ∧ v = w) ∧
    (∀ g, Tbl.look w.cir.grants n = some g → g.owner ≠ r.tenant → code = Code.CIR_NOT_OWNER ∧ v = w) ∧
    (∀ g, Tbl.look w.cir.grants n = some g → g.owner = r.tenant → code = Code.ACCEPTED ∧ params = [] ∧
      (w.bivouac = true → ⟨true, n, Code.CIR_GRANT_REVOKED⟩ ∈ v.cir.deferred ∧ v.cir.grants = w.cir.grants) ∧
      (w.bivouac = false → w.grantUsers n = [] → Tbl.look v.cir.grants n = none ∧
        (∀ j, j ≠ n → Tbl.look v.cir.grants j = Tbl.look w.cir.grants j) ∧ v.cir.ctxs = w.cir.ctxs))) ∧
  (∀ (s : State) (f : Frame), s.Live → Serves (.grantLease f) opGrantLease f s fun w r v code params =>
    let n := u f.params 0 2
    let dur := u f.params 4 4
    let x := if dur = 0 then 0 else r.stamp / 1_000_000_000 + dur
    ∀ g, Tbl.look w.cir.grants n = some g →
      (w.owner g.out g.port ≠ r.tenant → code = Code.CIR_NOT_OWNER ∧ v = w) ∧
      (w.owner g.out g.port = r.tenant →
        if g.lease ≠ 0 ∧ g.lease ≤ r.stamp / 1_000_000_000 then code = Code.CIR_LEASE_EXPIRED ∧ v = w
        else code = Code.DONE ∧ params = natBe 4 x ∧ Tbl.look v.cir.grants n = some { g with lease := x } ∧
          (∀ j, j ≠ n → Tbl.look v.cir.grants j = Tbl.look w.cir.grants j) ∧ w.Touches v [.cir] []))) ∧
  (∀ (s : State) (out : Bool) (n : Fin 256) (v : Word), s.Served →
  Leaves (.ownerWrite out n v) s fun t =>
    let new (k : Nat) : Nat := bits v (k * 8 + 5) (k * 8)
    let inUse (k : Nat) : Prop := s.owner out (4 * n + k) ≠ new k ∧ ∃ e, e ∈ s.cir.ctxs ∧ e.2.state ≠ Cs.idle ∧ e.2.tenant ≠ new k ∧
      (if out = true then ctxOut e.1 = 4 * n + k else e.2.input = 4 * n + k)
    (∀ k, k < 4 → (inUse k → t.owner out (4 * n + k) = s.owner out (4 * n + k)) ∧ (¬ inUse k → t.owner out (4 * n + k) = new k)) ∧
    ((∀ k, k < 4 → ¬ inUse k) → t.rd R.CMD_OWN_REFUSE = 0) ∧
    (∀ k, k < 4 → ((t.rd R.CMD_OWN_REFUSE).getLsbD (27 + k) = true ↔ inUse k)) ∧
    (∀ m, m < 256 → m ≠ n.val → ∀ o : Bool, (∀ k, k < 4 → t.owner o (4 * m + k) = s.owner o (4 * m + k))))

/-! ## Placement -/

/-- R57, R93, R98: the first queued request is placed on the route that incremental placement finds, and reads PLACED; or it is refused with the
filter's code and its context reads IDLE; or a rearrangement run begins for it. A PLACED circuit whose latches are open, and which is not the new
circuit of an earlier stage, becomes ARMED. R95, R102, R110: a run that has spent SEARCH_BUDGET ends in PLC_SEARCH_LIMIT; one whose request can by
now be placed without a move, on lines that nothing has reserved since, places it; a repair for which no layout is found leaves PLC_NO_REPAIR as the
reason of its circuits. Whether the budget is spent is a free value. A failed repair is tried again while its cell is fenced. R78: two paths whose
lines differ at every boundary, inputs and outputs included, never disagree on the state of a cell they share. -/
def Obligations.PlacementChoosesFreePaths : Prop :=
  ( (∀ (s : State) (i : Nat) (rest : List Nat), s.Live → s.ctrlUp = true → s.cir.queue = i :: rest → Leaves .circuitPlacement s fun t =>
    let u := { s with cir.queue := rest }
    let c := s.ctx i
    match u.place u.cycActive u.resvs (u.moveScope c.scheduled (ctxSlot i)) (u.item i) with
    | .ok m _ _ => t.cir.queue = rest ∧ (t.ctx i).state = Cs.placed ∧ (t.ctx i).placed = some (routeOf (ctxOut i) m) ∧
        (t.ctx i).input = c.input ∧ (t.ctx i).tenant = c.tenant ∧ t.fab = s.fab
    | .refuse code => (t.ctx i).state = Cs.idle ∧ t.get ⟨R.PLC_LAST, 31, 16⟩ = code % 2 ^ 16 ∧
        (∀ r, c.req = some r → s.sessionLive r = true → ∃ m, m ∈ t.cmd.outQ ∧ m.kind = .completion ∧ m.final = true ∧ m.reqId = r.reqId ∧ m.code = code)
    | .search _ => t.cir.queue = rest ∧ t.ctx i = c ∧
        (s.cir.run = none → ∃ run, t.cir.run = some run ∧ run.goal = .request i ∧ run.runs = 0 ∧ run.snap = u.resvs) ∧
        (s.cir.run ≠ none → t.cir.run = s.cir.run ∧ t.cir.waitRuns = s.cir.waitRuns ++ [.request i])) ∧
  (∀ (s : State) (i : Fin 262144), s.Live → (s.ctx i).state = Cs.placed → s.isOpen (portKey false (s.ctx i).input) = true →
    s.isOpen (portKey true (ctxOut i)) = true →
    (∀ tr, tr ∈ s.trv.journal → ∀ g, g ∈ tr.stages → ∀ m, m ∈ g.moves → m.ctx = i.val → m.isNew = true → tr.stages.length ≤ tr.done + 1) →
    Leaves (.circuitArm i) s fun t =>
      t.ctx i = { s.ctx i with state := Cs.armed, gen := ((s.ctx i).gen + 1) % 65_536 } ∧ (∀ j, j ≠ i.val → t.ctx j = s.ctx j) ∧ s.Touches t [.cir] [])) ∧
  ( (∀ (s : State) (run : Run) (i m score ncyc : Nat), s.Live → s.ctrlUp = true → s.cir.run = some run → run.goal = .request i →
    (s.ctx i).state = Cs.pending → s.cir.waitRuns = [] →
    let u := s.draw
    u.place u.cycActive run.snap run.scope (u.item i) = .ok m score ncyc → u.conflicts run [(u.item i, m)] = false →
    Leaves .rearrangeRunEnd s fun t =>
      t.cir.run = none ∧
      (Config.free 2 s.free % 2 = 1 → (t.ctx i).state = Cs.idle ∧ t.get ⟨R.PLC_LAST, 31, 16⟩ = Code.PLC_SEARCH_LIMIT) ∧
      (Config.free 2 s.free % 2 ≠ 1 → (t.ctx i).state = Cs.placed ∧ (t.ctx i).placed = some (routeOf (ctxOut i) m))) ∧
  (∀ (s : State) (run : Run) (entry : Nat) (slot : Option Nat), s.Live → s.ctrlUp = true → s.cir.run = some run →
    run.goal = .repair entry slot → run.scope ≠ [] → s.cir.waitRuns = [] →
    let u := s.draw
    u.joint u.cycActive run.snap (run.scope.map u.item) false (fun l => l.length) = none →
    Leaves .rearrangeRunEnd s fun t =>
      t.cir.run = none ∧ (entry, slot) ∈ t.cir.noRepair ∧ ∀ i, i ∈ run.scope → (t.ctx i).reason = Code.PLC_NO_REPAIR) ∧
  (∀ (s : State) (n : Nat), s.Live → s.ctrlUp = true → s.flag R.PLC_CTL_ENABLE = true → s.pol R.PLC_CTL_REPAIR_EN = 1 → s.cir.retryAt = some n →
    Leaves .repairRetry s fun t =>
      t.cir.retryAt = none ∧ t.cir.noRepair = [] ∧ t.t = max s.t (n * 2 ^ 32) ∧
      ∀ x, x ∈ s.cir.noRepair → s.fenced (x.1 % 10_240) = true →
        (∃ run, t.cir.run = some run ∧ run.goal = .repair x.1 x.2) ∨ .repair x.1 x.2 ∈ t.cir.waitRuns)) ∧
  (∀ i i' r r' s : Nat, i < 1024 → i' < 1024 → s < 20 →
  (∀ n, n ≤ 20 → lineAfter i r n ≠ lineAfter i' r' n) →
  ∀ h h', (path i r)[s]? = some h → (path i' r')[s]? = some h' → h.pos = h'.pos → h.cross = h'.cross)

/-- R84, R97, R112, R113: while `PLC_CTL`.ENABLE reads 1 a write that would change a policy field is discarded with PLC_POLICY_LOCKED; setting ENABLE
puts the policy in force, or refuses it where a limit is out of range; every second the cell-loss entries of lit cells take what was measured, the
waveguide share being a free value. R143, R163, R166, R168 to R170, R179, R195: writes of `SCHD_CTL` and `EPO_CTL` follow the ENABLE rules under
their checks; `EPO_GB` and `EPO_BELAY_CFG` take a value in range and refuse another; a read of word 0 of `EPO_NEXT`, `EPO_XLAST` or `SCHD_CYC_START`
returns it and fixes the words that go with it. R228, R229, R538: `TRV_CTL` and `TRV_SPEC_CFG` discard a change while their ENABLE reads 1 and check
what setting it puts in force; a read of `TRV_CUR` word 0 fixes its four words: those of the head of the journal, or of the traverse that ended
last. -/
def Obligations.PolicyEpochAndTraverseRegisters : Prop :=
  ( (∀ (s : State) (v : Word), s.Served → Leaves (.plcCtlWrite v) s fun t =>
    let u := (s.take R.PLC_CTL v).put R.PLC_CTL_REFUSE 0
    let locked : Bool := s.flag R.PLC_CTL_ENABLE && s.rwcHit R.PLC_CTL v
    let ok := u.get R.PLC_LIM0_CYC_MAX ≤ 40 ∧ u.get R.PLC_LIM0_CYC_REGION_MAX ≤ 32 ∧ 100 ≤ u.get R.PLC_LIM0_LOSS_MAX ∧
      u.get R.PLC_LIM0_LOSS_MAX ≤ 400 ∧ u.get R.PLC_LIM1_HOT_SOFT < u.get R.PLC_LIM1_HOT_LIMIT ∧ 64 ≤ u.get R.PLC_LIM2_SEARCH_BUDGET ∧
      u.get R.PLC_LIM2_MOVE_MAX ≤ 64
    (locked = true → t = s.put R.PLC_CTL_REFUSE Code.PLC_POLICY_LOCKED) ∧
    (locked = false → (s.flag R.PLC_CTL_ENABLE = true ∨ u.flag R.PLC_CTL_ENABLE = false) → t = u) ∧
    (locked = false → s.flag R.PLC_CTL_ENABLE = false → u.flag R.PLC_CTL_ENABLE = true → ¬ ok →
      t = (u.put R.PLC_CTL_ENABLE 0).refuse R.PLC_CTL_REFUSE Ev.placementPolicyRefused Code.PLC_POLICY_INVALID) ∧
    (locked = false → s.flag R.PLC_CTL_ENABLE = false → u.flag R.PLC_CTL_ENABLE = true → ok →
      t.flag R.PLC_CTL_ENABLE = true ∧ (∀ a, a ∈ polRegs → Tbl.look t.cir.policy a = some (u.rd a)) ∧
      s.Touches t [.cir] [R.PLC_CTL])) ∧
  (∀ (s : State) (k : Fin 6) (v : Word), s.Served → Leaves (.plcPolicyWrite k v) s fun t =>
    let a := [R.PLC_W0, R.PLC_W1, R.PLC_LIM0, R.PLC_LIM1, R.PLC_LIM2, R.PLC_LOSS_TGT].getD k R.PLC_W0
    if s.flag R.PLC_CTL_ENABLE = true ∧ s.rwcHit a v = true then t = s.put R.PLC_CTL_REFUSE Code.PLC_POLICY_LOCKED
    else t.rd a = (s.take a v).rd a ∧ t.get R.PLC_CTL_REFUSE = 0 ∧ t.flag R.PLC_CTL_ENABLE = s.flag R.PLC_CTL_ENABLE ∧
      s.Touches t [] [a, R.PLC_CTL]) ∧
  (∀ (s : State) (parts : List (Fin 20480 × Nat)), s.Live → s.ctrlUp = true → (parts.map (·.1)).Nodup →
    Leaves (.cellLossRefresh parts) s fun t =>
      let word (u : State) (n : Fin 20480) : Nat := u.get ⟨R.PLC_CELL_LOSS (n.val / 2), 16 * (n.val % 2) + 15, 16 * (n.val % 2)⟩
      let lit (n : Fin 20480) : Prop := ∃ m, m < 4 ∧ s.carries (n * 4 + m) = true ∧ (s.elem (n * 4 + m)).prov = none
      (∀ n x, (n, x) ∈ parts → lit n → word t n = (x + Config.free 3 n) % 65_536) ∧
      (∀ n, ((∀ x, (n, x) ∉ parts) ∨ ¬ lit n) → word t n = word s n) ∧
      s.Touches t [] ((List.range 10_240).map R.PLC_CELL_LOSS))) ∧
  ( (∀ (s : State) (v : Word), s.Served → Leaves (.schdCtlWrite v) s fun t =>
    let check (x : State) : Option Nat :=
      if x.get R.SCHD_CTL_CYC_TOTAL_MAX ≤ 0x2000 ∧ x.flag R.MEM_STS_LIB_OK = true then none else some Code.SCH_CONFIG
    if s.flag R.SCHD_CTL_ENABLE = true ∧ s.rwcHit R.SCHD_CTL v = true then
      t = s.refuse R.SCHD_CTL_REFUSE Ev.epochConfigurationRefused Code.SCH_CONFIG
    else (s.put R.SCHD_CTL_REFUSE 0).CtlWritten t R.SCHD_CTL R.SCHD_CTL_ENABLE R.SCHD_CTL_REFUSE Ev.epochConfigurationRefused Code.SCH_CONFIG check v) ∧
  (∀ (s : State) (v : Word), s.Served → Leaves (.epoCtlWrite v) s fun t =>
    let check (x : State) : Option Nat :=
      if ((List.range 20).all fun n => x.flag (R.TILE_LP_CTL_ENABLE n)) = true ∧ x.now ≤ x.svc.lastMark + 10_000 ∧ x.svc.holdover = [] ∧
          1_000 ≤ x.get R.EPO_GB_GB_SET ∧ x.get R.EPO_GB_GB_SET ≤ 5_000 then none else some Code.EPO_NOT_READY
    let clears : Prop := s.flag R.EPO_CTL_ENABLE = true ∧ bits v 0 0 = 0 ∧ (s.sch.active.isSome = true ∨ s.commitPending = true)
    (clears → t = s.refuse R.EPO_CTL_REFUSE Ev.epochConfigurationRefused Code.SCH_ENTRY_BUSY) ∧
    (¬ clears → (s.put R.EPO_CTL_REFUSE 0).CtlWritten t R.EPO_CTL R.EPO_CTL_ENABLE R.EPO_CTL_REFUSE Ev.epochConfigurationRefused Code.EPO_NOT_READY check v)) ∧
  (∀ (s : State) (v : Word), s.Served → Leaves (.epoGbWrite v) s fun t =>
    if 1_000 ≤ bits v 12 0 ∧ bits v 12 0 ≤ 5_000 then
      t.get R.EPO_GB_GB_SET = bits v 12 0 ∧ t.get R.EPO_GB_GB_USE = s.get R.EPO_GB_GB_USE ∧ t.get R.EPO_CTL_REFUSE = 0 ∧
      t.sch = { s.sch with gbWait := some s.now } ∧ s.Touches t [.sch] [R.EPO_GB, R.EPO_CTL]
    else t = s.refuse R.EPO_CTL_REFUSE Ev.epochConfigurationRefused Code.SCH_GB_RANGE) ∧
  (∀ (s : State) (v : Word), s.Served → Leaves (.epoBelayCfgWrite v) s fun t =>
    if 100 ≤ bits v 9 0 ∧ bits v 9 0 ≤ 800 ∧ 18 ≤ bits v 31 26 then
      t.get R.EPO_BELAY_CFG_BELAY_US = bits v 9 0 ∧ t.get R.EPO_BELAY_CFG_BELAY_MAX = bits v 31 26 ∧ t.get R.EPO_CTL_REFUSE = 0 ∧
      s.Touches t [] [R.EPO_BELAY_CFG, R.EPO_CTL]
    else t = s.refuse R.EPO_CTL_REFUSE Ev.epochConfigurationRefused Code.EPO_BELAY_RANGE) ∧
  (∀ (s : State), s.Served → Leaves .epoNextSnapshot s fun t =>
    t.bus = t.rd R.EPO_NEXT_0 ∧ s.Touches t [.bus] [R.EPO_NEXT_0, R.EPO_NEXT_1] ∧
    (s.nextEpo = none → t.bus = 0 ∧ t.rd R.EPO_NEXT_1 = 0) ∧
    (∀ e sl pe bo, s.nextEpo = some (e, sl, pe, bo) →
      t.flag R.EPO_NEXT_0_SLOT = sl ∧ t.flag R.EPO_NEXT_0_PERS = pe ∧ t.flag R.EPO_NEXT_0_BOUND = bo ∧
      t.get R.EPO_NEXT_0_T * 2 ^ 32 + t.get R.EPO_NEXT_1_T = e % 2 ^ 48)) ∧
  (∀ (s : State), s.Served → Leaves .epoXlastSnapshot s fun t =>
    t.bus = BitVec.ofNat 32 s.fab.xlast.1 ∧ t.rd R.EPO_XLAST_0 = t.bus ∧ t.rd R.EPO_XLAST_1 = BitVec.ofNat 32 s.fab.xlast.2.1 ∧
    t.rd R.EPO_XLAST_2 = BitVec.ofNat 32 s.fab.xlast.2.2 ∧ s.Touches t [.bus] [R.EPO_XLAST_0, R.EPO_XLAST_1, R.EPO_XLAST_2]) ∧
  (∀ (s : State), s.Served → Leaves .schdCycStartSnapshot s fun t =>
    t.bus = t.rd R.SCHD_CYC_START_HI ∧ s.Touches t [.bus] [R.SCHD_CYC_START_HI, R.SCHD_CYC_START_LO] ∧
    t.get R.SCHD_CYC_START_HI_START * 2 ^ 32 + t.get R.SCHD_CYC_START_LO_START = (match s.sch.active with
      | none => 0
      | some a => s.cycleStart a % 2 ^ 48))) ∧
  ( (∀ (s : State) (v : Word), s.Served → Leaves (.trvCtlWrite v) s fun t =>
    let check (x : State) : Option Nat :=
      if 4 ≤ x.get R.TRV_CTL_STAGE_MOVES ∧ x.get R.TRV_CTL_STAGE_MOVES ≤ 64 ∧ 1 ≤ x.get R.TRV_CTL_STAGE_GAP then none else some Code.TRV_CONFIG
    if s.flag R.TRV_CTL_ENABLE = true ∧ s.rwcHit R.TRV_CTL v = true then
      t = s.refuse R.TRV_CTL_REFUSE Ev.traverseConfigurationRefused Code.TRV_CONFIG
    else (s.put R.TRV_CTL_REFUSE 0).CtlWritten t R.TRV_CTL R.TRV_CTL_ENABLE R.TRV_CTL_REFUSE Ev.traverseConfigurationRefused Code.TRV_CONFIG check v) ∧
  (∀ (s : State) (v : Word), s.Served → Leaves (.trvSpecCfgWrite v) s fun t =>
    let was := s.flag R.TRV_SPEC_CFG_ENABLE
    let u := (s.take R.TRV_SPEC_CFG v).put R.TRV_CTL_REFUSE 0
    let bad : Prop := was = false ∧ u.flag R.TRV_SPEC_CFG_ENABLE = true ∧ 64 < u.get R.TRV_SPEC_CFG_PIN_MAX
    (was = true ∧ s.rwcHit R.TRV_SPEC_CFG v = true → t = s.refuse R.TRV_CTL_REFUSE Ev.traverseConfigurationRefused Code.TRV_CONFIG) ∧
    (¬ (was = true ∧ s.rwcHit R.TRV_SPEC_CFG v = true) → bad →
      t = (u.put R.TRV_SPEC_CFG_ENABLE 0).refuse R.TRV_CTL_REFUSE Ev.traverseConfigurationRefused Code.TRV_CONFIG) ∧
    (¬ (was = true ∧ s.rwcHit R.TRV_SPEC_CFG v = true) → ¬ bad → t = u)) ∧
  (∀ (s : State), s.Served → Leaves .trvCurSnapshot s fun t =>
    t.bus = t.rd R.TRV_CUR_0 ∧ s.Touches t [.bus] [R.TRV_CUR_0, R.TRV_CUR_1, R.TRV_CUR_2, R.TRV_CUR_3] ∧
    (s.trv.journal = [] → s.trv.last = none → t.bus = 0 ∧ t.rd R.TRV_CUR_1 = 0 ∧ t.rd R.TRV_CUR_2 = 0 ∧ t.rd R.TRV_CUR_3 = 0) ∧
    (∀ h, s.trvShown = some h → h.state < 16 → h.origin < 4 → h.slot < 2 ^ 9 → h.id < 2 ^ 16 → h.done < 2 ^ 5 → h.stages.length < 2 ^ 5 →
      h.tenant < 2 ^ 6 → h.reason < 2 ^ 16 →
      t.get ⟨R.TRV_CUR_0, 31, 28⟩ = h.state ∧ t.get ⟨R.TRV_CUR_0, 27, 26⟩ = h.origin ∧ t.get ⟨R.TRV_CUR_0, 15, 0⟩ = h.id ∧
      t.get ⟨R.TRV_CUR_1, 31, 27⟩ = h.stages.length ∧ t.get ⟨R.TRV_CUR_1, 26, 22⟩ = h.done ∧ t.get ⟨R.TRV_CUR_1, 15, 0⟩ = h.reason ∧
      t.get ⟨R.TRV_CUR_3, 31, 0⟩ = if h.timed = true then h.elast % 2 ^ 32 else 0)))

/-! ## The transition at an epoch -/

/-- R57, R157, R165, R175: at E − 5 µs what is due at an epoch is verified: a circuit that passes is armed in the transition, one that fails reads
FAILED with CIR_VERIFY_FAIL; a swap that passes its check is past its point of no return, one that does not is cancelled with the code. At G0 every
affected port, and no other, is blanked, and moved circuits enter MOVING. A tile that saw no hub mark is listed as self-strobed. -/
def Obligations.TransitionsBeginAtPointOfNoReturnAndG0 : Prop :=  (∀ (s : State) (cls : Bool) (e i : Nat), s.Live → s.ready = true → s.hubIn = true → s.svc.holdover = [] → s.flag R.EPO_CTL_ENABLE = true →
    s.epochAt cls e = true → s.trans cls e = none → s.bivouac = false → s.trv.journal = [] → s.sch.swap = none →
    let u := s.advanceTo (e - 5_000)
    let c := s.ctx i
    u.committers cls e ((u.slotEpoch e).getD 0) = [i] →
    Leaves (.pointOfNoReturn cls e) s fun t =>
      (u.verified c.input (ctxOut i) c.newHops = true → t = { u with fab.trans := s.fab.trans ++ [{ u.newTrans cls e with lights := [i] }] }) ∧
      (u.verified c.input (ctxOut i) c.newHops = false →
        t.t = u.t ∧ (t.ctx i).state = Cs.failed ∧ (t.ctx i).reason = Code.CIR_VERIFY_FAIL ∧ (t.ctx i).placed = none ∧
        (∀ tr, tr ∈ t.fab.trans → i ∈ tr.lights → tr ∈ s.fab.trans) ∧
        ∀ r, c.req = some r → s.sessionLive r = true →
          ∃ m, m ∈ t.cmd.outQ ∧ m.kind = .completion ∧ m.final = true ∧ m.reqId = r.reqId ∧ m.code = Code.CIR_VERIFY_FAIL)) ∧
  (∀ (s : State) (w : Swap), s.Live → s.ready = true → s.hubIn = true → s.svc.holdover = [] → s.flag R.EPO_CTL_ENABLE = true →
    s.sch.swap = some w → s.trans true w.esw = none → s.trv.journal = [] →
    let u := s.advanceTo (w.esw - 5_000)
    Leaves (.pointOfNoReturn true w.esw) s fun t =>
      t.t = u.t ∧
      (u.swapCheck w = none → t.sch.swap = some { w with past := true } ∧ t.cir = s.cir ∧
        ∃ tr, t.trans true w.esw = some tr ∧ tr.swap = true ∧ tr.phase = 0 ∧ tr.stage = none ∧
          ∀ i, i ∈ tr.lights → ∃ n x r, w.target = some n ∧ x ∈ (s.entry n).circuits ∧ i = x.rec_.output * 256 + x.slot ∧ x.slot = 0 ∧
            x.route = some r ∧ u.verified x.rec_.input x.rec_.output (path x.rec_.input r) = true) ∧
      (∀ code, u.swapCheck w = some code → t.sch.swap = none ∧ t.flag R.SCHD_SWAP_ARMED = false ∧ t.get R.SCHD_SWAP_REASON = code % 2 ^ 16)) ∧
  (∀ (s : State) (cls hub : Bool) (e : Nat) (tr : Trans), s.Live → s.flag R.EPO_CTL_ENABLE = true → s.trans cls e = some tr → tr.phase = 0 →
    (hub = true → s.hubIn = true) → Leaves (.blankStrobe cls e hub) s fun t =>
      let u := s.advanceTo (e - tr.gb)
      t.t = u.t ∧ (∀ k, k ∈ u.affected tr → (t.port k).epo = true) ∧ (∀ k, k ∉ u.affected tr → t.port k = s.port k) ∧
      t.trans cls e = some { tr with phase := 1, ports := u.affected tr, loads := u.changes tr } ∧
      (tr.stage = none → t.cir = s.cir) ∧
      (∀ k h l, tr.stage = some k → s.trv.journal = h :: l → ∀ m, m ∈ (h.stage k).moved → (t.ctx m.ctx).state = Cs.moving) ∧
      s.Touches t [.time, .fab, .cir] []) ∧
  (∀ (s : State) (cls : Bool) (e : Nat) (n : Fin 20) (tr : Trans), s.Live → s.trans cls e = some tr → tr.phase ≠ 0 → n.val ∉ tr.selfs →
    Leaves (.selfStrobeDetect cls e n) s fun t =>
      let cnt := whole (R.EPO_CNT 3)
      t.t = max s.t ((e - tr.gb + 4) * 2 ^ 32) ∧ t.trans cls e = some { tr with selfs := tr.selfs ++ [n.val] } ∧ n.val ∈ t.fab.selfRun ∧
      t.get cnt = (if tr.selfs = [] then satInc 32 (s.get cnt) else s.get cnt) ∧ t.sch.selfs = (cls || s.sch.selfs) ∧
      s.Touches t [.time, .fab, .sch, .recorder, .frames] [R.EPO_CNT 3])

/-- R173, R175, R177, R179, R186: at the switch strobe the touched cells take their new state, and both channels of a touched element the codes of its
PIN phase. At E − 300 ns a tile that refused its load, was named as not ready, or has a touched element fenced, holds the whole transition dark,
which `EPO_XLAST` and `EPO_XCNT` report. R175, R178, R180, R224: at the unblank strobe an affected port that carries light after E is released, if
its latch is open, no guard holds it and it is not an output in the speculation mask; a transition held dark releases none; a port left blanked is
offered again under the same conditions at a later strobe of a circuit lit through it. -/
def Obligations.CellsSwitchAndPortsAreReleased : Prop :=
  ( (∀ (s : State) (cls : Bool) (e : Nat) (tr : Trans), s.Live → s.trans cls e = some tr → tr.phase = 1 → (tr.loads.map (·.1)).Nodup →
    (∀ l, l ∈ tr.loads → l.1 < 10_240) → Leaves (.switchStrobe cls e) s fun t =>
      let u := s.advanceTo (e - tr.gb + 100)
      t.t = u.t ∧
      (∀ pos x, (pos, x) ∈ tr.loads → t.cell pos = x) ∧ (∀ pos, pos ∉ tr.loads.map (·.1) → t.cell pos = s.cell pos) ∧
      (∀ pos x y, (pos, x) ∈ tr.loads → y ∈ cellElems pos →
        let k := fdKey (tileOf y) (y % 4096 * 2)
        (t.elem y).prov = none ∧
        ((s.elem y).prov = none → (s.fdch k).rangeUse = 1 → (s.fdch (k + 1)).rangeUse = 1 →
          let codes := u.pinCodes y (u.pinFor y x) (s.elem y).pinTrim
          (t.fdch k).active = codes.1 ∧ (t.fdch (k + 1)).active = codes.2)) ∧
      (∃ tr', t.trans cls e = some tr' ∧ tr'.phase = 2 ∧ tr'.lights = tr.lights ∧ tr'.ports = tr.ports ∧ tr'.loads = tr.loads) ∧
      t.cir = s.cir ∧ t.sch = s.sch ∧ t.trv = s.trv ∧ t.net = s.net ∧ t.svc = s.svc ∧ t.nv = s.nv ∧ t.tm = s.tm ∧ t.cal = s.cal ∧ t.thm = s.thm ∧
      ∀ a, (∀ n, a ≠ R.TILE_FD_CNT n 0 ∧ a ≠ R.TILE_LP_PRB_STS n) → a ≠ R.TRV_SPEC_CNT 2 → ¬ evtReg a → t.rd a = s.rd a) ∧
  (∀ (s : State) (cls : Bool) (e : Nat) (nak : List (Fin 20)) (tr : Trans), s.Live → s.trans cls e = some tr → tr.phase = 2 →
    Leaves (.readySample cls e nak) s fun t =>
      let bad (n : Nat) : Prop := n ∈ tr.refused ∨ (∃ x, x ∈ nak ∧ x.val = n) ∨
        ∃ l y, l ∈ tr.loads ∧ y ∈ cellElems l.1 ∧ s.elemFenced y = true ∧ tileOf y = n
      t.t = max s.t ((e - 300) * 2 ^ 32) ∧
      ((∀ n, n < 20 → ¬ bad n) → t.trans cls e = some { tr with phase := 3 } ∧ t.fab.xlast = s.fab.xlast ∧ s.Touches t [.time, .fab] []) ∧
      (∀ n, n < 20 → bad n → ∃ tr', t.trans cls e = some tr' ∧ tr'.phase = 3 ∧ tr'.dark = true ∧ (∀ j, j ∈ tr'.notReady ↔ j < 20 ∧ bad j) ∧
        t.fab.xlast = (tr.kind * 2 ^ 30 + (tr'.notReady.map fun j => 2 ^ j).sum, sched e / 2 ^ 32, sched e % 2 ^ 32) ∧
        t.get (whole (R.EPO_XCNT 1)) = satInc 32 (s.get (whole (R.EPO_XCNT 1))) ∧
        s.Touches t [.time, .fab, .recorder, .frames] [R.EPO_XCNT 1]))) ∧
  ( (∀ (s : State) (cls : Bool) (e : Nat) (tr : Trans), s.Live → s.trans cls e = some tr → tr.phase = 3 → Leaves (.unblankStrobe cls e) s fun t =>
    let u := s.advanceTo (e - 250)
    t.t = u.t ∧ t.trans cls e = some { tr with phase := 4 } ∧
    (∀ k, let free : Prop := s.isOpen k = true ∧ s.guarded k = false ∧ ¬ (1_024 ≤ k ∧ k - 1_024 ∈ s.specMask)
      let due : Prop := tr.dark = false ∧ k ∈ tr.ports ∧ k ∈ ((u.after tr).carried cls).map (·.1)
      (due → free → t.port k = { s.port k with epo := false }) ∧ (¬ (due ∧ free) → t.port k = s.port k)) ∧
    s.Touches t [.time, .fab, .recorder, .frames] [R.TRV_SPEC_CNT 3]) ∧
  (∀ (s : State) (out : Bool) (p : Fin 1024) (e : Nat) (x : Nat × Ctx), s.Live →
    let k := portKey out p
    x ∈ s.cir.ctxs → x.2.lit = true → k ∈ ctxPorts x.1 x.2 → (∀ y, y ∈ s.cir.ctxs → y.2.lit = true → k ∈ ctxPorts y.1 y.2 → y = x) →
    (if x.2.scheduled then s.slotEpoch e = some (ctxSlot x.1) else isGrid persGrid e = true) → x.2.eplan < e → (s.port k).epo = true →
    (∀ tr, tr ∈ s.fab.trans → tr.e = e → k ∉ tr.ports) → Leaves (.reofferUnblank out p e) s fun t =>
      let free : Prop := s.isOpen k = true ∧ s.guarded k = false ∧ ¬ (1_024 ≤ k ∧ k - 1_024 ∈ s.specMask)
      t.t = max s.t ((e - 250) * 2 ^ 32) ∧ (free → t.port k = { s.port k with epo := false }) ∧ (¬ free → t.port k = s.port k) ∧
      (∀ j, j ≠ k → t.port j = s.port j) ∧ s.Touches t [.time, .fab, .recorder, .frames] [R.TRV_SPEC_CNT 3]))

/-- R57, R143, R151, R159, R175, R206: at E a circuit that commits reads LIT on its placed route, and its request completes with DONE; the circuits of
the slot before read HELD; the slot in force follows. A moved circuit reads BELAY or HELD on its new route. A swap makes the target's schedule
active from its start. -/
def Obligations.CircuitsStagesAndSwapsCommitAtTheEpoch : Prop :=  (∀ (s : State) (cls : Bool) (e : Nat) (tr : Trans), s.Live → s.trans cls e = some tr → tr.phase = 4 → tr.swap = false → tr.stage = none →
    Tbl.wf s.cir.ctxs = true → tr.lights.Nodup → (∀ i, i ∈ tr.lights → (s.ctx i).after = none) →
    (∀ a, s.sch.active = some a → a.freezeDue = false ∧ a.frozen = none) → Leaves (.epochCommit cls e) s fun t =>
      t.t = max s.t (e * 2 ^ 32) ∧ t.trans cls e = none ∧ t.sch.lastE = e ∧
      (∀ i, i ∈ tr.lights → (t.ctx i).state = Cs.lit ∧ (t.ctx i).route = (s.ctx i).placed ∧ (t.ctx i).placed = none ∧
        (t.ctx i).epoch = e % 2 ^ 48 ∧ (t.ctx i).input = (s.ctx i).input ∧
        ∀ r, (s.ctx i).req = some r → s.sessionLive r = true →
          ∃ m, m ∈ t.cmd.outQ ∧ m.kind = .completion ∧ m.final = true ∧ m.reqId = r.reqId ∧ m.code = Code.DONE) ∧
      (∀ i, i ∉ tr.lights →
        if cls = true ∧ (s.ctx i).scheduled = true ∧ (s.ctx i).state = Cs.lit then (t.ctx i).state = Cs.held ∧ (t.ctx i).route = (s.ctx i).route
        else t.ctx i = s.ctx i) ∧
      (cls = false → t.sch.active = s.sch.active ∧ ∀ l, l ∈ t.cir.leaves ↔ l ∈ s.cir.leaves ∧ e < l.e) ∧
      (cls = true → t.cir.leaves = s.cir.leaves ∧
        ∀ a, s.sch.active = some a → ∃ b, t.sch.active = some b ∧ b.entry = a.entry ∧ b.slot = (a.slotAt e).getD a.slot ∧ b.lastE = e) ∧
      t.get (whole (R.EPO_CNT (if cls then 0 else 1))) = satInc 32 (s.get (whole (R.EPO_CNT (if cls then 0 else 1)))) ∧
      t.trv = s.trv ∧ t.svc = s.svc ∧ t.nv = s.nv ∧ t.net = s.net ∧ t.tm = s.tm ∧ t.cal = s.cal ∧ t.thm = s.thm) ∧
  (∀ (s : State) (cls : Bool) (e k : Nat) (tr : Trans) (h : Trav) (rest : List Trav), s.Live → s.trans cls e = some tr → tr.phase = 4 →
    tr.swap = false → tr.stage = some k → tr.lights = [] → s.trv.journal = h :: rest → h.newCtx = none → ((h.stage k).moved.map (·.ctx)).Nodup →
    (∀ m, m ∈ (h.stage k).moved → (s.ctx m.ctx).after = none) → Leaves (.epochCommit cls e) s fun t =>
      t.trans cls e = none ∧
      (∀ m, m ∈ (h.stage k).moved → (t.ctx m.ctx).route = some (h.to m) ∧
        (t.ctx m.ctx).state = (if (s.ctx m.ctx).scheduled then Cs.held else Cs.belay) ∧ (t.ctx m.ctx).moves = satInc 16 (s.ctx m.ctx).moves) ∧
      t.get (whole (R.TRV_CNT 3)) = satInc 32 (s.get (whole (R.TRV_CNT 3)))) ∧
  (∀ (s : State) (w : Swap) (n : Nat) (tr : Trans), s.Live → s.sch.swap = some w → s.trans true w.esw = some tr → tr.phase = 4 → tr.swap = true →
    tr.stage = none → w.target = some n → s.trv.journal = [] → Tbl.wf s.cir.ctxs = true → (∀ a, s.sch.active = some a → a.freezeDue = false) → Leaves (.epochCommit true w.esw) s fun t =>
      t.t = max s.t (w.esw * 2 ^ 32) ∧ t.sch.swap = none ∧ t.flag R.SCHD_SWAP_ARMED = false ∧ t.get R.SCHD_SWAP_REASON = 0 ∧
      (t.entry n).lstate = Ls.active ∧
      (∃ b, t.sch.active = some b ∧ b.entry = n ∧ b.durs = (s.entry n).durs ∧ b.start = w.esw ∧ b.slot = 0 ∧ b.frozen = none) ∧
      (∀ a, s.sch.active = some a → a.entry ≠ n → (t.entry a.entry).lstate = Ls.ready) ∧
      ∀ i, (s.ctx i).scheduled = false → t.ctx i = s.ctx i ∨ (t.ctx i).scheduled = true)

/-- R42, R44, R58, R61, R71, R123, R209: at the decision instant a withdrawn circuit leaves its transition, and an aborted stage is taken out with its
circuits HELD; a guard whose count has reached 4,000 closes its port and darkens its circuits; a loss check with too few samples by 10 ms passes; an
armed step moves device time, and the expiries it jumps are deferred. -/
def Obligations.DecisionsGuardLatchesLossChecksAndSteps : Prop :=  (∀ (s : State) (cls : Bool) (e i : Nat) (tr : Trans) (a : After), s.Live → s.trans cls e = some tr → tr.phase < 3 → tr.swap = false →
    tr.stage = none → tr.lights = [i] → (s.ctx i).waits = true → (s.ctx i).after = some a → Leaves (.decisionInstant cls e) s fun t =>
      t.t = max s.t ((e - 1_000) * 2 ^ 32) ∧
      (a.withdraw = false → t = s.advanceTo (e - 1_000)) ∧
      (a.withdraw = true → (t.ctx i).state = (if a.disable then Cs.dark else Cs.idle) ∧
        ∃ tr', t.trans cls e = some tr' ∧ tr'.lights = [] ∧ tr'.phase = tr.phase ∧ tr'.ports = tr.ports)) ∧
  (∀ (s : State) (cls : Bool) (e k : Nat) (tr : Trans) (h : Trav) (rest : List Trav), s.Live → s.trans cls e = some tr → tr.phase < 3 →
    tr.swap = false → tr.stage = some k → tr.lights = [] → s.trv.journal = h :: rest → h.abortDue = true → h.newCtx = none →
    (∀ m, m ∈ (h.stage k).moved → (s.ctx m.ctx).after = none ∧ (s.ctx m.ctx).state = Cs.moving) → Leaves (.decisionInstant cls e) s fun t =>
      (∃ tr', t.trans cls e = some tr' ∧ tr'.stage = none) ∧
      ∀ m, m ∈ (h.stage k).moved → (t.ctx m.ctx).state = Cs.held ∧ (t.ctx m.ctx).route = (s.ctx m.ctx).route) ∧
  (∀ (s : State) (p : Fin 1024), s.Live → Tbl.wf s.cir.ctxs = true → 4_000 ≤ (Tbl.getD s.fab.guard p (0, 0)).2 → s.guarded p = true → s.guardLatched p = false →
    Leaves (.guardLatch p) s fun t =>
      t.guardLatched p = true ∧ ((s.port p).lstate ≠ 0 → (s.port p).lstate ≠ 4 → (t.port p).lstate = 3) ∧
      (∀ i, (s.ctx i).lit = true → (s.ctx i).input = p.val → (t.ctx i).state = Cs.dark ∧ (t.ctx i).reason = Code.CIR_GUARD_LATCHED) ∧
      (∀ i, (s.ctx i).input ≠ p.val → t.ctx i = s.ctx i) ∧ ∀ k, k ≠ p.val → t.port k = s.port k) ∧
  (∀ (s : State) (i : Fin 262144) (from_ n : Nat), s.Live → s.ctrlUp = true → (s.ctx i).check = some (from_, n) →
    Leaves (.lossCheckDeadline i) s fun t =>
      t.t = max s.t ((from_ + 10_000_000) * 2 ^ 32) ∧ t.ctx i = { s.ctx i with check := none, gen := ((s.ctx i).gen + 1) % 65_536 } ∧
      (∀ j, j ≠ i.val → t.ctx j = s.ctx j) ∧ s.Touches t [.time, .cir] []) ∧
  (∀ (s : State) (d : Int) (at_ : Nat), s.Live → s.ctrlUp = true → s.tm.step = some (d, at_) →
    let u := if s.engineRuns then s else s.tick
    (s.engineRuns = true →
      (s.sch.lastE = 0 ∨ (s.sch.lastE : Int) + 2_000 ≤ s.now ∧ (s.sch.lastE : Int) + 2_000 ≤ (s.now : Int) + d) ∧ ∀ x, s.nextEpo = some x →
      (s.now : Int) + d.natAbs + 2_000 ≤ (x.1 : Int) - s.gb ∧ (s.now : Int) + d + d.natAbs + 2_000 ≤ (x.1 : Int) - s.gb) →
    Leaves .timeStepApply s fun t =>
      t.t = ((u.t : Int) + d * 2 ^ 32).toNat ∧ t.tm = { s.tm with step := none } ∧ t.flag R.TIME_ADJ_CTL_ARMED = false ∧
      (∀ i, (s.ctx i).state ≠ Cs.idle → (s.ctx i).lease ≠ 0 → u.now < (s.ctx i).lease * 1_000_000_000 → (s.ctx i).lease * 1_000_000_000 ≤ t.now →
        ∃ x, x ∈ t.cir.deferred ∧ x.grant = false ∧ x.index = i ∧ x.code = Code.CIR_LEASE_EXPIRED) ∧
      t.cir.ctxs = s.cir.ctxs ∧ s.Touches t [.time, .tm, .cir, .recorder, .frames] [R.TIME_ADJ_CTL])

/-! ## Schedules and the epoch engine's registers -/

/-- R147, R149, R412: SCH_LOAD_BEGIN opens an entry that is neither ACTIVE nor a swap's target with its durations; SCH_LOAD_SLOT writes records into a
LOADING entry, each a later one over an earlier; SCH_ERASE empties an entry; one left LOADING for 10 s reads EMPTY. R107, R108, R148, R150, R412:
SCH_LOAD_END sends a well-formed schedule of the stated count to placement and fails any other with the code of the first check; a schedule that can
be placed becomes READY with its circuits and its load completes with DONE, one that cannot becomes FAILED with its code; a STALE entry is placed
again in the background, and stays STALE where that fails. -/
def Obligations.LibraryEntriesLoadAndBecomeReady : Prop :=
  ( (∀ (s : State) (f : Frame), s.Live → Serves (.schLoadBegin f) opSchLoadBegin f s fun w r v code params =>
    let n := u f.params 0 1
    let busy : Prop := (w.entry n).lstate = Ls.active ∨ ∃ x, w.sch.swap = some x ∧ x.target = some n
    params = [] ∧ (w.flag R.SCHD_CTL_ENABLE = false → code = Code.SCH_DISABLED ∧ v = w) ∧
    (w.flag R.SCHD_CTL_ENABLE = true → busy → code = Code.SCH_ENTRY_BUSY ∧ v = w) ∧
    (w.flag R.SCHD_CTL_ENABLE = true → ¬ busy → code = Code.DONE ∧
      v.entry n = { LibEntry.empty with lstate := Ls.loading, durs := (List.range (u f.params 1 1 + 1)).map fun k => u f.params (4 + 4 * k) 4,
                                        touched := r.stamp } ∧
      (∀ j, j ≠ n → v.entry j = w.entry j) ∧ w.Touches v [.sch, .cmd, .frames, .recorder] [R.CMD_CNT 5])) ∧
  (∀ (s : State) (f : Frame), s.Live → Serves (.schLoadSlot f) opSchLoadSlot f s fun w r v code params =>
    let n := u f.params 0 1
    let key (k : Nat) : Nat := u f.params 1 1 * 1_024 + u f.params 2 2 + k
    let word (k : Nat) : Nat := u f.params (8 + 4 * k) 4
    let x := w.entry n
    let ok : Prop := x.lstate = Ls.loading ∧ u f.params 1 1 < x.durs.length ∧ u f.params 2 2 + u f.params 4 2 ≤ 1_024
    params = [] ∧ (¬ ok → code = Code.SES_BAD_PARAM ∧ v = w) ∧
    (ok → code = Code.DONE ∧ (v.entry n).lstate = Ls.loading ∧ (v.entry n).touched = r.stamp ∧ (v.entry n).durs = x.durs ∧
      (∀ k, k < u f.params 4 2 → Tbl.look (v.entry n).recs (key k) =
        some ⟨word k / 2 ^ 22, word k / 2 ^ 12 % 2 ^ 10, word k / 2 ^ 6 % 2 ^ 6, word k / 2 ^ 5 % 2 == 1⟩) ∧
      (∀ j, (∀ k, k < u f.params 4 2 → j ≠ key k) → Tbl.look (v.entry n).recs j = Tbl.look x.recs j) ∧
      (∀ j, j ≠ n → v.entry j = w.entry j) ∧ w.Touches v [.sch] [])) ∧
  (∀ (s : State) (f : Frame), s.Live → Serves (.schErase f) opSchErase f s fun w _ v code params =>
    let n := u f.params 0 1
    let busy : Prop := (w.entry n).lstate = Ls.active ∨ ∃ x, w.sch.swap = some x ∧ x.target = some n
    params = [] ∧ (busy → code = Code.SCH_ENTRY_BUSY ∧ v = w) ∧
    (¬ busy → code = Code.DONE ∧ v.entry n = LibEntry.empty ∧ (∀ j, j ≠ n → v.entry j = w.entry j) ∧
      w.Touches v [.sch, .cmd, .frames, .recorder] [R.CMD_CNT 5])) ∧
  (∀ (s : State) (n : Fin 64), s.Live → (s.entry n).lstate = Ls.loading → Leaves (.schLoadTimeout n) s fun t =>
    t.t = max s.t (((s.entry n).touched + 10_000_000_000) * 2 ^ 32) ∧ t.entry n = LibEntry.empty ∧ (∀ j, j ≠ n.val → t.entry j = s.entry j) ∧
    s.Touches t [.time, .sch] [])) ∧
  ( (∀ (s : State) (f : Frame), s.Live → Serves (.schLoadEnd f) opSchLoadEnd f s fun w r v code params =>
    let n := u f.params 0 1
    let x := w.entry n
    let well : Bool := x.formed && u f.params 4 4 == x.recs.length
    params = [] ∧ (x.lstate ≠ Ls.loading → code = Code.SES_BAD_PARAM ∧ v = w) ∧
    (x.lstate = Ls.loading → code = Code.ACCEPTED ∧ (∀ j, j ≠ n → v.entry j = w.entry j) ∧
      (well = false → (v.entry n).lstate = Ls.failed ∧ (v.entry n).reason = Code.SCH_FORMAT) ∧
      (well = true → w.schPortsOk x.durs.length x.loaded = false → (v.entry n).lstate = Ls.failed ∧ (v.entry n).reason = Code.CIR_PORT_BUSY) ∧
      (well = true → w.schPortsOk x.durs.length x.loaded = true → w.schOwnersOk x.loaded = false →
        (v.entry n).lstate = Ls.failed ∧ (v.entry n).reason = Code.CIR_NOT_OWNER) ∧
      (well = true → w.schPortsOk x.durs.length x.loaded = true → w.schOwnersOk x.loaded = true →
        v.entry n = { x with lstate := Ls.placing, circuits := x.loaded, req := some r } ∧ w.Touches v [.sch] []))) ∧
  (∀ (s : State) (n : Fin 64), s.Live → s.ctrlUp = true → (s.entry n).lstate = Ls.placing → Leaves (.schedulePlacementDone n) s fun t =>
    let x := s.entry n
    let told (code : Nat) : Prop := ∀ r, x.req = some r → s.sessionLive r = true →
      ∃ m, m ∈ t.cmd.outQ ∧ m.kind = .completion ∧ m.final = true ∧ m.reqId = r.reqId ∧ m.code = code
    (match s.placeEntry x.durs.length x.circuits with
      | .ok cs => (t.entry n).lstate = Ls.ready ∧ (t.entry n).circuits = cs ∧ (t.entry n).reason = 0 ∧ told Code.DONE
      | .error (code, _) => (t.entry n).lstate = Ls.failed ∧ (t.entry n).reason = code ∧ told code) ∧
    (t.entry n).durs = x.durs ∧ (∀ j, j ≠ n.val → t.entry j = s.entry j) ∧ s.Touches t [.sch, .cmd, .frames, .recorder] [R.CMD_CNT 5]) ∧
  (∀ (s : State) (n : Fin 64), s.Live → s.ctrlUp = true → (s.entry n).lstate = Ls.stale →
    (∀ e, e ∈ s.sch.lib → e.1 < n → e.2.lstate = Ls.stale → e.2.reason ≠ 0) → Leaves (.staleReplacementDone n) s fun t =>
      let x := s.entry n
      (match s.placeEntry x.durs.length x.circuits with
        | .ok cs => t.entry n = { x with lstate := Ls.ready, circuits := cs, reason := 0 }
        | .error (code, _) => t.entry n = { x with reason := code }) ∧
      (∀ j, j ≠ n.val → t.entry j = s.entry j) ∧ s.Touches t [.sch, .frames, .recorder] []))

/-- R154 to R156, R158: a swap request is refused by the first failing check; an accepted one is armed for its E_sw, never less than 2 ms after its
ingress, blanks and opens the target's dark ports, and shows in `SCHD_SWAP`. A cancel before the point of no return takes effect at once, one before
E_sw − 1 µs at the decision instant, a later one is answered TRV_ABORT_LATE. -/
def Obligations.SwapsAreArmedRefusedAndCancelled : Prop :=  (∀ (s : State) (f : Frame), s.Live → Serves (.schSwap f) opSchSwap f s fun w r v code params =>
    let n := u f.params 0 1
    let none_ : Bool := n == 255
    let tv : Bool := u f.params 1 1 == 1
    let at_ := u f.params 2 6 * 1_000_000_000 + u f.params 8 4
    let act : Bool := w.sch.active.isSome
    let fails : List (Bool × Nat) := [
      (w.bivouac, Code.TRV_BIVOUAC), (decide (2 ≤ w.level), Code.THM_THROTTLED),
      (!w.flag R.SCHD_CTL_ENABLE || !w.flag R.EPO_CTL_ENABLE, Code.SCH_DISABLED), (w.sch.swap.isSome, Code.SCH_SWAP_ARMED),
      (none_ && !act, Code.SCH_NOT_READY), (!none_ && (w.entry n).lstate == Ls.stale, Code.PLC_SCHED_STALE),
      (!none_ && (w.entry n).lstate != Ls.ready, Code.SCH_NOT_READY), (!act && !tv, Code.SCH_FORMAT),
      (tv && !w.flag R.TIME_STS_VALID, Code.TIM_NOT_VALID)]
    (∀ x, fails.find? (·.1) = some x → code = x.2 ∧ v = w ∧ params = []) ∧
    (fails.find? (·.1) = none → ∃ e,
      (∀ a, w.sch.active = some a → e = a.epochFrom 0 (if tv then at_ else r.stamp + 2_000_000)) ∧ (w.sch.active = none → e = at_) ∧
      (tv = true → r.stamp + 2 ^ 47 ≤ e → code = Code.TIM_OUT_OF_HORIZON ∧ v = w) ∧
      (tv = true → e < r.stamp + 2_000_000 → code = Code.TIM_TOO_LATE ∧ v = w) ∧
      ((tv = true → r.stamp + 2_000_000 ≤ e ∧ e < r.stamp + 2 ^ 47) →
        code = Code.ACCEPTED ∧ params = natBe 8 (e % 2 ^ 48) ∧ r.stamp + 2_000_000 ≤ e ∧
        (∃ x, v.sch.swap = some x ∧ x.target = (if none_ then none else some n) ∧ x.esw = e ∧ x.past = false ∧ x.cancelled = false) ∧
        v.flag R.SCHD_SWAP_ARMED = true ∧ v.get R.SCHD_SWAP_T_HI_ESW = e % 2 ^ 48 / 2 ^ 32 ∧ v.get R.SCHD_SWAP_T_LO_ESW = e % 2 ^ 32 ∧
        (∀ k, none_ = false → k ∈ (w.entry n).ports → (w.port k).lstate ∈ [0, 1, 3, 4] → (v.port k).epo = true) ∧
        w.Touches v [.sch, .fab] [R.SCHD_SWAP, R.SCHD_SWAP_T_HI, R.SCHD_SWAP_T_LO]))) ∧
  (∀ (s : State) (f : Frame), s.Live → Serves (.schCancel f) opSchCancel f s fun w r v code params =>
    (w.sch.swap = none → code = Code.TRV_UNKNOWN ∧ v = w ∧ params = []) ∧
    (∀ x, w.sch.swap = some x → params = natBe 8 (x.esw % 2 ^ 48) ∧
      let late : Prop := x.esw ≤ r.stamp + 5_000 ∨ x.cancelled = true ∨ x.esw < w.now + 1_000
      (late → code = Code.TRV_ABORT_LATE ∧ v = w) ∧
      (¬ late → x.past = true → code = Code.TRV_ABORTED ∧ v = { w with sch.swap := some { x with cancelled := true } }) ∧
      (¬ late → x.past = false → code = Code.TRV_ABORTED ∧ v.sch.swap = none ∧ v.sch.active = w.sch.active ∧ v.sch.lib = w.sch.lib ∧
        v.flag R.SCHD_SWAP_ARMED = false ∧ v.get R.SCHD_SWAP_REASON = Code.TRV_ABORTED ∧ v.cir = w.cir ∧
        (w.sessionLive x.req = true →
          ∃ m, m ∈ v.cmd.outQ ∧ m.kind = .completion ∧ m.final = true ∧ m.reqId = x.req.reqId ∧ m.code = Code.TRV_ABORTED))))

/-! ## Traverses -/

/-- R92, R198, R200, R201, R413: TRV_REQUEST is refused by the first check that fails; one that passes is answered ACCEPTED with its ID. Circuits that
may not be moved complete it with CIR_BAD_STATE; otherwise it either completes at once or joins the journal, at most 16 stages of at most
STAGE_MOVES moved circuits each. R208, R210, R541: TRV_ABORT is answered by the state in which it finds the traverse. -/
def Obligations.TraverseRequestsAndAbortsAreAnswered : Prop :=  (∀ (s : State) (f : Frame), s.Live → Serves (.trvRequest f) opTrvRequest f s fun w r v code params =>
    let ids := (List.range (u f.params 0 1)).map fun k => u f.params (12 + 4 * k) 4
    let first := w.ctx (ids.headD 0)
    let id := w.trv.nextId % 65_536
    let target : Option Nat := if u f.params 1 1 = 1 then some (u f.params 6 6) else none
    let oneScope : Bool := ids.all fun i => decide (i < 262_144) && (w.ctx i).state != Cs.idle && (w.ctx i).scheduled == first.scheduled &&
      (!first.scheduled || ctxSlot i == ctxSlot (ids.headD 0))
    let early : List (Bool × Nat) := [
      (!(oneScope && decide ids.Nodup), Code.SES_BAD_PARAM), (w.bivouac, Code.TRV_BIVOUAC), (decide (2 ≤ w.level), Code.THM_THROTTLED),
      (!w.flag R.PLC_CTL_ENABLE, Code.PLC_DISABLED), (r.tenant != 0 && ids.any fun i => (w.ctx i).tenant != r.tenant, Code.CIR_NOT_OWNER),
      (!w.flag R.EPO_CTL_ENABLE, Code.SCH_DISABLED)]
    let late : List (Bool × Nat) := [(decide (w.pol R.PLC_LIM2_MOVE_MAX < ids.length), Code.PLC_MOVE_LIMIT),
      (!w.flag R.TRV_CTL_ENABLE, Code.TRV_DISABLED), (decide (8 ≤ w.trv.journal.length), Code.TRV_QUEUE_FULL)]
    (∀ x, early.find? (·.1) = some x → code = x.2 ∧ v = w ∧ params = []) ∧
    (early.find? (·.1) = none → ∀ c, w.timeCheck target r.stamp 250_000 = some c → code = c ∧ v = w ∧ params = []) ∧
    (early.find? (·.1) = none → w.timeCheck target r.stamp 250_000 = none → ∀ x, late.find? (·.1) = some x → code = x.2 ∧ v = w ∧ params = []) ∧
    (early.find? (·.1) = none → w.timeCheck target r.stamp 250_000 = none → late.find? (·.1) = none →
      code = Code.ACCEPTED ∧ params = natBe 2 id ∧ v.trv.nextId = w.trv.nextId + 1 ∧
      ((∃ i, i ∈ ids ∧ ((w.ctx i).pinned = true ∨ (w.ctx i).state ≠ Cs.held ∧ (w.ctx i).state ≠ Cs.belay ∨ w.inJournal i = true)) →
        v.trv.journal = w.trv.journal ∧ v.cir = w.cir ∧
        (w.sessionLive r = true → ∃ m, m ∈ v.cmd.outQ ∧ m.kind = .completion ∧ m.final = true ∧ m.reqId = r.reqId ∧ m.code = Code.CIR_BAD_STATE)) ∧
      (v.trv.journal = w.trv.journal ∨ ∃ h, v.trv.journal = w.trv.journal ++ [h] ∧ h.id = id ∧ h.origin = 2 ∧ h.state = Ts.queued ∧ h.back = false ∧
        h.req = some r ∧ h.slotScope = first.scheduled ∧ h.stages.length ≤ 16 ∧
        ∀ g, g ∈ h.stages → g.moves.length ≤ w.get R.TRV_CTL_STAGE_MOVES ∧ ∀ m, m ∈ g.moves → m.isNew = false ∧ m.old ≠ m.new))) ∧
  (∀ (s : State) (f : Frame), s.Live → Serves (.trvAbort f) opTrvAbort f s fun w r v code params =>
    let named (h : Trav) : Bool := if u f.params 0 1 = 0 then h.id == u f.params 2 2
      else (h.req.map fun q => (q.sess, q.uid, q.reqId)) == some (r.sess, r.uid, u f.params 4 4)
    let cnt := whole (R.TRV_CNT 1)
    (w.trv.journal.find? named = none → code = Code.TRV_UNKNOWN ∧ v = w ∧ params = []) ∧
    (∀ h, w.trv.journal.find? named = some h →
      let mine : Prop := r.tenant = 0 ∨ h.origin ≠ 1 ∧ h.tenant = r.tenant
      (¬ mine → code = Code.CIR_NOT_OWNER ∧ v = w ∧ params = []) ∧
      (mine → params = natBe 8 (h.elast % 2 ^ 48) ∧
        (h.suspended = true → code = Code.TRV_BIVOUAC ∧ v = w) ∧
        (h.state = Ts.queued → code = Code.TRV_ABORTED ∧ v.trv.journal = w.trv.journal.filter (fun x => x.id != h.id) ∧ v.get cnt = satInc 32 (w.get cnt)) ∧
        (h.timedNow = true → (h.back = true ∨ h.abortDue = true ∨ h.elast ≤ r.stamp + 5_000) → code = Code.TRV_ABORT_LATE ∧ v = w) ∧
        (∀ rest, w.trv.journal = h :: rest → h.timedNow = true → h.back = false → h.abortDue = false → r.stamp + 5_000 < h.elast →
          code = Code.TRV_ABORTED ∧ v.get cnt = satInc 32 (w.get cnt) ∧
          (h.inFlight.isSome = true → v.trv.journal = { h with abortDue := true } :: rest) ∧
          (h.inFlight = none → (∀ g, g ∈ h.stages → g.sstate ≠ Ss.committed) → v.trv.journal = w.trv.journal.filter fun x => x.id != h.id) ∧
          (h.inFlight = none → (∃ g, g ∈ h.stages ∧ g.sstate = Ss.committed) →
            ∃ h', v.trv.journal = h' :: rest ∧ h'.id = h.id ∧ h'.back = true ∧ h'.state = Ts.rolling ∧ h'.code = Code.TRV_ABORTED)))))

/-- R199, R202, R213, R413: a traverse at the head of the journal is timed: its persistent stages get grid points at least 100 µs off, the last of which
is E_LAST. TRV_RESUME and TRV_ROLLBACK act on a suspended traverse only: the one runs on, timed anew; the other ends the queued ones and reverses
what has committed. -/
def Obligations.TraversesAreTimedResumedAndRolledBack : Prop :=  (∀ (s : State) (h : Trav) (rest : List Trav), s.Live → s.ready = true → s.hubIn = true → s.bivouac = false → s.trv.journal = h :: rest →
    h.state = Ts.queued → h.back = false → Leaves .traverseTimed s fun t =>
      ∃ h', t.trv.journal = h' :: rest ∧ h'.state = Ts.running ∧ h'.timed = true ∧ h'.id = h.id ∧ h'.stages.length = h.stages.length ∧
        (∀ k, (h'.stage k).moves = (h.stage k).moves ∧ (h'.stage k).sstate = (h.stage k).sstate) ∧
        (h.slotScope = false → ∀ k, k ∈ h.remaining →
          isGrid persGrid (h'.stage k).e = true ∧ s.now + 100_000 ≤ (h'.stage k).e ∧ (h'.stage k).e ≤ h'.elast ∧ h.target.getD 0 ≤ (h'.stage k).e) ∧
        (∀ m, h.newCtx = some m → (t.ctx m.ctx).eplan = h'.elast) ∧ s.Touches t [.trv, .cir, .recorder, .frames] []) ∧
  (∀ (s : State) (f : Frame), s.Live → Serves (.trvResume f) opTrvResume f s fun w r v code params =>
    params = [] ∧
    ((∀ h rest, w.trv.journal = h :: rest → h.suspended = false) → code = Code.TRV_NOT_SUSPENDED ∧ v = w) ∧
    (∀ h rest, w.trv.journal = h :: rest → h.suspended = true →
      let plan : Prop := (∀ k m, k ∈ h.remaining → m ∈ (h.stage k).moved → w.moveOk h m = true) ∧
        (h.back = false → ∀ m, h.newCtx = some m →
          w.verified (w.ctx m.ctx).input (ctxOut m.ctx) (path (w.ctx m.ctx).input m.new) = true)
      (w.level = 4 → code = Code.THM_THROTTLED ∧ v = w) ∧
      (w.level ≠ 4 → h.back = true → h.code ≠ Code.TRV_ROLLED_BACK → code = Code.TRV_ABORTED ∧ v = w) ∧
      (w.level ≠ 4 → (h.back = false ∨ h.code = Code.TRV_ROLLED_BACK) → ¬ plan → code = Code.TRV_PLAN_INVALID ∧ v = w) ∧
      (w.level ≠ 4 → (h.back = false ∨ h.code = Code.TRV_ROLLED_BACK) → plan → code = Code.ACCEPTED ∧
        ∃ h', v.trv.journal = h' :: rest ∧ h'.id = h.id ∧ h'.state = (if h.back then Ts.rolling else Ts.running) ∧ h'.progress = some r ∧
          h'.back = h.back ∧ w.Touches v [.trv, .cir] []))) ∧
  (∀ (s : State) (f : Frame), s.Live → Serves (.trvRollback f) opTrvRollback f s fun w r v code params =>
    params = [] ∧
    ((∀ h rest, w.trv.journal = h :: rest → h.suspended = false) → code = Code.TRV_NOT_SUSPENDED ∧ v = w) ∧
    (∀ h rest, w.trv.journal = h :: rest → h.suspended = true →
      (w.level = 4 → code = Code.THM_THROTTLED ∧ v = w) ∧
      (w.level ≠ 4 → (w.trv.journal.map (·.id)).Nodup → code = Code.ACCEPTED ∧
        ((∀ g, g ∈ h.stages → g.sstate ≠ Ss.committed) → v.trv.journal = [] ∧ v.trv.rollback = none) ∧
        ((∃ g, g ∈ h.stages ∧ g.sstate = Ss.committed) → v.trv.rollback = some r ∧
          ∃ h', v.trv.journal = [h'] ∧ h'.id = h.id ∧ h'.back = true ∧ h'.state = Ts.rolling ∧ h'.code = Code.TRV_ROLLED_BACK))))

/-! ## Element loops -/

/-- R126, R231, R232, R270, R387, R477: a frame edge falls at the instant fixed for it, or at the first grid point at least half a period after the
frame's start; FN counts up, the law and the throttle level written since take force, and a fence names its new owner. -/
def Obligations.FrameEdgesAdvanceTheTile : Prop := ∀ (s : State) (n : Fin 20) (ab : List (Fin 4096)), s.Live →
  Leaves (.frameEdge n ab) s fun t =>
    let x := s.tile n
    let p := s.get (R.TILE_LP_PERIOD_P_USE n) * 25_000
    let edge := (x.endAt.map fun e => max e s.now).getD (gridFrom p (max (x.edge + p / 2) s.now))
    t.t = max s.t (edge * 2 ^ 32) ∧ (t.tile n).edge = edge ∧ t.rd (R.TILE_LP_FN n) = s.rd (R.TILE_LP_FN n) + 1 ∧
    t.get (R.TILE_LP_UCODE_LAW_USE n) = s.get (R.TILE_LP_UCODE_LAW_SET n) ∧ (t.tile n).level = s.level ∧ (t.tile n).endAt = none ∧
    (x.periodDue = true → t.get (R.TILE_LP_PERIOD_P_USE n) = s.get (R.TILE_LP_PERIOD_P_SET n)) ∧
    (∀ o, Tbl.look s.svc.fence n = some o → o < 4 → t.get (R.TILE_OWNER_OWNER n) = o) ∧
    (∀ m : Fin 20, m ≠ n → (t.tile m).edge = (s.tile m).edge ∧ t.rd (R.TILE_LP_FN m) = s.rd (R.TILE_LP_FN m)) ∧
    t.pending = s.pending ∧ t.net = s.net ∧ t.tm = s.tm

/-- R236 to R240, R242: a missing pair leaves ratios and signs and gives no error; a valid one is stored and its age returns to 0; the heater target
moves by at most STEP_MAX and stays what the law asks where it is not clamped; an error that would push further beyond a clamp leaves INTEG;
PIN_TRIM stays within TRIM_MAX. -/
def Obligations.LoopLawHoldsClampsAndTrims : Prop :=  (∀ (cx : LawCx) (h : Nat) (pin neg : Bool) (p : Pair) (r : ElemRec),
    let x := takePair cx h pin neg p r
    (p.missing = true → x.2 = none ∧ x.1.ratHome = r.ratHome ∧ x.1.ratPin = r.ratPin ∧ x.1.hsign = r.hsign ∧ x.1.psign = r.psign ∧
      x.1.ageH = min 255 (r.ageH + 1) ∧ x.1.ageP = min 255 (r.ageP + 1) ∧ x.1.integ = r.integ ∧ x.1.lowlight = (r.lowlight || p.low)) ∧
    (p.missing = false → x.1.lowlight = false ∧
      (pin = true → x.1.ratPin = p.ratio ∧ x.1.psign = neg ∧ x.1.ageP = 0 ∧ x.1.ratHome = r.ratHome ∧ x.1.ageH = min 255 (r.ageH + 1)) ∧
      (pin = false → x.1.ratHome = p.ratio ∧ x.1.hsign = neg ∧ x.1.ageH = 0 ∧ x.1.ratPin = r.ratPin ∧ x.1.ageP = min 255 (r.ageP + 1)) ∧
      (x.2.isSome = true → cx.dithEn = true ∧ (if pin then r.psign else r.hsign) ≠ neg))) ∧
  (∀ (s : State) (cx : LawCx) (e : Nat) (errH ffx : Int),
    let x := s.elem e
    let r := s.closedLoop cx e errH ffx false
    let u := s.phiNow e x.home + (x.integ + roundDiv (cx.ki * errH) 4096) + roundDiv (cx.kp * errH) 4096 + ffx
    (r.2.1 - x.htr ≤ cx.step ∧ x.htr - r.2.1 ≤ cx.step) ∧ (r.2.2 = false → r.2.1 = u) ∧
    (r.2.2 = true ↔ s.toSpan e u ≠ u ∨ u < x.htr - cx.step ∨ x.htr + cx.step < u) ∧
    (r.2.2 = true → (0 < errH ∧ r.2.1 < u ∨ errH < 0 ∧ u < r.2.1) → r.1 = x.integ) ∧
    (r.2.2 = false → r.1 = x.integ + roundDiv (cx.ki * errH) 4096)) ∧
  (∀ (s : State) (cx : LawCx) (e : Nat) (r : ElemRec) (v : Int),
    let x := s.nextTrim cx e r (some v)
    0 ≤ x.1 + cx.trimMax ∧ x.1 ≤ cx.trimMax ∧ (r.trimmed = true → x.2.2 = true)) ∧
  ∀ (s : State) (cx : LawCx) (e : Nat) (r : ElemRec), s.nextTrim cx e r none = (r.pinTrim, r.trimRun, r.trimmed)

/-- R185, R189, R192, R240, R243, R252, R255, R484: at a belay sub-step an element takes its commanded phase less the modelled heater phase; an overrun
belay, and a clamp that has lasted, are counted once and make a clear cell watched; the tenth overrunning frame may lengthen the period; a good
stream replaces the hub's mirror. -/
def Obligations.BelaysOverrunsAndMirrorStreams : Prop :=  (∀ (s : State) (n : Fin 20) (j : Fin 16), s.Live → s.engineServes n = true → (s.tile n).drives = true → Grp.wf s.fab.elems = true →
    Leaves (.belaySubstep n j) s fun t =>
      let u := s.advanceTo ((s.tile n).edge + j * s.period n / 16)
      t.t = u.t ∧
      (∀ e b, tileOf e = n.val → (s.elem e).belay = some b → 0 < b.frames → s.touchedNow e = false →
        s.flag (R.TILE_FD_BCTL_SRC n (e % 4096 / 256)) = false →
        let k := fdKey n (e % 4096 * 2)
        let ph := u.phiNow e (s.cell (posOf e)) - roundDiv (u.hmodAt e (u.now + s.period n / 32)) 65_536 + b.corr
        (t.elem e).pinPh = ph ∧
        ((s.fdch k).rangeUse = 1 → (s.fdch (k + 1)).rangeUse = 1 →
          (t.fdch k).active = (u.pinCodes e ph 0).1 ∧ (t.fdch (k + 1)).active = (u.pinCodes e ph 0).2)) ∧
      (∀ e, tileOf e = n.val → (s.elem e).belay = none → t.elem e = s.elem e) ∧ (∀ e, tileOf e ≠ n.val → t.elem e = s.elem e) ∧
      t.fab.cells = s.fab.cells ∧
      s.Touches t [.time, .fab, .drv, .recorder, .frames] [R.TILE_FD_CNT n 0, R.TILE_FD_CNT n 1, R.TILE_FD_CNT n 2]) ∧
  (∀ (s : State) (e : Fin 81920) (b : Belay), s.Live → (s.elem e).belay = some b → b.overrun = false → b.limit < b.frames → s.crv (e / 4) = 0 →
    Leaves (.belayOverrun e) s fun t =>
      t.elem e = { s.elem e with belay := some { b with overrun := true } } ∧
      t.get (whole (R.EPO_XCNT 3)) = satInc 32 (s.get (whole (R.EPO_XCNT 3))) ∧
      (∀ i, (s.ctx i).lit = true → e.val ∈ pathAll (s.ctx i).hops → (t.ctx i).reason = Code.EPO_BELAY_OVERRUN ∧ (t.ctx i).state = (s.ctx i).state) ∧
      Tbl.getD t.svc.crvAuto (e / 4) 0 = 1 ∧ s.Touches t [.fab, .cir, .svc, .recorder, .frames] [R.EPO_XCNT 3]) ∧
  (∀ (s : State) (e : Fin 81920), s.Live → (s.elem e).clamp = true → (s.elem e).clampTold = false →
    bits (s.tile (tileOf e)).use.clamp 31 16 ≤ (s.elem e).clampRun → s.crv (e / 4) = 0 → Leaves (.heaterClampReport e) s fun t =>
      let cnt := whole (R.TILE_LP_CNT (tileOf e) 3)
      t.elem e = { s.elem e with clampTold := true } ∧ t.get cnt = satInc 32 (s.get cnt) ∧ Tbl.getD t.svc.crvAuto (e / 4) 0 = 1 ∧
      s.Touches t [.fab, .cir, .svc, .recorder, .frames] [R.TILE_LP_CNT (tileOf e) 3]) ∧
  (∀ (s : State) (n : Fin 20), s.Live → (s.tile n).missed ≠ [] → s.get (R.TILE_LP_STS_OVR_RUN n) = 9 → (s.tile n).endAt = none →
    Leaves (.frameStretch n) s fun t =>
      let p := s.get (R.TILE_LP_PERIOD_P_USE n)
      t.t = max s.t (s.nextEdge n * 2 ^ 32) ∧ t.get (R.TILE_LP_STS_OVR_RUN n) = 0 ∧ (t.tile n).missed = [] ∧ (t.tile n).endAt = some t.now ∧
      (∀ e, e ∈ (s.tile n).missed → (t.elem e).stale = true) ∧ (∀ e, e ∉ (s.tile n).missed → t.elem e = s.elem e) ∧
      t.get (R.TILE_LP_PERIOD_P_USE n) = (if s.flag (R.TILE_LP_CTL_STRETCH_EN n) = true ∧ p < 8 then p + 1 else p) ∧
      s.Touches t [.time, .fab, .tiles, .recorder, .frames]
        [R.TILE_LP_STS n, R.TILE_LP_PERIOD n, R.TILE_LP_CNT n 0, R.TILE_LP_CNT n 1, R.TILE_LP_CNT n 2]) ∧
  (∀ (s : State) (n : Fin 20) (ok : Bool), s.Live → s.hubIn = true → (s.tile n).drives = true → s.engineServes n = true →
    (s.tile n).mirrorK ≠ s.get (whole (R.TILE_LP_FN n)) + 1 → Leaves (.mirrorStreamEnd n ok) s fun t =>
      t.t = max s.t (((s.tile n).edge + 2_000) * 2 ^ 32) ∧ t.flag (R.TILE_LP_STS_MIRROR_OK n) = ok ∧
      (ok = true → (t.tile n).mirror = s.elemsOf n ∧ (t.tile n).streamFails = 0) ∧
      (ok = false → (t.tile n).mirror = (s.tile n).mirror ∧ (t.tile n).streamFails = (s.tile n).streamFails + 1) ∧
      s.Touches t [.time, .tiles, .recorder, .frames] [R.TILE_LP_STS n])

/-- R248, R250, R257 to R259, R340, R538: setting `TILE_LP_CTL`.ENABLE runs its checks in order and starts the loops from DARKHOLD; clearing it is
refused while the tile is in use; NB, P_SET and the parameter registers take values that pass their checks and refuse others; the crosstalk table
takes writes while XT_EN reads 0. -/
def Obligations.LoopRegistersAreChecked : Prop :=  (∀ (s : State) (n : Fin 20) (v : Word), s.Served → Leaves (.tileLpCtlWrite n v) s fun t =>
    let was := s.flag (R.TILE_LP_CTL_ENABLE n)
    let on := bit v 0
    let nb := bits v 12 8
    let p := s.get (R.TILE_LP_PERIOD_P_SET n)
    let no (u : State) (code : Nat) : State := u.refuse (R.TILE_LP_CTL_REFUSE n) (Ev.loopConfigurationRefused n) code
    let fits : Bool := decide ((4_096 * (32 + 2 * nb) + 24_000) * 20 ≤
      19 * (240_000 * p - if s.get (R.TILE_OWNER_OWNER n) = 1 ∨ s.get (R.TILE_OWNER_OWNER n) = 2 then 19_200 else 0))
    let busy : Prop := s.flag R.EPO_CTL_ENABLE = true ∨ ∃ l, l < 4_096 ∧
      (s.carries (n * 4_096 + l) = true ∨ s.status (n * 4_096 + l) = 1 ∨ s.status (n * 4_096 + l) = 4)
    let checks : List (Bool × Nat) := [(!(decide (1 ≤ p) && decide (p ≤ 8)), Code.CFG_PERIOD_RANGE),
      (!(s.tblValid n && lawId (s.image n true) (s.get (R.TILE_LP_UCODE_LAW_SET n)) != 0), Code.CFG_LOOP_TABLES), (!fits, Code.CFG_FRAME_BUDGET)]
    let inUse : Prop := was = true ∧ on = false ∧ busy
    (inUse → t = no s Code.CFG_TILE_IN_USE) ∧ (¬ inUse → 16 < nb → t = no s Code.CFG_LOOP_PARAM) ∧
    (nb ≤ 16 → was = false → on = true →
      (∀ x, checks.find? (·.1) = some x → t = no ((s.take (R.TILE_LP_CTL n) v).put (R.TILE_LP_CTL_ENABLE n) 0) x.2) ∧
      (checks.find? (·.1) = none → t.flag (R.TILE_LP_CTL_ENABLE n) = true ∧ t.get (R.TILE_LP_CTL_REFUSE n) = 0 ∧
        t.get (R.TILE_LP_PERIOD_P_USE n) = p ∧ t.rd (R.TILE_LP_FN n) = 0 ∧
        (∀ l, l < 4_096 → let e := n * 4_096 + l
          (t.elem e).home = s.cell (posOf e) ∧ (t.elem e).belay = none ∧ (t.elem e).stale = false ∧ t.dsign e = (l % 2 == 1)) ∧
        (∀ e, tileOf e ≠ n.val → t.elem e = s.elem e) ∧ s.Touches t [.fab, .tiles] [R.TILE_LP_CTL n, R.TILE_LP_PERIOD n, R.TILE_LP_FN n])) ∧
    (¬ inUse → nb ≤ 16 → (was = true ∨ on = false) →
      if nb ≠ s.get (R.TILE_LP_CTL_NB n) ∧ fits = false then t = no s Code.CFG_FRAME_BUDGET
      else t = (s.take (R.TILE_LP_CTL n) v).put (R.TILE_LP_CTL_REFUSE n) 0)) ∧
  (∀ (s : State) (n : Fin 20) (v : Word), s.Served → Leaves (.lpPeriodWrite n v) s fun t =>
    let p := bits v 3 0
    let checks : List (Bool × Nat) := [(!(decide (1 ≤ p) && decide (p ≤ 8)), Code.CFG_PERIOD_RANGE),
      (!s.budget250 n p (s.get (R.TILE_LP_CTL_NB n)) 0, Code.CFG_FRAME_BUDGET), (!s.seqFits n (s.activeList n) p, Code.MC_SEQ_BUDGET)]
    (∀ x, checks.find? (·.1) = some x → t = s.refuse (R.TILE_LP_CTL_REFUSE n) (Ev.loopConfigurationRefused n) x.2) ∧
    (checks.find? (·.1) = none → t.get (R.TILE_LP_PERIOD_P_SET n) = p ∧ t.get (R.TILE_LP_CTL_REFUSE n) = 0 ∧
      (s.flag (R.TILE_LP_CTL_ENABLE n) = true →
        t.get (R.TILE_LP_PERIOD_P_USE n) = s.get (R.TILE_LP_PERIOD_P_USE n) ∧ t.tile n = { s.tile n with periodDue := true }) ∧
      (s.flag (R.TILE_LP_CTL_ENABLE n) = false → t.get (R.TILE_LP_PERIOD_P_USE n) = p ∧ t.tile n = s.tile n) ∧
      s.Touches t [.tiles] [R.TILE_LP_PERIOD n, R.TILE_LP_CTL n])) ∧
  (∀ (s : State) (n : Fin 20) (k : Fin 6) (v : Word), s.Served → Leaves (.lpParamWrite n k v) s fun t =>
    let hi := bits v 31 16
    let lo := bits v 15 0
    let a := [R.TILE_LP_GAIN n, R.TILE_LP_DITH n, R.TILE_LP_CLAMP n, R.TILE_LP_PIN n, R.TILE_LP_VHTR n, R.TILE_LP_LOW n].getD k 0
    let ok : Prop := [hi ≤ 0x2000 ∧ lo ≤ 0x1000,
      0x41 ≤ lo ∧ lo ≤ 0x831 ∧ 1 ≤ bits v 31 24 ∧ 2 * lo ≤ s.get (R.TILE_LP_CLAMP_STEP_MAX n),
      1 ≤ hi ∧ 2 * s.get (R.TILE_LP_DITH_DITH_AMP n) ≤ lo, hi ≤ 0x1000, 0x8CA ≤ lo ∧ lo ≤ 0xABE, True].getD k True
    (ok → t = (s.take a v).put (R.TILE_LP_CTL_REFUSE n) 0) ∧
    (¬ ok → t = s.refuse (R.TILE_LP_CTL_REFUSE n) (Ev.loopConfigurationRefused n) Code.CFG_LOOP_PARAM)) ∧
  (∀ (s : State) (e : Fin 81920) (j : Fin 16) (v : Word), s.Served → Leaves (.xtTableWrite e j v) s fun t =>
    let n := tileOf e
    let key := e.val % 4_096 * 16 + j.val
    if s.flag (R.TILE_LP_CTL_XT_EN n) = true then
      t = s.refuse (R.TILE_LP_CTL_REFUSE n) (Ev.loopConfigurationRefused n) Code.CFG_XT_LOCKED
    else
      Tbl.getD (t.tile n).xt key 0 = v &&& 0xCFFF_FFFF ∧ (∀ k, k ≠ key → Tbl.getD (t.tile n).xt k 0 = Tbl.getD (s.tile n).xt k 0) ∧
      t.tile n = { s.tile n with xt := (t.tile n).xt } ∧ t.get (R.TILE_LP_CTL_REFUSE n) = 0 ∧ (∀ m, m ≠ n → t.tile m = s.tile m) ∧
      s.Touches t [.tiles] [R.TILE_LP_CTL n])

/-! ## Loop programs and tuning -/

/-- R264, R267 to R270: LAW_SET is judged against the active image; COMMIT starts the checks, whose first failure refuses it; an accepted one is pending
until the banks exchange at an eligible edge, is cancelled, or times out; each exchange leaves both images as they are. A write to the window goes
to the standby bank, and none is taken while a commit is pending. -/
def Obligations.MicrocodeIsCheckedAndExchanged : Prop :=  (∀ (s : State) (n : Fin 20) (v : Word) (i : Instr), s.Served →
    (i = .ucodeCommit n v ∧ bit v 0 = true ∨ i = .ucodeCancel n v ∧ bit v 1 = true ∨ i = .lawSetWrite n v) → Leaves i s fun t =>
      let law := bits v 5 4
      let b := s.image n true
      let cap := 240_000 * s.get (R.TILE_LP_PERIOD_P_SET n) - if s.get (R.TILE_OWNER_OWNER n) = 1 ∨ s.get (R.TILE_OWNER_OWNER n) = 2 then 19_200 else 0
      let fits : Bool := decide ((4_096 * (lawCost b law 1 + 2 * s.get (R.TILE_LP_CTL_NB n)) + lawCost b law 0) * 20 ≤ 19 * cap)
      let fails : List (Bool × Nat) := [(decide (nMain b ≤ law), Code.CFG_UCODE_INVALID), (!fits, Code.CFG_FRAME_BUDGET)]
      let new : Prop := law ≠ s.get (R.TILE_LP_UCODE_LAW_SET n)
      (∀ x, new → fails.find? (·.1) = some x → t = s.refuse (R.TILE_LP_CTL_REFUSE n) (Ev.commitRefused n) x.2) ∧
      ((new → fails.find? (·.1) = none) →
        t.get (R.TILE_LP_UCODE_LAW_SET n) = law ∧ t.get (R.TILE_LP_UCODE_LAW_USE n) = s.get (R.TILE_LP_UCODE_LAW_USE n) ∧
        t.get (R.TILE_LP_CTL_REFUSE n) = 0 ∧
        t.flag (R.TILE_LP_UCODE_PENDING n) = (s.flag (R.TILE_LP_UCODE_PENDING n) && !bit v 1) ∧
        t.tile n = { s.tile n with checking := if bit v 0 then some s.now else (s.tile n).checking } ∧
        s.Touches t [.tiles] [R.TILE_LP_UCODE n, R.TILE_LP_CTL n])) ∧
  (∀ (s : State) (n : Fin 20) (sigOk : Bool), s.Live → (s.tile n).checking.isSome = true → Leaves (.ucodeCheckDone n sigOk) s fun t =>
    let b := s.image n false
    let law := s.get (R.TILE_LP_UCODE_LAW_SET n)
    let owner := s.get (R.TILE_OWNER_OWNER n)
    let cap := 240_000 * s.get (R.TILE_LP_PERIOD_P_SET n) - if owner = 1 ∨ owner = 2 then 19_200 else 0
    let fails : List (Bool × Nat) := [
      (s.flag (R.TILE_LP_UCODE_PENDING n) || (s.tile n).probe.isSome || (s.tile n).learn.isSome || owner == 1 || owner == 2, Code.CFG_UCODE_BUSY),
      (!imageFormed b, Code.CFG_UCODE_INVALID), (!imageCrc b || !sigOk, Code.CFG_UCODE_INVALID), (decide (nMain b ≤ law), Code.CFG_UCODE_INVALID),
      (decide (19 * cap < (4_096 * (lawCost b law 1 + 2 * s.get (R.TILE_LP_CTL_NB n)) + lawCost b law 0) * 20), Code.CFG_FRAME_BUDGET)]
    t.flag (R.TILE_LP_UCODE_CRC_OK n) = imageCrc b ∧ t.flag (R.TILE_LP_UCODE_SIG_OK n) = sigOk ∧ (t.tile n).checking = none ∧
    t.image n true = s.image n true ∧ t.image n false = b ∧
    (∀ x, fails.find? (·.1) = some x → t.get (R.TILE_LP_CTL_REFUSE n) = x.2 ∧
      t.flag (R.TILE_LP_UCODE_PENDING n) = s.flag (R.TILE_LP_UCODE_PENDING n)) ∧
    (fails.find? (·.1) = none → t.flag (R.TILE_LP_UCODE_PENDING n) = true ∧ t.get (R.TILE_LP_CTL_REFUSE n) = 0 ∧ t.passed n false = true) ∧
    s.Touches t [.tiles, .recorder, .frames] [R.TILE_LP_UCODE n, R.TILE_LP_CTL n]) ∧
  (∀ (s : State) (n : Fin 20), s.Live → s.flag (R.TILE_LP_UCODE_PENDING n) = true → s.tileOwner n = 0 → s.engineServes n = true →
    (∀ tr, tr ∈ s.fab.trans → tr.phase = 0 ∨ s.nextEdge n ≤ tr.e - tr.gb ∨ tr.e ≤ s.nextEdge n) →
    (∀ l, l < 4_096 → s.law (n * 4_096 + l) ≠ 4 ∧ s.law (n * 4_096 + l) ≠ 1) → Leaves (.ucodeExchange n) s fun t =>
      t.t = max s.t (s.nextEdge n * 2 ^ 32) ∧ t.flag (R.TILE_LP_UCODE_PENDING n) = false ∧
      t.image n true = s.image n false ∧ t.image n false = s.image n true ∧
      t.get (R.TILE_LP_UCODE_IMG_VER n) = bankWord (s.image n false) 0 % 2 ^ 16 ∧
      s.Touches t [.time, .recorder, .frames] [R.TILE_LP_UCODE n]) ∧
  (∀ (s : State) (n : Fin 20), s.Live → s.flag (R.TILE_LP_UCODE_PENDING n) = true → 2_000 ≤ (s.tile n).pendingFrames →
    Leaves (.ucodeCommitTimeout n) s fun t =>
      t = (s.put (R.TILE_LP_UCODE_PENDING n) 0).refuse (R.TILE_LP_CTL_REFUSE n) (Ev.commitRefused n) Code.CFG_UCODE_TIMEOUT) ∧
  (∀ (s : State) (n : Fin 20), s.Live → 10 ≤ (s.tile n).abandonRun → s.passed n false = true → Leaves (.ucodeFallback n) s fun t =>
    t.t = max s.t (s.nextEdge n * 2 ^ 32) ∧ t.image n true = s.image n false ∧ t.image n false = s.image n true ∧
    t.get (R.TILE_LP_UCODE_IMG_VER n) = bankWord (s.image n false) 0 % 2 ^ 16 ∧
    (t.tile n).abandonRun = 0 ∧ (t.tile n).probe = none ∧ (t.tile n).learn = none ∧
    s.Touches t [.time, .tiles, .recorder, .frames] [R.TILE_LP_UCODE n, R.TILE_LP_PRB_STS n, R.TILE_LP_XL_CTL n]) ∧
  (∀ (s : State) (n : Fin 20) (k : Fin 32768) (v : Word), s.Served → Leaves (.ucodeWindowWrite n k v) s fun t =>
    if s.flag (R.TILE_LP_UCODE_PENDING n) = true then
      t = s.refuse (R.TILE_LP_CTL_REFUSE n) (Ev.loopConfigurationRefused n) Code.CFG_UCODE_BUSY
    else
      Tbl.getD (t.image n false) k 0 = v ∧ (∀ j, j ≠ k.val → Tbl.getD (t.image n false) j 0 = Tbl.getD (s.image n false) j 0) ∧
      t.image n true = s.image n true ∧ t.flag (R.TILE_LP_UCODE_CRC_OK n) = false ∧ t.flag (R.TILE_LP_UCODE_SIG_OK n) = false ∧
      t.get (R.TILE_LP_CTL_REFUSE n) = 0 ∧ s.Touches t [.tiles] [R.TILE_LP_UCODE n, R.TILE_LP_CTL n])

/-- R271 to R274, R276, R277, R279: START is refused by the first failing condition, or starts a probe or a learning run from its first frame; STOP
marks a running probe to end at the next edge; ABORT ends a learning run at once; a probe injects only in its injection frames, by its wave; a read
of `TILE_LP_CAP_DATA` returns the word at ADDR and moves on. -/
def Obligations.ProbesLearningRunsAndCapture : Prop :=  (∀ (s : State) (n : Fin 20) (v : Word), s.Served → bit v 0 = true → Leaves (.probeStart n v) s fun t =>
    let set := s.probeSet n
    let amp := (sx 16 (s.get (R.TILE_LP_PRB_AMP_AMP n))).natAbs
    let lim := s.get (R.TILE_LP_PRB_AMP_LIT_MAX n)
    let f0 := s.get (R.TILE_LP_PRB_CHIRP_F0 n)
    let f1 := s.get (R.TILE_LP_PRB_CHIRP_F1 n)
    let fits (e : Nat) : Bool := (s.status e == 0 || s.status e == 3) &&
      (if s.carries e then !bit v 4 && decide (amp ≤ lim) else !s.used e && s.reachDark e)
    let fails : List (Bool × Nat) := [(decide (2 ≤ s.level), Code.THM_THROTTLED),
      ((s.tile n).probe.isSome || (s.tile n).learn.isSome || s.flag (R.TILE_LP_UCODE_PENDING n) || !s.flag (R.TILE_LP_CTL_ENABLE n), Code.CFG_CAPTURE_BUSY),
      (!(decide (1 ≤ set.length) && decide (set.length ≤ 64) && decide (1 ≤ s.get (R.TILE_LP_PRB_TIME_LEN n)) && decide (lim ≤ 0x200) &&
        decide (amp ≤ if bit v 4 then 1_023 else 16_384) && (bits v 3 2 != 2 || (decide (f0 ≤ f1) && decide (f1 ≤ 0x8000)))), Code.CFG_PROBE_PARAM),
      (!s.budget250 n (s.get (R.TILE_LP_PERIOD_P_SET n)) (s.get (R.TILE_LP_CTL_NB n)) (32 * set.length), Code.CFG_FRAME_BUDGET),
      (!set.all fits, Code.CFG_PROBE_CONFLICT)]
    (∀ x, fails.find? (·.1) = some x → t.get (R.TILE_LP_PRB_STS_END n) = x.2 ∧ t.tile n = s.tile n ∧
      ((s.tile n).probe = none → t.get (R.TILE_LP_PRB_STS_STATE n) = 0) ∧ s.Touches t [.recorder, .frames] [R.TILE_LP_PRB_STS n]) ∧
    (fails.find? (·.1) = none → t.get (R.TILE_LP_PRB_STS_STATE n) = 1 ∧ t.flag (R.TILE_LP_PRB_STS_FULL n) = false ∧
      t.get (R.TILE_LP_CAP_WP_WP n) = 0 ∧ (t.tile n).stopDue = bit v 1 ∧
      (∃ p, (t.tile n).probe = some p ∧ p.k = 0 ∧ p.set = set.map (fun e => (e, s.carries e)) ∧ p.cfg = t.rd (R.TILE_LP_PRB_CFG n) ∧
        p.amp = s.rd (R.TILE_LP_PRB_AMP n) ∧ p.time = s.rd (R.TILE_LP_PRB_TIME n) ∧ p.chirp = s.rd (R.TILE_LP_PRB_CHIRP n)) ∧
      s.Touches t [.tiles] [R.TILE_LP_PRB_CFG n, R.TILE_LP_PRB_STS n, R.TILE_LP_CAP_WP n])) ∧
  (∀ (s : State) (n : Fin 20) (v : Word), s.Served → bit v 1 = true → bit v 0 = false → Leaves (.probeStop n v) s fun t =>
    t.rd (R.TILE_LP_PRB_CFG n) = (s.take (R.TILE_LP_PRB_CFG n) v).rd (R.TILE_LP_PRB_CFG n) ∧
    t.tile n = (if (s.tile n).probe.isSome then { s.tile n with stopDue := true } else s.tile n) ∧
    s.Touches t [.tiles] [R.TILE_LP_PRB_CFG n]) ∧
  (∀ (s : State) (n : Fin 20), s.Served → Leaves (.capDataRead n) s fun t =>
    let a := s.get (R.TILE_LP_CAP_ADDR_ADDR n)
    t.bus = Tbl.getD (s.tile n).cap a 0 ∧ t.get (R.TILE_LP_CAP_ADDR_ADDR n) = (a + 1) % 2 ^ 18 ∧ s.Touches t [.bus] [R.TILE_LP_CAP_ADDR n]) ∧
  (∀ (s : State) (n : Fin 20) (v : Word), s.Served → bit v 0 = true → bit v 1 = false → Leaves (.learnStart n v) s fun t =>
    let fails : List (Bool × Nat) := [(decide (2 ≤ s.level), Code.THM_THROTTLED),
      ((s.tile n).probe.isSome || (s.tile n).learn.isSome || s.flag (R.TILE_LP_UCODE_PENDING n) || !s.flag (R.TILE_LP_CTL_ENABLE n), Code.CFG_CAPTURE_BUSY),
      (s.flag (R.TILE_LP_CTL_XT_EN n), Code.CFG_XT_LOCKED)]
    (∀ x, fails.find? (·.1) = some x → t.get (R.TILE_LP_XL_CTL_END n) = x.2 ∧ t.tile n = s.tile n ∧
      ((s.tile n).learn = none → t.get (R.TILE_LP_XL_CTL_STATE n) = 0) ∧ s.Touches t [.recorder, .frames] [R.TILE_LP_XL_CTL n]) ∧
    (fails.find? (·.1) = none → t.get (R.TILE_LP_XL_CTL_STATE n) = 1 ∧ t.get (R.TILE_LP_XL_CTL_PASS n) = 0 ∧ t.get (R.TILE_LP_XL_CTL_REP n) = 0 ∧
      t.flag (R.TILE_LP_XL_CTL_AUTO_APPLY n) = bit v 2 ∧
      (∃ l, (t.tile n).learn = some l ∧ l.k = 0 ∧ l.pass = 0 ∧ l.rep = 0 ∧ l.sums = [] ∧ l.dead = []) ∧ s.Touches t [.tiles] [R.TILE_LP_XL_CTL n])) ∧
  (∀ (s : State) (n : Fin 20) (v : Word), s.Served → bit v 1 = true → bit v 0 = false → (s.tile n).learn.isSome = true →
    Leaves (.learnAbort n v) s fun t =>
      (t.tile n).learn = none ∧ t.get (R.TILE_LP_XL_CTL_STATE n) = 3 ∧ t.tile n = { s.tile n with learn := none } ∧
      s.Touches t [.tiles, .recorder, .frames] [R.TILE_LP_XL_CTL n]) ∧
  ∀ (p : Probe) (e k : Nat),
    let d := bits p.time 15 0
    let n := bits p.time 31 16
    let amp := sx 16 (bits p.amp 15 0)
    (k < d ∨ d + n ≤ k → p.inject e k = 0) ∧
    (d ≤ k → k < d + n → (bits p.cfg 3 2 = 0 → p.inject e k = amp) ∧ (bits p.cfg 3 2 = 1 → p.inject e k = amp ∨ p.inject e k = Int.neg amp) ∧
      (bits p.cfg 3 2 = 3 → p.inject e k = 0))

/-! ## Heater drive -/

/-- R285, R287, R289, R291 to R294: outside a change the two arms share U with on-time carried exactly; a change leaves U − DEAD; the centred arm's
pulse is 0 or at least W_MIN and the edge arm keeps W_MIN + 16; what is carried stays below W_MIN; over 16 steps arm A's width sums to w16. R283,
R288, R291, R296, R298 to R300: at an update point a due shadow duty becomes active, an armed TOP takes effect with every tagged duty old enough or
ages, SWAP and INV are taken, and each channel emits its window; at the 1,024th without effect the armed TOP and the tagged duties are discarded.
R288, R290, R295, R297 to R299: a bank's registers are checked in order; an accepted ENABLE takes TOP_SET and the shadow duties with arm A centred;
a clear turns the bank off at its next update point; a duty write needs a direct bank, a count within TOP, and is held while its tag is the armed
one. -/
def Obligations.HeaterDriveSharesUpdatesAndChecks : Prop :=
  ( (∀ (x : HtrCh) (wA u dead least : Nat), wA ≤ u → u % 2 = 0 → dead ≤ least → 4 * least + 64 ≤ u → x.acc < max 1 least →
    let r := windowOf x wA u dead least
    let swapB := r.ch.swap != r.ch.centreB
    let w := if swapB then r.ch.wB else r.ch.wA
    let m := if r.ch.centreB then u - wA else wA
    (r.change = true ↔ if x.centreB then wA + 16 < u / 2 else u / 2 + 16 < wA) ∧ r.ch.centreB = (x.centreB != r.change) ∧
    r.ch.wA + r.ch.wB = u - (if r.change then dead else 0) ∧
    (r.change = false → w + r.ch.acc = x.acc + m) ∧ (r.change = true → w + r.ch.acc = m - x.acc) ∧
    (w = 0 ∨ least ≤ w) ∧ w + least + 16 ≤ u - (if r.change then dead else 0) ∧ r.ch.acc < max 1 least ∧
    (r.runt = true → w = 0 ∧ 0 < r.ch.acc) ∧ (r.release = true → least ≤ w ∧ r.change = false ∧ 0 < x.acc) ∧
    r.ch.active = x.active ∧ r.ch.shadow = x.shadow) ∧
  (∀ (s : State) (t b : Nat) (x : HtrCh), s.countMode t b = false →
    ((List.range 16).map (s.widthA t b x)).sum = ((if x.inv then 65_536 - x.active else x.active) * s.onTime t b * 16 + 32_768) / 65_536) ∧
  (∀ (s : State) (t b p : Nat) (x : HtrCh), x.active < 65_536 → s.widthA t b x p ≤ s.onTime t b ∧
    (s.countMode t b = true → x.inv = false → x.active / 16 ≤ s.top t b →
      s.widthA t b x p = min (2 * (x.active / 16 + if bitrev4 p < x.active % 16 then 1 else 0) - s.dead t b) (s.onTime t b))) ∧
  ∀ p k, p < 16 → k ≤ 16 → bitrev4 (bitrev4 p) = p ∧ ((List.range 16).filter fun q => bitrev4 q < k).length = k) ∧
  ( (∀ (s : State) (n : Fin 20) (b : Fin 16), s.Live → (s.pwb n b).runs = true → s.drv.off = false → (s.pwb n b).offDue = false →
    Leaves (.pwmUpdatePoint n b) s fun t =>
      let x := s.pwb n b
      let period := max 1 (2 * s.top n b)
      let k := (s.now - x.next + period - 1) / period
      let point := x.next + k * period
      let due : Bool := x.armed.isSome && s.topDue n b point
      let u := match x.armed with
        | some (top, _) => if due then s.put (R.TILE_PW_BSTS_TOP_USE n b) top else s
        | none => s
      let dies : Bool := x.armed.isSome && !due && decide (1_023 ≤ x.age + k)
      t.t = max s.t (point * 2 ^ 32) ∧ s.now ≤ point ∧
      t.get (R.TILE_PW_BSTS_TOP_USE n b) = u.get (R.TILE_PW_BSTS_TOP_USE n b) ∧
      (t.pwb n b).runs = true ∧ (t.pwb n b).next = point + 2 * u.top n b ∧ (t.pwb n b).step = ((x.step + k) % 16 + 1) % 16 ∧
      (t.pwb n b).armed = (if due || dies then none else x.armed) ∧
      (x.armed.isSome = true → due = false → dies = false → (t.pwb n b).age = x.age + k + 1) ∧
      (dies = true → t.get (R.TILE_PW_BCTL_REFUSE n b) = Code.PWM_SPLIT_DISCARDED) ∧
      (∀ l, l < 256 → let e := n.val * 4_096 + b.val * 256 + l
        let h := s.htr e
        let h := match h.tagged with
          | none => h
          | some (d, w) =>
            if dies then { h with tagged := none }
            else if due = false then h
            else if w + 4 ≤ point then { h with shadow := d, active := d, wait := none, tagged := none }
            else { h with shadow := d, wait := some (w + 4), tagged := none }
        let h := match h.wait with
          | some w => if w ≤ point then { h with active := h.shadow, wait := none } else h
          | none => h
        let h := { h with swap := s.flag (R.TILE_PW_CHCFG_SWAP n (b.val * 256 + l)), inv := s.flag (R.TILE_PW_CHCFG_INV n (b.val * 256 + l)) }
        t.htr e = (windowOf h (u.widthA n b h ((x.step + k) % 16)) (u.onTime n b) (s.dead n b) (s.wMin n b)).ch) ∧
      (∀ e, e / 256 ≠ n.val * 16 + b.val → t.htr e = s.htr e) ∧ (∀ n' b', 16 * n' + b' ≠ 16 * n.val + b.val → t.pwb n' b' = s.pwb n' b') ∧
      s.Touches t [.time, .drv, .recorder, .frames]
        [R.TILE_PW_BCTL n b, R.TILE_PW_BSTS n b, R.TILE_PW_BCNT n b 0, R.TILE_PW_BCNT n b 1, R.TILE_PW_BCNT n b 3]) ∧
  (∀ (s : State) (n : Fin 20) (b : Fin 16), s.Live → (s.pwb n b).armed.isSome = true → (s.pwb n b).runs = true →
    1_023 ≤ (s.pwb n b).age + (s.updatePoint n b).2 → s.topDue n b (s.updatePoint n b).1 = false → Leaves (.pwmTopDiscard n b) s fun t =>
      t.t = max s.t ((s.updatePoint n b).1 * 2 ^ 32) ∧ (t.pwb n b).armed = none ∧
      t.get (R.TILE_PW_BCTL_REFUSE n b) = Code.PWM_SPLIT_DISCARDED ∧ t.get (R.TILE_PW_BSTS_TOP_USE n b) = s.get (R.TILE_PW_BSTS_TOP_USE n b) ∧
      (∀ e, t.htr e = if e / 256 = n.val * 16 + b.val then { s.htr e with tagged := none } else s.htr e) ∧
      s.Touches t [.time, .drv, .recorder, .frames] [R.TILE_PW_BCTL n b])) ∧
  ( (∀ (s : State) (n : Fin 20) (b : Fin 16) (v : Word), s.Served → Leaves (.pwmBctlWrite n b v) s fun t =>
    let a := R.TILE_PW_BCTL n b
    let en := R.TILE_PW_BCTL_ENABLE n b
    let no (u : State) (code : Nat) : State := u.refuse (R.TILE_PW_BCTL_REFUSE n b) (Ev.heaterDriveRefusal n) code
    let was := s.flag en
    let used : Prop := ∃ l, l < 256 ∧ let e := n.val * 4_096 + b.val * 256 + l
      s.carries e = true ∨ (s.elem e).belay.isSome = true ∨ (s.elem e).belayDue = true ∨ (s.elem e).prov.isSome = true
    let top := s.get (R.TILE_PW_BTOP_TOP_SET n b)
    let formed : Prop := 64 ≤ top ∧ top ≤ 4_095 ∧ s.get (R.TILE_PW_BTIM_PHASE n b) < 2 * top ∧
      4 * max (s.get (R.TILE_PW_BTIM_MINP n b)) (s.get (R.TILE_PW_BTIM_DEAD n b)) + 64 + 2 * s.get (R.TILE_PW_BTIM_DEAD n b) ≤ 2 * top ∧
      (bit v 4 = true → bit v 5 = true)
    let locked : Prop := was = true ∧ s.rwcHit a v = true
    let held : Prop := was = true ∧ bit v 0 = false ∧ s.flag (R.TILE_PW_BCTL_SRC n b) = false ∧ used
    (locked → t = no s Code.PWM_CFG_LOCKED) ∧ (¬ locked → held → t = no s Code.PWM_BANK_IN_USE) ∧
    (was = false → bit v 0 = true → ¬ formed → t = no (((s.take a v).put (R.TILE_PW_BCTL_REFUSE n b) 0).put en 0) Code.PWM_CONFIG) ∧
    (was = false → bit v 0 = true → formed → ∃ u, (if bit v 5 then t = u else t = s.crvChange u (bankCells n b)) ∧
      u.flag en = true ∧ u.get (R.TILE_PW_BCTL_REFUSE n b) = 0 ∧ u.get (R.TILE_PW_BSTS_TOP_USE n b) = top ∧
      (u.pwb n b).runs = false ∧ (u.pwb n b).step = 0 ∧
      (∀ e, u.htr e = let x := s.htr e
        if e / 256 = n.val * 16 + b.val then { x with active := x.shadow, wait := none, acc := 0, centreB := false, wA := 0, wB := 0 } else x) ∧
      s.Touches u [.drv, .recorder, .frames] [a, R.TILE_PW_BSTS n b]) ∧
    (¬ locked → ¬ held → was = true → bit v 0 = false →
      ∃ u, (if s.flag (R.TILE_PW_BCTL_SRC n b) then t = u else t = s.crvChange u (bankCells n b)) ∧
        u.flag en = false ∧ (u.pwb n b).armed = none ∧ (u.pwb n b).runs = (s.pwb n b).runs ∧ (u.pwb n b).offDue = (s.pwb n b).runs ∧
        u.get (R.TILE_PW_BCTL_REFUSE n b) = (if (s.pwb n b).armed.isSome then Code.PWM_SPLIT_DISCARDED else 0) ∧
        s.Touches u [.drv, .recorder, .frames] [a]) ∧
    (¬ locked → was = bit v 0 → t = (s.take a v).put (R.TILE_PW_BCTL_REFUSE n b) 0)) ∧
  (∀ (s : State) (n : Fin 20) (b : Fin 16) (v : Word), s.Served → bit v 31 = true → Leaves (.pwmTopArm n b v) s fun t =>
      let on := s.flag (R.TILE_PW_BCTL_ENABLE n b)
      let top := bits v 11 0
      let d := s.get (R.TILE_PW_BTIM_DEAD n b)
      let formed : Bool := decide (64 ≤ top) && decide (top ≤ 4_095) && decide (s.get (R.TILE_PW_BTIM_PHASE n b) < 2 * top) &&
        decide (4 * max (s.get (R.TILE_PW_BTIM_MINP n b)) d + 64 + 2 * d ≤ 2 * top)
      let checks : List (Bool × Nat) := [((s.pwb n b).armed.isSome, Code.PWM_TOP_ARMED), (!formed, Code.PWM_CONFIG),
        (s.flag (R.TILE_PW_BCTL_MODE n b) && bits v 23 16 == 0, Code.PWM_CONFIG),
        (!s.flag (R.TILE_PW_BCTL_MODE n b) && !s.flag (R.TILE_PW_BCTL_SRC n b) && s.bankInUse n b, Code.PWM_BANK_IN_USE)]
      (on = false → t = (s.take (R.TILE_PW_BTOP n b) v).put (R.TILE_PW_BCTL_REFUSE n b) 0) ∧
      (∀ x, on = true → checks.find? (·.1) = some x → t = s.refuse (R.TILE_PW_BCTL_REFUSE n b) (Ev.heaterDriveRefusal n) x.2) ∧
      (on = true → checks.find? (·.1) = none → (t.pwb n b) = { s.pwb n b with armed := some (top, bits v 23 16), age := 0 } ∧
        t.get (R.TILE_PW_BTOP_TOP_SET n b) = top ∧ t.get (R.TILE_PW_BSTS_TOP_USE n b) = s.get (R.TILE_PW_BSTS_TOP_USE n b) ∧
        t.get (R.TILE_PW_BCTL_REFUSE n b) = 0 ∧ t.drv.htr = s.drv.htr ∧ s.Touches t [.drv] [R.TILE_PW_BTOP n b, R.TILE_PW_BCTL n b])) ∧
  (∀ (s : State) (n : Fin 20) (l : Fin 4096) (v : Word), s.Served → Leaves (.pwmDutyWrite n l v) s fun t =>
    let e := n.val * 4_096 + l.val
    let b := l.val / 256
    let re := R.TILE_PW_BCTL_REFUSE n b
    let count := s.flag (R.TILE_PW_BCTL_MODE n b)
    let own := (s.pwb n b).armed.any fun a => count && a.2 == bits v 23 16
    let limit := if own then ((s.pwb n b).armed.map (·.1)).getD 0 else s.get (R.TILE_PW_BSTS_TOP_USE n b)
    let serves : Bool := s.engineServes n
    if s.flag (R.TILE_PW_BCTL_SRC n b) = false then t = s.refuse re (Ev.heaterDriveRefusal n) Code.PWM_NOT_DIRECT
    else if serves = false then t = s
    else if count = true ∧ limit < bits v 15 4 then t = s.refuse re (Ev.heaterDriveRefusal n) Code.PWM_DUTY_RANGE
    else
      t.htr e = (if own then { s.htr e with tagged := some (bits v 15 0, s.now) }
        else { s.htr e with shadow := bits v 15 0, tag := bits v 23 16, wait := some (s.now + 4) }) ∧
      t.get re = 0 ∧ (∀ e', e' ≠ e → t.htr e' = s.htr e') ∧ t.drv.banks = s.drv.banks ∧ s.Touches t [.drv] [R.TILE_PW_BCTL n b]) ∧
  (∀ (s : State) (n : Fin 20) (l : Fin 4096) (v : Word), s.Served → Leaves (.pwmChcfgWrite n l v) s fun t =>
    let a := R.TILE_PW_CHCFG n l
    let re := R.TILE_PW_BCTL_REFUSE n (l.val / 256)
    if bits (s.rd a) 1 0 ≠ bits v 1 0 ∧ s.inUse (n.val * 4_096 + l.val) = true then
      t = s.refuse re (Ev.heaterDriveRefusal n) Code.PWM_BANK_IN_USE
    else t = (s.take a v).put re 0 ∧ bits (t.rd a) 1 0 = bits v 1 0) ∧
  (∀ (s : State) (n : Fin 20) (b : Fin 16) (k : Fin 8) (v : Word), s.Served → Leaves (.pwmUsetWrite n b k v) s fun t =>
    if (s.pwb n b).armed.isSome = true then
      t = s.refuse (R.TILE_PW_BCTL_REFUSE n b) (Ev.heaterDriveRefusal n) Code.PWM_TOP_ARMED
    else t = (s.take (R.TILE_PW_USET n b k) v).put (R.TILE_PW_BCTL_REFUSE n b) 0 ∧ t.rd (R.TILE_PW_USET n b k) = v))

/-! ## Monitor conversion -/

/-- R338, R339, R345, R351, R353, R362: a shadow list is judged in the order of R339 at COMMIT and at ENABLE; an accepted one waits to become active;
RWC fields, a tile in use and a second held bank are refused; a correction entry is written at IDX, which moves on; TRIG_T is read as a snapshot.
R342 to R344, R350, R352, R359: the spare becomes active or retires and the next slice follows it; an edge of TRIG_IN starts a sequence 20 ns later
or is counted; SYNC_OUT rises at its grid point or sequence start; the anchor converter refuses START in order, and posts its result when its window
has ended. -/
def Obligations.MonitorSequencesTriggersAndAnchor : Prop :=
  ( (∀ (s : State) (n : Nat) (l : List Word) (p : Nat), s.seqFits n l p = true ↔ ∀ r, r < 3 →
    let a := (s.slices n).length
    let rd := ((511 + max 1 a) / max 1 a + 1) * 125
    let tint (i : Nat) := bits (if i = 16 then s.rd (R.TILE_MC_TAP_CFG n) else l.getD i 0) 9 0 * 125
    let run := ((List.range l.length).filter fun i => bit (l.getD i 0) 31 && (!bit (l.getD i 0) 30 || bits (l.getD i 0) 29 28 == r)) ++
      if (n = 0 ∨ n = 9) ∧ s.flag (R.TILE_MC_TAP_CFG_TAP_EN n) = true then [16] else []
    run = [] ∨ (∀ i, i < run.length → tint (run.getD i 0) ≤ tint (run.headD 0) + i * rd) ∧ tint (run.headD 0) + run.length * rd ≤ p * 50_000) ∧
  (∀ (s : State) (n : Fin 20) (v : Word) (i : Instr), s.Served → (i = .mcCtlWrite n v ∨ i = .mcCommit n v ∧ bit v 1 = true) → Leaves i s fun t =>
    let a := R.TILE_MC_CTL n
    let en := R.TILE_MC_CTL_ENABLE n
    let re := R.TILE_MC_CTL_REFUSE n
    let src := R.TILE_MC_CTL_SRC n
    let no (u : State) (code : Nat) : State := u.refuse re (Ev.conversionRefusal n) code
    let was := s.flag en
    let on := bit v 0
    let l := (List.range 16).map fun k => s.rd (R.TILE_MC_SEQ n k)
    let w (k : Nat) := s.rd (R.TILE_MC_SEQ n k)
    let formed : Prop := ∃ m, m ≤ 16 ∧ (∀ k, m ≤ k → k < 16 → bit (w k) 31 = false) ∧ ∀ k, k < m → bit (w k) 31 = true ∧
      4 ≤ bits (w k) 9 0 ∧ bits (w k) 9 0 ≤ 640 ∧ (if bit (w k) 30 then bits (w k) 29 28 ≤ 2 else bits (w k) 29 28 = 0)
    let covers : Prop := ∀ b, b < 16 → ∃ k, k < 16 ∧ bit (w k) 31 = true ∧ bits (w k) 19 16 = b ∧
      ∀ k', k' < 16 → bit (w k') 31 = true → bits (w k') 19 16 = b → k' = k
    let fits : Prop := s.seqFits n l (s.get (R.TILE_LP_PERIOD_P_USE n)) = true ∧ s.seqFits n l (s.get (R.TILE_LP_PERIOD_P_SET n)) = true
    let fails : List (Bool × Nat) := [(was && s.rwcHit a v, Code.MC_CFG_LOCKED), (was && !on && s.flag (R.TILE_LP_CTL_ENABLE n), Code.MC_TILE_IN_USE),
      (bit v 2 && !s.flag src && s.tileInUse n, Code.MC_TILE_IN_USE)]
    let judged : Prop := was = false ∧ on = true ∨ bit v 1 = true
    let good : Prop := formed ∧ (bit v 2 = false → covers) ∧ fits
    let bad (code : Nat) : Prop := if was = false ∧ on = true then
        ∃ u, u = no (((s.take a v).put re 0).put en 0) code ∧ (if bit v 2 = s.flag src then t = u else t = s.crvChange u (tileCells n))
      else t = no s code
    (∀ x, fails.find? (·.1) = some x → t = no s x.2) ∧
    (fails.find? (·.1) = none → judged →
      (¬ formed → bad Code.MC_SEQ_INVALID) ∧ (formed → bit v 2 = false → ¬ covers → bad Code.MC_SEQ_COVER) ∧
      (formed → (bit v 2 = false → covers) → ¬ fits → bad Code.MC_SEQ_BUDGET)) ∧
    (fails.find? (·.1) = none → judged → good → was = false → on = true → bit v 2 = true → s.tileInUse n = true → bad Code.MC_TILE_IN_USE) ∧
    (fails.find? (·.1) = none → (judged → good) → (was = true ∨ on = false ∨ bit v 2 = false ∨ s.tileInUse n = false) → ∃ u, (if bit v 2 = s.flag src then t = u else t = s.crvChange u (tileCells n)) ∧
      u.rd a = ((s.take a v).put re 0).rd a ∧ u.flag en = on ∧ u.get re = 0 ∧
      (judged → (u.tile n).listWait = some l) ∧ (¬ judged → (u.tile n).listWait = (s.tile n).listWait) ∧
      (was = true → on = false → (u.tile n).seqRun = []) ∧ (∀ m, m ≠ n.val → u.tile m = s.tile m) ∧ s.Touches u [.tiles] [a])) ∧
  (∀ (s : State) (n : Fin 20) (v : Word), s.Served → Leaves (.mcHoldWrite n v) s fun t =>
    if s.flag (R.TILE_MC_HOLD_USE n) = true ∧ bits v 3 0 ≠ s.get (R.TILE_MC_HOLD_BANK n) then
      t = s.refuse (R.TILE_MC_CTL_REFUSE n) (Ev.conversionRefusal n) Code.MC_CFG_LOCKED
    else t = (s.take (R.TILE_MC_HOLD n) v).put (R.TILE_MC_CTL_REFUSE n) 0 ∧ t.flag (R.TILE_MC_HOLD_HOLD n) = bit v 31 ∧
      t.get (R.TILE_MC_HOLD_BANK n) = bits v 3 0 ∧ t.flag (R.TILE_MC_HOLD_USE n) = s.flag (R.TILE_MC_HOLD_USE n)) ∧
  (∀ (s : State) (n : Fin 20) (v : Word), s.Served → Leaves (.corrDataWrite n v) s fun t =>
    let i := s.get (R.TILE_MC_CORR_ADDR_IDX n)
    t.get (R.TILE_MC_CORR_ADDR_IDX n) = (i + 1) % 2 ^ 16 ∧ t.get (R.TILE_MC_CTL_REFUSE n) = 0 ∧
    (i < corrEntries n → t.corrRead n i = v) ∧
    (∀ k, k ≠ i → (∀ x, x ∈ (s.tile n).corrWait → x.1 ≠ k) → t.corrRead n k = s.corrRead n k) ∧
    (∀ k at2, at2 < (s.now + 100) * 2 → (s.tile n).corrWait = [] → t.corrFor n k at2 = s.corrFor n k at2) ∧
    s.Touches t [.tiles] [R.TILE_MC_CORR_ADDR n, R.TILE_MC_CTL n]) ∧
  ∀ (s : State) (n : Fin 20), s.Served → Leaves (.mcTrigTSnapshot n) s fun t =>
    t.get (R.TILE_MC_TRIG_T_HI_T n) = (s.tile n).trigT / 2 ^ 32 % 2 ^ 16 ∧ t.get (R.TILE_MC_TRIG_T_LO_T n) = (s.tile n).trigT % 2 ^ 32 ∧
    t.bus = t.rd (R.TILE_MC_TRIG_T_HI n) ∧ s.Touches t [.bus] [R.TILE_MC_TRIG_T_HI n, R.TILE_MC_TRIG_T_LO n]) ∧
  ( (∀ (s : State) (n : Fin 20) (ofs gerr : BitVec 12), s.Live → s.flag (R.TILE_MC_STS_SPARE_OK n) = true →
    s.get (R.TILE_MC_ROT_ROT_FRAMES n) ≤ (s.tile n).rotFrames → Leaves (.spareRotation n ofs gerr) s fun t =>
      let k := s.get (R.TILE_MC_STS_SPARE n)
      let st (u : State) (j : Nat) := u.get (R.TILE_MC_SLICE_STATE n j)
      let bad : Prop := 1_024 < ofs.toInt ∨ ofs.toInt < -1_024 ∨ 1_000 < gerr.toInt ∨ gerr.toInt < -1_000
      t.t = max s.t (s.nextEdge n * 2 ^ 32) ∧ t.tile n = { s.tile n with rotFrames := 0 } ∧
      t.get (R.TILE_MC_SLICE_OFS n k) = ofs.toNat ∧ t.get (R.TILE_MC_SLICE_GERR n k) = gerr.toNat ∧
      t.get (R.TILE_MC_STS_NA n) = ((List.range 13).filter fun j => st t j == 0).length ∧
      (bad → st t k = 2 ∧ t.flag (R.TILE_MC_STS_SPARE_OK n) = false ∧ (∀ j, j < 13 → j ≠ k → st t j = st s j)) ∧
      (¬ bad → t.flag (R.TILE_MC_STS_SPARE_OK n) = true ∧ ∃ j, st t j = 1 ∧ t.get (R.TILE_MC_STS_SPARE n) = j ∧
        (j ≠ k → st s j ≠ 2 ∧ st t k = 0) ∧ (∀ m, m < 13 → m ≠ j → m ≠ k → st t m = st s m) ∧
        (∀ d, 0 < d → (k + d) % 13 ≠ j → d < 13 → (∀ d', 0 < d' → d' ≤ d → (k + d') % 13 ≠ j) → st s ((k + d) % 13) = 2)) ∧
      s.Touches t [.time, .tiles, .recorder, .frames] ([R.TILE_MC_STS n] ++ (List.range 16).map (R.TILE_MC_SLICE n))) ∧
  (∀ (s : State) (falling : Bool), s.Live → Leaves (.trigInEdge falling) s fun t =>
    (∀ n, n < 20 →
      let x := s.tile n
      let cnt := whole (R.TILE_MC_CNT n 3)
      let mine : Prop := s.flag (R.TILE_MC_CTL_ENABLE n) = true ∧ s.flag (R.TILE_MC_CTL_SRC n) = true ∧ s.flag (R.TILE_MC_CTL_TRIG_EDGE n) = falling
      (¬ mine → t.tile n = x ∧ t.get cnt = s.get cnt) ∧
      (mine → s.seqBusy n = true → t.tile n = x ∧ t.get cnt = satInc 32 (s.get cnt)) ∧
      (mine → s.seqBusy n = false → (t.tile n).trigT = s.now ∧ (t.tile n).trigCount = x.trigCount + 1 ∧ (t.tile n).seqStart = s.now + 20 ∧
        (t.tile n).seqTrig = true ∧ (t.tile n).seqNext = 0 ∧ (t.tile n).listWait = none ∧ (t.tile n).seqSlices = s.slices n ∧
        (∀ l, x.listWait = some l → l.length = 16 → (t.tile n).seqList = l ∧ ∀ k, k < 16 → t.rd (R.TILE_MC_SEQA n k) = l.getD k 0) ∧
        (x.listWait = none → (t.tile n).seqList = (List.range 16).map fun k => s.rd (R.TILE_MC_SEQA n k)) ∧
        t.get cnt = s.get cnt)) ∧
    s.Touches t [.tiles, .recorder, .frames] ((List.range 20).flatMap fun n => R.TILE_MC_CNT n 3 :: (List.range 16).map (R.TILE_MC_SEQA n))) ∧
  (∀ (s : State), s.Live → s.flag R.TILE_MC_SYNC_CFG_EN = true → Leaves .syncOutPulse s fun t =>
    let sel := s.flag R.TILE_MC_SYNC_CFG_SEL
    let rise := if sel then (s.tile 0).seqStart else gridFrom (s.get R.TILE_MC_SYNC_CFG_SP * 25_000) s.now
    let drowned : Prop := sel = true ∧ ((s.tile 0).seqRun = [] ∨ (s.fab.syncOut.map (·.1)).getD 0 = rise)
    (drowned → t = s) ∧
    (¬ drowned → t.t = max s.t (rise * 2 ^ 32) ∧ t.fab = { s.fab with syncOut := some (rise, rise + s.get R.TILE_MC_SYNC_CFG_WIDTH * 10) } ∧
      s.Touches t [.time, .fab] [])) ∧
  (∀ (s : State) (n : Fin 20) (v : Word), s.Served → bit v 0 = true → Leaves (.anchorStart n v) s fun t =>
    let sel := bits v 27 24
    let idx := bits v 14 1
    let fails : List (Bool × Nat) := [(s.flag (R.TILE_MC_ANC_CTL_BUSY n), Code.MC_ANC_BUSY),
      (decide (6 < sel) || bits v 29 28 == 3 || sel == 3 && decide (191 < idx) || sel == 4 && decide (8_191 < idx) ||
        sel == 5 && decide ((if n.val = 0 ∨ n.val = 9 then 9_216 else 8_192) ≤ idx), Code.MC_ANC_TARGET),
      (sel == 4 && s.heldChannel n != some (idx / 2), Code.MC_ANC_TARGET),
      (sel == 5 && s.heldBank n != some (idx / 512), Code.MC_ANC_TARGET)]
    (∀ x, fails.find? (·.1) = some x → t = s.refuse (R.TILE_MC_CTL_REFUSE n) (Ev.conversionRefusal n) x.2) ∧
    (fails.find? (·.1) = none → t.flag (R.TILE_MC_ANC_CTL_BUSY n) = true ∧ t.get (R.TILE_MC_ANC_CTL_SEL n) = sel ∧
      t.get (R.TILE_MC_ANC_CTL_IDX n) = idx ∧ t.get (R.TILE_MC_ANC_CTL_MAINS_SEL n) = bits v 29 28 ∧ t.get (R.TILE_MC_CTL_REFUSE n) = 0 ∧
      t.tile n = { s.tile n with
        anchor := some (s.now + 1_200_000 + [20_000_000, 16_667_000, 100_000_000].getD (bits v 29 28) 0) } ∧
      s.Touches t [.tiles] [R.TILE_MC_ANC_CTL n, R.TILE_MC_CTL n])) ∧
  (∀ (s : State) (n : Fin 20) (res : BitVec 24) (d : Nat), s.Live → (s.tile n).anchor = some d → Leaves (.anchorDone n res) s fun t =>
    t.t = max s.t (d * 2 ^ 32) ∧ t.tile n = { s.tile n with anchor := none } ∧ sx 32 (t.get (whole (R.TILE_MC_ANC_RES n))) = res.toInt ∧
    t.flag (R.TILE_MC_ANC_CTL_BUSY n) = false ∧ t.flag (R.TILE_MC_ANC_CTL_DONE n) = true ∧
    s.Touches t [.time, .tiles, .recorder, .frames] [R.TILE_MC_ANC_RES n, R.TILE_MC_ANC_CTL n]))

/-- R335, R336, R342, R345 to R349: a readout ends at its time and posts the samples of its bank, each corrected, at its gain, with OVR, UNR, SETTLE and
CAL, and no other; an overload marks the slice's and the integrator's next conversion; a tap readout then gives the circuits of its bank a check
sample. -/
def Obligations.ReadoutsPostCorrectedSamples : Prop :=  (∀ (code : Int) (corr : Word),
    let r := roundDiv ((4 * code - sx 16 (bits corr 15 0)) * bits corr 31 16) 16_384
    let x := sampleOf code corr
    ((code = 8_191 ∨ 32_767 < r) → x = (32_767, true, false)) ∧
    (¬ (code = 8_191 ∨ 32_767 < r) → (code = -8_192 ∨ r < -32_768) → x = (-32_768, false, true)) ∧
    (¬ (code = 8_191 ∨ 32_767 < r) → ¬ (code = -8_192 ∨ r < -32_768) → x = (r, false, false))) ∧
  (∀ (s : State) (n ch : Nat) (w : Word) (start : Nat), (bit w 27 = false → s.gainOf n ch w start = bits w 26 25) ∧
    (bit w 27 = true → (s.elem (4_096 * n + ch / 2)).since + 100 ≤ start → s.gainOf n ch w start =
      if (ch % 2 == 1) = wantedX (4_096 * n + ch / 2) (s.cell (posOf (4_096 * n + ch / 2))) then 0 else bits w 26 25)) ∧
  (∀ (s : State) (n ch gain slice at2 : Nat) (code : Int) (cal : Bool), ch < 9_216 → gain < 4 →
    let t := s.convert n ch gain slice at2 code cal
    let x := sampleOf code (s.corrFor n (4 * ch + gain) at2)
    let settle := decide (ch ∈ (s.tile n).settle) || decide (slice ∈ (s.tile n).sliceSettle)
    let w := if ch < 8_192 then Tbl.getD (t.tile n).smp ch 0 else Tbl.getD (t.tile n).taps (ch - 8_192) 0
    sx 16 (bits w 31 16) = x.1 ∧ bit w 15 = x.2.1 ∧ bit w 14 = x.2.2 ∧ bit w 13 = settle ∧ bit w 12 = cal ∧ bits w 11 10 = gain ∧
    bit w 9 = (s.tile n).seqTrig ∧ bits w 7 0 = (s.tile n).seqFn % 256 ∧
    (ch ∈ (t.tile n).settle ↔ x.2.1 = true) ∧ (slice ∈ (t.tile n).sliceSettle ↔ x.2.1 = true ∨ x.2.2 = true) ∧
    (∀ k, k ≠ ch → (k ∈ (t.tile n).settle ↔ k ∈ (s.tile n).settle)) ∧ (∀ k, k ≠ slice → (k ∈ (t.tile n).sliceSettle ↔ k ∈ (s.tile n).sliceSettle)) ∧
    t.get (whole (R.TILE_MC_CNT n 0)) = (if x.2.1 || x.2.2 then satInc 32 (s.get (whole (R.TILE_MC_CNT n 0))) else s.get (whole (R.TILE_MC_CNT n 0))) ∧
    t.get (whole (R.TILE_MC_CNT n 1)) = if settle then satInc 32 (s.get (whole (R.TILE_MC_CNT n 1))) else s.get (whole (R.TILE_MC_CNT n 1))) ∧
  (∀ (s : State) (n : Fin 20) (codes : List (BitVec 14)) (refBad : Bool) (i : Nat), s.Live → s.position n = some i → i ≠ 16 →
    Leaves (.bankReadout n codes refBad) s fun t =>
      let x := s.tile n
      let w := x.seqList.getD i 0
      let b := bits w 19 16
      let a := s.convAt n x.seqNext
      let m := max 1 x.seqSlices.length
      t.t = max s.t ((s.convAt n (x.seqNext + 1) + 1) / 2 * 2 ^ 32) ∧ (t.tile n).seqNext = x.seqNext + 1 ∧ (t.tile n).seqRun = x.seqRun ∧
      Tbl.look (t.tile n).windows b = some ((a - bits w 9 0 * 125) / 2, a / 2, x.seqStart) ∧
      (∀ j, j < 512 →
        let ch := 512 * b + j
        let g := s.gainOf n ch w ((a - bits w 9 0 * 125) / 2)
        let y := sampleOf (codes.map BitVec.toInt |>.getD j 0) (s.corrFor n (4 * ch + g) (a + j / m * 125))
        let p := Tbl.getD (t.tile n).smp ch 0
        sx 16 (bits p 31 16) = y.1 ∧ bit p 15 = y.2.1 ∧ bit p 14 = y.2.2 ∧ (ch ∈ x.settle → bit p 13 = true) ∧
        bit p 12 = (s.heldBank n == some b) ∧ bits p 11 10 = g ∧ bit p 9 = x.seqTrig ∧ bits p 7 0 = x.seqFn % 256) ∧
      (∀ ch, ch / 512 ≠ b → Tbl.getD (t.tile n).smp ch 0 = Tbl.getD (s.tile n).smp ch 0) ∧ (t.tile n).taps = x.taps ∧
      (∀ k, k ≠ n.val → t.tile k = s.tile k) ∧ s.Touches t [.time, .tiles] [R.TILE_MC_CNT n 0, R.TILE_MC_CNT n 1]) ∧
  (∀ (s : State) (out : Bool) (codes : List (BitVec 14)) (refBad : Bool), s.Live → s.position (if out then 9 else 0) = some 16 →
    Leaves (.tapReadout out codes refBad) s fun t =>
      let n := if out then 9 else 0
      let x := s.tile n
      let b := 16 + x.seqFn % 2
      let g := s.get (R.TILE_MC_TAP_CFG_TAP_GAIN n)
      let a := s.convAt n x.seqNext
      let ids := (s.cir.ctxs.filter fun c => (if out then ctxOut c.1 else c.2.input) / 512 == b - 16).map (·.1)
      ∃ u, u.t = max s.t ((s.convAt n (x.seqNext + 1) + 1) / 2 * 2 ^ 32) ∧ (u.tile n).seqNext = x.seqNext + 1 ∧
        Tbl.look (u.tile n).tapWin b = some ((a - bits (s.rd (R.TILE_MC_TAP_CFG n)) 9 0 * 125) / 2, a / 2, x.seqStart) ∧
        (∀ j, j < 512 →
          let ch := 512 * b + j
          let y := sampleOf (codes.map BitVec.toInt |>.getD j 0) (s.corrFor n (4 * ch + g) (a + j / max 1 x.seqSlices.length * 125))
          let p := Tbl.getD (u.tile n).taps (ch - 8_192) 0
          sx 16 (bits p 31 16) = y.1 ∧ bit p 15 = y.2.1 ∧ bit p 14 = y.2.2 ∧ bit p 12 = false ∧ bits p 11 10 = g ∧ bits p 7 0 = x.seqFn % 256) ∧
        (u.tile n).smp = x.smp ∧ s.Touches u [.time, .tiles] [R.TILE_MC_CNT n 0, R.TILE_MC_CNT n 1] ∧
        (s.hubIn = false → t = u) ∧ (s.hubIn = true → out = false → t = ids.foldl State.checkSample u) ∧
        (s.hubIn = true → out = true → let v := ids.foldl State.checkSample u
          t = if ((Tbl.look x.tapWin b).map (·.2.1)).getD 0 / 1_000_000 < v.now / 1_000_000 then ids.foldl State.lossUpdate v else v)) ∧
  ∀ (s : State) (i from_ k : Nat) (wi wo : Nat × Nat × Nat) (pi : Int),
    let c := s.ctx i
    let ki := c.input
    let ko := 1_024 + ctxOut i
    c.check = some (from_, k) → s.tapWindow ki = some wi → s.tapWindow ko = some wo → s.litNow i c = true → wi.2.2 = wo.2.2 →
    s.tapWhole i c wi = true → s.tapWhole i c wo = true → from_ ≤ s.now → s.now ≤ from_ + 10_000_000 → s.tapPower ki = some pi → -3_000 ≤ pi →
      let pins := max (s.pinCarriers 0 c.hops (min wi.1 wo.1)) (s.pinCarriers 1 c.hops (min wi.1 wo.1))
      let fails : Prop := ∀ po, s.tapPower ko = some po → 750 + 30 * (pins : Int) < pi - po
      let t := s.checkSample i
      (¬ fails → t = s.setCtx i { c with check := none }) ∧ (fails → k + 1 ≠ 10 → t = s.setCtx i { c with check := some (from_, k + 1) }) ∧
      (fails → k + 1 = 10 → (t.ctx i).state = Cs.failed ∧ (t.ctx i).reason = Code.CIR_LOSS_FAIL ∧ (t.ctx i).check = none)

/-! ## Anchor calibration -/

/-- R372, R373, R376, R379: a tile older than AGE_MAX is queued; the sweep's tile, or the head of the queue while fewer than CAL_PAR quick ones run,
begins at step 1; a completed step is followed by the next and its trims stand within ±2,047; a failed self-check ends in FAULT; what stays
ineligible is deferred. -/
def Obligations.RecalibrationRunsItsSteps : Prop :=  (∀ (s : State) (n : Fin 20) (d : Nat), s.Live → Tbl.look s.cal.lastDone n = some d → s.flag R.CAL_CTL_ENABLE = true → s.ctrlUp = true →
    n.val ∉ s.cal.queue → s.recalOf n = none → s.flag R.CAL_SWEEP_RUN = false → Leaves (.calAgeTrigger n) s fun t =>
      t.t = max s.t ((d + s.get R.CAL_LIM_AGE_MAX * 3_600_000_000_000) * 2 ^ 32) ∧ t.cal = { s.cal with queue := s.cal.queue ++ [n.val] } ∧
      t.get (R.CAL_TILE_0_STATE n) = 1 ∧ s.Touches t [.time, .cal] [R.CAL_TILE_0 n]) ∧
  (∀ (s : State), s.Live → s.hubIn = true → s.flag R.THM_STS_SHUTDOWN = false → Leaves .recalStart s fun t =>
    let k := s.get R.CAL_SWEEP_TILE
    let begun (n : Nat) (full : Bool) : Prop := t.recalOf n = some ⟨full, 1, 0, 0, 0, s.now, none, none, [], [], 0⟩ ∧
      t.get (R.CAL_TILE_0_STATE n) = (if full then 3 else 2) ∧ t.get (R.CAL_TILE_0_STEP n) = 1 ∧ (∀ m, m ≠ n → t.recalOf m = s.recalOf m)
    let sweeps : Prop := s.flag R.CAL_SWEEP_RUN = true ∧ s.recalOf k = none
    let free : Prop := (s.cal.recal.filter fun x => !x.2.full).length < s.get R.CAL_CTL_CAL_PAR
    (sweeps → begun k true ∧ t.cal.queue = s.cal.queue ∧ s.Touches t [.cal] [R.CAL_TILE_0 k]) ∧
    (∀ n l, ¬ sweeps → s.cal.queue = n :: l → free → s.recalOf n = none →
      begun n false ∧ t.cal.queue = l ∧ s.Touches t [.cal, .recorder, .frames] [R.CAL_TILE_0 n]) ∧
    (¬ sweeps → (s.cal.queue = [] ∨ ¬ free ∨ ∃ n l, s.cal.queue = n :: l ∧ s.recalOf n ≠ none) → t = s)) ∧
  (∀ (s : State) (n : Fin 20) (res : CalResult) (r : Recal), s.Live → s.hubIn = true → s.recalOf n = some r → Leaves (.recalStepDone n res) s fun t =>
    let conv := 1_200_000 + [20_000_000, 16_667_000, 100_000_000].getD (if r.full then 2 else s.get R.CAL_CTL_MAINS_SEL) 100_000_000
    let k := if r.step = 5 ∧ r.full = false then 7 else r.step + 1
    let count := match r.step with
      | 1 => 3
      | 2 => if n.val = 0 ∨ n.val = 9 then 8 else 4
      | 5 => 8
      | 6 => 128
      | _ => 0
    let waits : Prop := r.step = 3 ∧ r.part < (if n.val = 0 ∨ n.val = 9 then 18 else 16) ∨ r.step = 4 ∧ r.part < 16
    (waits → t = s) ∧
    (1 ≤ r.step → r.step ≤ 6 → ¬ waits → (r.step = 1 → res.ok = true) →
      (∀ x, x ∈ res.trims → -2_047 ≤ x.2 ∧ x.2 ≤ 2_047) → (∃ x, t.recalOf n = some x ∧ x.full = r.full ∧ x.step = k ∧ x.part = 0 ∧ x.started = none ∧ x.held = none ∧ x.skipped = [] ∧ x.done = [] ∧
        x.temp = if r.step = 1 then sx 16 (s.get (R.TILE_HK_VAL_VALUE n 136)) else r.temp) ∧
      t.t = (if count = 0 then s.t else max s.t ((r.since + count * conv) * 2 ^ 32)) ∧ t.get (R.CAL_TILE_0_STEP n) = k ∧
      (∀ m, m ≠ n.val → t.recalOf m = s.recalOf m) ∧
      (∀ i v, (i, v) ∈ res.trims → (∀ v', (i, v') ∈ res.trims → v' = v) →
        (r.step = 2 ∧ i = 34 ∨ r.step = 3 ∧ 16 ≤ i ∧ i < 16 + calBanks n ∧ i - 16 ∉ r.skipped ∨ r.step = 4 ∧ i < 16 ∧ (∃ q, q ∈ r.done ∧ q / 512 = i) ∨
          r.step = 5 ∧ i = 35 ∨ r.step = 6 ∧ i = 36) →
        Tbl.look t.cal.tables (tblKey n 2 i) = some (BitVec.ofNat 32 (tc 12 v))) ∧
      (∀ i, (∀ v, (i, v) ∉ res.trims) → i < 37 → Tbl.look t.cal.tables (tblKey n 2 i) = Tbl.look s.cal.tables (tblKey n 2 i))) ∧
    (r.step = 1 → res.ok = false → t.recalOf n = none ∧ t.get (R.CAL_TILE_0_STATE n) = (if n.val ∈ s.cal.queue then 1 else 4) ∧
      t.get (R.CAL_TILE_1_REASON n) = Code.CAL_ANCHOR_FAULT ∧ t.cal.tables = s.cal.tables ∧ t.flag ⟨R.GLB_STS, n, n⟩ = true) ∧
    (7 ≤ r.step → (∀ tr, tr ∈ s.fab.trans → 1 ≤ tr.phase → ∀ x, x ∈ tr.loads → tileOfPos 0 x.1 ≠ n.val ∧ tileOfPos 1 x.1 ≠ n.val) →
      t.recalOf n = none ∧ t.t = max s.t (s.nextEdge n * 2 ^ 32) ∧ t.get (R.CAL_TILE_0_T_CAL n) = tc 16 r.temp ∧
      t.get (R.CAL_TILE_0_STATE n) = (if n.val ∈ s.cal.queue then 1 else 0) ∧ Tbl.look t.cal.lastDone n = some t.now ∧
      t.get (whole (R.CAL_CNT 0)) = (if r.full then s.get (whole (R.CAL_CNT 0)) else satInc 32 (s.get (whole (R.CAL_CNT 0)))) ∧
      (s.flag R.CAL_SWEEP_RUN = true → s.get R.CAL_SWEEP_TILE = n.val → t.flag ⟨R.CAL_SWEEP, n, n⟩ = true ∧
        (n.val < 19 → t.get R.CAL_SWEEP_TILE = n.val + 1) ∧ (n.val = 19 → t.flag R.CAL_SWEEP_RUN = false)) ∧
      s.Touches t [.time, .fab, .cal, .recorder, .frames] [R.CAL_TILE_0 n, R.CAL_CNT 0, R.CAL_CNT 1, R.CAL_SWEEP])) ∧
  (∀ (s : State) (n : Fin 20) (r : Recal), s.Live → s.ctrlUp = true → s.recalOf n = some r → (r.step = 3 ∨ r.step = 4) → r.part < 16 → r.started = none →
    Leaves (.calDefer n) s fun t =>
      let often := decide (s.get R.CAL_LIM_ABANDON_MAX ≤ r.abandoned)
      t.t = (if often then s.t else max s.t ((r.since + 10_000_000_000) * 2 ^ 32)) ∧
      t.get (R.CAL_TILE_0_DEFER n) = satInc 8 (s.get (R.CAL_TILE_0_DEFER n)) ∧ t.get (R.CAL_TILE_1_REASON n) = Code.CAL_DEFERRED ∧
      t.get (whole (R.CAL_CNT 3)) = satInc 32 (s.get (whole (R.CAL_CNT 3))) ∧ t.cal.tables = s.cal.tables ∧
      (r.step = 3 ∨ often = false → ∃ x, t.recalOf n = some x ∧ x.part = r.part + 1 ∧ x.step = r.step ∧ x.skipped = r.skipped ++ [r.part]) ∧
      s.Touches t [.time, .cal, .recorder, .frames] [R.CAL_TILE_0 n, R.CAL_TILE_1 n, R.CAL_CNT 3]) ∧
  (∀ (s : State) (e : Nat),
    let x := s.elem e
    let r := x.out.getD x.toElemRec
    let t := s.foldInteg e
    let folds : Prop := s.status e = 0 ∧ r.ageH ≤ bits (s.tile (tileOf e)).use.dith 31 24
    (folds → t.tblWord e 0 = BitVec.ofInt 32 ((s.tblWord e 0).toInt + r.integ) ∧ t.tblWord e 1 = BitVec.ofInt 32 ((s.tblWord e 1).toInt + r.integ) ∧
      (t.elem e).integ = 0) ∧
    (¬ folds → t = s) ∧ (∀ e' w, w < 8 → (tileOf e' ≠ tileOf e ∨ e' % 4_096 ≠ e % 4_096 ∨ 2 ≤ w) → t.tblWord e' w = s.tblWord e' w)) ∧
  (∀ (s : State) (n i : Nat) (v : Int), ∃ u : State,
    s.setTrim n i v = (if i < 32 ∧ (v < -2_047 ∨ 2_047 < v) then u.autoReports (bankCells n (i % 16)) else u) ∧
    Tbl.look u.cal.tables (tblKey n 2 i) =
      some (BitVec.ofNat 32 (b2n (decide (v < -2_047 ∨ 2_047 < v)) * 2 ^ 31 + tc 12 (max (-2_047) (min 2_047 v)))) ∧
    ((v < -2_047 ∨ 2_047 < v) → u.get (R.CAL_TILE_1_REASON n) = Code.CAL_TRIM_LIMIT) ∧ s.Touches u [.cal, .recorder, .frames] [R.CAL_TILE_1 n]) ∧
  ∀ (s : State) (e i : Nat), i < 4 →
    let x := s.elem e
    let r := x.out.getD x.toElemRec
    let c := s.switchCode e
    let t := s.foldPin e
    let scaled (v : Nat) : Nat := (max 0 (min 65_535 (roundDiv ((v : Int) * ((c : Int) + r.pinTrim)) (c : Int)))).toNat
    (r.trimmed = true → 0 < c → bits (t.tblWord e (4 + i)) 31 16 = scaled (bits (s.tblWord e (4 + i)) 31 16) ∧
      bits (t.tblWord e (4 + i)) 15 0 = scaled (bits (s.tblWord e (4 + i)) 15 0) ∧ (t.elem e).pinTrim = 0 ∧ (t.elem e).trimmed = false) ∧
    (r.trimmed = false ∨ c = 0 → t = s)

/-- R368, R371, R392, R393: `CAL_CTL` is checked; GO is refused while a sweep runs, for a busy tile and for a tile above 19, and queues the tile or
starts the sweep; ABORT ends every recalibration; a table write is judged by its limits and its element, and waits for the frame edge; each access
moves ADDR on. -/
def Obligations.CalibrationCommandsAreChecked : Prop :=  (∀ (s : State) (v : Word), s.Served → Leaves (.calCtlWrite v) s fun t =>
    (s.put R.CAL_CTL_REFUSE 0).CtlWritten t R.CAL_CTL R.CAL_CTL_ENABLE R.CAL_CTL_REFUSE Ev.calibrationOrThermalRefusal Code.CAL_CONFIG
      (fun u => if 5 ≤ u.get R.CAL_CTL_CAL_DT ∧ u.get R.CAL_CTL_CAL_DT ≤ 100 ∧ 1 ≤ u.get R.CAL_CTL_CAL_PAR ∧ u.get R.CAL_CTL_CAL_PAR ≤ 4 ∧
        u.get R.CAL_CTL_MAINS_SEL ≠ 3 then none else some Code.CAL_CONFIG) v) ∧
  (∀ (s : State) (v : Word) (i : Instr), s.Served → (i = .calGo v ∧ bit v 0 = true ∨ i = .calAbort v ∧ bit v 2 = true) → Leaves i s fun t =>
    let n := bits v 12 8
    let go := bit v 0
    let busy : Prop := s.flag R.CAL_SWEEP_RUN = true ∨ bit v 1 = false ∧ (n ∈ s.cal.queue ∨ s.recalOf n ≠ none)
    let no (code : Nat) : State := s.refuse R.CAL_CTL_REFUSE Ev.calibrationOrThermalRefusal code
    (go = true → busy → t = no Code.CAL_BUSY) ∧ (go = true → ¬ busy → 19 < n → t = no Code.CAL_CONFIG) ∧
    ((go = true → ¬ busy ∧ n ≤ 19) → t.get R.CAL_CTL_REFUSE = 0 ∧
      (bit v 2 = true → ∀ m, m < 20 → t.recalOf m = none ∧ (s.recalOf m ≠ none → t.get (R.CAL_TILE_0_STEP m) = 0)) ∧
      (bit v 2 = false → t.cal.recal = s.cal.recal) ∧
      (bit v 2 = true → go = false → t.flag R.CAL_SWEEP_RUN = false ∧ t.cal.queue = s.cal.queue) ∧
      (go = true → bit v 1 = true → t.rd R.CAL_SWEEP = 0x8000_0000 ∧ t.cal.queue = s.cal.queue) ∧
      (go = true → bit v 1 = false → t.cal.queue = s.cal.queue ++ [n] ∧ t.get (R.CAL_TILE_0_STATE n) = 1) ∧ t.cal.tables = s.cal.tables)) ∧
  (∀ (s : State) (v : Word), s.Served → Leaves (.calTableWrite v) s fun t =>
    let n := s.get R.CAL_TBL_SEL_TILE
    let table := s.get R.CAL_TBL_SEL_TBL
    let a := s.get R.CAL_TBL_SEL_ADDR
    let next (u : State) : State := u.put R.CAL_TBL_SEL_ADDR (a + 1)
    let word (i : Nat) : Word := if i = a % 8 then v else s.tblRead n 0 (a / 8 * 8 + i)
    let pin (k : Nat) : Nat := if k % 2 = 0 then bits (word (4 + k / 2)) 31 16 else bits (word (4 + k / 2)) 15 0
    let limits : Prop := match a % 8 with
      | 0 => True
      | 1 => True
      | 2 => 200 ≤ bits v 15 0 ∧ bits v 15 0 ≤ 2_000
      | 3 => 36_045 ≤ bits v 31 16 ∧ 2 * (sx 16 (bits v 15 0)).natAbs ≤ bits v 31 16
      | _ => (∀ k, k < 7 → pin k < pin (k + 1)) ∧ pin 7 ≤ 32_000
    let status := s.status (n * 4_096 + if table = 0 then a / 8 else a / 2)
    let named : Prop := n < 20 ∧ (table = 0 ∧ a < 32_768 ∨ table = 1 ∧ a < 8_192)
    let locked : Prop := if table = 0 then a % 8 ≠ 2 ∧ status ≠ 3 else (s.fdch (n * 8_192 + a)).active ≠ 0 ∨ (status ≠ 0 ∧ status ≠ 3)
    let no (code : Nat) : State := next (s.refuse R.CAL_CTL_REFUSE Ev.calibrationOrThermalRefusal code)
    (¬ named → t = next s) ∧ (named → table = 0 → ¬ limits → t = no Code.CAL_CONFIG) ∧
    (named → (table = 0 → limits) → locked → t = no Code.CAL_TABLE_LOCKED) ∧
    (named → (table = 0 → limits) → ¬ locked → t.tblRead n table a = v ∧ t.cal.tables = s.cal.tables ∧
      (∀ k, k ≠ tblKey n table a → Tbl.look (t.tile n).tblWait k = Tbl.look (s.tile n).tblWait k) ∧
      t.get R.CAL_CTL_REFUSE = 0 ∧ t.get R.CAL_TBL_SEL_ADDR = (a + 1) % 2 ^ 16 ∧ s.Touches t [.tiles] [R.CAL_CTL, R.CAL_TBL_SEL])) ∧
  (∀ (s : State), s.Served → Leaves .calTableRead s fun t =>
    let n := s.get R.CAL_TBL_SEL_TILE
    let table := s.get R.CAL_TBL_SEL_TBL
    let a := s.get R.CAL_TBL_SEL_ADDR
    t.get R.CAL_TBL_SEL_ADDR = (a + 1) % 2 ^ 16 ∧
    (n < 20 → (table = 0 ∧ a < 32_768 ∨ table = 1 ∧ a < 8_192 ∨ table = 2 ∧ a < 37) → t.bus = s.tblRead n table a) ∧
    s.Touches t [.bus] [R.CAL_TBL_SEL]) ∧
  ∀ (s : State) (n k : Nat) (w : Word), Tbl.look (s.tile n).tblWait k = some w → (∀ x y, x ∈ (s.tile n).tblWait → y ∈ (s.tile n).tblWait → x.1 = y.1 → x = y) →
    Tbl.look (s.tblEdge n).cal.tables k = some w ∧ ((s.tblEdge n).tile n).tblWait = []

/-! ## Housekeeping and thermal management -/

/-- R354 to R357: a housekeeping channel is posted at the end of its slot unless the mask in force leaves it out; a mask bit of a channel that the loops
need is kept while they run. R381 to R385: a sensor fails when it is out of range or not posted, or suspect in XCHK_N rounds in a row; its
substitute is the highest value of its good neighbours, else of the tile's good sensors, else the junction, plus SUB_ADD; a write of 1 to its bit
reinstates it. -/
def Obligations.HousekeepingAndSensorFailures : Prop :=
  ( (∀ (s : State) (n : Fin 20) (k : Fin 192) (value : BitVec 16), s.Live → Leaves (.hkChannelSlot n k value) s fun t =>
    let start := hkRound k.val s.now
    let x := s.tile n
    let fresh := decide (x.round ≠ start + 1)
    let mask (i : Nat) : Word := if fresh then s.rd (R.TILE_HK_MASK n i) else x.mask.getD i 0
    let on := bit (mask (k.val / 32)) (k.val % 32)
    let rnd := if fresh ∧ x.round ≠ 0 then (s.get (R.TILE_HK_CTL_RND n) + 1) % 256 else s.get (R.TILE_HK_CTL_RND n)
    let v : Int := if (k.val = 133 ∧ n.val ≠ 0 ∧ n.val ≠ 9) ∨ (139 ≤ k.val ∧ k.val ≤ 143) ∨ 176 ≤ k.val then 0 else value.toInt
    let lo := sx 16 (s.get (R.TILE_HK_LIM_LO n (k.val - 128)))
    let hi := sx 16 (s.get (R.TILE_HK_LIM_HI n (k.val - 128)))
    let out := decide (128 ≤ k.val) && decide (v < lo ∨ hi < v)
    ∃ u : State, u.t = max s.t ((start + 50_000 * (k.val + 1)) * 2 ^ 32) ∧ (u.tile n).round = start + 1 ∧ u.get (R.TILE_HK_CTL_RND n) = rnd ∧
      (on = true → u.flag (R.TILE_HK_VAL_VALID n k) = true ∧ u.flag (R.TILE_HK_VAL_LIM n k) = out ∧ u.get (R.TILE_HK_VAL_RND n k) = rnd ∧
        u.get (R.TILE_HK_VAL_VALUE n k) = tc 16 v ∧ (k.val < 128 → Tbl.look (u.tile n).reading k = some v)) ∧
      (on = false → u.rd (R.TILE_HK_VAL n k) = s.rd (R.TILE_HK_VAL n k) ∧ (u.tile n).reading = x.reading) ∧
      s.Touches u [.time, .tiles, .thm, .recorder, .frames] [R.TILE_HK_VAL n k, R.TILE_HK_CTL n] ∧
      let w := if on && out && Tbl.getD x.supplyOut k 0 == 9 then u.autoReports (tileCells n) else u
      t = if k.val = 136 then (if on then (w.tileCheck n).calDrift n value.toInt else w.tileCheck n) else w) ∧
  (∀ (s : State) (n : Fin 20) (k : Fin 6) (v : Word), s.Served → Leaves (.hkMaskWrite n k v) s fun t =>
    let a := R.TILE_HK_MASK n k
    let needed (i : Nat) : Prop := 32 * k.val + i < 128 ∨ 32 * k.val + i = 130 ∨ 32 * k.val + i = 134 ∨ 32 * k.val + i = 135
    let kept (i : Nat) : Prop := s.flag (R.TILE_LP_CTL_ENABLE n) = true ∧ needed i ∧ bit (s.rd a) i = true ∧ bit v i = false
    (∀ i, i < 32 → (bit (t.rd a) i = true ↔ bit v i = true ∨ kept i)) ∧
    t.get (R.TILE_HK_CTL_REFUSE n) = (if (List.range 32).any fun i => s.flag (R.TILE_LP_CTL_ENABLE n) && bit (s.rd a) i && !bit v i &&
        (decide (32 * k.val + i < 128) || [130, 134, 135].contains (32 * k.val + i)) then Code.HK_MASK_LOCKED else 0) ∧
    t.tiles = s.tiles ∧ s.Touches t [.recorder, .frames] [a, R.TILE_HK_CTL n])) ∧
  ( (∀ (s : State) (n l : Nat) (good : Nat → Bool), n < 20 → l < 128 →
    let x := s.tile n
    let c := Tbl.getD x.suspect l 0
    let near := (neighbours l).filter good
    let read (j : Nat) : Int := Tbl.getD x.reading j 0
    let m : Option Int := match near.map read with
      | [a] => some (2 * a)
      | [a, b] => some (a + b)
      | [a, b, d] => some (if a ≤ b ∧ b ≤ d ∨ d ≤ b ∧ b ≤ a then 2 * b else if b ≤ a ∧ a ≤ d ∨ d ≤ a ∧ a ≤ b then 2 * a else 2 * d)
      | _ => none
    let far : Prop := ∃ y, m = some y ∧ 2 * (s.thmField R.THM_CTL_XCHK_DT * 10) < (2 * read l - y).natAbs
    let fails : Prop := good l = false ∨ far ∧ s.thmField R.THM_TIME_XCHK_N ≤ c + 1
    let t := s.checkSensor n good l
    (fails → t.sensorFailed n l = true ∧ t.thm.lastFail = some s.now) ∧ (¬ fails → t.sensorFailed n l = s.sensorFailed n l ∧ t.thm.lastFail = s.thm.lastFail) ∧
    (¬ fails → far → Tbl.getD (t.tile n).suspect l 0 = c + 1) ∧ (¬ far → good l = true → Tbl.getD (t.tile n).suspect l 0 = 0) ∧
    (t.thm.suspectRound = true ↔ s.thm.suspectRound = true ∨ good l = false ∨ far) ∧
    (∀ n' l', n' < 20 → l' < 128 → (n' ≠ n ∨ l' ≠ l) → t.sensorFailed n' l' = s.sensorFailed n' l')) ∧
  (∀ (s : State) (n l : Nat), l < 128 →
    let ok (j : Nat) : Prop := j < 128 ∧ s.sensorFailed n j = false
    let near (j : Nat) : Prop := (j + 1 = l ∧ j / 64 = l / 64 ∨ j = l + 1 ∧ j / 64 = l / 64 ∨ j % 64 = l % 64 ∧ j ≠ l) ∧ ok j
    let v := s.substitute n l - s.thmField R.THM_CTL_SUB_ADD * 10
    let top (p : Nat → Prop) : Prop := (∀ j, p j → Tbl.getD (s.tile n).reading j 0 ≤ v) ∧ ∃ j, p j ∧ Tbl.getD (s.tile n).reading j 0 = v
    ((∃ j, near j) → top near) ∧ ((¬ ∃ j, near j) → (∃ j, ok j) → top ok) ∧
    ((¬ ∃ j, ok j) → v = sx 16 (s.get (R.TILE_HK_VAL_VALUE n 136)))) ∧
  ∀ (s : State) (k : Fin 80) (v : Word), s.Served → Leaves (.sensorReinstate k v) s fun t =>
    t.rd (R.THM_FAIL k) = s.rd (R.THM_FAIL k) &&& ~~~v ∧
    (∀ b, b < 32 → let l := (32 * k.val + b) % 128
      let x := s.tile (k.val / 4)
      let y := t.tile (k.val / 4)
      if bit v b = true ∧ bit (s.rd (R.THM_FAIL k)) b = true then Tbl.look y.subst l = none ∧ Tbl.look y.suspect l = none
      else Tbl.look y.subst l = Tbl.look x.subst l ∧ Tbl.look y.suspect l = Tbl.look x.suspect l) ∧
    (∀ m, m ≠ k.val / 4 → t.tile m = s.tile m) ∧ s.Touches t [.tiles, .recorder, .frames] [R.THM_FAIL k])

/-- R386 to R388, R391, R394: the level rises to what a source reaches and falls by one step only after quiet rounds, SUB_HOLD and above FLOOR; a
junction at its shutdown threshold closes every latch and darkens every circuit; thresholds are judged together and come into force at the next
round. -/
def Obligations.ThrottleLevelFollowsTheSources : Prop :=  (∀ (s : State) (r : BitVec 16), s.Live → s.ctrlUp = true → Leaves (.hubJunctionSample r) s fun t =>
    let reach := if 11_000 ≤ r.toInt then 4 else if 10_500 ≤ r.toInt then 3 else if 10_000 ≤ r.toInt then 2 else if 9_500 ≤ r.toInt then 1 else 0
    t.t = max s.t (gridFrom 1_000_000 s.now * 2 ^ 32) ∧ t.get R.THM_JCT_HUB = r.toNat ∧
    (s.flag R.THM_STS_SHUTDOWN = true → t.level = s.level ∧ s.Touches t [.time, .thm] [R.THM_JCT]) ∧
    (r.toInt < 11_800 → s.flag R.THM_STS_SHUTDOWN = false →
      (s.level < reach → t.level = reach ∧ t.get R.THM_STS_SRC = 0) ∧ (reach ≤ s.level → t.level = s.level) ∧
      s.Touches t [.time, .thm, .recorder, .frames] [R.THM_JCT, R.THM_STS]) ∧
    (11_800 ≤ r.toInt → s.flag R.THM_STS_SHUTDOWN = false → t.flag R.THM_STS_SHUTDOWN = true ∧ t.flag R.CAL_SWEEP_RUN = false ∧ t.cal.queue = [] ∧
      (∀ n, t.recalOf n = none) ∧
      (∀ i, (s.ctx i).state ≠ Cs.idle → (t.ctx i).state = Cs.dark ∧ (t.ctx i).reason = Code.THM_SHUTDOWN) ∧
      (∀ k, k < 2_048 → (t.port k).lstate = 0 ∨ (t.port k).lstate = 3 ∨ (t.port k).lstate = 4))) ∧
  (∀ (s : State) (l k : Nat), l < 8 → k < 4 →
    let rises : Prop := s.level < l ∧ s.ctrlUp = true ∧ s.flag R.THM_STS_SHUTDOWN = false
    (rises → (s.rise l k).level = l ∧ (s.rise l k).get R.THM_STS_SRC = k ∧ (s.rise l k).thm.quiet = 0) ∧ (¬ rises → s.rise l k = s)) ∧
  (∀ (s : State), 1 ≤ s.level → s.level ≤ 4 →
    let l := s.level
    let h : Int := s.thmField R.THM_CTL_HYST * 10
    let jt : Int := [9_500, 10_000, 10_500, 11_000].getD (l - 1) 0 - h
    let pt : Int := [s.thmField R.THM_PHO_A_T1, s.thmField R.THM_PHO_A_T2, s.thmField R.THM_PHO_B_T3, s.thmField R.THM_PHO_B_T4].getD (l - 1) 0 * 10 - h
    let quiet : Prop := s.thm.suspectRound = false ∧ (∀ x, x ∈ s.thm.useLast → x.2 < pt) ∧
      (∀ n, n < 20 → sx 16 (s.get (R.TILE_HK_VAL_VALUE n 136)) < jt) ∧ s.thm.hubMax < jt
    let falls : Prop := quiet ∧ s.ctrlUp = true ∧ s.flag R.THM_STS_SHUTDOWN = false ∧ s.thmField R.THM_TIME_DN_ROUNDS ≤ s.thm.quiet + 1 ∧
      (∀ f, s.thm.lastFail = some f → f + s.thmField R.THM_TIME_SUB_HOLD * 1_000_000_000 ≤ s.now) ∧ s.thmField R.THM_CTL_FLOOR < l
    let t := s.roundEnds
    (falls → t.level = l - 1 ∧ t.thm.quiet = 0) ∧ (¬ falls → t.level = l) ∧ (¬ falls → quiet → t.thm.quiet = s.thm.quiet + 1) ∧ (¬ quiet → t.thm.quiet = 0)) ∧
  ∀ (s : State) (k : Fin 5) (v : Word), s.Served → Leaves (.thmWrite k v) s fun t =>
    let a := [R.THM_CTL, R.THM_TIME, R.THM_PHO_A, R.THM_PHO_B, R.THM_PHO_SD].getD k 0
    let now (j : Nat) (r : Nat) : Word := if k.val = j then v else s.rd r
    let A := now 2 R.THM_PHO_A
    let B := now 3 R.THM_PHO_B
    let within (lo n hi : Nat) : Prop := lo ≤ n ∧ n ≤ hi
    let ok : Prop := match k.val with
      | 0 => within 20 (bits v 31 24) 200 ∧ within 10 (bits v 23 16) 200 ∧ within 10 (bits v 15 8) 100 ∧ bits v 2 0 ≤ 4
      | 1 => within 10 (bits v 31 20) 3_600 ∧ within 10 (bits v 19 8) 4_095 ∧ within 1 (bits v 3 0) 15
      | _ => bits A 15 0 < bits A 31 16 ∧ bits A 31 16 < bits B 15 0 ∧ bits B 15 0 < bits B 31 16 ∧
          bits B 31 16 < bits (now 4 R.THM_PHO_SD) 15 0 ∧ bits (now 4 R.THM_PHO_SD) 15 0 ≤ 1_050
    (¬ ok → t = s.refuse R.THM_STS_REFUSE Ev.calibrationOrThermalRefusal Code.THM_CONFIG) ∧
    (ok → t.rd a = (s.take a v).rd a ∧ t.get R.THM_STS_REFUSE = 0 ∧ (∀ f : Fld, f.addr ≠ R.THM_STS → t.thmField f = s.thmField f) ∧
      t.thm.polWait = s.thm.polWait ++ [(a, t.rd a, s.now)] ∧ s.Touches t [.thm] [a, R.THM_STS])

/-! ## Telemetry, register opcodes and subscriptions -/

/-- R226, R415: TEL_ELEMENT, TEL_PORT and TEL_STATUS return one record for each place asked: what a tenant may not see reads STATUS 0xF or VIS 0 and
zeros, and a speculative status is shown only to those whose it is. -/
def Obligations.TelemetryShowsWhatTheTenantMaySee : Prop :=  (∀ (s : State) (f : Frame), s.Live → Serves (.telElement f) opTelElement f s fun w r v code params =>
    let first := u f.params 0 4
    let n := u f.params 4 2
    code = Code.DONE ∧ v = w ∧ params.length = 8 * n ∧ ∀ k, k < n →
      let e := first + k
      let x := w.elem e
      let p := (params.drop (8 * k)).take 8
      let visible : Prop := r.tenant = 0 ∨ ∃ c, c ∈ w.cir.ctxs ∧ c.2.state ≠ Cs.idle ∧ c.2.tenant = r.tenant ∧ e ∈ pathAll c.2.hops
      (¬ visible → p = 0xF :: List.replicate 7 0) ∧
      (visible → u p 0 1 = (if w.provSeen e r.tenant then w.status e else w.statusHidden e) ∧
        u p 1 1 = b2n x.home * 128 + b2n (w.cell (posOf e)) * 64 + b2n x.lowlight * 32 + b2n x.clamp * 16 + b2n x.trimmed * 8 ∧
        u p 2 2 = (if x.prov.isSome then 0 else x.wLast % 2 ^ 16) ∧ u p 6 2 = 0)) ∧
  (∀ (s : State) (e : Nat), s.statusHidden e ≠ 1) ∧
  (∀ (s : State) (e tenant i : Nat) (v : Prov), (s.elem e).prov = some v → v.source = .circuit i → tenant ≠ 0 →
    (s.provSeen e tenant = true ↔ (s.ctx i).tenant = tenant)) ∧
  (∀ (s : State) (f : Frame), s.Live → Serves (.telPort f) opTelPort f s fun w r v code params =>
    let out := u f.params 0 1 == 1
    let n := u f.params 4 2
    code = Code.DONE ∧ v = w ∧ params.length = 4 * n ∧ ∀ k, k < n →
      let p := u f.params 2 2 + k
      let key := if out then 1_024 + p else p
      let visible : Prop := r.tenant = 0 ∨ w.right out p r.tenant r.stamp ≠ none
      let q := (params.drop (4 * k)).take 4
      (¬ visible → q = [0, 0, 0, 0]) ∧
      (visible → u q 0 2 = ((w.tapPower key).map (tc 16)).getD 0x8000 ∧ u q 3 1 = 0 ∧
        ((w.port key).lstate < 8 → u q 2 1 = 128 + b2n (w.blanked key) * 64 + (w.port key).lstate * 8 + b2n (w.guardLatched key) * 4))) ∧
  ∀ (s : State) (f : Frame), s.Live → Serves (.telStatus f) opTelStatus f s fun w _ v code params =>
    let a := w.sch.active
    code = Code.DONE ∧ v = w ∧ params.length = 12 ∧ u params 0 1 = w.level ∧
    u params 1 1 = w.get R.TIME_STS_VALID * 128 + w.get R.TIME_STS_SRV_STATE ∧
    u params 2 1 = b2n a.isSome * 128 + b2n (a.any (·.frozen.isSome)) * 64 + w.get R.GLB_STS_BIVOUAC * 32 + w.get R.THM_STS_SHUTDOWN * 16 ∧
    u params 3 1 = (a.map w.slotShown).getD 0 % 256 ∧ u params 4 8 = w.now % 2 ^ 48

/-- R405, R416, R418, R452, R454: REG_READ and REG_WRITE act word by word as BAR0 accesses, and refuse a denied address; a subscription is refused whole
for a source the tenant may not see and above 256 sources; EVT_READ returns records from INDEX; any other frame is dropped or answered
SES_BAD_OPCODE. -/
def Obligations.RegisterAndEventOpcodesAct : Prop :=  (∀ (s : State) (f : Frame), s.Live → Serves (.regRead f) opRegRead f s fun w _ v code params =>
    let n := u f.params 4 2
    let at_ (i : Nat) : Nat := u f.params 0 4 + 4 * i
    let denied : Prop := ∃ i, i < n ∧ (0x60_3000 ≤ at_ i ∧ at_ i ≤ 0x60_380F ∨ 0x60_0200 ≤ at_ i ∧ at_ i ≤ 0x60_0223)
    (denied → code = Code.SES_REG_DENIED ∧ v = w ∧ params = []) ∧
    (¬ denied → code = Code.DONE ∧ ∃ st : Nat → State, st 0 = w ∧ (∀ i, i < n → st (i + 1) = readReg (at_ i) (st i)) ∧ v = st n ∧
      params = (List.range n).flatMap fun i => natBe 4 (st (i + 1)).bus.toNat)) ∧
  (∀ (s : State) (f : Frame) (env : WriteEnv), s.Live → Serves (.regWrite f env) (opRegWrite env) f s fun w _ v code params =>
    let n := u f.params 0 2
    let at_ (i : Nat) : Nat := u f.params (4 + 8 * i) 4
    let denied (i : Nat) : Prop := 0x60_3000 ≤ at_ i ∧ at_ i ≤ 0x60_380F ∨ 0x60_0200 ≤ at_ i ∧ at_ i ≤ 0x60_0223
    ∃ m, m ≤ n ∧ (∀ i, i < m → ¬ denied i) ∧ (m < n → denied m) ∧ params = natBe 2 m ∧
      code = (if m = n then Code.DONE else Code.SES_REG_DENIED) ∧ ∃ st : Nat → State, st 0 = w ∧ v = st m ∧
        ∀ i, i < m → st (i + 1) = writeReg (at_ i) (BitVec.ofNat 32 (u f.params (8 + 8 * i) 4)) env (st i)) ∧
  (∀ (s : State) (f : Frame), s.Live → Serves (.evtSubscribe f) opSubscribe f s fun w r v code params =>
    let first := u f.params 0 2
    let named (x : Nat) : Prop := first ≤ x ∧ x < first + u f.params 2 2 ∧ mapBit f.params (x - first) = true
    let all := w.subs r.sess ++ (namedSources f.params).filter fun x => !(w.subs r.sess).contains x
    let hidden : Prop := r.tenant ≠ 0 ∧ ∃ x, named x ∧ tenantVisible x = false
    params = [] ∧ (hidden → code = Code.EVT_SUB_DENIED ∧ v = w) ∧ (¬ hidden → 256 < all.length → code = Code.EVT_SUB_LIMIT ∧ v = w) ∧
    (¬ hidden → all.length ≤ 256 → code = Code.DONE ∧ w.Touches v [.cmd] [] ∧
      (r.sess = 32 ∨ Tbl.look w.cmd.sessions r.sess ≠ none → ∀ x, x ∈ v.subs r.sess ↔ x ∈ w.subs r.sess ∨ named x) ∧
      (∀ j, j ≠ r.sess → v.subs j = w.subs j))) ∧
  (∀ (s : State) (f : Frame), s.Live → Serves (.evtUnsubscribe f) opUnsubscribe f s fun w r v code params =>
    let first := u f.params 0 2
    let named (x : Nat) : Prop := first ≤ x ∧ x < first + u f.params 2 2 ∧ mapBit f.params (x - first) = true
    code = Code.DONE ∧ params = [] ∧ w.Touches v [.cmd] [] ∧
    (∀ x, x ∈ v.subs r.sess ↔ x ∈ w.subs r.sess ∧ u f.params 2 2 ≠ 0 ∧ ¬ named x) ∧ (∀ j, j ≠ r.sess → v.subs j = w.subs j)) ∧
  (∀ (s : State) (f : Frame), s.Live → Serves (.evtRead f) opEvtRead f s fun w _ v code params =>
    let i := u f.params 0 4
    let head := w.get (whole R.EVT_HEAD)
    let rec_ (k : Nat) : Rec := Tbl.getD w.evt.ring ((i + k) % 2 ^ 32 % 16_384) Rec.empty
    v = w ∧ (head = i ∨ 16_384 < (head + 2 ^ 32 - i) % 2 ^ 32 → code = Code.EVT_RANGE ∧ params = []) ∧
    (i < head → head ≤ i + 16_384 → code = Code.DONE ∧
      params = (List.range (min (u f.params 4 2) (head - i))).flatMap fun k => (rec_ k).bytes)) ∧
  (∀ (f : Frame) (s : State), s.Live → f.opcode ∉ knownOpcodes → Leaves (.afiskFrameDropped f) s fun t =>
    (∀ r key u, s.admitted (opUnknown f.opcode) f = some (r, key, u) →
      t.cmd.outQ = (OutMsg.mk .reply true r.sess r.uid r.tenant r.reqId f.opcode Code.SES_BAD_OPCODE r.stamp [] key r.port r.addr r.udp)
        :: u.cmd.outQ) ∧
    t.cir = s.cir ∧ t.sch = s.sch ∧ t.trv = s.trv ∧ t.fab = s.fab)

/-! ## Register access -/

/-- R9, R10, R15, R16, R538: an access where no register lies, and a write to a read-only window, reads 0 or is discarded and raises EV 0; RW, RWC and
WO fields take the written bits, a 1 clears a W1C bit, nothing else changes; a write-only field reads 0; fields of a register never overlap. -/
def Obligations.RegisterAccessesFollowTheirTypes : Prop :=  (∀ (fs : List RField) (old v : Word), (∀ f, f ∈ fs → f.lo ≤ f.hi ∧ f.hi < 32) → fs.Pairwise (fun f g => f.hi < g.lo ∨ g.hi < f.lo) →
    (∀ f, f ∈ fs → bits (writeFields fs old v) f.hi f.lo = match f.acc with
      | .rw => bits v f.hi f.lo
      | .rwc => bits v f.hi f.lo
      | .wo => bits v f.hi f.lo
      | .w1c => bits (old &&& ~~~v) f.hi f.lo
      | .ro => bits old f.hi f.lo
      | .w1s => bits old f.hi f.lo) ∧
    (∀ i, i < 32 → (∀ f, f ∈ fs → i < f.lo ∨ f.hi < i) → bit (writeFields fs old v) i = bit old i) ∧
    (∀ f, f ∈ fs → bits (readFields fs old) f.hi f.lo = if f.acc = .wo then 0 else bits old f.hi f.lo) ∧
    (changesRwc fs old v = false ↔ ∀ f, f ∈ fs → f.acc = .rwc → bits v f.hi f.lo = bits old f.hi f.lo)) ∧
  (∀ (a : Nat) (r : RegRow), regRow a = some r →
    (∀ f, f ∈ r.fields → f.lo ≤ f.hi ∧ f.hi < 32) ∧ r.fields.Pairwise (fun f g => f.hi < g.lo ∨ g.hi < f.lo)) ∧
  (∀ (s : State) (write : Bool) (a : Nat), s.Served → Leaves (.accessError write a) s fun t =>
    let window : Prop := 0x1000_0000 ≤ a ∧ a < 0x1100_0000 ∨ 0x80_4000 ≤ a ∧ a < 0x80_6000 ∨ 0x88_0000 ≤ a ∧ a < 0x90_0000
    let wrong : Prop := mapped a = false ∨ write = true ∧ window
    let u := s.raise { occ Ev.accessError with data := some (a % 2 ^ 32) }
    (wrong → t = if write then u else { u with bus := 0 }) ∧ (¬ wrong → t = s)) ∧
  (∀ (a : Nat), mapped a = true → a % 4 = 0 ∧ (a < 0x0240_0000 ∨ 0x1000_0000 ≤ a ∧ a < 0x1100_0000)) ∧
  (∀ (s : State) (a : Nat) (v : Word) (env : WriteEnv), s.Served → mapped a = true → Leaves (.plainRegisterWrite a v env) s fun t => t = writeReg a v env s) ∧
  (∀ (s : State) (v : Word) (env : WriteEnv) (n : Fin 20) (b : Fin 16),
    writeReg R.CAL_TBL_SEL v env s = s.take R.CAL_TBL_SEL v ∧ writeReg (R.TILE_LP_CAP_ADDR n) v env s = s.take (R.TILE_LP_CAP_ADDR n) v ∧
    writeReg (R.TILE_MC_CORR_ADDR n) v env s = s.take (R.TILE_MC_CORR_ADDR n) v ∧
    s.LockedWritten (writeReg R.CMD_UDP v env s) R.CMD_UDP R.CMD_CTL_ENABLE R.CMD_CTL_REFUSE Ev.commandConfigurationRefused Code.SES_CONFIG v ∧
    s.LockedWritten (writeReg R.EVT_LS_BASE v env s) R.EVT_LS_BASE R.EVT_CTL_ENABLE R.EVT_CTL_REFUSE Ev.recorderConfigurationRefused Code.EVT_CONFIG v ∧
    (s.put R.CAL_CTL_REFUSE 0).LockedWritten (writeReg R.CAL_LIM v env s) R.CAL_LIM R.CAL_CTL_ENABLE R.CAL_CTL_REFUSE
      Ev.calibrationOrThermalRefusal Code.CAL_CONFIG v ∧
    writeReg (R.TILE_PW_BTIM n b) v env s =
      (if s.flag (R.TILE_PW_BCTL_ENABLE n b) = true ∧ s.rwcHit (R.TILE_PW_BTIM n b) v = true then
        s.refuse (R.TILE_PW_BCTL_REFUSE n b) (Ev.heaterDriveRefusal n) Code.PWM_CFG_LOCKED
      else (s.take (R.TILE_PW_BTIM n b) v).put (R.TILE_PW_BCTL_REFUSE n b) 0) ∧
    writeReg R.GLB_WDT v env s = (if 10 ≤ bits v 13 0 ∧ bits v 13 0 ≤ 10_000 then s.take R.GLB_WDT v
      else s.refuse R.GLB_CTL_REFUSE Ev.serviceConfigurationRefused Code.SVC_CONFIG) ∧
    writeReg R.CMD_LEASE_CFG v env s = (if 1 ≤ bits v 11 0 ∧ bits v 11 0 ≤ 3_600 then s.take R.CMD_LEASE_CFG v else s)) ∧
  ∀ (s : State) (a : Nat), mapped a = false → readReg a s = { s.raise { occ Ev.accessError with data := some (a % 2 ^ 32) } with bus := 0 }

/-! ## Staying in service -/

/-- R417, R473, R474, R475, R500: staging stores bytes at OFFSET; an accepted change sets BUSY and clears STBY_READY; a malformed or unsigned image ends
it with SVC_IMAGE_INVALID and an old one with SVC_IMAGE_ROLLBACK; at H, the first instant clear of planned epochs, the groups exchange and the
request completes. -/
def Obligations.FirmwareChangesRunInSteps : Prop :=  (∀ (s : State) (f : Frame), s.Live → Serves (.mntFwStage f) opFwStage f s fun w _ v code params =>
    let o := u f.params 0 4
    let n := u f.params 4 2
    params = [] ∧ (w.svc.fw.isSome = true → code = Code.SVC_BUSY ∧ v = w) ∧
    (w.svc.fw = none → code = Code.DONE ∧ (∀ i, i < n → Tbl.getD v.svc.staged (o + i) 0 = f.params.getD (8 + i) 0) ∧
      (∀ j, j < o ∨ o + n ≤ j → Tbl.getD v.svc.staged j 0 = Tbl.getD w.svc.staged j 0) ∧ w.Touches v [.svc] [])) ∧
  (∀ (s : State) (f : Frame), s.Live → Serves (.mntFwActivate f) opFwActivate f s fun w r v code params =>
    let size := u f.params 0 4
    params = [] ∧ (w.svc.fw.isSome = true → code = Code.SVC_BUSY ∧ v = w) ∧
    (w.svc.fw = none → code = Code.ACCEPTED ∧ v.get R.GLB_FW_0_BUSY = 1 ∧ v.get R.GLB_FW_0_STBY_READY = 0 ∧ w.Touches v [.svc] [R.GLB_FW_0] ∧
      ∃ x, v.svc = { w.svc with fw := some x } ∧ x.step = 1 ∧ x.size = size ∧ x.req = r ∧ x.wasReady = w.flag R.GLB_FW_0_STBY_READY ∧
        x.kept = (size == 0 && w.svc.keptSince.isSome) ∧ (x.kept = true → x.image = w.svc.standby))) ∧
  (∀ (s : State) (sigOk started : Bool) (x : FwChange), s.Live → s.ctrlUp = true → s.svc.fw = some x → x.step ≠ 3 →
    Leaves (.fwStandbyReady sigOk started) s fun t =>
      let fld (o n : Nat) : Nat := beNat ((List.range n).map fun i => Tbl.getD s.svc.staged (o + i) 0)
      let formed : Prop := fld 0 4 = 0x5A4D_4249 ∧ fld 4 2 = 1 ∧ 1 ≤ fld 6 2 ∧ fld 9 3 = 0 ∧ fld 12 4 = x.size ∧ 4_096 ≤ x.size ∧ x.size ≤ 16_777_216
      let image : FwImage := if x.kept then x.image else ⟨fld 6 2, fld 8 1⟩
      let good : Prop := x.kept = true ∨ (formed ∧ sigOk = true ∧ ¬ (s.svc.ddrLost0 = true ∧ s.svc.ddrLost1 = true))
      let ends (code : Nat) : Prop := t.svc = { s.svc with fw := none } ∧ t.get R.GLB_FW_0_BUSY = 0 ∧
        t.flag R.GLB_FW_0_STBY_READY = x.wasReady ∧ s.Touches t [.svc, .cmd, .frames, .recorder] [R.GLB_FW_0, R.CMD_CNT 5] ∧
        (s.sessionLive x.req = true → ∃ m, m ∈ t.cmd.outQ ∧ m.kind = .completion ∧ m.final = true ∧ m.reqId = x.req.reqId ∧ m.code = code)
      (¬ good → ends Code.SVC_IMAGE_INVALID) ∧ (good → image.arbVer < s.nv.arbMin → ends Code.SVC_IMAGE_ROLLBACK) ∧
      (good → s.nv.arbMin ≤ image.arbVer → started = false → ends Code.SVC_IMAGE_INVALID) ∧
      (good → s.nv.arbMin ≤ image.arbVer → started = true → t = { s with svc.fw := some { x with step := 3, image := image } })) ∧
  (∀ (s : State) (x : FwChange), s.Live → s.hubIn = true → s.svc.fw = some x → x.step = 3 → s.tm.step = none → Leaves (.fwHandover true) s fun t =>
    t.t = max s.t ((s.handoverAt + 20_000) * 2 ^ 32) ∧ t.svc.active = x.image ∧ t.svc.standby = s.svc.active ∧ t.svc.fw = none ∧
    t.svc.keptSince = some t.now ∧ t.get R.GLB_FW_0_ACT_GRP = 1 - s.get R.GLB_FW_0_ACT_GRP ∧ t.get R.GLB_FW_0_BUSY = 0 ∧
    t.get R.GLB_FW_0_STBY_READY = s.get R.GLB_FW_0_STBY_READY ∧ t.get R.GLB_ARB_CTL_ARB_ACT = x.image.arbVer % 256 ∧
    t.get R.GLB_FW_1_VER_ACT = x.image.imgVer % 65_536 ∧ t.get R.GLB_FW_1_VER_STBY = s.svc.active.imgVer % 65_536 ∧
    s.Touches t [.time, .svc, .cmd, .frames, .recorder] [R.GLB_FW_0, R.GLB_ARB_CTL, R.GLB_FW_1, R.CMD_CNT 5] ∧
    (s.sessionLive x.req = true → ∃ m, m ∈ t.cmd.outQ ∧ m.kind = .completion ∧ m.final = true ∧ m.reqId = x.req.reqId ∧ m.code = Code.DONE)) ∧
  (∀ (s : State) (x : FwChange), s.Live → s.hubIn = true → s.svc.fw = some x → x.step = 3 → s.tm.step = none → Leaves (.fwHandover false) s fun t =>
    t.t = max s.t ((s.handoverAt + 20_000) * 2 ^ 32) ∧ t.svc = { s.svc with fw := none } ∧ t.get R.GLB_FW_0_BUSY = 0 ∧
    t.flag R.GLB_FW_0_STBY_READY = x.wasReady) ∧
  (∀ (s : State),
    let clash (h : Nat) : Prop := ∃ e, e ∈ s.plannedEpochs ∧ (h ≤ e - 5_000 + 5_000 ∧ e - 5_000 ≤ h + 25_000 ∨ h ≤ e - 1_000 + 5_000 ∧ e - 1_000 ≤ h + 25_000)
    s.now ≤ s.handoverAt ∧ ¬ clash s.handoverAt ∧ ∀ h, s.now ≤ h → h < s.handoverAt → clash h) ∧
  (∀ (s : State) (n : Nat), s.Live → s.svc.keptSince = some n → s.svc.fw = none → Leaves .fwKeepExpiry s fun t =>
    t = { s with t := max s.t ((n + s.get R.GLB_FW_0_KEEP * 1_000_000_000) * 2 ^ 32), svc.keptSince := none }) ∧
  ∀ (s : State), s.Live → s.ctrlUp = true → s.svc.keptSince = none → s.svc.fw = none → s.flag R.GLB_FW_0_STBY_READY = false →
    Leaves .standbyReloadDone s fun t => t.svc = { s.svc with standby := s.svc.active } ∧ t.get R.GLB_FW_0_STBY_READY = 1 ∧
      t.get R.GLB_FW_1_VER_STBY = s.svc.active.imgVer % 65_536 ∧ s.Touches t [.svc] [R.GLB_FW_0, R.GLB_FW_1]

/-- R417, R470, R491, R503, R504, R542: a soft reset begins 100 µs later and is refused during a firmware change; BIV_CLR ends the ECC cause alone;
ADVANCE raises ARB_MIN and it never falls; the older configuration copy is written; MNT_IDENTITY answers its fields. -/
def Obligations.ServiceCommandsAct : Prop :=  (∀ (s : State) (f : Frame), s.Live → Serves (.mntSoftReset f) opSoftReset f s fun w _ v code params =>
    params = [] ∧ (w.svc.fw.isSome = true → code = Code.SVC_BUSY ∧ v = w) ∧
    (w.svc.fw = none → code = Code.DONE ∧ v = { w with svc.resetAt := some (w.now + 100_000, 3) })) ∧
  (∀ (s : State) (v : Word) (i : Instr), s.Served → (i = .softReset v ∧ bit v 0 = true ∨ i = .bivClr v ∧ bit v 1 = true) → Leaves i s fun t =>
    let biv := bit v 1
    let rst := bit v 0
    let other : Prop := ∃ c, c ∈ s.svc.causes ∧ c ≠ 3
    let no (code : Nat) : State := s.refuse R.GLB_CTL_REFUSE Ev.serviceConfigurationRefused code
    (biv = true → other → t = no Code.SVC_CONFIG) ∧
    ((biv = true → ¬ other) → rst = true → s.svc.fw.isSome = true → t = no Code.SVC_BUSY) ∧
    ((biv = true → ¬ other) → (rst = true → s.svc.fw = none) →
      t = { s with svc.eccBiv := s.svc.eccBiv && !biv, svc.resetAt := if rst then some (s.now + 100_000, 3) else s.svc.resetAt })) ∧
  (∀ (s : State) (v : Word), s.Served → bit v 0 = true → Leaves (.arbAdvance v) s fun t =>
    t.nv = { s.nv with arbMin := max s.nv.arbMin s.svc.active.arbVer } ∧ t.get R.GLB_FW_ARB_ARB_MIN = max s.nv.arbMin s.svc.active.arbVer % 65_536 ∧
    s.Touches t [.nv] [R.GLB_FW_ARB]) ∧
  (∀ (s : State) (cut : Bool), s.Live → s.hubIn = true → s.get R.GLB_BOOT_STAGE = 6 → Leaves (.configAreaSave cut) s fun t =>
    let a := s.nv.cfgA
    let b := s.nv.cfgB
    let held : Option CfgCopy := if a.good = true ∧ (b.good = false ∨ b.gen ≤ a.gen) then some a else if b.good then some b else none
    let same : Prop := ∃ c, held = some c ∧ c.regs = s.configNow ∧ c.crvHost = s.svc.crvHost ∧ c.crvAuto = s.svc.crvAuto
    let c : CfgCopy := ⟨max a.gen b.gen + 1, !cut, s.configNow, s.svc.crvHost, s.svc.crvAuto⟩
    let older : Prop := a.good = false ∨ (b.good = true ∧ a.gen ≤ b.gen)
    (same → t = s) ∧ (¬ same → older → t = { s with nv.cfgA := c }) ∧ (¬ same → ¬ older → t = { s with nv.cfgB := c }) ∧
    (cut = true → a.gen ≠ b.gen → t.nv.config = held) ∧ (cut = false → ¬ same → t.nv.config = some c)) ∧
  (∀ (s : State) (f : Frame), s.Live → Serves (.mntIdentity f) opIdentity f s fun w _ v code params =>
    code = Code.DONE ∧ v = w ∧ params.length = 20 ∧ params.take 8 = [0x5A, 0x4D, 0x31, 0x30, 0x32, 0x34, 0, 0] ∧
    u params 8 2 = w.get R.GLB_REV_SREV ∧ u params 10 2 = w.get R.GLB_FW_1_VER_ACT ∧ u params 12 4 = (w.rd R.GLB_SERIAL_HI).toNat ∧
    u params 16 4 = (w.rd R.GLB_SERIAL_LO).toNat)

/-- R531: the JTAG port loads any instruction while STAGE reads LATCH, ROM or HALT, and else BYPASS in place of one that is not BYPASS, IDCODE or
SAMPLE/PRELOAD; IDCODE reads 0x1102_4F79; nothing else, no blanker and no latch, is driven. -/
def Obligations.JtagLoadsWhatTheStageAllows : Prop :=  ∀ (s : State) (i : JtagIns), s.svc.resetAt = none → Leaves (.jtagInstruction i) s fun t =>
    let open_ : Prop := s.get R.GLB_BOOT_STAGE = 0 ∨ s.get R.GLB_BOOT_STAGE = 1 ∨ s.get R.GLB_BOOT_STAGE = 7
    let barred : Prop := (i = .extest ∨ i = .other) ∧ ¬ open_
    (barred → t.svc.jtag = .bypass) ∧ (¬ barred → t.svc.jtag = i) ∧ (i = .idcode → t.svc.jtagDr = 0x1102_4F79) ∧ (i ≠ .idcode → t.svc.jtagDr = 0) ∧
    t = { s with svc.jtag := t.svc.jtag, svc.jtagDr := t.svc.jtagDr }

/-- R476 to R481: a failed engine of its own tile is replaced by a free spare at the tile's next frame edge, or fenced to none; what the fence names
then owns the tile and starts from the mirror; EV 6 follows one edge later; TEST runs 10 ms and sets HEALTHY; RETURN needs HEALTHY. -/
def Obligations.FailedEnginesAreReplaced : Prop :=  (∀ (s : State) (n : Fin 20), s.Live → s.hubIn = true → s.get (R.TILE_OWNER_OWNER n) = 0 → s.get (R.GLB_ENG_STATE n) = 0 →
    Leaves (.engineDeclareFailed n) s fun t => ∃ v : State,
      v.get (R.GLB_ENG_STATE n) = 1 ∧ v.get (R.GLB_ENG_HEALTHY n) = 0 ∧ s.Touches v [.svc, .recorder, .frames] [R.GLB_ENG n] ∧
      (∀ m, m ≠ n.val → Tbl.look v.svc.fence m = Tbl.look s.svc.fence m) ∧
      (s.svc.spare0 = none → t = v ∧ v.svc.spare0 = some n.val ∧ v.svc.spare1 = s.svc.spare1 ∧ Tbl.look v.svc.fence n = some 1) ∧
      (s.svc.spare0.isSome = true → s.svc.spare1 = none → t = v ∧ v.svc.spare0 = s.svc.spare0 ∧ v.svc.spare1 = some n.val ∧ Tbl.look v.svc.fence n = some 2) ∧
      (s.svc.spare0.isSome = true → s.svc.spare1.isSome = true → t = v.autoReports (tileCells n) ∧ v.svc.spare0 = s.svc.spare0 ∧
        v.svc.spare1 = s.svc.spare1 ∧ Tbl.look v.svc.fence n = some 3)) ∧
  (∀ (s : State) (n : Fin 20) (o : Nat), s.Live → Tbl.look s.svc.fence n = some o → o < 4 → Leaves (.spareTakeover n) s fun t =>
    t.t = max s.t (s.nextEdge n * 2 ^ 32) ∧ t.get (R.TILE_OWNER_OWNER n) = o ∧
    t.svc.spare0 = (if o ≠ 1 ∧ s.svc.spare0 = some n.val then none else s.svc.spare0) ∧
    t.svc.spare1 = (if o ≠ 2 ∧ s.svc.spare1 = some n.val then none else s.svc.spare1)) ∧
  (∀ (s : State) (n : Nat) (o : Nat), n < 20 → Tbl.look s.svc.fence n = some o →
    let t := s.fenceEdge n
    let m := (s.tile n).mirror
    (o = 8 → t = { s with svc.fence := Tbl.del s.svc.fence n }.ev Ev.engineOwnershipChanged) ∧
    (o < 4 → t.get (R.TILE_OWNER_OWNER n) = o ∧ Tbl.look t.svc.fence n = (if o = 3 then none else some 8) ∧ (t.tile n).learn = none ∧
      (o = 0 → t.get (R.GLB_ENG_STATE n) = 0 ∧ t.get (R.GLB_ENG_HEALTHY n) = 0) ∧
      (o ≠ 3 → m ≠ [] → ∀ e, tileOf e = n → (t.elem e).toElemRec =
        { (Tbl.getD m e Elem.reset).toElemRec with duty := (t.elem e).duty, drv := (t.elem e).drv }))) ∧
  (∀ (s : State) (n : Fin 20) (v : Word) (i : Instr), s.Served → (i = .engineTest n v ∧ bit v 0 = true ∨ i = .engineReturn n v ∧ bit v 1 = true) →
    Leaves i s fun t =>
      let ret := bit v 1
      let tests : Prop := bit v 0 = true ∧ s.get (R.GLB_ENG_STATE n) = 1
      (ret = true → s.flag (R.GLB_ENG_HEALTHY n) = false → t = s.refuse R.GLB_CTL_REFUSE Ev.serviceConfigurationRefused Code.SVC_CONFIG) ∧
      ((ret = true → s.flag (R.GLB_ENG_HEALTHY n) = true) → s.Touches t [.svc, .recorder, .frames] [R.GLB_ENG n] ∧
        (tests → t.get (R.GLB_ENG_STATE n) = 2 ∧ Tbl.look t.svc.engTest n = some s.now) ∧
        (¬ tests → t.rd (R.GLB_ENG n) = s.rd (R.GLB_ENG n) ∧ t.svc.engTest = s.svc.engTest) ∧
        (∀ m, m ≠ n.val → Tbl.look t.svc.fence m = Tbl.look s.svc.fence m) ∧
        Tbl.look t.svc.fence n = (if ret then some 0 else Tbl.look s.svc.fence n))) ∧
  ∀ (s : State) (n : Fin 20) (pass : Bool) (d : Nat), s.Live → Tbl.look s.svc.engTest n = some d → Leaves (.engineTestDone n pass) s fun t =>
    t.t = max s.t ((d + 10_000_000) * 2 ^ 32) ∧ t.get (R.GLB_ENG_STATE n) = 1 ∧ t.flag (R.GLB_ENG_HEALTHY n) = pass ∧
    Tbl.look t.svc.engTest n = none ∧ (∀ m, m ≠ n.val → Tbl.look t.svc.engTest m = Tbl.look s.svc.engTest m) ∧ s.Touches t [.time, .svc] [R.GLB_ENG n]

/-- R417, R482, R483, R490 to R494: MNT_CELL sets a cell's host state, and clears no cell of a fenced bank; ECC errors are counted and what is lost is
restored or cleared; a DDR channel loss shows in `MEM_STS` and, with both lost, disables schedules and ends a firmware change; `MEM_CTL` trains
channels. -/
def Obligations.CellsAndMemoryFaultsAreHandled : Prop :=  (∀ (s : State) (f : Frame), s.Live → Serves (.mntCell f) opCell f s fun w r v code params =>
    let n := (u f.params 0 1 * 20 + u f.params 1 1) * 512 + u f.params 2 2
    let act := u f.params 4 1
    let refused : Prop := act = 0 ∧ w.bankFenced (n / 1_024) (n % 1_024 / 64) = true
    params = [] ∧ code = Code.ACCEPTED ∧ (refused → v = w.complete r true Code.SVC_FENCE_REFUSED []) ∧
    (¬ refused → ∃ x : State, v = (State.crvChange w x [n]).complete r true Code.DONE [] ∧ w.Touches x [.svc, .recorder, .frames] [] ∧
      Tbl.getD x.svc.crvHost n 0 = act ∧ (∀ m, m ≠ n → Tbl.getD x.svc.crvHost m 0 = Tbl.getD w.svc.crvHost m 0) ∧
      Tbl.getD x.svc.crvAuto n 0 = (if act = 0 then 0 else Tbl.getD w.svc.crvAuto n 0) ∧
      (∀ m, m ≠ n → Tbl.getD x.svc.crvAuto m 0 = Tbl.getD w.svc.crvAuto m 0))) ∧
  (∀ (s : State) (w : EccWord) (fixable : Bool), s.Live → Leaves (.eccScrub w fixable) s fun t =>
    let base := if eccInTile w then 0 else 2
    let a := R.GLB_ECC (if fixable then base else base + 1)
    ∃ v : State, v.get (whole a) = satInc 32 (s.get (whole a)) ∧ s.Touches v [.recorder, .frames] [a] ∧ (fixable = true → t = v) ∧
      (fixable = false → match w with
        | .element e => (t.elem e).stale = true ∧ (t.elem e).out = none ∧ (∀ e', e' ≠ e.val → t.elem e' = s.elem e') ∧
          ((∀ m, Tbl.look (s.tile (tileOf e)).mirror e = some m → (t.elem e).toElemRec =
            { m.toElemRec with duty := (s.elem e).duty, drv := (s.elem e).drv }) ∧
          (Tbl.look (s.tile (tileOf e)).mirror e = none → (t.elem e).toElemRec = (s.elem e).toElemRec)) ∧ v.Touches t [.fab] []
        | .channel n q => t = v.setElem (n.val * 4_096 + q.val / 2) { v.elem (n.val * 4_096 + q.val / 2) with stale := true, out := none }
        | .slotMap n => (∀ tr, tr ∈ t.fab.trans → tr.slotClass = true → tr.phase ≤ 1 → n.val ∈ tr.refused) ∧
          t.fab.trans.length = s.fab.trans.length ∧ v.Touches t [.fab] []
        | .program _ => t = v
        | .capture n i => Tbl.look (t.tile n).cap i = some 0xFFFF_FFFF ∧
          (∀ j, j ≠ i.val → Tbl.look (t.tile n).cap j = Tbl.look (s.tile n).cap j) ∧ v.Touches t [.tiles] []
        | .hubTable good => t = { v with svc.eccBiv := s.svc.eccBiv || !good }
        | .ring k => Tbl.look t.evt.ring k = none ∧ t.get (whole R.EVT_LOST) = satInc 32 (v.get (whole R.EVT_LOST)) ∧
          v.Touches t [.recorder] [R.EVT_LOST]
        | .key n => Tbl.look t.cmd.keys n = none ∧ t.flag ⟨if n.val < 32 then R.CMD_KEY_VALID_LO else R.CMD_KEY_VALID_HI, n.val % 32, n.val % 32⟩ = false ∧
          (∀ m, m ≠ n.val → Tbl.look t.cmd.keys m = Tbl.look s.cmd.keys m)
        | .sa p d k => Tbl.look t.net.sas (p.val * 8 + d.val * 4 + k.val) = none ∧ t.flag ⟨R.CMD_SAK_VALID, p.val * 8 + d.val * 4 + k.val, p.val * 8 + d.val * 4 + k.val⟩ = false ∧
          (∀ m, m ≠ p.val * 8 + d.val * 4 + k.val → Tbl.look t.net.sas m = Tbl.look s.net.sas m))) ∧
  (∀ (s : State) (c : Fin 2), s.Live → s.get R.MEM_STS_CH_OK / 2 ^ c.val % 2 = 1 → Leaves (.ddrChannelLoss c) s fun t =>
    let lost (k : Nat) : Bool := k == c.val || if k = 0 then s.svc.ddrLost0 else s.svc.ddrLost1
    let ok (k : Nat) : Bool := s.flag R.MEM_CTL_ENABLE && s.get R.MEM_CTL_CH_EN / 2 ^ k % 2 == 1 && !lost k
    t.svc.ddrLost0 = lost 0 ∧ t.svc.ddrLost1 = lost 1 ∧ t.get R.MEM_STS_CH_OK = b2n (ok 0) + 2 * b2n (ok 1) ∧
    t.flag R.MEM_STS_LIB_OK = (ok 0 || ok 1) ∧ (c.val = 0 → t.evt.mirror = []) ∧
    (ok 0 = false → ok 1 = false → t.flag R.SCHD_CTL_ENABLE = false ∧ ∀ x, s.svc.fw = some x → x.step ≠ 3 → t.svc.fw = none ∧ t.get R.GLB_FW_0_BUSY = 0) ∧
    (ok 0 = true ∨ ok 1 = true → t.rd R.SCHD_CTL = s.rd R.SCHD_CTL ∧ t.svc.fw = s.svc.fw) ∧ t.sch = s.sch) ∧
  (∀ (s : State) (v : Word) (ok0 ok1 : Bool) (i : Instr), s.Served → (i = .memCtlWrite v ok0 ok1 ∨ i = .memRetrain v ok0 ok1 ∧ bit v 3 = true) →
    Leaves i s fun t =>
      let x := s.take R.MEM_CTL v
      let ok (k : Nat) : Bool := if k = 0 then ok0 else ok1
      let was (k : Nat) : Bool := if k = 0 then s.svc.ddrLost0 else s.svc.ddrLost1
      let lost (k : Nat) : Bool := if k = 0 then t.svc.ddrLost0 else t.svc.ddrLost1
      let en (k : Nat) : Bool := x.get R.MEM_CTL_CH_EN / 2 ^ k % 2 == 1
      let locked : Prop := s.flag R.MEM_CTL_ENABLE = true ∧ s.rwcHit R.MEM_CTL v = true
      let sets : Prop := s.flag R.MEM_CTL_ENABLE = false ∧ x.flag R.MEM_CTL_ENABLE = true
      let trains : Prop := en 0 = true ∧ ok0 = true ∨ en 1 = true ∧ ok1 = true
      (locked → t = s.refuse R.MEM_CTL_REFUSE Ev.serviceConfigurationRefused Code.SVC_CONFIG) ∧
      (¬ locked → s.Touches t [.svc, .recorder, .frames] [R.MEM_CTL, R.MEM_STS] ∧ (sets → ¬ trains → t.flag R.MEM_CTL_ENABLE = false ∧ t.get R.MEM_CTL_REFUSE = Code.SVC_CONFIG ∧
          t.get R.MEM_STS_CH_OK = 0 ∧ t.get R.MEM_STS_LIB_OK = 0) ∧
        ((sets → trains) → t.rd R.MEM_CTL = x.rd R.MEM_CTL ∧
          t.get R.MEM_STS_CH_OK = b2n (x.flag R.MEM_CTL_ENABLE && en 0 && !lost 0) + 2 * b2n (x.flag R.MEM_CTL_ENABLE && en 1 && !lost 1) ∧
          t.get R.MEM_STS_LIB_OK = b2n (t.get R.MEM_STS_CH_OK != 0) ∧ (sets → ∀ k, k < 2 → lost k = (en k && !ok k)) ∧
          (¬ sets → x.flag R.MEM_CTL_ENABLE = true → bit v 3 = true → ∀ k, k < 2 → lost k = (was k && !ok k)) ∧
          (¬ sets → x.flag R.MEM_CTL_ENABLE = false ∨ bit v 3 = false → ∀ k, k < 2 → lost k = was k)))) ∧
  ∀ (s : State) (c : Fin 2) (a b : Nat), s.Live → s.get R.MEM_STS_CH_OK / 2 ^ c.val % 2 = 1 → Leaves (.ddrScrub c a b) s fun t =>
    t.get (whole (R.MEM_ECC (2 * c.val))) = min (s.get (whole (R.MEM_ECC (2 * c.val))) + a) (2 ^ 32 - 1) ∧
    t.get (whole (R.MEM_ECC (2 * c.val + 1))) = min (s.get (whole (R.MEM_ECC (2 * c.val + 1))) + b) (2 ^ 32 - 1) ∧
    s.Touches t [] [R.MEM_ECC (2 * c.val), R.MEM_ECC (2 * c.val + 1)]

/-- R134, R472, R486 to R489: with REFCLK lost every tile is in holdover and VALID falls; a tile without sync marks enters it and ends its hold; the
schedule freezes after 10 s, or at once where the hub is gone too, and resumes 1 s after both are back; a failover freeze ends with the groups
exchanged. -/
def Obligations.HoldoverAndFailoverFreezes : Prop :=  (∀ (s : State), s.Live → s.svc.refLost = false → Leaves .refclkLoss s fun t => ∃ v : State,
    t = (if s.hubIn then v else v.holdoverFreeze (List.range 20)) ∧ v.flag R.TIME_STS_REF_OK = false ∧ v.flag R.TIME_STS_VALID = false ∧
    v.svc.refLost = true ∧ v.svc.refGoodSince = none ∧ (∀ n, n < 20 → Tbl.look v.svc.holdover n = some ((Tbl.look s.svc.holdover n).getD s.now)) ∧
    s.Touches v [.svc, .recorder, .frames] [R.TIME_STS]) ∧
  (∀ (s : State), s.Live → s.svc.refLost = true → Leaves .refclkReturn s fun t => t.flag R.TIME_STS_REF_OK = true ∧ t.svc.refLost = false ∧
    t.svc.refGoodSince = (if s.hubIn then some s.now else none) ∧ t.svc.holdover = (if s.hubIn then [] else s.svc.holdover) ∧
    s.Touches t [.svc] [R.TIME_STS]) ∧
  (∀ (s : State) (n : Fin 20), s.Live → Leaves (.tileHoldoverEntry n) s fun t => ∃ v : State,
    t = (if s.svc.refLost = true ∧ s.hubIn = false then v.holdoverFreeze (List.range 20) else v) ∧
    v.t = max s.t ((s.svc.lastMark + 10_000) * 2 ^ 32) ∧ Tbl.look v.svc.holdover n = some ((Tbl.look s.svc.holdover n).getD v.now) ∧
    (∀ m, m ≠ n.val → Tbl.look v.svc.holdover m = Tbl.look s.svc.holdover m) ∧ (v.tile n).anchor = none ∧ v.flag (R.TILE_MC_ANC_CTL_BUSY n) = false ∧
    (∀ r, v.recalOf n = some r → r.started = none ∧ r.held = none) ∧ v.sch = s.sch ∧ v.cir = s.cir ∧ v.fab = s.fab) ∧
  (∀ (s : State) (x : Nat × Nat), s.Live → x ∈ s.svc.holdover → (∀ y, y ∈ s.svc.holdover → x.2 ≤ y.2) → Leaves .holdoverFreeze s fun t =>
    ∃ ts v, t = State.holdoverFreeze v ts ∧ v = { s with t := max s.t ((x.2 + 10_000_000_000) * 2 ^ 32) } ∧
      ∀ m, m ∈ ts ↔ ∃ y, y ∈ s.svc.holdover ∧ y.1 = m ∧ y.2 + 10_000_000_000 ≤ v.now) ∧
  (∀ (s : State) (ts : List Nat),
    let t := s.holdoverFreeze ts
    (s.flag R.GLB_STS_HO_FROZEN = true → t = s) ∧
    (s.flag R.GLB_STS_HO_FROZEN = false → t.flag R.GLB_STS_HO_FROZEN = true ∧ t.svc.frozenTiles = ts ∧
      ∀ a, s.sch.active = some a → a.frozen = none → (∀ tr, tr ∈ s.fab.trans → tr.slotClass = true → tr.phase = 0 ∧ tr.swap = false) →
        ∃ b, t.sch.active = some b ∧ b.frozen = some a.slot ∧ b.slot = a.slot ∧ b.resumeAt = none ∧ t.cir = s.cir)) ∧
  (∀ (s : State) (n : Nat), s.Live → s.svc.refGoodSince = some n → s.flag R.GLB_STS_HO_FROZEN = true → s.hubIn = true →
    s.flag R.TIME_STS_REF_OK = true → Leaves .holdoverFreezeEnd s fun t =>
      let cool : Prop := ∀ m, m < 20 → (s.tile m).level < 3
      t.t = max s.t ((n + 1_000_000_000) * 2 ^ 32) ∧ t.flag R.GLB_STS_HO_FROZEN = false ∧ t.svc.frozenTiles = [] ∧
      (cool → ∀ a, s.sch.active = some a → t.sch.active = some { a with freezeDue := false, resumeAt := if a.frozen.isSome then some t.now else none }) ∧
      (¬ cool → t.sch = s.sch) ∧ s.Touches t [.time, .svc, .sch] [R.GLB_STS]) ∧
  ∀ (s : State) (env : WriteEnv) (f : Nat), s.Live → s.svc.freezeEnd = some f → (∀ q, q ∈ s.evt.tileQ → q.1.src < 1_536) → Leaves (.failoverFreezeEnd env) s fun t => ∃ v : State,
    v.t = max s.t (f * 2 ^ 32) ∧ v.svc.freezeEnd = none ∧ v.svc.active = s.svc.standby ∧ v.svc.standby = s.svc.active ∧
    v.svc.refGoodSince = (if s.svc.refLost then none else some v.now) ∧ v.get R.GLB_FW_0_ACT_GRP = 1 - s.get R.GLB_FW_0_ACT_GRP ∧
    v.get R.GLB_FW_0_STBY_READY = 0 ∧ s.Touches v [.time, .svc, .recorder, .frames] [R.GLB_FW_0] ∧
    (let fell (cls : Bool) (x : State) : List Nat :=
      (x.waitingEpochs cls).filter fun e => decide (s.svc.outAt ≤ e - 5_000) && decide (e - 5_000 ≤ v.now)
     let a := (fell true v).foldl (fun x e => x.lateEpoch true e) v
     let b := (fell false a).foldl (fun x e => x.lateEpoch false e) a
     t = b.cmd.ingress.foldl (fun x q => x.processQueued env q.1 q.2) { b with cmd.ingress := [] })

/-! ## Start-up, resets and power failure -/

/-- R3, R327, R328, R499 to R503: POR_N low for 100 ns resets every register and latches every port dark; its rise closes the latches that are not; the
boot ROM takes the valid slot of higher version, slot A when equal, and halts with BOOT_NO_IMAGE when none is; the watchdog boots the other slot
once. -/
def Obligations.ColdStartChoosesTheImage : Prop :=  (∀ (s : State) (width : Nat), s.svc.resetAt = none → Leaves (.coldReset width) s fun t =>
    (width < 100 → t = s) ∧
    (100 ≤ width → t.svc = SvcSt.reset ∧ t.svc.por = false ∧ (∀ a, t.rd a = resetWord a) ∧ (∀ k, (t.port k).lstate = 0) ∧ (∀ e, t.elem e = Elem.reset) ∧
      (∀ i, t.ctx i = Ctx.idle) ∧ t.sch = SchSt.reset ∧ t.trv = TrvSt.reset ∧ t.cmd.sessions = [] ∧ t.cmd.keys = [] ∧
      t.nv = { s.nv with emergency := true } ∧ t.pending = s.pending)) ∧
  (∀ (s : State) (l : List (Fin 2048 × Fin 2)), s.svc.resetAt = none → Leaves (.porRelease l) s fun t =>
    (s.svc.por = true → t = s) ∧
    (s.svc.por = false → t.svc.por = true ∧ t.flag R.TIME_STS_REF_OK = true ∧ t.nv = { s.nv with emergency := false } ∧
      (∀ k : Fin 2048, (∃ x, (k, x) ∈ l) → (t.port k).lstate = 3 ∧ (t.port k).pulse.isSome = true) ∧
      (∀ k : Fin 2048, (∀ x, (k, x) ∉ l) → (t.port k).lstate = (s.port k).lstate ∧ (t.port k).sense = 2) ∧
      (∀ n, n = 0 ∨ n = 9 → let a := whole (R.TILE_FD_LAT_CNT n 3)
        t.get a = if s.nv.emergency then satInc 32 (s.get a) else s.get a))) ∧
  (∀ (s : State) (a b : BootImage), s.Live → (s.get R.GLB_BOOT_STAGE = 0 ∨ s.get R.GLB_BOOT_STAGE = 1 ∧ s.svc.ctrlReset = true) →
    Leaves (.bootRom a b) s fun t =>
      let formed (x : BootImage) : Prop := x.wellFormed = true ∧ 1 ≤ x.imgVer ∧ x.imgVer ≤ 65_535 ∧ x.arbVer ≤ 255 ∧ 4_096 ≤ x.len ∧ x.len ≤ 16_777_216
      let valid (x : BootImage) : Prop := formed x ∧ x.sigOk = true ∧ s.nv.arbMin ≤ x.arbVer
      let boots (slot : Nat) (x other : BootImage) : Prop :=
        let refused : Prop := formed other ∧ ¬ valid other
        t.get R.GLB_BOOT_STAGE = 1 ∧ t.get R.GLB_BOOT_SLOT = slot ∧ t.svc.active = ⟨x.imgVer, x.arbVer⟩ ∧ t.svc.standby = t.svc.active ∧
        t.get R.GLB_FW_1_VER_ACT = x.imgVer ∧ t.get R.GLB_FW_1_VER_STBY = x.imgVer ∧ t.get R.GLB_ARB_CTL_ARB_ACT = x.arbVer ∧
        t.svc.bootStart = t.now ∧ t.svc.bootTries = 1 ∧
        (refused → t.flag R.GLB_BOOT_FALLBACK = true ∧ (other.sigOk = false → t.get R.GLB_BOOT_CODE = Code.BOOT_SIG_FAIL) ∧
          (other.sigOk = true → t.get R.GLB_BOOT_CODE = Code.BOOT_ROLLBACK)) ∧
        (¬ refused → t.flag R.GLB_BOOT_FALLBACK = false ∧ t.get R.GLB_BOOT_CODE = s.get R.GLB_BOOT_CODE)
      t.t = max s.t (s.svc.rstRise * 2 ^ 32) ∧ t.svc.ctrlReset = false ∧ t.get R.GLB_FW_ARB_ARB_MIN = s.nv.arbMin % 65_536 ∧
      (valid a → (valid b → b.imgVer ≤ a.imgVer) → boots 0 a b) ∧ (valid b → (valid a → a.imgVer < b.imgVer) → boots 1 b a) ∧
      (¬ valid a → ¬ valid b → t.get R.GLB_BOOT_STAGE = 7 ∧ t.get R.GLB_BOOT_CODE = 0x0D03 ∧ t.svc.fwRuns = false)) ∧
  ∀ (s : State) (x : BootImage), s.Live → s.get R.GLB_BOOT_STAGE = 1 → s.svc.ctrlReset = false → Leaves (.bootWatchdogExpiry x) s fun t =>
    let valid : Prop := x.wellFormed = true ∧ 1 ≤ x.imgVer ∧ x.imgVer ≤ 65_535 ∧ x.arbVer ≤ 255 ∧ 4_096 ≤ x.len ∧ x.len ≤ 16_777_216 ∧
      x.sigOk = true ∧ s.nv.arbMin ≤ x.arbVer
    t.t = max s.t ((s.svc.bootStart + 10_000_000_000) * 2 ^ 32) ∧
    (s.svc.bootTries = 1 ∧ valid → t.get R.GLB_BOOT_STAGE = 1 ∧ t.flag R.GLB_BOOT_SLOT = !s.flag R.GLB_BOOT_SLOT ∧ t.flag R.GLB_BOOT_FALLBACK = true ∧
      t.svc.active = ⟨x.imgVer, x.arbVer⟩ ∧ t.svc.bootTries = 2 ∧ t.svc.bootStart = t.now) ∧
    (¬ (s.svc.bootTries = 1 ∧ valid) → t.get R.GLB_BOOT_STAGE = 7 ∧ t.get R.GLB_BOOT_CODE = 0x0D03)

/-- R457, R459, R504 to R511: RESTORE trains the DDR channels, takes the good configuration copy of higher generation, and on a cold start the
microcode, tables and wear counts; base camp halts on a supply fault; ENABLE ends with every tile enabled or in HALT; VERIFY proves every latch and
enters READY. -/
def Obligations.StartUpRestoresAndProves : Prop :=  (∀ (s : State) (ok0 ok1 : Bool), s.Live → s.get R.GLB_BOOT_STAGE = 1 → s.svc.ctrlReset = false → s.flag R.MEM_CTL_ENABLE = false →
    s.rd R.MEM_CTL = resetWord R.MEM_CTL → (∀ c, s.nv.config = some c → ∀ e, e ∈ c.regs → saved e.1 = true) →
    (∀ q, q ∈ s.evt.tileQ → q.1.src < 1_536) → Leaves (.restoreStage ok0 ok1) s fun t =>
      t.get R.GLB_BOOT_STAGE = 2 ∧ t.svc.fwRuns = true ∧ t.get R.MEM_STS_CH_OK = b2n ok0 + 2 * b2n ok1 ∧
      t.flag R.MEM_CTL_ENABLE = (ok0 || ok1) ∧ t.svc.crvHost = ((s.nv.config.map (·.crvHost)).getD []) ∧
      t.svc.crvAuto = ((s.nv.config.map (·.crvAuto)).getD []) ∧ t.evt.lastFlush = s.now ∧
      (s.cal.loaded = true → t.cal = s.cal ∧ ∀ n, t.tile n = s.tile n) ∧
      (s.cal.loaded = false → t.cal.loaded = true ∧ (∀ n, n < 20 → (t.tile n).bankA = shippedBank ∧ (t.tile n).bankB = shippedBank) ∧
        t.cal.tables = (if s.nv.calHeld then s.nv.calArea.filter fun e => decide (e.1 / 2 ^ 16 % 4 ≠ 3) else []) ∧
        ∀ k, k < 2_048 → let n := if k < 1_024 then 0 else 9
          let a := whole (R.TILE_FD_WEAR n (k % 1_024))
          t.get a = min (Tbl.getD ((s.nv.wear.map (·.counts)).getD []) k 0 + s.get a + s.get (whole (R.TILE_FD_LAT_CNT n 3))) (2 ^ 32 - 1))) ∧
  (∀ (s : State) (a : Nat) (w : Word),
    let t := s.restoreReg a w
    s.Touches t [] [a] ∧ (enables a = true → bit (s.rd a) 0 = false → bit (t.rd a) 0 = false) ∧
    (enables a = false → a ≠ R.EPO_GB → (a < 0x0100_0000 ∨ a % 0x10_0000 ≠ 0x1_0004) → t.rd a = writeFields (fieldsAt a) (s.rd a) w)) ∧
  (∀ (s : State) (tiles : Vector BaseTile 20), s.Live → s.get R.GLB_BOOT_STAGE = 2 → s.svc.fwRuns = true → Leaves (.basecampStage tiles) s fun t =>
    let full := !s.flag R.GLB_BOOT_BC_MODE
    let camps (n : Fin 20) : Prop := n.val ∉ s.cal.camped
    let wide : Prop := camps 0 ∨ camps 9
    let bad (n : Fin 20) : Prop := ∃ x lo hi, x ∈ (tiles.get n).supply ∧ supplyRange n x.1 = some (lo, hi) ∧
      (x.2.1.toInt < lo ∨ hi < x.2.1.toInt) ∧ (x.2.2.toInt < lo ∨ hi < x.2.2.toInt)
    ((∃ n, bad n) → t.get R.GLB_BOOT_STAGE = 7 ∧ t.get R.GLB_BOOT_CODE = 0x0D04 ∧ t.svc.fwRuns = false ∧ t.cal = s.cal ∧ t.nv = s.nv) ∧
    ((∀ n, ¬ bad n) → t.get R.GLB_BOOT_STAGE = 3 ∧ t.nv.calHeld = (s.nv.calHeld || full) ∧ (∀ n : Fin 20, n.val ∈ t.cal.camped) ∧
      (∀ n, camps n → (tiles.get n).anchorOk = true → t.get (R.CAL_TILE_0_T_CAL n) = (tiles.get n).temp.toNat ∧ (Tbl.look t.cal.lastDone n).isSome = true) ∧
      (∀ n, camps n → (tiles.get n).anchorOk = false → t.flag ⟨R.GLB_STS, n, n⟩ = true ∧ t.get R.GLB_BOOT_CODE = 0x0D04) ∧
      (∀ n : Fin 20, ¬ camps n → t.get (R.CAL_TILE_0_T_CAL n) = s.get (R.CAL_TILE_0_T_CAL n))) ∧
    t.t = max s.t ((s.now + if (∀ n : Fin 20, ¬ camps n) then 0 else if full = false then 3_054_000_000 else
      if wide then 35_174_000_000 else 33_953_000_000) * 2 ^ 32)) ∧
  (∀ n, n < 20 → supplyRange n 0 = some (728, 772) ∧ supplyRange n 1 = some (1_164, 1_236) ∧ supplyRange n 2 = some (2_375, 2_625) ∧
    supplyRange n 3 = some (1_710, 1_890) ∧ supplyRange n 4 = some (1_710, 1_890) ∧
    supplyRange n 5 = if n = 0 ∨ n = 9 then some (3_135, 3_465) else none) ∧
  (∀ (s : State), s.Live → s.get R.GLB_BOOT_STAGE = 3 → s.svc.fwRuns = true → Leaves .enableStage s fun t =>
    t.svc.lastMark = s.now ∧ (t.get R.GLB_BOOT_STAGE = 4 ∨ t.get R.GLB_BOOT_STAGE = 7) ∧
    (t.get R.GLB_BOOT_STAGE = 4 → (∀ n, n < 20 → t.flag (R.TILE_MC_CTL_ENABLE n) = true ∧ t.flag (R.TILE_LP_CTL_ENABLE n) = true) ∧
      t.flag (R.TILE_FD_LAT_CFG_ENABLE 0) = true ∧ t.flag (R.TILE_FD_LAT_CFG_ENABLE 9) = true ∧ t.flag R.EPO_CTL_ENABLE = true)) ∧
  ∀ (s : State) (noOpen noClose : List (Fin 2048)), s.Live → s.get R.GLB_BOOT_STAGE = 4 → s.svc.fwRuns = true →
    Leaves (.verifyStage noOpen noClose) s fun t =>
      let rounds (n : Nat) : Nat := (1_024 + max 1 (s.get (R.TILE_FD_LAT_CFG_OPEN_MAX n)) - 1) / max 1 (s.get (R.TILE_FD_LAT_CFG_OPEN_MAX n))
      t.get R.GLB_BOOT_STAGE = 6 ∧ t.flag R.GLB_FW_0_STBY_READY = true ∧ t.svc.refGoodSince = (if s.svc.refLost then none else some t.now) ∧
      t.t = max s.t ((s.now + max (rounds 0) (rounds 9) * 172_000) * 2 ^ 32) ∧
      ∀ k : Fin 2048, let bad := t.flag ⟨R.GLB_PORT_FLT (k.val / 32), k.val % 32, k.val % 32⟩
        ((s.port k).lstate ≠ 0 → (t.port k).lstate = (s.port k).lstate) ∧
        ((s.port k).lstate = 0 → k ∈ noOpen → (t.port k).lstate = 4 ∧ bad = true) ∧
        ((s.port k).lstate = 0 → k ∉ noOpen → k ∈ noClose → (t.port k).lstate = 5 ∧ bad = true) ∧
        ((s.port k).lstate = 0 → k ∉ noOpen → k ∉ noClose → (t.port k).lstate = 0 ∧ (t.port k).sense = 2)

/-- R4 to R6, R104, R409, R468 to R471: a control-domain reset leaves the fabric, circuits, grants, library and keys as they were, drops sessions,
queues and the hub's mirrors, resets the control registers, and suspends the running traverse; a lost group fails over where STBY_READY reads 1,
else resets. -/
def Obligations.ControlResetsKeepTheFabric : Prop :=  (∀ (s : State) (cause : Nat),
    let t := s.beginReset cause
    let stage := s.get R.GLB_BOOT_STAGE
    let barred : Prop := s.svc.por = false ∨ s.svc.ctrlReset = true ∨ stage = 0 ∨ stage = 7
    (barred → t = s) ∧
    (¬ barred → t.t = s.t ∧ t.pending = s.pending ∧ t.svc.ctrlReset = true ∧ t.svc.fwRuns = false ∧ t.svc.fw = none ∧ t.svc.resetAt = none ∧
      t.svc.freezeEnd = none ∧ t.svc.outAt = s.now ∧ t.get R.GLB_RST_CAUSE_CAUSE = cause % 16 ∧
      t.get R.GLB_RST_CAUSE_COUNT = satInc 16 (s.get R.GLB_RST_CAUSE_COUNT) ∧ t.get R.GLB_BOOT_STAGE = (if stage = 6 ∨ stage = 8 then stage else 1) ∧
      t.fab = s.fab ∧ t.drv = s.drv ∧ t.sch = s.sch ∧ t.nv = s.nv ∧ t.cir.ctxs = s.cir.ctxs ∧ t.cir.grants = s.cir.grants ∧ t.cir.leaves = s.cir.leaves ∧
      t.cir.run = none ∧ t.cir.queue = [] ∧ t.cmd.keys = s.cmd.keys ∧ t.cmd.txSeq = s.cmd.txSeq ∧ t.cmd.sessions = [] ∧ t.cmd.nonces = [] ∧
      t.cmd.held = [] ∧ t.net.sas = s.net.sas ∧ t.net.queues = [] ∧ t.evt.ring = s.evt.ring ∧ t.evt.opens = s.evt.opens ∧ t.evt.mirror = [] ∧
      (∀ x l, s.trv.journal = x :: l → t.trv.journal = (if x.timedNow then x.suspend else x) :: l) ∧
      (∀ n, n < 20 → (t.tile n).mirror = [] ∧ t.flag (R.TILE_LP_STS_MIRROR_OK n) = false) ∧
      (∀ a, domAt a = some .control → rebuilt a = false → a ∉ [R.SCHD_SWAP, R.SCHD_SWAP_T_HI, R.SCHD_SWAP_T_LO, R.TIME_STS, R.GLB_BOOT] → t.rd a = resetWord a) ∧
      (∀ a, domAt a ≠ some .control → a ∉ [R.GLB_RST_CAUSE, R.GLB_FW_0, R.GLB_BOOT, R.TIME_STS, R.THM_STS, R.EPO_CTL] →
        (∀ n, n < 20 → a ≠ R.TILE_LP_STS n ∧ a ≠ R.TILE_MC_HOLD n ∧ a ≠ R.TILE_MC_ANC_CTL n) → t.rd a = s.rd a))) ∧
  (∀ (s : State) (width : Nat), s.Live → Leaves (.warmReset width) s fun t =>
    (width < 100 → t = s) ∧ (100 ≤ width → t = { s.beginReset 1 with svc.rstRise := s.now + width })) ∧
  (∀ (s : State) (freeze : Nat) (i : Instr), s.Live → s.ctrlUp = true → s.svc.freezeEnd = none →
    (i = .hubWatchdogExpiry freeze ∨ i = .hubFatalFault freeze) → Leaves i s fun t =>
      (s.flag R.GLB_FW_0_STBY_READY = true → s.Touches t [.svc, .recorder] [] ∧
        t.svc = { s.svc with freezeEnd := some (s.now + min freeze 100_000), outAt := s.now }) ∧
      (s.flag R.GLB_FW_0_STBY_READY = false → t = s.beginReset 2)) ∧
  ∀ (s : State) (n c : Nat), s.svc.resetAt = some (n, c) → s.resetDue = if n ≤ s.now then s.beginReset c else s

/-- R138, R160, R328, R390, R412, R460, R465, R469, R512: a restart loads device time from the median of the tiles and resynchronises those over 1 ns
away, drops loads and a swap that had not passed, and records what the tiles kept; PFAIL_N low for 1 µs closes every latch, stops every output and
drops every frame. -/
def Obligations.RestartAndPowerFailure : Prop :=  (∀ (s : State) (off : List (Fin 20 × Int)), s.Live → s.svc.ctrlReset = true → s.get R.GLB_BOOT_STAGE = 6 → s.svc.freezeEnd = none →
    Leaves (.controlRestart off) s fun t =>
      t.svc.ctrlReset = false ∧ t.svc.fwRuns = true ∧ t.hubIn = true ∧ t.evt.tileQ = [] ∧ t.thm.quiet = 0 ∧
      (∀ n, (t.entry n).lstate ≠ Ls.loading) ∧ (∀ w, s.sch.swap = some w → w.past = false → t.sch.swap = none) ∧
      t.svc.refGoodSince.isSome = !s.svc.refLost) ∧
  (∀ (s : State) (off : List (Fin 20 × Int)),
    let m := medianOffset off
    let of (n : Nat) : Int := tileOffset off n
    let t := s.loadTime off
    (∃ l : List Int, l.Perm ((List.range 20).map of) ∧ l.Pairwise (· ≤ ·) ∧ m = (l.getD 9 0 + l.getD 10 0) / 2) ∧
    t.t = ((s.t : Int) + m * 2 ^ 32 / 1_000).toNat ∧ (∀ n, n < 20 → t.flag ⟨R.TIME_TILE_STS, n, n⟩ =
      (decide (1_000 < (of n - m).natAbs) || s.flag ⟨R.TIME_TILE_STS, n, n⟩)) ∧
    s.Touches t [.time, .tm, .recorder, .frames] [R.TIME_TILE_STS, R.TIME_INC_HI, R.TIME_INC_LO]) ∧
  ∀ (s : State) (width : Nat) (torn : Bool), s.Live → Leaves (.powerFail width torn) s fun t =>
    let starts : Prop := 1_000 ≤ width ∧ s.svc.pfail = false
    (¬ starts → t = s) ∧
    (starts → t.get R.GLB_BOOT_STAGE = 8 ∧ t.svc.pfail = true ∧ t.svc.pfailAt = s.now ∧ t.svc.fw = none ∧ t.drv.off = true ∧ t.fab.noOpen = true ∧
      t.nv.emergency = true ∧ (∀ k, k < 2_048 → (t.port k).lstate = 3) ∧ t.t = max s.t ((s.now + 20_000) * 2 ^ 32) ∧ t.cmd.held = [] ∧
      t.cmd.posted = [] ∧ t.cmd.ingress = [] ∧ t.net.queues = [] ∧ t.cir = s.cir ∧ t.sch = s.sch ∧ t.trv = s.trv)

/-! ## The block as a whole -/

/-- A step takes the command in front of the queue and runs it on the rest; with no command waiting the time clock ticks once while the module runs. R3,
R499: while POR_N is low no command but a cold reset, a release of POR_N and the JTAG port has an effect of its own. -/
def Obligations.StepsTakeOneCommandAtATime : Prop :=
  ( (∀ (s : State) (c : Instr) (q : List Instr), step { s with pending := c :: q } = exec c { s with pending := q }) ∧
  ∀ (s : State), s.pending = [] → s.Live → step s = .next { s with t := s.t + s.tm.inc }.settle) ∧
  ( ∀ (s : State) (i : Instr), s.svc.por = false → s.svc.resetAt = none → (∀ n, i ≠ .coldReset n) → (∀ l, i ≠ .porRelease l) →
    (∀ j, i ≠ .jtagInstruction j) → exec i s = .next s.settle)

/-- R3: right after reset POR_N is low, every register reads the Reset value of its table, every port is latched dark, and no circuit, session or key
exists. -/
def Obligations.ResetStateIsCold : Prop :=  let s := State.reset
  s.svc.por = false ∧ s.pending = [] ∧ s.t = 0 ∧ (∀ a, s.rd a = resetWord a) ∧ (∀ k, (s.port k).lstate = 0) ∧ (∀ i, (s.ctx i).state = Cs.idle) ∧
  s.cmd.sessions = [] ∧ s.cmd.keys = [] ∧ s.cir.grants = [] ∧ s.sch.active = none ∧ s.trv.journal = [] ∧ s.get R.GLB_BOOT_STAGE = 0 ∧
  s.get R.TIME_STS_SRV_STATE = 0 ∧ s.rd R.TIME_INC_HI = 1 ∧ s.rd R.TIME_INC_LO = 0 ∧ s.get R.EPO_GB_GB_USE = 0x4B0 ∧ s.get R.GLB_WDT_PERIOD = 0x64 ∧
  s.get R.MEM_CTL_CH_EN = 3 ∧ s.rd 0 = 0x1024_1F3C ∧ (∀ n, n < 20 → s.tileOwner n = 0) ∧ s.PinsAgree

/-- R122, R132, R168, R216, R352, R453, R486: after every step BIVOUAC, CAUSE, HOLDOVER, RUNNING and ALERT follow the state, and a pin that pulses is
high only to the end of its pulse. -/
def Obligations.StatusBitsAndPinsAlwaysAgree : Prop :=  ∀ (s t : State), step s = .next t → t.PinsAgree
end

