-- ==== Sys2Proof/Laws/Table.lean ====
section
/-!
SUPPORT. Sys2Proof/Laws/Table.lean: laws of sparse tables (reading after writing, and the canonical form) and of bit fields.
-/
namespace Sys2Proof

/-! ## Reading a table after it was written -/

@[simp] theorem Tbl.look_nil {α : Type} (k : Nat) : Tbl.look ([] : List (Nat × α)) k = none := rfl

theorem Tbl.look_put_self {α : Type} (m : List (Nat × α)) (k : Nat) (v : α) : Tbl.look (Tbl.put m k v) k = some v := by
  induction m with
  | nil => simp [Tbl.put, Tbl.look]
  | cons h r ih =>
    obtain ⟨j, w⟩ := h
    unfold Tbl.put
    split
    · simp [Tbl.look]
    · split
      · simp [Tbl.look]
      · rename_i h1 h2
        simpa [Tbl.look, Ne.symm h2] using ih

theorem Tbl.look_put_other {α : Type} (m : List (Nat × α)) {k a : Nat} (h : a ≠ k) (v : α) :
    Tbl.look (Tbl.put m k v) a = Tbl.look m a := by
  induction m with
  | nil => simp [Tbl.put, Tbl.look, Ne.symm h]
  | cons e r ih =>
    obtain ⟨j, w⟩ := e
    unfold Tbl.put
    split
    · simp [Tbl.look, Ne.symm h]
    · split
      · rename_i h1 h2
        subst h2
        simp [Tbl.look, Ne.symm h]
      · simp only [Tbl.look]
        split
        · rfl
        · exact ih

theorem Tbl.look_del_self {α : Type} (m : List (Nat × α)) (k : Nat) : Tbl.look (Tbl.del m k) k = none := by
  induction m with
  | nil => rfl
  | cons e r ih =>
    obtain ⟨j, w⟩ := e
    by_cases h : j = k
    · simpa [Tbl.del, h] using ih
    · simpa [Tbl.del, h, Tbl.look] using ih

theorem Tbl.look_del_other {α : Type} (m : List (Nat × α)) {k a : Nat} (h : a ≠ k) : Tbl.look (Tbl.del m k) a = Tbl.look m a := by
  induction m with
  | nil => rfl
  | cons e r ih =>
    obtain ⟨j, w⟩ := e
    by_cases hj : j = k
    · subst hj
      simpa [Tbl.del, Tbl.look, Ne.symm h] using ih
    · simp only [Tbl.del] at ih ⊢
      simp only [List.filter_cons, bne_iff_ne, ne_eq, hj, not_false_eq_true, if_true, Tbl.look]
      split
      · rfl
      · exact ih

/-- The value just written is what the key reads. -/
theorem Tbl.getD_set_self {α : Type} [DecidableEq α] (d : α) (m : List (Nat × α)) (k : Nat) (v : α) :
    Tbl.getD (Tbl.set d m k v) k d = v := by
  unfold Tbl.set Tbl.getD
  split
  · rename_i h
    simp [Tbl.look_del_self, h]
  · simp [Tbl.look_put_self]

/-- A write leaves what every other key reads. -/
theorem Tbl.getD_set_other {α : Type} [DecidableEq α] (d : α) (m : List (Nat × α)) {k a : Nat} (h : a ≠ k) (v : α) :
    Tbl.getD (Tbl.set d m k v) a d = Tbl.getD m a d := by
  unfold Tbl.set Tbl.getD
  split
  · rw [Tbl.look_del_other m h]
  · rw [Tbl.look_put_other m h]

/-! ## The canonical form -/

theorem Tbl.wf_del {α : Type} (m : List (Nat × α)) (k : Nat) (h : Tbl.wf m = true) : Tbl.wf (Tbl.del m k) = true := by
  induction m with
  | nil => rfl
  | cons e r ih =>
    obtain ⟨j, w⟩ := e
    simp only [Tbl.wf, Bool.and_eq_true, List.all_eq_true, decide_eq_true_eq] at h
    have hr := ih h.2
    simp only [Tbl.del] at hr ⊢
    by_cases hj : j = k
    · simpa [List.filter_cons, hj] using hr
    · simp only [List.filter_cons, bne_iff_ne, ne_eq, hj, not_false_eq_true, if_true, Tbl.wf, Bool.and_eq_true, List.all_eq_true,
        decide_eq_true_eq, hr, and_true]
      intro x hx
      exact h.1 x (List.mem_of_mem_filter hx)

theorem Tbl.put_keys {α : Type} (m : List (Nat × α)) (k : Nat) (v : α) (x : Nat × α) (hx : x ∈ Tbl.put m k v) :
    x = (k, v) ∨ x ∈ m := by
  induction m with
  | nil => simp [Tbl.put] at hx; exact .inl hx
  | cons e r ih =>
    obtain ⟨j, w⟩ := e
    unfold Tbl.put at hx
    split at hx
    · simpa using hx
    · split at hx
      · rcases List.mem_cons.1 hx with h | h
        · exact .inl h
        · exact .inr (List.mem_cons_of_mem _ h)
      · rcases List.mem_cons.1 hx with h | h
        · exact .inr (by simp [h])
        · rcases ih h with h | h
          · exact .inl h
          · exact .inr (List.mem_cons_of_mem _ h)

theorem Tbl.wf_put {α : Type} (m : List (Nat × α)) (k : Nat) (v : α) (h : Tbl.wf m = true) : Tbl.wf (Tbl.put m k v) = true := by
  induction m with
  | nil => rfl
  | cons e r ih =>
    obtain ⟨j, w⟩ := e
    have hh := h
    simp only [Tbl.wf, Bool.and_eq_true, List.all_eq_true, decide_eq_true_eq] at h
    unfold Tbl.put
    split
    · rename_i hk
      rw [Tbl.wf, Bool.and_eq_true, List.all_eq_true]
      refine ⟨?_, hh⟩
      intro x hx
      rcases List.mem_cons.1 hx with rfl | hx
      · simpa using hk
      · have := h.1 x hx
        simp only [decide_eq_true_eq]
        omega
    · split
      · rename_i hk
        subst hk
        simp only [Tbl.wf, Bool.and_eq_true, List.all_eq_true, decide_eq_true_eq]
        exact h
      · rename_i h1 h2
        simp only [Tbl.wf, Bool.and_eq_true, List.all_eq_true, decide_eq_true_eq]
        refine ⟨?_, ih h.2⟩
        intro x hx
        rcases Tbl.put_keys r k v x hx with rfl | hx
        · simp only; omega
        · exact h.1 x hx

/-- Every write keeps keys strictly rising. -/
theorem Tbl.wf_set {α : Type} [DecidableEq α] (d : α) (m : List (Nat × α)) (k : Nat) (v : α) (h : Tbl.wf m = true) :
    Tbl.wf (Tbl.set d m k v) = true := by
  unfold Tbl.set
  split
  · exact Tbl.wf_del m k h
  · exact Tbl.wf_put m k v h

/-- What a table lists, and what it reads: the same. -/
theorem Tbl.mem_iff_look {α : Type} (m : Tbl α) (h : Tbl.wf m = true) (k : Nat) (v : α) : (k, v) ∈ m ↔ Tbl.look m k = some v := by
  induction m with
  | nil => simp
  | cons x r ih =>
    obtain ⟨j, w⟩ := x
    simp only [Tbl.wf, Bool.and_eq_true, List.all_eq_true, decide_eq_true_eq] at h
    simp only [List.mem_cons, Prod.mk.injEq, Tbl.look]
    by_cases q : j = k
    · subst q
      have : (j, v) ∉ r := fun c => absurd (h.1 _ c) (Nat.lt_irrefl _)
      simp [this, eq_comm]
    · simp [q, Ne.symm q, ih h.2]

/-! ## Grouped tables -/

theorem Grp.getD_set_self {α : Type} [DecidableEq α] (d : α) (m : Grp α) (k : Nat) (v : α) : Grp.getD (Grp.set d m k v) k d = v := by
  have h := Tbl.getD_set_self d (Tbl.getD m (k / 256) []) k v
  unfold Grp.getD Grp.set
  generalize Tbl.set d (Tbl.getD m (k / 256) []) k v = g at h ⊢
  cases g with
  | nil => simpa [Tbl.getD, Tbl.look_del_self] using h
  | cons x r => simpa [Tbl.getD, Tbl.look_put_self] using h

theorem Grp.getD_set_other {α : Type} [DecidableEq α] (d : α) (m : Grp α) {k a : Nat} (h : a ≠ k) (v : α) :
    Grp.getD (Grp.set d m k v) a d = Grp.getD m a d := by
  have e := Tbl.getD_set_other d (Tbl.getD m (k / 256) []) h v
  unfold Grp.getD Grp.set
  by_cases q : a / 256 = k / 256
  · rw [q]
    generalize Tbl.set d (Tbl.getD m (k / 256) []) k v = g at e ⊢
    cases g with
    | nil => simpa [Tbl.getD, Tbl.look_del_self] using e
    | cons x r => simpa [Tbl.getD, Tbl.look_put_self] using e
  · cases Tbl.set d (Tbl.getD m (k / 256) []) k v with
    | nil => simp [Tbl.getD, Tbl.look_del_other _ q]
    | cons x r => simp [Tbl.getD, Tbl.look_put_other _ q]

/-- Every write keeps the canonical form of a grouped table. -/
theorem Grp.wf_set {α : Type} [DecidableEq α] (d : α) (m : Grp α) (k : Nat) (v : α) (h : Grp.wf m = true) :
    Grp.wf (Grp.set d m k v) = true := by
  have w := h
  simp only [Grp.wf, Bool.and_eq_true, List.all_eq_true] at w
  have inner : Tbl.wf (Tbl.getD m (k / 256) []) = true ∧ ∀ e, e ∈ Tbl.getD m (k / 256) [] → e.1 / 256 = k / 256 := by
    unfold Tbl.getD
    cases hl : Tbl.look m (k / 256) with
    | none => exact ⟨rfl, by simp⟩
    | some g =>
      have := w.2 _ ((Tbl.mem_iff_look m w.1 _ _).2 hl)
      exact ⟨this.1.1, fun e he => by simpa using this.2 e he⟩
  have g1 := Tbl.wf_set d _ k v inner.1
  have g2 : ∀ e, e ∈ Tbl.set d (Tbl.getD m (k / 256) []) k v → e.1 / 256 = k / 256 := by
    intro e he
    unfold Tbl.set at he
    split at he
    · exact inner.2 e (List.mem_filter.1 he).1
    · rcases Tbl.put_keys _ _ _ _ he with c | c
      · exact c ▸ rfl
      · exact inner.2 e c
  unfold Grp.set
  generalize Tbl.set d (Tbl.getD m (k / 256) []) k v = g at g1 g2
  cases g with
  | nil =>
    simp only [Grp.wf, Bool.and_eq_true, List.all_eq_true]
    exact ⟨Tbl.wf_del m _ w.1, fun e he => by simpa using w.2 e (List.mem_filter.1 he).1⟩
  | cons x r =>
    simp only [Grp.wf, Bool.and_eq_true, List.all_eq_true]
    refine ⟨Tbl.wf_put m _ _ w.1, fun e he => ?_⟩
    rcases Tbl.put_keys _ _ _ _ he with c | c
    · subst c
      exact ⟨⟨g1, rfl⟩, fun e he => by simpa using g2 e he⟩
    · simpa using w.2 e c

/-- What a grouped table lists, and what its group reads: the same. -/
theorem Grp.mem_entries {α : Type} (m : Grp α) (h : Grp.wf m = true) (k : Nat) (v : α) :
    (k, v) ∈ Grp.entries m ↔ Tbl.look (Tbl.getD m (k / 256) []) k = some v := by
  simp only [Grp.wf, Bool.and_eq_true, List.all_eq_true] at h
  unfold Grp.entries Tbl.getD
  rw [List.mem_flatMap]
  constructor
  · rintro ⟨⟨q, g⟩, hg, hv⟩
    have w := h.2 _ hg
    have hq : k / 256 = q := by simpa using w.2 _ hv
    rw [(Tbl.mem_iff_look m h.1 (k / 256) g).1 (hq ▸ hg)]
    exact (Tbl.mem_iff_look g w.1.1 k v).1 hv
  · intro hl
    cases hg : Tbl.look m (k / 256) with
    | none => simp [hg] at hl
    | some g =>
      have hm := (Tbl.mem_iff_look m h.1 _ _).2 hg
      rw [hg] at hl
      exact ⟨_, hm, (Tbl.mem_iff_look g (h.2 _ hm).1.1 k v).2 hl⟩

/-! ## Bit fields -/

theorem bits_lt (w : Word) (hi lo : Nat) : bits w hi lo < 2 ^ (hi + 1 - lo) := Nat.mod_lt _ (by positivity)

theorem bits_le (w : Word) (hi lo : Nat) : bits w hi lo * 2 ^ lo ≤ w.toNat := by
  unfold bits
  calc w.toNat / 2 ^ lo % 2 ^ (hi + 1 - lo) * 2 ^ lo ≤ w.toNat / 2 ^ lo * 2 ^ lo := Nat.mul_le_mul_right _ (Nat.mod_le _ _)
    _ ≤ w.toNat := Nat.div_mul_le_self _ _

/-- A word as what stands above, in and below a field. -/
theorem word_split (w : Word) (hi lo : Nat) (h : lo ≤ hi) :
    w.toNat = w.toNat / 2 ^ (hi + 1) * 2 ^ (hi + 1) + bits w hi lo * 2 ^ lo + w.toNat % 2 ^ lo := by
  unfold bits
  have e : (2 : Nat) ^ (hi + 1) = 2 ^ lo * 2 ^ (hi + 1 - lo) := by rw [← pow_add]; congr 1; omega
  have h1 := Nat.div_add_mod w.toNat (2 ^ lo)
  have h2 := Nat.div_add_mod (w.toNat / 2 ^ lo) (2 ^ (hi + 1 - lo))
  rw [Nat.div_div_eq_div_mul, ← e] at h2
  rw [e] at h2 ⊢
  have h3 : w.toNat = 2 ^ lo * (2 ^ (hi + 1 - lo) * (w.toNat / (2 ^ lo * 2 ^ (hi + 1 - lo))) + w.toNat / 2 ^ lo % 2 ^ (hi + 1 - lo)) +
      w.toNat % 2 ^ lo := by rw [h2, h1]
  refine h3.trans ?_
  ring

theorem setBits_toNat (w : Word) (hi lo v : Nat) (h : lo ≤ hi) (h31 : hi < 32) :
    (setBits w hi lo v).toNat = w.toNat / 2 ^ (hi + 1) * 2 ^ (hi + 1) + v % 2 ^ (hi + 1 - lo) * 2 ^ lo + w.toNat % 2 ^ lo := by
  have hs := word_split w hi lo h
  have hv : v % 2 ^ (hi + 1 - lo) < 2 ^ (hi + 1 - lo) := Nat.mod_lt _ (by positivity)
  have hl : w.toNat % 2 ^ lo < 2 ^ lo := Nat.mod_lt _ (by positivity)
  have e : (2 : Nat) ^ (hi + 1) = 2 ^ lo * 2 ^ (hi + 1 - lo) := by rw [← pow_add]; congr 1; omega
  have e2 : (2 : Nat) ^ 32 = 2 ^ (hi + 1) * 2 ^ (31 - hi) := by rw [← pow_add]; congr 1; omega
  have hw : w.toNat < 2 ^ 32 := w.isLt
  have ha : w.toNat / 2 ^ (hi + 1) < 2 ^ (31 - hi) := by
    rw [Nat.div_lt_iff_lt_mul (by positivity), Nat.mul_comm, ← e2]
    exact hw
  set A := w.toNat / 2 ^ (hi + 1) with hA
  set V := v % 2 ^ (hi + 1 - lo) with hV
  set Lw := w.toNat % 2 ^ lo with hL
  have hmid : V * 2 ^ lo + Lw < 2 ^ (hi + 1) := by
    rw [e]
    calc V * 2 ^ lo + Lw < V * 2 ^ lo + 2 ^ lo := by omega
      _ = (V + 1) * 2 ^ lo := by ring
      _ ≤ 2 ^ (hi + 1 - lo) * 2 ^ lo := Nat.mul_le_mul_right _ hv
      _ = 2 ^ lo * 2 ^ (hi + 1 - lo) := by ring
  have hbig : A * 2 ^ (hi + 1) + V * 2 ^ lo + Lw < 2 ^ 32 := by
    calc A * 2 ^ (hi + 1) + V * 2 ^ lo + Lw < A * 2 ^ (hi + 1) + 2 ^ (hi + 1) := by omega
      _ = (A + 1) * 2 ^ (hi + 1) := by ring
      _ ≤ 2 ^ (31 - hi) * 2 ^ (hi + 1) := Nat.mul_le_mul_right _ ha
      _ = 2 ^ 32 := by rw [e2]; ring
  unfold setBits
  rw [BitVec.toNat_ofNat]
  have heq : w.toNat - bits w hi lo * 2 ^ lo + V * 2 ^ lo = A * 2 ^ (hi + 1) + V * 2 ^ lo + Lw := by
    have := bits_le w hi lo
    omega
  rw [heq, Nat.mod_eq_of_lt hbig]

/-- A field reads what was put into it. -/
theorem bits_setBits_self (w : Word) (hi lo v : Nat) (h : lo ≤ hi) (h31 : hi < 32) :
    bits (setBits w hi lo v) hi lo = v % 2 ^ (hi + 1 - lo) := by
  have e : (2 : Nat) ^ (hi + 1) = 2 ^ lo * 2 ^ (hi + 1 - lo) := by rw [← pow_add]; congr 1; omega
  have hl : w.toNat % 2 ^ lo < 2 ^ lo := Nat.mod_lt _ (by positivity)
  show (setBits w hi lo v).toNat / 2 ^ lo % 2 ^ (hi + 1 - lo) = _
  rw [setBits_toNat w hi lo v h h31, e]
  have : w.toNat / (2 ^ lo * 2 ^ (hi + 1 - lo)) * (2 ^ lo * 2 ^ (hi + 1 - lo)) + v % 2 ^ (hi + 1 - lo) * 2 ^ lo + w.toNat % 2 ^ lo =
      w.toNat % 2 ^ lo + 2 ^ lo * (w.toNat / (2 ^ lo * 2 ^ (hi + 1 - lo)) * 2 ^ (hi + 1 - lo) + v % 2 ^ (hi + 1 - lo)) := by ring
  rw [this, Nat.add_mul_div_left _ _ (by positivity), Nat.div_eq_of_lt hl, zero_add, Nat.add_comm, Nat.add_mul_mod_self_right,
    Nat.mod_mod]

/-- A field keeps its value when a field above or below it is written. -/
theorem bits_setBits_other (w : Word) (hi lo v h' l' : Nat) (h : lo ≤ hi) (h31 : hi < 32) (h2 : l' ≤ h')
    (hd : hi < l' ∨ h' < lo) : bits (setBits w hi lo v) h' l' = bits w h' l' := by
  have e : (2 : Nat) ^ (hi + 1) = 2 ^ lo * 2 ^ (hi + 1 - lo) := by rw [← pow_add]; congr 1; omega
  have hv : v % 2 ^ (hi + 1 - lo) < 2 ^ (hi + 1 - lo) := Nat.mod_lt _ (by positivity)
  have hl : w.toNat % 2 ^ lo < 2 ^ lo := Nat.mod_lt _ (by positivity)
  have hs := word_split w hi lo h
  show (setBits w hi lo v).toNat / 2 ^ l' % 2 ^ (h' + 1 - l') = w.toNat / 2 ^ l' % 2 ^ (h' + 1 - l')
  rw [setBits_toNat w hi lo v h h31]
  rcases hd with hd | hd
  · have e3 : (2 : Nat) ^ l' = 2 ^ (hi + 1) * 2 ^ (l' - (hi + 1)) := by rw [← pow_add]; congr 1; omega
    have key : ∀ x, x < 2 ^ (hi + 1 - lo) →
        (w.toNat / 2 ^ (hi + 1) * 2 ^ (hi + 1) + x * 2 ^ lo + w.toNat % 2 ^ lo) / 2 ^ l' =
          w.toNat / 2 ^ (hi + 1) / 2 ^ (l' - (hi + 1)) := by
      intro x hx
      have hm : x * 2 ^ lo + w.toNat % 2 ^ lo < 2 ^ (hi + 1) := by
        rw [e]
        calc x * 2 ^ lo + w.toNat % 2 ^ lo < x * 2 ^ lo + 2 ^ lo := by omega
          _ = (x + 1) * 2 ^ lo := by ring
          _ ≤ 2 ^ (hi + 1 - lo) * 2 ^ lo := Nat.mul_le_mul_right _ hx
          _ = 2 ^ lo * 2 ^ (hi + 1 - lo) := by ring
      rw [e3, ← Nat.div_div_eq_div_mul]
      congr 1
      rw [Nat.add_assoc, Nat.add_comm, Nat.add_mul_div_right _ _ (by positivity), Nat.div_eq_of_lt hm, zero_add]
    rw [key _ hv]
    conv_rhs => rw [hs]
    rw [key _ (bits_lt w hi lo)]
  · have e3 : (2 : Nat) ^ lo = 2 ^ (h' + 1) * 2 ^ (lo - (h' + 1)) := by rw [← pow_add]; congr 1; omega
    have e4 : (2 : Nat) ^ (h' + 1) = 2 ^ l' * 2 ^ (h' + 1 - l') := by rw [← pow_add]; congr 1; omega
    have low : ∀ n : Nat, n / 2 ^ l' % 2 ^ (h' + 1 - l') = n % 2 ^ (h' + 1) / 2 ^ l' := by
      intro n
      rw [e4, Nat.mod_mul_right_div_self]
    rw [low, low]
    congr 1
    have key : ∀ x, (w.toNat / 2 ^ (hi + 1) * 2 ^ (hi + 1) + x * 2 ^ lo + w.toNat % 2 ^ lo) % 2 ^ (h' + 1) =
        w.toNat % 2 ^ lo % 2 ^ (h' + 1) := by
      intro x
      rw [e, e3]
      have : w.toNat / (2 ^ (h' + 1) * 2 ^ (lo - (h' + 1)) * 2 ^ (hi + 1 - lo)) * (2 ^ (h' + 1) * 2 ^ (lo - (h' + 1)) * 2 ^ (hi + 1 - lo)) +
          x * (2 ^ (h' + 1) * 2 ^ (lo - (h' + 1))) + w.toNat % (2 ^ (h' + 1) * 2 ^ (lo - (h' + 1))) =
          w.toNat % (2 ^ (h' + 1) * 2 ^ (lo - (h' + 1))) + 2 ^ (h' + 1) *
            (w.toNat / (2 ^ (h' + 1) * 2 ^ (lo - (h' + 1)) * 2 ^ (hi + 1 - lo)) * (2 ^ (lo - (h' + 1)) * 2 ^ (hi + 1 - lo)) +
              x * 2 ^ (lo - (h' + 1))) := by ring
      rw [this, Nat.add_mul_mod_self_left]
    rw [key]
    conv_rhs => rw [hs]
    rw [key]

end Sys2Proof
end

