-- ==== Sys2Proof/Laws/State.lean ====
section
/-!
SUPPORT. Sys2Proof/Laws/State.lean: what each named update of the state leaves as it was, one lemma per field, and how registers, fields
and the keyed tables read after a write.
-/
namespace Sys2Proof.Machine

/-! ## wr -/

@[simp] theorem State.wr_pending (s : State) (a : Nat) (w : Word) : (s.wr a w).pending = s.pending := rfl
@[simp] theorem State.wr_t (s : State) (a : Nat) (w : Word) : (s.wr a w).t = s.t := rfl
@[simp] theorem State.wr_free (s : State) (a : Nat) (w : Word) : (s.wr a w).free = s.free := rfl
@[simp] theorem State.wr_bus (s : State) (a : Nat) (w : Word) : (s.wr a w).bus = s.bus := rfl
@[simp] theorem State.wr_tm (s : State) (a : Nat) (w : Word) : (s.wr a w).tm = s.tm := rfl
@[simp] theorem State.wr_cmd (s : State) (a : Nat) (w : Word) : (s.wr a w).cmd = s.cmd := rfl
@[simp] theorem State.wr_evt (s : State) (a : Nat) (w : Word) : (s.wr a w).evt = s.evt := rfl
@[simp] theorem State.wr_net (s : State) (a : Nat) (w : Word) : (s.wr a w).net = s.net := rfl
@[simp] theorem State.wr_svc (s : State) (a : Nat) (w : Word) : (s.wr a w).svc = s.svc := rfl
@[simp] theorem State.wr_nv (s : State) (a : Nat) (w : Word) : (s.wr a w).nv = s.nv := rfl
@[simp] theorem State.wr_fab (s : State) (a : Nat) (w : Word) : (s.wr a w).fab = s.fab := rfl
@[simp] theorem State.wr_cir (s : State) (a : Nat) (w : Word) : (s.wr a w).cir = s.cir := rfl
@[simp] theorem State.wr_sch (s : State) (a : Nat) (w : Word) : (s.wr a w).sch = s.sch := rfl
@[simp] theorem State.wr_trv (s : State) (a : Nat) (w : Word) : (s.wr a w).trv = s.trv := rfl
@[simp] theorem State.wr_tiles (s : State) (a : Nat) (w : Word) : (s.wr a w).tiles = s.tiles := rfl
@[simp] theorem State.wr_drv (s : State) (a : Nat) (w : Word) : (s.wr a w).drv = s.drv := rfl
@[simp] theorem State.wr_cal (s : State) (a : Nat) (w : Word) : (s.wr a w).cal = s.cal := rfl
@[simp] theorem State.wr_thm (s : State) (a : Nat) (w : Word) : (s.wr a w).thm = s.thm := rfl
@[simp] theorem State.wr_ctx (s : State) (a : Nat) (w : Word) (j : Nat) : (s.wr a w).ctx j = s.ctx j := rfl
@[simp] theorem State.wr_elem (s : State) (a : Nat) (w : Word) (j : Nat) : (s.wr a w).elem j = s.elem j := rfl
@[simp] theorem State.wr_port (s : State) (a : Nat) (w : Word) (j : Nat) : (s.wr a w).port j = s.port j := rfl
@[simp] theorem State.wr_cell (s : State) (a : Nat) (w : Word) (j : Nat) : (s.wr a w).cell j = s.cell j := rfl
@[simp] theorem State.wr_tile (s : State) (a : Nat) (w : Word) (j : Nat) : (s.wr a w).tile j = s.tile j := rfl
@[simp] theorem State.wr_entry (s : State) (a : Nat) (w : Word) (j : Nat) : (s.wr a w).entry j = s.entry j := rfl
@[simp] theorem State.wr_htr (s : State) (a : Nat) (w : Word) (j : Nat) : (s.wr a w).htr j = s.htr j := rfl
@[simp] theorem State.wr_fdch (s : State) (a : Nat) (w : Word) (j : Nat) : (s.wr a w).fdch j = s.fdch j := rfl

/-! ## put -/

@[simp] theorem State.put_pending (s : State) (f : Fld) (v : Nat) : (s.put f v).pending = s.pending := rfl
@[simp] theorem State.put_t (s : State) (f : Fld) (v : Nat) : (s.put f v).t = s.t := rfl
@[simp] theorem State.put_free (s : State) (f : Fld) (v : Nat) : (s.put f v).free = s.free := rfl
@[simp] theorem State.put_bus (s : State) (f : Fld) (v : Nat) : (s.put f v).bus = s.bus := rfl
@[simp] theorem State.put_tm (s : State) (f : Fld) (v : Nat) : (s.put f v).tm = s.tm := rfl
@[simp] theorem State.put_cmd (s : State) (f : Fld) (v : Nat) : (s.put f v).cmd = s.cmd := rfl
@[simp] theorem State.put_evt (s : State) (f : Fld) (v : Nat) : (s.put f v).evt = s.evt := rfl
@[simp] theorem State.put_net (s : State) (f : Fld) (v : Nat) : (s.put f v).net = s.net := rfl
@[simp] theorem State.put_svc (s : State) (f : Fld) (v : Nat) : (s.put f v).svc = s.svc := rfl
@[simp] theorem State.put_nv (s : State) (f : Fld) (v : Nat) : (s.put f v).nv = s.nv := rfl
@[simp] theorem State.put_fab (s : State) (f : Fld) (v : Nat) : (s.put f v).fab = s.fab := rfl
@[simp] theorem State.put_cir (s : State) (f : Fld) (v : Nat) : (s.put f v).cir = s.cir := rfl
@[simp] theorem State.put_sch (s : State) (f : Fld) (v : Nat) : (s.put f v).sch = s.sch := rfl
@[simp] theorem State.put_trv (s : State) (f : Fld) (v : Nat) : (s.put f v).trv = s.trv := rfl
@[simp] theorem State.put_tiles (s : State) (f : Fld) (v : Nat) : (s.put f v).tiles = s.tiles := rfl
@[simp] theorem State.put_drv (s : State) (f : Fld) (v : Nat) : (s.put f v).drv = s.drv := rfl
@[simp] theorem State.put_cal (s : State) (f : Fld) (v : Nat) : (s.put f v).cal = s.cal := rfl
@[simp] theorem State.put_thm (s : State) (f : Fld) (v : Nat) : (s.put f v).thm = s.thm := rfl
@[simp] theorem State.put_ctx (s : State) (f : Fld) (v : Nat) (j : Nat) : (s.put f v).ctx j = s.ctx j := rfl
@[simp] theorem State.put_elem (s : State) (f : Fld) (v : Nat) (j : Nat) : (s.put f v).elem j = s.elem j := rfl
@[simp] theorem State.put_port (s : State) (f : Fld) (v : Nat) (j : Nat) : (s.put f v).port j = s.port j := rfl
@[simp] theorem State.put_cell (s : State) (f : Fld) (v : Nat) (j : Nat) : (s.put f v).cell j = s.cell j := rfl
@[simp] theorem State.put_tile (s : State) (f : Fld) (v : Nat) (j : Nat) : (s.put f v).tile j = s.tile j := rfl
@[simp] theorem State.put_entry (s : State) (f : Fld) (v : Nat) (j : Nat) : (s.put f v).entry j = s.entry j := rfl
@[simp] theorem State.put_htr (s : State) (f : Fld) (v : Nat) (j : Nat) : (s.put f v).htr j = s.htr j := rfl
@[simp] theorem State.put_fdch (s : State) (f : Fld) (v : Nat) (j : Nat) : (s.put f v).fdch j = s.fdch j := rfl

/-! ## count -/

@[simp] theorem State.count_pending (s : State) (f : Fld) : (s.count f).pending = s.pending := rfl
@[simp] theorem State.count_t (s : State) (f : Fld) : (s.count f).t = s.t := rfl
@[simp] theorem State.count_free (s : State) (f : Fld) : (s.count f).free = s.free := rfl
@[simp] theorem State.count_bus (s : State) (f : Fld) : (s.count f).bus = s.bus := rfl
@[simp] theorem State.count_tm (s : State) (f : Fld) : (s.count f).tm = s.tm := rfl
@[simp] theorem State.count_cmd (s : State) (f : Fld) : (s.count f).cmd = s.cmd := rfl
@[simp] theorem State.count_evt (s : State) (f : Fld) : (s.count f).evt = s.evt := rfl
@[simp] theorem State.count_net (s : State) (f : Fld) : (s.count f).net = s.net := rfl
@[simp] theorem State.count_svc (s : State) (f : Fld) : (s.count f).svc = s.svc := rfl
@[simp] theorem State.count_nv (s : State) (f : Fld) : (s.count f).nv = s.nv := rfl
@[simp] theorem State.count_fab (s : State) (f : Fld) : (s.count f).fab = s.fab := rfl
@[simp] theorem State.count_cir (s : State) (f : Fld) : (s.count f).cir = s.cir := rfl
@[simp] theorem State.count_sch (s : State) (f : Fld) : (s.count f).sch = s.sch := rfl
@[simp] theorem State.count_trv (s : State) (f : Fld) : (s.count f).trv = s.trv := rfl
@[simp] theorem State.count_tiles (s : State) (f : Fld) : (s.count f).tiles = s.tiles := rfl
@[simp] theorem State.count_drv (s : State) (f : Fld) : (s.count f).drv = s.drv := rfl
@[simp] theorem State.count_cal (s : State) (f : Fld) : (s.count f).cal = s.cal := rfl
@[simp] theorem State.count_thm (s : State) (f : Fld) : (s.count f).thm = s.thm := rfl
@[simp] theorem State.count_ctx (s : State) (f : Fld) (j : Nat) : (s.count f).ctx j = s.ctx j := rfl
@[simp] theorem State.count_elem (s : State) (f : Fld) (j : Nat) : (s.count f).elem j = s.elem j := rfl
@[simp] theorem State.count_port (s : State) (f : Fld) (j : Nat) : (s.count f).port j = s.port j := rfl
@[simp] theorem State.count_cell (s : State) (f : Fld) (j : Nat) : (s.count f).cell j = s.cell j := rfl
@[simp] theorem State.count_tile (s : State) (f : Fld) (j : Nat) : (s.count f).tile j = s.tile j := rfl
@[simp] theorem State.count_entry (s : State) (f : Fld) (j : Nat) : (s.count f).entry j = s.entry j := rfl
@[simp] theorem State.count_htr (s : State) (f : Fld) (j : Nat) : (s.count f).htr j = s.htr j := rfl
@[simp] theorem State.count_fdch (s : State) (f : Fld) (j : Nat) : (s.count f).fdch j = s.fdch j := rfl

/-! ## countN -/

@[simp] theorem State.countN_pending (s : State) (f : Fld) (k : Nat) : (s.countN f k).pending = s.pending := rfl
@[simp] theorem State.countN_t (s : State) (f : Fld) (k : Nat) : (s.countN f k).t = s.t := rfl
@[simp] theorem State.countN_free (s : State) (f : Fld) (k : Nat) : (s.countN f k).free = s.free := rfl
@[simp] theorem State.countN_bus (s : State) (f : Fld) (k : Nat) : (s.countN f k).bus = s.bus := rfl
@[simp] theorem State.countN_tm (s : State) (f : Fld) (k : Nat) : (s.countN f k).tm = s.tm := rfl
@[simp] theorem State.countN_cmd (s : State) (f : Fld) (k : Nat) : (s.countN f k).cmd = s.cmd := rfl
@[simp] theorem State.countN_evt (s : State) (f : Fld) (k : Nat) : (s.countN f k).evt = s.evt := rfl
@[simp] theorem State.countN_net (s : State) (f : Fld) (k : Nat) : (s.countN f k).net = s.net := rfl
@[simp] theorem State.countN_svc (s : State) (f : Fld) (k : Nat) : (s.countN f k).svc = s.svc := rfl
@[simp] theorem State.countN_nv (s : State) (f : Fld) (k : Nat) : (s.countN f k).nv = s.nv := rfl
@[simp] theorem State.countN_fab (s : State) (f : Fld) (k : Nat) : (s.countN f k).fab = s.fab := rfl
@[simp] theorem State.countN_cir (s : State) (f : Fld) (k : Nat) : (s.countN f k).cir = s.cir := rfl
@[simp] theorem State.countN_sch (s : State) (f : Fld) (k : Nat) : (s.countN f k).sch = s.sch := rfl
@[simp] theorem State.countN_trv (s : State) (f : Fld) (k : Nat) : (s.countN f k).trv = s.trv := rfl
@[simp] theorem State.countN_tiles (s : State) (f : Fld) (k : Nat) : (s.countN f k).tiles = s.tiles := rfl
@[simp] theorem State.countN_drv (s : State) (f : Fld) (k : Nat) : (s.countN f k).drv = s.drv := rfl
@[simp] theorem State.countN_cal (s : State) (f : Fld) (k : Nat) : (s.countN f k).cal = s.cal := rfl
@[simp] theorem State.countN_thm (s : State) (f : Fld) (k : Nat) : (s.countN f k).thm = s.thm := rfl
@[simp] theorem State.countN_ctx (s : State) (f : Fld) (k : Nat) (j : Nat) : (s.countN f k).ctx j = s.ctx j := rfl
@[simp] theorem State.countN_elem (s : State) (f : Fld) (k : Nat) (j : Nat) : (s.countN f k).elem j = s.elem j := rfl
@[simp] theorem State.countN_port (s : State) (f : Fld) (k : Nat) (j : Nat) : (s.countN f k).port j = s.port j := rfl
@[simp] theorem State.countN_cell (s : State) (f : Fld) (k : Nat) (j : Nat) : (s.countN f k).cell j = s.cell j := rfl
@[simp] theorem State.countN_tile (s : State) (f : Fld) (k : Nat) (j : Nat) : (s.countN f k).tile j = s.tile j := rfl
@[simp] theorem State.countN_entry (s : State) (f : Fld) (k : Nat) (j : Nat) : (s.countN f k).entry j = s.entry j := rfl
@[simp] theorem State.countN_htr (s : State) (f : Fld) (k : Nat) (j : Nat) : (s.countN f k).htr j = s.htr j := rfl
@[simp] theorem State.countN_fdch (s : State) (f : Fld) (k : Nat) (j : Nat) : (s.countN f k).fdch j = s.fdch j := rfl

/-! ## take -/

@[simp] theorem State.take_pending (s : State) (a : Nat) (v : Word) : (s.take a v).pending = s.pending := rfl
@[simp] theorem State.take_t (s : State) (a : Nat) (v : Word) : (s.take a v).t = s.t := rfl
@[simp] theorem State.take_free (s : State) (a : Nat) (v : Word) : (s.take a v).free = s.free := rfl
@[simp] theorem State.take_bus (s : State) (a : Nat) (v : Word) : (s.take a v).bus = s.bus := rfl
@[simp] theorem State.take_tm (s : State) (a : Nat) (v : Word) : (s.take a v).tm = s.tm := rfl
@[simp] theorem State.take_cmd (s : State) (a : Nat) (v : Word) : (s.take a v).cmd = s.cmd := rfl
@[simp] theorem State.take_evt (s : State) (a : Nat) (v : Word) : (s.take a v).evt = s.evt := rfl
@[simp] theorem State.take_net (s : State) (a : Nat) (v : Word) : (s.take a v).net = s.net := rfl
@[simp] theorem State.take_svc (s : State) (a : Nat) (v : Word) : (s.take a v).svc = s.svc := rfl
@[simp] theorem State.take_nv (s : State) (a : Nat) (v : Word) : (s.take a v).nv = s.nv := rfl
@[simp] theorem State.take_fab (s : State) (a : Nat) (v : Word) : (s.take a v).fab = s.fab := rfl
@[simp] theorem State.take_cir (s : State) (a : Nat) (v : Word) : (s.take a v).cir = s.cir := rfl
@[simp] theorem State.take_sch (s : State) (a : Nat) (v : Word) : (s.take a v).sch = s.sch := rfl
@[simp] theorem State.take_trv (s : State) (a : Nat) (v : Word) : (s.take a v).trv = s.trv := rfl
@[simp] theorem State.take_tiles (s : State) (a : Nat) (v : Word) : (s.take a v).tiles = s.tiles := rfl
@[simp] theorem State.take_drv (s : State) (a : Nat) (v : Word) : (s.take a v).drv = s.drv := rfl
@[simp] theorem State.take_cal (s : State) (a : Nat) (v : Word) : (s.take a v).cal = s.cal := rfl
@[simp] theorem State.take_thm (s : State) (a : Nat) (v : Word) : (s.take a v).thm = s.thm := rfl
@[simp] theorem State.take_ctx (s : State) (a : Nat) (v : Word) (j : Nat) : (s.take a v).ctx j = s.ctx j := rfl
@[simp] theorem State.take_elem (s : State) (a : Nat) (v : Word) (j : Nat) : (s.take a v).elem j = s.elem j := rfl
@[simp] theorem State.take_port (s : State) (a : Nat) (v : Word) (j : Nat) : (s.take a v).port j = s.port j := rfl
@[simp] theorem State.take_cell (s : State) (a : Nat) (v : Word) (j : Nat) : (s.take a v).cell j = s.cell j := rfl
@[simp] theorem State.take_tile (s : State) (a : Nat) (v : Word) (j : Nat) : (s.take a v).tile j = s.tile j := rfl
@[simp] theorem State.take_entry (s : State) (a : Nat) (v : Word) (j : Nat) : (s.take a v).entry j = s.entry j := rfl
@[simp] theorem State.take_htr (s : State) (a : Nat) (v : Word) (j : Nat) : (s.take a v).htr j = s.htr j := rfl
@[simp] theorem State.take_fdch (s : State) (a : Nat) (v : Word) (j : Nat) : (s.take a v).fdch j = s.fdch j := rfl

/-! ## advanceTo -/

@[simp] theorem State.advanceTo_pending (s : State) (n : Nat) : (s.advanceTo n).pending = s.pending := rfl
@[simp] theorem State.advanceTo_free (s : State) (n : Nat) : (s.advanceTo n).free = s.free := rfl
@[simp] theorem State.advanceTo_regs (s : State) (n : Nat) : (s.advanceTo n).regs = s.regs := rfl
@[simp] theorem State.advanceTo_bus (s : State) (n : Nat) : (s.advanceTo n).bus = s.bus := rfl
@[simp] theorem State.advanceTo_tm (s : State) (n : Nat) : (s.advanceTo n).tm = s.tm := rfl
@[simp] theorem State.advanceTo_cmd (s : State) (n : Nat) : (s.advanceTo n).cmd = s.cmd := rfl
@[simp] theorem State.advanceTo_evt (s : State) (n : Nat) : (s.advanceTo n).evt = s.evt := rfl
@[simp] theorem State.advanceTo_net (s : State) (n : Nat) : (s.advanceTo n).net = s.net := rfl
@[simp] theorem State.advanceTo_svc (s : State) (n : Nat) : (s.advanceTo n).svc = s.svc := rfl
@[simp] theorem State.advanceTo_nv (s : State) (n : Nat) : (s.advanceTo n).nv = s.nv := rfl
@[simp] theorem State.advanceTo_fab (s : State) (n : Nat) : (s.advanceTo n).fab = s.fab := rfl
@[simp] theorem State.advanceTo_cir (s : State) (n : Nat) : (s.advanceTo n).cir = s.cir := rfl
@[simp] theorem State.advanceTo_sch (s : State) (n : Nat) : (s.advanceTo n).sch = s.sch := rfl
@[simp] theorem State.advanceTo_trv (s : State) (n : Nat) : (s.advanceTo n).trv = s.trv := rfl
@[simp] theorem State.advanceTo_tiles (s : State) (n : Nat) : (s.advanceTo n).tiles = s.tiles := rfl
@[simp] theorem State.advanceTo_drv (s : State) (n : Nat) : (s.advanceTo n).drv = s.drv := rfl
@[simp] theorem State.advanceTo_cal (s : State) (n : Nat) : (s.advanceTo n).cal = s.cal := rfl
@[simp] theorem State.advanceTo_thm (s : State) (n : Nat) : (s.advanceTo n).thm = s.thm := rfl
@[simp] theorem State.advanceTo_rd (s : State) (n : Nat) (y : Nat) : (s.advanceTo n).rd y = s.rd y := rfl
@[simp] theorem State.advanceTo_get (s : State) (n : Nat) (g : Fld) : (s.advanceTo n).get g = s.get g := rfl
@[simp] theorem State.advanceTo_flag (s : State) (n : Nat) (g : Fld) : (s.advanceTo n).flag g = s.flag g := rfl
@[simp] theorem State.advanceTo_ctx (s : State) (n : Nat) (j : Nat) : (s.advanceTo n).ctx j = s.ctx j := rfl
@[simp] theorem State.advanceTo_elem (s : State) (n : Nat) (j : Nat) : (s.advanceTo n).elem j = s.elem j := rfl
@[simp] theorem State.advanceTo_port (s : State) (n : Nat) (j : Nat) : (s.advanceTo n).port j = s.port j := rfl
@[simp] theorem State.advanceTo_cell (s : State) (n : Nat) (j : Nat) : (s.advanceTo n).cell j = s.cell j := rfl
@[simp] theorem State.advanceTo_tile (s : State) (n : Nat) (j : Nat) : (s.advanceTo n).tile j = s.tile j := rfl
@[simp] theorem State.advanceTo_entry (s : State) (n : Nat) (j : Nat) : (s.advanceTo n).entry j = s.entry j := rfl
@[simp] theorem State.advanceTo_htr (s : State) (n : Nat) (j : Nat) : (s.advanceTo n).htr j = s.htr j := rfl
@[simp] theorem State.advanceTo_fdch (s : State) (n : Nat) (j : Nat) : (s.advanceTo n).fdch j = s.fdch j := rfl

/-! ## tick -/

@[simp] theorem State.tick_pending (s : State) : (s.tick).pending = s.pending := rfl
@[simp] theorem State.tick_free (s : State) : (s.tick).free = s.free := rfl
@[simp] theorem State.tick_regs (s : State) : (s.tick).regs = s.regs := rfl
@[simp] theorem State.tick_bus (s : State) : (s.tick).bus = s.bus := rfl
@[simp] theorem State.tick_tm (s : State) : (s.tick).tm = s.tm := rfl
@[simp] theorem State.tick_cmd (s : State) : (s.tick).cmd = s.cmd := rfl
@[simp] theorem State.tick_evt (s : State) : (s.tick).evt = s.evt := rfl
@[simp] theorem State.tick_net (s : State) : (s.tick).net = s.net := rfl
@[simp] theorem State.tick_svc (s : State) : (s.tick).svc = s.svc := rfl
@[simp] theorem State.tick_nv (s : State) : (s.tick).nv = s.nv := rfl
@[simp] theorem State.tick_fab (s : State) : (s.tick).fab = s.fab := rfl
@[simp] theorem State.tick_cir (s : State) : (s.tick).cir = s.cir := rfl
@[simp] theorem State.tick_sch (s : State) : (s.tick).sch = s.sch := rfl
@[simp] theorem State.tick_trv (s : State) : (s.tick).trv = s.trv := rfl
@[simp] theorem State.tick_tiles (s : State) : (s.tick).tiles = s.tiles := rfl
@[simp] theorem State.tick_drv (s : State) : (s.tick).drv = s.drv := rfl
@[simp] theorem State.tick_cal (s : State) : (s.tick).cal = s.cal := rfl
@[simp] theorem State.tick_thm (s : State) : (s.tick).thm = s.thm := rfl
@[simp] theorem State.tick_rd (s : State) (y : Nat) : (s.tick).rd y = s.rd y := rfl
@[simp] theorem State.tick_get (s : State) (g : Fld) : (s.tick).get g = s.get g := rfl
@[simp] theorem State.tick_flag (s : State) (g : Fld) : (s.tick).flag g = s.flag g := rfl
@[simp] theorem State.tick_ctx (s : State) (j : Nat) : (s.tick).ctx j = s.ctx j := rfl
@[simp] theorem State.tick_elem (s : State) (j : Nat) : (s.tick).elem j = s.elem j := rfl
@[simp] theorem State.tick_port (s : State) (j : Nat) : (s.tick).port j = s.port j := rfl
@[simp] theorem State.tick_cell (s : State) (j : Nat) : (s.tick).cell j = s.cell j := rfl
@[simp] theorem State.tick_tile (s : State) (j : Nat) : (s.tick).tile j = s.tile j := rfl
@[simp] theorem State.tick_entry (s : State) (j : Nat) : (s.tick).entry j = s.entry j := rfl
@[simp] theorem State.tick_htr (s : State) (j : Nat) : (s.tick).htr j = s.htr j := rfl
@[simp] theorem State.tick_fdch (s : State) (j : Nat) : (s.tick).fdch j = s.fdch j := rfl

/-! ## draw -/

@[simp] theorem State.draw_pending (s : State) : (s.draw).pending = s.pending := rfl
@[simp] theorem State.draw_t (s : State) : (s.draw).t = s.t := rfl
@[simp] theorem State.draw_regs (s : State) : (s.draw).regs = s.regs := rfl
@[simp] theorem State.draw_bus (s : State) : (s.draw).bus = s.bus := rfl
@[simp] theorem State.draw_tm (s : State) : (s.draw).tm = s.tm := rfl
@[simp] theorem State.draw_cmd (s : State) : (s.draw).cmd = s.cmd := rfl
@[simp] theorem State.draw_evt (s : State) : (s.draw).evt = s.evt := rfl
@[simp] theorem State.draw_net (s : State) : (s.draw).net = s.net := rfl
@[simp] theorem State.draw_svc (s : State) : (s.draw).svc = s.svc := rfl
@[simp] theorem State.draw_nv (s : State) : (s.draw).nv = s.nv := rfl
@[simp] theorem State.draw_fab (s : State) : (s.draw).fab = s.fab := rfl
@[simp] theorem State.draw_cir (s : State) : (s.draw).cir = s.cir := rfl
@[simp] theorem State.draw_sch (s : State) : (s.draw).sch = s.sch := rfl
@[simp] theorem State.draw_trv (s : State) : (s.draw).trv = s.trv := rfl
@[simp] theorem State.draw_tiles (s : State) : (s.draw).tiles = s.tiles := rfl
@[simp] theorem State.draw_drv (s : State) : (s.draw).drv = s.drv := rfl
@[simp] theorem State.draw_cal (s : State) : (s.draw).cal = s.cal := rfl
@[simp] theorem State.draw_thm (s : State) : (s.draw).thm = s.thm := rfl
@[simp] theorem State.draw_rd (s : State) (y : Nat) : (s.draw).rd y = s.rd y := rfl
@[simp] theorem State.draw_get (s : State) (g : Fld) : (s.draw).get g = s.get g := rfl
@[simp] theorem State.draw_flag (s : State) (g : Fld) : (s.draw).flag g = s.flag g := rfl
@[simp] theorem State.draw_ctx (s : State) (j : Nat) : (s.draw).ctx j = s.ctx j := rfl
@[simp] theorem State.draw_elem (s : State) (j : Nat) : (s.draw).elem j = s.elem j := rfl
@[simp] theorem State.draw_port (s : State) (j : Nat) : (s.draw).port j = s.port j := rfl
@[simp] theorem State.draw_cell (s : State) (j : Nat) : (s.draw).cell j = s.cell j := rfl
@[simp] theorem State.draw_tile (s : State) (j : Nat) : (s.draw).tile j = s.tile j := rfl
@[simp] theorem State.draw_entry (s : State) (j : Nat) : (s.draw).entry j = s.entry j := rfl
@[simp] theorem State.draw_htr (s : State) (j : Nat) : (s.draw).htr j = s.htr j := rfl
@[simp] theorem State.draw_fdch (s : State) (j : Nat) : (s.draw).fdch j = s.fdch j := rfl

/-! ## emit -/

@[simp] theorem State.emit_pending (s : State) (m : OutMsg) : (s.emit m).pending = s.pending := rfl
@[simp] theorem State.emit_t (s : State) (m : OutMsg) : (s.emit m).t = s.t := rfl
@[simp] theorem State.emit_free (s : State) (m : OutMsg) : (s.emit m).free = s.free := rfl
@[simp] theorem State.emit_regs (s : State) (m : OutMsg) : (s.emit m).regs = s.regs := rfl
@[simp] theorem State.emit_bus (s : State) (m : OutMsg) : (s.emit m).bus = s.bus := rfl
@[simp] theorem State.emit_tm (s : State) (m : OutMsg) : (s.emit m).tm = s.tm := rfl
@[simp] theorem State.emit_evt (s : State) (m : OutMsg) : (s.emit m).evt = s.evt := rfl
@[simp] theorem State.emit_net (s : State) (m : OutMsg) : (s.emit m).net = s.net := rfl
@[simp] theorem State.emit_svc (s : State) (m : OutMsg) : (s.emit m).svc = s.svc := rfl
@[simp] theorem State.emit_nv (s : State) (m : OutMsg) : (s.emit m).nv = s.nv := rfl
@[simp] theorem State.emit_fab (s : State) (m : OutMsg) : (s.emit m).fab = s.fab := rfl
@[simp] theorem State.emit_cir (s : State) (m : OutMsg) : (s.emit m).cir = s.cir := rfl
@[simp] theorem State.emit_sch (s : State) (m : OutMsg) : (s.emit m).sch = s.sch := rfl
@[simp] theorem State.emit_trv (s : State) (m : OutMsg) : (s.emit m).trv = s.trv := rfl
@[simp] theorem State.emit_tiles (s : State) (m : OutMsg) : (s.emit m).tiles = s.tiles := rfl
@[simp] theorem State.emit_drv (s : State) (m : OutMsg) : (s.emit m).drv = s.drv := rfl
@[simp] theorem State.emit_cal (s : State) (m : OutMsg) : (s.emit m).cal = s.cal := rfl
@[simp] theorem State.emit_thm (s : State) (m : OutMsg) : (s.emit m).thm = s.thm := rfl
@[simp] theorem State.emit_rd (s : State) (m : OutMsg) (y : Nat) : (s.emit m).rd y = s.rd y := rfl
@[simp] theorem State.emit_get (s : State) (m : OutMsg) (g : Fld) : (s.emit m).get g = s.get g := rfl
@[simp] theorem State.emit_flag (s : State) (m : OutMsg) (g : Fld) : (s.emit m).flag g = s.flag g := rfl
@[simp] theorem State.emit_ctx (s : State) (m : OutMsg) (j : Nat) : (s.emit m).ctx j = s.ctx j := rfl
@[simp] theorem State.emit_elem (s : State) (m : OutMsg) (j : Nat) : (s.emit m).elem j = s.elem j := rfl
@[simp] theorem State.emit_port (s : State) (m : OutMsg) (j : Nat) : (s.emit m).port j = s.port j := rfl
@[simp] theorem State.emit_cell (s : State) (m : OutMsg) (j : Nat) : (s.emit m).cell j = s.cell j := rfl
@[simp] theorem State.emit_tile (s : State) (m : OutMsg) (j : Nat) : (s.emit m).tile j = s.tile j := rfl
@[simp] theorem State.emit_entry (s : State) (m : OutMsg) (j : Nat) : (s.emit m).entry j = s.entry j := rfl
@[simp] theorem State.emit_htr (s : State) (m : OutMsg) (j : Nat) : (s.emit m).htr j = s.htr j := rfl
@[simp] theorem State.emit_fdch (s : State) (m : OutMsg) (j : Nat) : (s.emit m).fdch j = s.fdch j := rfl

/-! ## reply -/

@[simp] theorem State.reply_pending (s : State) (m : OutMsg) : (s.reply m).pending = s.pending := rfl
@[simp] theorem State.reply_t (s : State) (m : OutMsg) : (s.reply m).t = s.t := rfl
@[simp] theorem State.reply_free (s : State) (m : OutMsg) : (s.reply m).free = s.free := rfl
@[simp] theorem State.reply_regs (s : State) (m : OutMsg) : (s.reply m).regs = s.regs := rfl
@[simp] theorem State.reply_bus (s : State) (m : OutMsg) : (s.reply m).bus = s.bus := rfl
@[simp] theorem State.reply_tm (s : State) (m : OutMsg) : (s.reply m).tm = s.tm := rfl
@[simp] theorem State.reply_evt (s : State) (m : OutMsg) : (s.reply m).evt = s.evt := rfl
@[simp] theorem State.reply_net (s : State) (m : OutMsg) : (s.reply m).net = s.net := rfl
@[simp] theorem State.reply_svc (s : State) (m : OutMsg) : (s.reply m).svc = s.svc := rfl
@[simp] theorem State.reply_nv (s : State) (m : OutMsg) : (s.reply m).nv = s.nv := rfl
@[simp] theorem State.reply_fab (s : State) (m : OutMsg) : (s.reply m).fab = s.fab := rfl
@[simp] theorem State.reply_cir (s : State) (m : OutMsg) : (s.reply m).cir = s.cir := rfl
@[simp] theorem State.reply_sch (s : State) (m : OutMsg) : (s.reply m).sch = s.sch := rfl
@[simp] theorem State.reply_trv (s : State) (m : OutMsg) : (s.reply m).trv = s.trv := rfl
@[simp] theorem State.reply_tiles (s : State) (m : OutMsg) : (s.reply m).tiles = s.tiles := rfl
@[simp] theorem State.reply_drv (s : State) (m : OutMsg) : (s.reply m).drv = s.drv := rfl
@[simp] theorem State.reply_cal (s : State) (m : OutMsg) : (s.reply m).cal = s.cal := rfl
@[simp] theorem State.reply_thm (s : State) (m : OutMsg) : (s.reply m).thm = s.thm := rfl
@[simp] theorem State.reply_rd (s : State) (m : OutMsg) (y : Nat) : (s.reply m).rd y = s.rd y := rfl
@[simp] theorem State.reply_get (s : State) (m : OutMsg) (g : Fld) : (s.reply m).get g = s.get g := rfl
@[simp] theorem State.reply_flag (s : State) (m : OutMsg) (g : Fld) : (s.reply m).flag g = s.flag g := rfl
@[simp] theorem State.reply_ctx (s : State) (m : OutMsg) (j : Nat) : (s.reply m).ctx j = s.ctx j := rfl
@[simp] theorem State.reply_elem (s : State) (m : OutMsg) (j : Nat) : (s.reply m).elem j = s.elem j := rfl
@[simp] theorem State.reply_port (s : State) (m : OutMsg) (j : Nat) : (s.reply m).port j = s.port j := rfl
@[simp] theorem State.reply_cell (s : State) (m : OutMsg) (j : Nat) : (s.reply m).cell j = s.cell j := rfl
@[simp] theorem State.reply_tile (s : State) (m : OutMsg) (j : Nat) : (s.reply m).tile j = s.tile j := rfl
@[simp] theorem State.reply_entry (s : State) (m : OutMsg) (j : Nat) : (s.reply m).entry j = s.entry j := rfl
@[simp] theorem State.reply_htr (s : State) (m : OutMsg) (j : Nat) : (s.reply m).htr j = s.htr j := rfl
@[simp] theorem State.reply_fdch (s : State) (m : OutMsg) (j : Nat) : (s.reply m).fdch j = s.fdch j := rfl

/-! ## closeSession -/

@[simp] theorem State.closeSession_pending (s : State) (i : Nat) : (s.closeSession i).pending = s.pending := rfl
@[simp] theorem State.closeSession_t (s : State) (i : Nat) : (s.closeSession i).t = s.t := rfl
@[simp] theorem State.closeSession_free (s : State) (i : Nat) : (s.closeSession i).free = s.free := rfl
@[simp] theorem State.closeSession_regs (s : State) (i : Nat) : (s.closeSession i).regs = s.regs := rfl
@[simp] theorem State.closeSession_bus (s : State) (i : Nat) : (s.closeSession i).bus = s.bus := rfl
@[simp] theorem State.closeSession_tm (s : State) (i : Nat) : (s.closeSession i).tm = s.tm := rfl
@[simp] theorem State.closeSession_evt (s : State) (i : Nat) : (s.closeSession i).evt = s.evt := rfl
@[simp] theorem State.closeSession_net (s : State) (i : Nat) : (s.closeSession i).net = s.net := rfl
@[simp] theorem State.closeSession_svc (s : State) (i : Nat) : (s.closeSession i).svc = s.svc := rfl
@[simp] theorem State.closeSession_nv (s : State) (i : Nat) : (s.closeSession i).nv = s.nv := rfl
@[simp] theorem State.closeSession_fab (s : State) (i : Nat) : (s.closeSession i).fab = s.fab := rfl
@[simp] theorem State.closeSession_cir (s : State) (i : Nat) : (s.closeSession i).cir = s.cir := rfl
@[simp] theorem State.closeSession_sch (s : State) (i : Nat) : (s.closeSession i).sch = s.sch := rfl
@[simp] theorem State.closeSession_trv (s : State) (i : Nat) : (s.closeSession i).trv = s.trv := rfl
@[simp] theorem State.closeSession_tiles (s : State) (i : Nat) : (s.closeSession i).tiles = s.tiles := rfl
@[simp] theorem State.closeSession_drv (s : State) (i : Nat) : (s.closeSession i).drv = s.drv := rfl
@[simp] theorem State.closeSession_cal (s : State) (i : Nat) : (s.closeSession i).cal = s.cal := rfl
@[simp] theorem State.closeSession_thm (s : State) (i : Nat) : (s.closeSession i).thm = s.thm := rfl
@[simp] theorem State.closeSession_rd (s : State) (i : Nat) (y : Nat) : (s.closeSession i).rd y = s.rd y := rfl
@[simp] theorem State.closeSession_get (s : State) (i : Nat) (g : Fld) : (s.closeSession i).get g = s.get g := rfl
@[simp] theorem State.closeSession_flag (s : State) (i : Nat) (g : Fld) : (s.closeSession i).flag g = s.flag g := rfl
@[simp] theorem State.closeSession_ctx (s : State) (i : Nat) (j : Nat) : (s.closeSession i).ctx j = s.ctx j := rfl
@[simp] theorem State.closeSession_elem (s : State) (i : Nat) (j : Nat) : (s.closeSession i).elem j = s.elem j := rfl
@[simp] theorem State.closeSession_port (s : State) (i : Nat) (j : Nat) : (s.closeSession i).port j = s.port j := rfl
@[simp] theorem State.closeSession_cell (s : State) (i : Nat) (j : Nat) : (s.closeSession i).cell j = s.cell j := rfl
@[simp] theorem State.closeSession_tile (s : State) (i : Nat) (j : Nat) : (s.closeSession i).tile j = s.tile j := rfl
@[simp] theorem State.closeSession_entry (s : State) (i : Nat) (j : Nat) : (s.closeSession i).entry j = s.entry j := rfl
@[simp] theorem State.closeSession_htr (s : State) (i : Nat) (j : Nat) : (s.closeSession i).htr j = s.htr j := rfl
@[simp] theorem State.closeSession_fdch (s : State) (i : Nat) (j : Nat) : (s.closeSession i).fdch j = s.fdch j := rfl

/-! ## setElem -/

@[simp] theorem State.setElem_pending (s : State) (e : Nat) (x : Elem) : (s.setElem e x).pending = s.pending := rfl
@[simp] theorem State.setElem_t (s : State) (e : Nat) (x : Elem) : (s.setElem e x).t = s.t := rfl
@[simp] theorem State.setElem_free (s : State) (e : Nat) (x : Elem) : (s.setElem e x).free = s.free := rfl
@[simp] theorem State.setElem_regs (s : State) (e : Nat) (x : Elem) : (s.setElem e x).regs = s.regs := rfl
@[simp] theorem State.setElem_bus (s : State) (e : Nat) (x : Elem) : (s.setElem e x).bus = s.bus := rfl
@[simp] theorem State.setElem_tm (s : State) (e : Nat) (x : Elem) : (s.setElem e x).tm = s.tm := rfl
@[simp] theorem State.setElem_cmd (s : State) (e : Nat) (x : Elem) : (s.setElem e x).cmd = s.cmd := rfl
@[simp] theorem State.setElem_evt (s : State) (e : Nat) (x : Elem) : (s.setElem e x).evt = s.evt := rfl
@[simp] theorem State.setElem_net (s : State) (e : Nat) (x : Elem) : (s.setElem e x).net = s.net := rfl
@[simp] theorem State.setElem_svc (s : State) (e : Nat) (x : Elem) : (s.setElem e x).svc = s.svc := rfl
@[simp] theorem State.setElem_nv (s : State) (e : Nat) (x : Elem) : (s.setElem e x).nv = s.nv := rfl
@[simp] theorem State.setElem_cir (s : State) (e : Nat) (x : Elem) : (s.setElem e x).cir = s.cir := rfl
@[simp] theorem State.setElem_sch (s : State) (e : Nat) (x : Elem) : (s.setElem e x).sch = s.sch := rfl
@[simp] theorem State.setElem_trv (s : State) (e : Nat) (x : Elem) : (s.setElem e x).trv = s.trv := rfl
@[simp] theorem State.setElem_tiles (s : State) (e : Nat) (x : Elem) : (s.setElem e x).tiles = s.tiles := rfl
@[simp] theorem State.setElem_drv (s : State) (e : Nat) (x : Elem) : (s.setElem e x).drv = s.drv := rfl
@[simp] theorem State.setElem_cal (s : State) (e : Nat) (x : Elem) : (s.setElem e x).cal = s.cal := rfl
@[simp] theorem State.setElem_thm (s : State) (e : Nat) (x : Elem) : (s.setElem e x).thm = s.thm := rfl
@[simp] theorem State.setElem_rd (s : State) (e : Nat) (x : Elem) (y : Nat) : (s.setElem e x).rd y = s.rd y := rfl
@[simp] theorem State.setElem_get (s : State) (e : Nat) (x : Elem) (g : Fld) : (s.setElem e x).get g = s.get g := rfl
@[simp] theorem State.setElem_flag (s : State) (e : Nat) (x : Elem) (g : Fld) : (s.setElem e x).flag g = s.flag g := rfl
@[simp] theorem State.setElem_ctx (s : State) (e : Nat) (x : Elem) (j : Nat) : (s.setElem e x).ctx j = s.ctx j := rfl
@[simp] theorem State.setElem_tile (s : State) (e : Nat) (x : Elem) (j : Nat) : (s.setElem e x).tile j = s.tile j := rfl
@[simp] theorem State.setElem_entry (s : State) (e : Nat) (x : Elem) (j : Nat) : (s.setElem e x).entry j = s.entry j := rfl
@[simp] theorem State.setElem_htr (s : State) (e : Nat) (x : Elem) (j : Nat) : (s.setElem e x).htr j = s.htr j := rfl
@[simp] theorem State.setElem_fdch (s : State) (e : Nat) (x : Elem) (j : Nat) : (s.setElem e x).fdch j = s.fdch j := rfl

/-! ## setPort -/

@[simp] theorem State.setPort_pending (s : State) (k : Nat) (x : Port) : (s.setPort k x).pending = s.pending := rfl
@[simp] theorem State.setPort_t (s : State) (k : Nat) (x : Port) : (s.setPort k x).t = s.t := rfl
@[simp] theorem State.setPort_free (s : State) (k : Nat) (x : Port) : (s.setPort k x).free = s.free := rfl
@[simp] theorem State.setPort_regs (s : State) (k : Nat) (x : Port) : (s.setPort k x).regs = s.regs := rfl
@[simp] theorem State.setPort_bus (s : State) (k : Nat) (x : Port) : (s.setPort k x).bus = s.bus := rfl
@[simp] theorem State.setPort_tm (s : State) (k : Nat) (x : Port) : (s.setPort k x).tm = s.tm := rfl
@[simp] theorem State.setPort_cmd (s : State) (k : Nat) (x : Port) : (s.setPort k x).cmd = s.cmd := rfl
@[simp] theorem State.setPort_evt (s : State) (k : Nat) (x : Port) : (s.setPort k x).evt = s.evt := rfl
@[simp] theorem State.setPort_net (s : State) (k : Nat) (x : Port) : (s.setPort k x).net = s.net := rfl
@[simp] theorem State.setPort_svc (s : State) (k : Nat) (x : Port) : (s.setPort k x).svc = s.svc := rfl
@[simp] theorem State.setPort_nv (s : State) (k : Nat) (x : Port) : (s.setPort k x).nv = s.nv := rfl
@[simp] theorem State.setPort_cir (s : State) (k : Nat) (x : Port) : (s.setPort k x).cir = s.cir := rfl
@[simp] theorem State.setPort_sch (s : State) (k : Nat) (x : Port) : (s.setPort k x).sch = s.sch := rfl
@[simp] theorem State.setPort_trv (s : State) (k : Nat) (x : Port) : (s.setPort k x).trv = s.trv := rfl
@[simp] theorem State.setPort_tiles (s : State) (k : Nat) (x : Port) : (s.setPort k x).tiles = s.tiles := rfl
@[simp] theorem State.setPort_drv (s : State) (k : Nat) (x : Port) : (s.setPort k x).drv = s.drv := rfl
@[simp] theorem State.setPort_cal (s : State) (k : Nat) (x : Port) : (s.setPort k x).cal = s.cal := rfl
@[simp] theorem State.setPort_thm (s : State) (k : Nat) (x : Port) : (s.setPort k x).thm = s.thm := rfl
@[simp] theorem State.setPort_rd (s : State) (k : Nat) (x : Port) (y : Nat) : (s.setPort k x).rd y = s.rd y := rfl
@[simp] theorem State.setPort_get (s : State) (k : Nat) (x : Port) (g : Fld) : (s.setPort k x).get g = s.get g := rfl
@[simp] theorem State.setPort_flag (s : State) (k : Nat) (x : Port) (g : Fld) : (s.setPort k x).flag g = s.flag g := rfl
@[simp] theorem State.setPort_ctx (s : State) (k : Nat) (x : Port) (j : Nat) : (s.setPort k x).ctx j = s.ctx j := rfl
@[simp] theorem State.setPort_tile (s : State) (k : Nat) (x : Port) (j : Nat) : (s.setPort k x).tile j = s.tile j := rfl
@[simp] theorem State.setPort_entry (s : State) (k : Nat) (x : Port) (j : Nat) : (s.setPort k x).entry j = s.entry j := rfl
@[simp] theorem State.setPort_htr (s : State) (k : Nat) (x : Port) (j : Nat) : (s.setPort k x).htr j = s.htr j := rfl
@[simp] theorem State.setPort_fdch (s : State) (k : Nat) (x : Port) (j : Nat) : (s.setPort k x).fdch j = s.fdch j := rfl

/-! ## setCell -/

@[simp] theorem State.setCell_pending (s : State) (p : Nat) (x : Bool) : (s.setCell p x).pending = s.pending := rfl
@[simp] theorem State.setCell_t (s : State) (p : Nat) (x : Bool) : (s.setCell p x).t = s.t := rfl
@[simp] theorem State.setCell_free (s : State) (p : Nat) (x : Bool) : (s.setCell p x).free = s.free := rfl
@[simp] theorem State.setCell_regs (s : State) (p : Nat) (x : Bool) : (s.setCell p x).regs = s.regs := rfl
@[simp] theorem State.setCell_bus (s : State) (p : Nat) (x : Bool) : (s.setCell p x).bus = s.bus := rfl
@[simp] theorem State.setCell_tm (s : State) (p : Nat) (x : Bool) : (s.setCell p x).tm = s.tm := rfl
@[simp] theorem State.setCell_cmd (s : State) (p : Nat) (x : Bool) : (s.setCell p x).cmd = s.cmd := rfl
@[simp] theorem State.setCell_evt (s : State) (p : Nat) (x : Bool) : (s.setCell p x).evt = s.evt := rfl
@[simp] theorem State.setCell_net (s : State) (p : Nat) (x : Bool) : (s.setCell p x).net = s.net := rfl
@[simp] theorem State.setCell_svc (s : State) (p : Nat) (x : Bool) : (s.setCell p x).svc = s.svc := rfl
@[simp] theorem State.setCell_nv (s : State) (p : Nat) (x : Bool) : (s.setCell p x).nv = s.nv := rfl
@[simp] theorem State.setCell_cir (s : State) (p : Nat) (x : Bool) : (s.setCell p x).cir = s.cir := rfl
@[simp] theorem State.setCell_sch (s : State) (p : Nat) (x : Bool) : (s.setCell p x).sch = s.sch := rfl
@[simp] theorem State.setCell_trv (s : State) (p : Nat) (x : Bool) : (s.setCell p x).trv = s.trv := rfl
@[simp] theorem State.setCell_tiles (s : State) (p : Nat) (x : Bool) : (s.setCell p x).tiles = s.tiles := rfl
@[simp] theorem State.setCell_drv (s : State) (p : Nat) (x : Bool) : (s.setCell p x).drv = s.drv := rfl
@[simp] theorem State.setCell_cal (s : State) (p : Nat) (x : Bool) : (s.setCell p x).cal = s.cal := rfl
@[simp] theorem State.setCell_thm (s : State) (p : Nat) (x : Bool) : (s.setCell p x).thm = s.thm := rfl
@[simp] theorem State.setCell_rd (s : State) (p : Nat) (x : Bool) (y : Nat) : (s.setCell p x).rd y = s.rd y := rfl
@[simp] theorem State.setCell_get (s : State) (p : Nat) (x : Bool) (g : Fld) : (s.setCell p x).get g = s.get g := rfl
@[simp] theorem State.setCell_flag (s : State) (p : Nat) (x : Bool) (g : Fld) : (s.setCell p x).flag g = s.flag g := rfl
@[simp] theorem State.setCell_ctx (s : State) (p : Nat) (x : Bool) (j : Nat) : (s.setCell p x).ctx j = s.ctx j := rfl
@[simp] theorem State.setCell_tile (s : State) (p : Nat) (x : Bool) (j : Nat) : (s.setCell p x).tile j = s.tile j := rfl
@[simp] theorem State.setCell_entry (s : State) (p : Nat) (x : Bool) (j : Nat) : (s.setCell p x).entry j = s.entry j := rfl
@[simp] theorem State.setCell_htr (s : State) (p : Nat) (x : Bool) (j : Nat) : (s.setCell p x).htr j = s.htr j := rfl
@[simp] theorem State.setCell_fdch (s : State) (p : Nat) (x : Bool) (j : Nat) : (s.setCell p x).fdch j = s.fdch j := rfl

/-! ## setTile -/

@[simp] theorem State.setTile_pending (s : State) (k : Nat) (x : TileSt) : (s.setTile k x).pending = s.pending := rfl
@[simp] theorem State.setTile_t (s : State) (k : Nat) (x : TileSt) : (s.setTile k x).t = s.t := rfl
@[simp] theorem State.setTile_free (s : State) (k : Nat) (x : TileSt) : (s.setTile k x).free = s.free := rfl
@[simp] theorem State.setTile_regs (s : State) (k : Nat) (x : TileSt) : (s.setTile k x).regs = s.regs := rfl
@[simp] theorem State.setTile_bus (s : State) (k : Nat) (x : TileSt) : (s.setTile k x).bus = s.bus := rfl
@[simp] theorem State.setTile_tm (s : State) (k : Nat) (x : TileSt) : (s.setTile k x).tm = s.tm := rfl
@[simp] theorem State.setTile_cmd (s : State) (k : Nat) (x : TileSt) : (s.setTile k x).cmd = s.cmd := rfl
@[simp] theorem State.setTile_evt (s : State) (k : Nat) (x : TileSt) : (s.setTile k x).evt = s.evt := rfl
@[simp] theorem State.setTile_net (s : State) (k : Nat) (x : TileSt) : (s.setTile k x).net = s.net := rfl
@[simp] theorem State.setTile_svc (s : State) (k : Nat) (x : TileSt) : (s.setTile k x).svc = s.svc := rfl
@[simp] theorem State.setTile_nv (s : State) (k : Nat) (x : TileSt) : (s.setTile k x).nv = s.nv := rfl
@[simp] theorem State.setTile_fab (s : State) (k : Nat) (x : TileSt) : (s.setTile k x).fab = s.fab := rfl
@[simp] theorem State.setTile_cir (s : State) (k : Nat) (x : TileSt) : (s.setTile k x).cir = s.cir := rfl
@[simp] theorem State.setTile_sch (s : State) (k : Nat) (x : TileSt) : (s.setTile k x).sch = s.sch := rfl
@[simp] theorem State.setTile_trv (s : State) (k : Nat) (x : TileSt) : (s.setTile k x).trv = s.trv := rfl
@[simp] theorem State.setTile_drv (s : State) (k : Nat) (x : TileSt) : (s.setTile k x).drv = s.drv := rfl
@[simp] theorem State.setTile_cal (s : State) (k : Nat) (x : TileSt) : (s.setTile k x).cal = s.cal := rfl
@[simp] theorem State.setTile_thm (s : State) (k : Nat) (x : TileSt) : (s.setTile k x).thm = s.thm := rfl
@[simp] theorem State.setTile_rd (s : State) (k : Nat) (x : TileSt) (y : Nat) : (s.setTile k x).rd y = s.rd y := rfl
@[simp] theorem State.setTile_get (s : State) (k : Nat) (x : TileSt) (g : Fld) : (s.setTile k x).get g = s.get g := rfl
@[simp] theorem State.setTile_flag (s : State) (k : Nat) (x : TileSt) (g : Fld) : (s.setTile k x).flag g = s.flag g := rfl
@[simp] theorem State.setTile_ctx (s : State) (k : Nat) (x : TileSt) (j : Nat) : (s.setTile k x).ctx j = s.ctx j := rfl
@[simp] theorem State.setTile_elem (s : State) (k : Nat) (x : TileSt) (j : Nat) : (s.setTile k x).elem j = s.elem j := rfl
@[simp] theorem State.setTile_port (s : State) (k : Nat) (x : TileSt) (j : Nat) : (s.setTile k x).port j = s.port j := rfl
@[simp] theorem State.setTile_cell (s : State) (k : Nat) (x : TileSt) (j : Nat) : (s.setTile k x).cell j = s.cell j := rfl
@[simp] theorem State.setTile_entry (s : State) (k : Nat) (x : TileSt) (j : Nat) : (s.setTile k x).entry j = s.entry j := rfl
@[simp] theorem State.setTile_htr (s : State) (k : Nat) (x : TileSt) (j : Nat) : (s.setTile k x).htr j = s.htr j := rfl
@[simp] theorem State.setTile_fdch (s : State) (k : Nat) (x : TileSt) (j : Nat) : (s.setTile k x).fdch j = s.fdch j := rfl

/-! ## setCtx -/

@[simp] theorem State.setCtx_pending (s : State) (i : Nat) (c : Ctx) : (s.setCtx i c).pending = s.pending := rfl
@[simp] theorem State.setCtx_t (s : State) (i : Nat) (c : Ctx) : (s.setCtx i c).t = s.t := rfl
@[simp] theorem State.setCtx_free (s : State) (i : Nat) (c : Ctx) : (s.setCtx i c).free = s.free := rfl
@[simp] theorem State.setCtx_regs (s : State) (i : Nat) (c : Ctx) : (s.setCtx i c).regs = s.regs := rfl
@[simp] theorem State.setCtx_bus (s : State) (i : Nat) (c : Ctx) : (s.setCtx i c).bus = s.bus := rfl
@[simp] theorem State.setCtx_tm (s : State) (i : Nat) (c : Ctx) : (s.setCtx i c).tm = s.tm := rfl
@[simp] theorem State.setCtx_cmd (s : State) (i : Nat) (c : Ctx) : (s.setCtx i c).cmd = s.cmd := rfl
@[simp] theorem State.setCtx_evt (s : State) (i : Nat) (c : Ctx) : (s.setCtx i c).evt = s.evt := rfl
@[simp] theorem State.setCtx_net (s : State) (i : Nat) (c : Ctx) : (s.setCtx i c).net = s.net := rfl
@[simp] theorem State.setCtx_svc (s : State) (i : Nat) (c : Ctx) : (s.setCtx i c).svc = s.svc := rfl
@[simp] theorem State.setCtx_nv (s : State) (i : Nat) (c : Ctx) : (s.setCtx i c).nv = s.nv := rfl
@[simp] theorem State.setCtx_fab (s : State) (i : Nat) (c : Ctx) : (s.setCtx i c).fab = s.fab := rfl
@[simp] theorem State.setCtx_sch (s : State) (i : Nat) (c : Ctx) : (s.setCtx i c).sch = s.sch := rfl
@[simp] theorem State.setCtx_trv (s : State) (i : Nat) (c : Ctx) : (s.setCtx i c).trv = s.trv := rfl
@[simp] theorem State.setCtx_tiles (s : State) (i : Nat) (c : Ctx) : (s.setCtx i c).tiles = s.tiles := rfl
@[simp] theorem State.setCtx_drv (s : State) (i : Nat) (c : Ctx) : (s.setCtx i c).drv = s.drv := rfl
@[simp] theorem State.setCtx_cal (s : State) (i : Nat) (c : Ctx) : (s.setCtx i c).cal = s.cal := rfl
@[simp] theorem State.setCtx_thm (s : State) (i : Nat) (c : Ctx) : (s.setCtx i c).thm = s.thm := rfl
@[simp] theorem State.setCtx_rd (s : State) (i : Nat) (c : Ctx) (y : Nat) : (s.setCtx i c).rd y = s.rd y := rfl
@[simp] theorem State.setCtx_get (s : State) (i : Nat) (c : Ctx) (g : Fld) : (s.setCtx i c).get g = s.get g := rfl
@[simp] theorem State.setCtx_flag (s : State) (i : Nat) (c : Ctx) (g : Fld) : (s.setCtx i c).flag g = s.flag g := rfl
@[simp] theorem State.setCtx_elem (s : State) (i : Nat) (c : Ctx) (j : Nat) : (s.setCtx i c).elem j = s.elem j := rfl
@[simp] theorem State.setCtx_port (s : State) (i : Nat) (c : Ctx) (j : Nat) : (s.setCtx i c).port j = s.port j := rfl
@[simp] theorem State.setCtx_cell (s : State) (i : Nat) (c : Ctx) (j : Nat) : (s.setCtx i c).cell j = s.cell j := rfl
@[simp] theorem State.setCtx_tile (s : State) (i : Nat) (c : Ctx) (j : Nat) : (s.setCtx i c).tile j = s.tile j := rfl
@[simp] theorem State.setCtx_entry (s : State) (i : Nat) (c : Ctx) (j : Nat) : (s.setCtx i c).entry j = s.entry j := rfl
@[simp] theorem State.setCtx_htr (s : State) (i : Nat) (c : Ctx) (j : Nat) : (s.setCtx i c).htr j = s.htr j := rfl
@[simp] theorem State.setCtx_fdch (s : State) (i : Nat) (c : Ctx) (j : Nat) : (s.setCtx i c).fdch j = s.fdch j := rfl

/-! ## setEntry -/

@[simp] theorem State.setEntry_pending (s : State) (n : Nat) (x : LibEntry) : (s.setEntry n x).pending = s.pending := rfl
@[simp] theorem State.setEntry_t (s : State) (n : Nat) (x : LibEntry) : (s.setEntry n x).t = s.t := rfl
@[simp] theorem State.setEntry_free (s : State) (n : Nat) (x : LibEntry) : (s.setEntry n x).free = s.free := rfl
@[simp] theorem State.setEntry_regs (s : State) (n : Nat) (x : LibEntry) : (s.setEntry n x).regs = s.regs := rfl
@[simp] theorem State.setEntry_bus (s : State) (n : Nat) (x : LibEntry) : (s.setEntry n x).bus = s.bus := rfl
@[simp] theorem State.setEntry_tm (s : State) (n : Nat) (x : LibEntry) : (s.setEntry n x).tm = s.tm := rfl
@[simp] theorem State.setEntry_cmd (s : State) (n : Nat) (x : LibEntry) : (s.setEntry n x).cmd = s.cmd := rfl
@[simp] theorem State.setEntry_evt (s : State) (n : Nat) (x : LibEntry) : (s.setEntry n x).evt = s.evt := rfl
@[simp] theorem State.setEntry_net (s : State) (n : Nat) (x : LibEntry) : (s.setEntry n x).net = s.net := rfl
@[simp] theorem State.setEntry_svc (s : State) (n : Nat) (x : LibEntry) : (s.setEntry n x).svc = s.svc := rfl
@[simp] theorem State.setEntry_nv (s : State) (n : Nat) (x : LibEntry) : (s.setEntry n x).nv = s.nv := rfl
@[simp] theorem State.setEntry_fab (s : State) (n : Nat) (x : LibEntry) : (s.setEntry n x).fab = s.fab := rfl
@[simp] theorem State.setEntry_cir (s : State) (n : Nat) (x : LibEntry) : (s.setEntry n x).cir = s.cir := rfl
@[simp] theorem State.setEntry_trv (s : State) (n : Nat) (x : LibEntry) : (s.setEntry n x).trv = s.trv := rfl
@[simp] theorem State.setEntry_tiles (s : State) (n : Nat) (x : LibEntry) : (s.setEntry n x).tiles = s.tiles := rfl
@[simp] theorem State.setEntry_drv (s : State) (n : Nat) (x : LibEntry) : (s.setEntry n x).drv = s.drv := rfl
@[simp] theorem State.setEntry_cal (s : State) (n : Nat) (x : LibEntry) : (s.setEntry n x).cal = s.cal := rfl
@[simp] theorem State.setEntry_thm (s : State) (n : Nat) (x : LibEntry) : (s.setEntry n x).thm = s.thm := rfl
@[simp] theorem State.setEntry_rd (s : State) (n : Nat) (x : LibEntry) (y : Nat) : (s.setEntry n x).rd y = s.rd y := rfl
@[simp] theorem State.setEntry_get (s : State) (n : Nat) (x : LibEntry) (g : Fld) : (s.setEntry n x).get g = s.get g := rfl
@[simp] theorem State.setEntry_flag (s : State) (n : Nat) (x : LibEntry) (g : Fld) : (s.setEntry n x).flag g = s.flag g := rfl
@[simp] theorem State.setEntry_ctx (s : State) (n : Nat) (x : LibEntry) (j : Nat) : (s.setEntry n x).ctx j = s.ctx j := rfl
@[simp] theorem State.setEntry_elem (s : State) (n : Nat) (x : LibEntry) (j : Nat) : (s.setEntry n x).elem j = s.elem j := rfl
@[simp] theorem State.setEntry_port (s : State) (n : Nat) (x : LibEntry) (j : Nat) : (s.setEntry n x).port j = s.port j := rfl
@[simp] theorem State.setEntry_cell (s : State) (n : Nat) (x : LibEntry) (j : Nat) : (s.setEntry n x).cell j = s.cell j := rfl
@[simp] theorem State.setEntry_tile (s : State) (n : Nat) (x : LibEntry) (j : Nat) : (s.setEntry n x).tile j = s.tile j := rfl
@[simp] theorem State.setEntry_htr (s : State) (n : Nat) (x : LibEntry) (j : Nat) : (s.setEntry n x).htr j = s.htr j := rfl
@[simp] theorem State.setEntry_fdch (s : State) (n : Nat) (x : LibEntry) (j : Nat) : (s.setEntry n x).fdch j = s.fdch j := rfl

/-! ## setHtr -/

@[simp] theorem State.setHtr_pending (s : State) (e : Nat) (x : HtrCh) : (s.setHtr e x).pending = s.pending := rfl
@[simp] theorem State.setHtr_t (s : State) (e : Nat) (x : HtrCh) : (s.setHtr e x).t = s.t := rfl
@[simp] theorem State.setHtr_free (s : State) (e : Nat) (x : HtrCh) : (s.setHtr e x).free = s.free := rfl
@[simp] theorem State.setHtr_regs (s : State) (e : Nat) (x : HtrCh) : (s.setHtr e x).regs = s.regs := rfl
@[simp] theorem State.setHtr_bus (s : State) (e : Nat) (x : HtrCh) : (s.setHtr e x).bus = s.bus := rfl
@[simp] theorem State.setHtr_tm (s : State) (e : Nat) (x : HtrCh) : (s.setHtr e x).tm = s.tm := rfl
@[simp] theorem State.setHtr_cmd (s : State) (e : Nat) (x : HtrCh) : (s.setHtr e x).cmd = s.cmd := rfl
@[simp] theorem State.setHtr_evt (s : State) (e : Nat) (x : HtrCh) : (s.setHtr e x).evt = s.evt := rfl
@[simp] theorem State.setHtr_net (s : State) (e : Nat) (x : HtrCh) : (s.setHtr e x).net = s.net := rfl
@[simp] theorem State.setHtr_svc (s : State) (e : Nat) (x : HtrCh) : (s.setHtr e x).svc = s.svc := rfl
@[simp] theorem State.setHtr_nv (s : State) (e : Nat) (x : HtrCh) : (s.setHtr e x).nv = s.nv := rfl
@[simp] theorem State.setHtr_fab (s : State) (e : Nat) (x : HtrCh) : (s.setHtr e x).fab = s.fab := rfl
@[simp] theorem State.setHtr_cir (s : State) (e : Nat) (x : HtrCh) : (s.setHtr e x).cir = s.cir := rfl
@[simp] theorem State.setHtr_sch (s : State) (e : Nat) (x : HtrCh) : (s.setHtr e x).sch = s.sch := rfl
@[simp] theorem State.setHtr_trv (s : State) (e : Nat) (x : HtrCh) : (s.setHtr e x).trv = s.trv := rfl
@[simp] theorem State.setHtr_tiles (s : State) (e : Nat) (x : HtrCh) : (s.setHtr e x).tiles = s.tiles := rfl
@[simp] theorem State.setHtr_cal (s : State) (e : Nat) (x : HtrCh) : (s.setHtr e x).cal = s.cal := rfl
@[simp] theorem State.setHtr_thm (s : State) (e : Nat) (x : HtrCh) : (s.setHtr e x).thm = s.thm := rfl
@[simp] theorem State.setHtr_rd (s : State) (e : Nat) (x : HtrCh) (y : Nat) : (s.setHtr e x).rd y = s.rd y := rfl
@[simp] theorem State.setHtr_get (s : State) (e : Nat) (x : HtrCh) (g : Fld) : (s.setHtr e x).get g = s.get g := rfl
@[simp] theorem State.setHtr_flag (s : State) (e : Nat) (x : HtrCh) (g : Fld) : (s.setHtr e x).flag g = s.flag g := rfl
@[simp] theorem State.setHtr_ctx (s : State) (e : Nat) (x : HtrCh) (j : Nat) : (s.setHtr e x).ctx j = s.ctx j := rfl
@[simp] theorem State.setHtr_elem (s : State) (e : Nat) (x : HtrCh) (j : Nat) : (s.setHtr e x).elem j = s.elem j := rfl
@[simp] theorem State.setHtr_port (s : State) (e : Nat) (x : HtrCh) (j : Nat) : (s.setHtr e x).port j = s.port j := rfl
@[simp] theorem State.setHtr_cell (s : State) (e : Nat) (x : HtrCh) (j : Nat) : (s.setHtr e x).cell j = s.cell j := rfl
@[simp] theorem State.setHtr_tile (s : State) (e : Nat) (x : HtrCh) (j : Nat) : (s.setHtr e x).tile j = s.tile j := rfl
@[simp] theorem State.setHtr_entry (s : State) (e : Nat) (x : HtrCh) (j : Nat) : (s.setHtr e x).entry j = s.entry j := rfl

/-! ## setFd -/

@[simp] theorem State.setFd_pending (s : State) (k : Nat) (x : FdCh) : (s.setFd k x).pending = s.pending := rfl
@[simp] theorem State.setFd_t (s : State) (k : Nat) (x : FdCh) : (s.setFd k x).t = s.t := rfl
@[simp] theorem State.setFd_free (s : State) (k : Nat) (x : FdCh) : (s.setFd k x).free = s.free := rfl
@[simp] theorem State.setFd_regs (s : State) (k : Nat) (x : FdCh) : (s.setFd k x).regs = s.regs := rfl
@[simp] theorem State.setFd_bus (s : State) (k : Nat) (x : FdCh) : (s.setFd k x).bus = s.bus := rfl
@[simp] theorem State.setFd_tm (s : State) (k : Nat) (x : FdCh) : (s.setFd k x).tm = s.tm := rfl
@[simp] theorem State.setFd_cmd (s : State) (k : Nat) (x : FdCh) : (s.setFd k x).cmd = s.cmd := rfl
@[simp] theorem State.setFd_evt (s : State) (k : Nat) (x : FdCh) : (s.setFd k x).evt = s.evt := rfl
@[simp] theorem State.setFd_net (s : State) (k : Nat) (x : FdCh) : (s.setFd k x).net = s.net := rfl
@[simp] theorem State.setFd_svc (s : State) (k : Nat) (x : FdCh) : (s.setFd k x).svc = s.svc := rfl
@[simp] theorem State.setFd_nv (s : State) (k : Nat) (x : FdCh) : (s.setFd k x).nv = s.nv := rfl
@[simp] theorem State.setFd_fab (s : State) (k : Nat) (x : FdCh) : (s.setFd k x).fab = s.fab := rfl
@[simp] theorem State.setFd_cir (s : State) (k : Nat) (x : FdCh) : (s.setFd k x).cir = s.cir := rfl
@[simp] theorem State.setFd_sch (s : State) (k : Nat) (x : FdCh) : (s.setFd k x).sch = s.sch := rfl
@[simp] theorem State.setFd_trv (s : State) (k : Nat) (x : FdCh) : (s.setFd k x).trv = s.trv := rfl
@[simp] theorem State.setFd_tiles (s : State) (k : Nat) (x : FdCh) : (s.setFd k x).tiles = s.tiles := rfl
@[simp] theorem State.setFd_cal (s : State) (k : Nat) (x : FdCh) : (s.setFd k x).cal = s.cal := rfl
@[simp] theorem State.setFd_thm (s : State) (k : Nat) (x : FdCh) : (s.setFd k x).thm = s.thm := rfl
@[simp] theorem State.setFd_rd (s : State) (k : Nat) (x : FdCh) (y : Nat) : (s.setFd k x).rd y = s.rd y := rfl
@[simp] theorem State.setFd_get (s : State) (k : Nat) (x : FdCh) (g : Fld) : (s.setFd k x).get g = s.get g := rfl
@[simp] theorem State.setFd_flag (s : State) (k : Nat) (x : FdCh) (g : Fld) : (s.setFd k x).flag g = s.flag g := rfl
@[simp] theorem State.setFd_ctx (s : State) (k : Nat) (x : FdCh) (j : Nat) : (s.setFd k x).ctx j = s.ctx j := rfl
@[simp] theorem State.setFd_elem (s : State) (k : Nat) (x : FdCh) (j : Nat) : (s.setFd k x).elem j = s.elem j := rfl
@[simp] theorem State.setFd_port (s : State) (k : Nat) (x : FdCh) (j : Nat) : (s.setFd k x).port j = s.port j := rfl
@[simp] theorem State.setFd_cell (s : State) (k : Nat) (x : FdCh) (j : Nat) : (s.setFd k x).cell j = s.cell j := rfl
@[simp] theorem State.setFd_tile (s : State) (k : Nat) (x : FdCh) (j : Nat) : (s.setFd k x).tile j = s.tile j := rfl
@[simp] theorem State.setFd_entry (s : State) (k : Nat) (x : FdCh) (j : Nat) : (s.setFd k x).entry j = s.entry j := rfl

/-! ## putTbl -/

@[simp] theorem State.putTbl_pending (s : State) (k : Nat) (w : Word) : (s.putTbl k w).pending = s.pending := rfl
@[simp] theorem State.putTbl_t (s : State) (k : Nat) (w : Word) : (s.putTbl k w).t = s.t := rfl
@[simp] theorem State.putTbl_free (s : State) (k : Nat) (w : Word) : (s.putTbl k w).free = s.free := rfl
@[simp] theorem State.putTbl_regs (s : State) (k : Nat) (w : Word) : (s.putTbl k w).regs = s.regs := rfl
@[simp] theorem State.putTbl_bus (s : State) (k : Nat) (w : Word) : (s.putTbl k w).bus = s.bus := rfl
@[simp] theorem State.putTbl_tm (s : State) (k : Nat) (w : Word) : (s.putTbl k w).tm = s.tm := rfl
@[simp] theorem State.putTbl_cmd (s : State) (k : Nat) (w : Word) : (s.putTbl k w).cmd = s.cmd := rfl
@[simp] theorem State.putTbl_evt (s : State) (k : Nat) (w : Word) : (s.putTbl k w).evt = s.evt := rfl
@[simp] theorem State.putTbl_net (s : State) (k : Nat) (w : Word) : (s.putTbl k w).net = s.net := rfl
@[simp] theorem State.putTbl_svc (s : State) (k : Nat) (w : Word) : (s.putTbl k w).svc = s.svc := rfl
@[simp] theorem State.putTbl_nv (s : State) (k : Nat) (w : Word) : (s.putTbl k w).nv = s.nv := rfl
@[simp] theorem State.putTbl_fab (s : State) (k : Nat) (w : Word) : (s.putTbl k w).fab = s.fab := rfl
@[simp] theorem State.putTbl_cir (s : State) (k : Nat) (w : Word) : (s.putTbl k w).cir = s.cir := rfl
@[simp] theorem State.putTbl_sch (s : State) (k : Nat) (w : Word) : (s.putTbl k w).sch = s.sch := rfl
@[simp] theorem State.putTbl_trv (s : State) (k : Nat) (w : Word) : (s.putTbl k w).trv = s.trv := rfl
@[simp] theorem State.putTbl_tiles (s : State) (k : Nat) (w : Word) : (s.putTbl k w).tiles = s.tiles := rfl
@[simp] theorem State.putTbl_drv (s : State) (k : Nat) (w : Word) : (s.putTbl k w).drv = s.drv := rfl
@[simp] theorem State.putTbl_thm (s : State) (k : Nat) (w : Word) : (s.putTbl k w).thm = s.thm := rfl
@[simp] theorem State.putTbl_rd (s : State) (k : Nat) (w : Word) (y : Nat) : (s.putTbl k w).rd y = s.rd y := rfl
@[simp] theorem State.putTbl_get (s : State) (k : Nat) (w : Word) (g : Fld) : (s.putTbl k w).get g = s.get g := rfl
@[simp] theorem State.putTbl_flag (s : State) (k : Nat) (w : Word) (g : Fld) : (s.putTbl k w).flag g = s.flag g := rfl
@[simp] theorem State.putTbl_ctx (s : State) (k : Nat) (w : Word) (j : Nat) : (s.putTbl k w).ctx j = s.ctx j := rfl
@[simp] theorem State.putTbl_elem (s : State) (k : Nat) (w : Word) (j : Nat) : (s.putTbl k w).elem j = s.elem j := rfl
@[simp] theorem State.putTbl_port (s : State) (k : Nat) (w : Word) (j : Nat) : (s.putTbl k w).port j = s.port j := rfl
@[simp] theorem State.putTbl_cell (s : State) (k : Nat) (w : Word) (j : Nat) : (s.putTbl k w).cell j = s.cell j := rfl
@[simp] theorem State.putTbl_tile (s : State) (k : Nat) (w : Word) (j : Nat) : (s.putTbl k w).tile j = s.tile j := rfl
@[simp] theorem State.putTbl_entry (s : State) (k : Nat) (w : Word) (j : Nat) : (s.putTbl k w).entry j = s.entry j := rfl
@[simp] theorem State.putTbl_htr (s : State) (k : Nat) (w : Word) (j : Nat) : (s.putTbl k w).htr j = s.htr j := rfl
@[simp] theorem State.putTbl_fdch (s : State) (k : Nat) (w : Word) (j : Nat) : (s.putTbl k w).fdch j = s.fdch j := rfl

/-! ## softReset -/

@[simp] theorem State.softReset_pending (s : State) : (s.softReset).pending = s.pending := rfl
@[simp] theorem State.softReset_t (s : State) : (s.softReset).t = s.t := rfl
@[simp] theorem State.softReset_free (s : State) : (s.softReset).free = s.free := rfl
@[simp] theorem State.softReset_regs (s : State) : (s.softReset).regs = s.regs := rfl
@[simp] theorem State.softReset_bus (s : State) : (s.softReset).bus = s.bus := rfl
@[simp] theorem State.softReset_tm (s : State) : (s.softReset).tm = s.tm := rfl
@[simp] theorem State.softReset_cmd (s : State) : (s.softReset).cmd = s.cmd := rfl
@[simp] theorem State.softReset_evt (s : State) : (s.softReset).evt = s.evt := rfl
@[simp] theorem State.softReset_net (s : State) : (s.softReset).net = s.net := rfl
@[simp] theorem State.softReset_nv (s : State) : (s.softReset).nv = s.nv := rfl
@[simp] theorem State.softReset_fab (s : State) : (s.softReset).fab = s.fab := rfl
@[simp] theorem State.softReset_cir (s : State) : (s.softReset).cir = s.cir := rfl
@[simp] theorem State.softReset_sch (s : State) : (s.softReset).sch = s.sch := rfl
@[simp] theorem State.softReset_trv (s : State) : (s.softReset).trv = s.trv := rfl
@[simp] theorem State.softReset_tiles (s : State) : (s.softReset).tiles = s.tiles := rfl
@[simp] theorem State.softReset_drv (s : State) : (s.softReset).drv = s.drv := rfl
@[simp] theorem State.softReset_cal (s : State) : (s.softReset).cal = s.cal := rfl
@[simp] theorem State.softReset_thm (s : State) : (s.softReset).thm = s.thm := rfl
@[simp] theorem State.softReset_rd (s : State) (y : Nat) : (s.softReset).rd y = s.rd y := rfl
@[simp] theorem State.softReset_get (s : State) (g : Fld) : (s.softReset).get g = s.get g := rfl
@[simp] theorem State.softReset_flag (s : State) (g : Fld) : (s.softReset).flag g = s.flag g := rfl
@[simp] theorem State.softReset_ctx (s : State) (j : Nat) : (s.softReset).ctx j = s.ctx j := rfl
@[simp] theorem State.softReset_elem (s : State) (j : Nat) : (s.softReset).elem j = s.elem j := rfl
@[simp] theorem State.softReset_port (s : State) (j : Nat) : (s.softReset).port j = s.port j := rfl
@[simp] theorem State.softReset_cell (s : State) (j : Nat) : (s.softReset).cell j = s.cell j := rfl
@[simp] theorem State.softReset_tile (s : State) (j : Nat) : (s.softReset).tile j = s.tile j := rfl
@[simp] theorem State.softReset_entry (s : State) (j : Nat) : (s.softReset).entry j = s.entry j := rfl
@[simp] theorem State.softReset_htr (s : State) (j : Nat) : (s.softReset).htr j = s.htr j := rfl
@[simp] theorem State.softReset_fdch (s : State) (j : Nat) : (s.softReset).fdch j = s.fdch j := rfl

/-! ## Registers and their fields -/

/-- A register reads the word just written. -/
@[simp] theorem State.rd_wr_self (s : State) (a : Nat) (w : Word) : (s.wr a w).rd a = w := Tbl.getD_set_self _ _ _ _

/-- A write leaves every other register. -/
theorem State.rd_wr_other (s : State) {a x : Nat} (w : Word) (h : x ≠ a) : (s.wr a w).rd x = s.rd x := by
  unfold State.rd State.wr Tbl.getD
  simp only
  unfold Tbl.set
  split
  · rw [Tbl.look_del_other _ h]
  · rw [Tbl.look_put_other _ h]

/-- A field is well placed in its word. -/
abbrev Fld.ok (f : Fld) : Prop := f.lo ≤ f.hi ∧ f.hi < 32

/-- Two fields that share no bit. -/
abbrev Fld.apart (f g : Fld) : Prop := g.addr ≠ f.addr ∨ f.hi < g.lo ∨ g.hi < f.lo

/-- A field reads what was put into it. -/
theorem State.get_put_self (s : State) (f : Fld) (v : Nat) (h : f.ok) : (s.put f v).get f = v % 2 ^ (f.hi + 1 - f.lo) := by
  unfold State.put State.get
  rw [State.rd_wr_self]
  exact bits_setBits_self _ _ _ _ h.1 h.2

/-- A field keeps its value when another is put. -/
theorem State.get_put_apart (s : State) (f g : Fld) (v : Nat) (h : f.ok) (hg : g.ok) (ha : f.apart g) :
    (s.put f v).get g = s.get g := by
  unfold State.put State.get
  by_cases e : g.addr = f.addr
  · rw [e, State.rd_wr_self]
    exact bits_setBits_other _ _ _ _ _ _ h.1 h.2 hg.1 (ha.resolve_left (fun x => x e))
  · rw [State.rd_wr_other _ _ e]

theorem b2n_mod (b : Bool) : b2n b % 2 = b2n b := by cases b <;> rfl

/-- A one-bit field reads the bit put into it. -/
theorem State.flag_put_self (s : State) (f : Fld) (b : Bool) (h : f.ok) (h1 : f.hi = f.lo) : (s.put f (b2n b)).flag f = b := by
  unfold State.flag
  rw [State.get_put_self s f _ h, h1, Nat.add_sub_cancel_left, pow_one, b2n_mod]
  cases b <;> rfl

theorem State.flag_put_apart (s : State) (f g : Fld) (v : Nat) (h : f.ok) (hg : g.ok) (ha : f.apart g) :
    (s.put f v).flag g = s.flag g := by
  unfold State.flag
  rw [State.get_put_apart s f g v h hg ha]

/-- Another register keeps its word when a field is put. -/
theorem State.rd_put_other (s : State) (f : Fld) (v : Nat) {x : Nat} (h : x ≠ f.addr) : (s.put f v).rd x = s.rd x :=
  State.rd_wr_other s _ h

/-- Another register keeps its word when a counter counts. -/
theorem State.rd_count_other (s : State) (f : Fld) {x : Nat} (h : x ≠ f.addr) : (s.count f).rd x = s.rd x :=
  State.rd_put_other s f _ h

/-- Another register keeps its word when a host write is taken. -/
theorem State.rd_take_other (s : State) (a : Nat) (v : Word) {x : Nat} (h : x ≠ a) : (s.take a v).rd x = s.rd x :=
  State.rd_wr_other s _ h

/-- A host write taken reads as the fields of its register allow (R15, R16). -/
@[simp] theorem State.rd_take_self (s : State) (a : Nat) (v : Word) : (s.take a v).rd a = writeFields (fieldsAt a) (s.rd a) v :=
  State.rd_wr_self s _ _

/-! ## Pending bits -/

theorem State.alertDue_congr (s u : State) (h : ∀ n, n < 48 → s.rd (R.EVT_PEND n) = u.rd (R.EVT_PEND n)) : s.alertDue = u.alertDue := by
  unfold State.alertDue
  rw [Bool.eq_iff_iff]
  simp only [List.any_eq_true, List.mem_range]
  constructor
  · rintro ⟨n, hn, hx⟩
    exact ⟨n, hn, by rw [← h n hn]; exact hx⟩
  · rintro ⟨n, hn, hx⟩
    exact ⟨n, hn, by rw [h n hn]; exact hx⟩

/-- A field below the pending words leaves ALERT's cause. -/
theorem State.alertDue_put (s : State) (f : Fld) (v : Nat) (h : f.addr < R.EVT_PEND 0) : (s.put f v).alertDue = s.alertDue := by
  apply State.alertDue_congr
  intro n _
  apply State.rd_put_other
  unfold R.EVT_PEND at *
  omega

/-! ## Keyed tables -/

@[simp] theorem State.tile_setTile_self (s : State) (k : Nat) (x : TileSt) : (s.setTile k x).tile k = x := Tbl.getD_set_self _ _ _ _
@[simp] theorem State.elem_setElem_self (s : State) (e : Nat) (x : Elem) : (s.setElem e x).elem e = x := Grp.getD_set_self _ _ _ _
@[simp] theorem State.port_setPort_self (s : State) (k : Nat) (x : Port) : (s.setPort k x).port k = x := Tbl.getD_set_self _ _ _ _
@[simp] theorem State.entry_setEntry_self (s : State) (n : Nat) (x : LibEntry) : (s.setEntry n x).entry n = x := Tbl.getD_set_self _ _ _ _
@[simp] theorem State.htr_setHtr_self (s : State) (e : Nat) (x : HtrCh) : (s.setHtr e x).htr e = x := Grp.getD_set_self _ _ _ _
@[simp] theorem State.fdch_setFd_self (s : State) (k : Nat) (x : FdCh) : (s.setFd k x).fdch k = x := Grp.getD_set_self _ _ _ _

/-- A context written reads with its GEN counted (R54). -/
@[simp] theorem State.ctx_setCtx_self (s : State) (i : Nat) (c : Ctx) : (s.setCtx i c).ctx i = { c with gen := (c.gen + 1) % 65_536 } :=
  Tbl.getD_set_self _ _ _ _

theorem State.tile_setTile_other (s : State) {k j : Nat} (x : TileSt) (h : j ≠ k) : (s.setTile k x).tile j = s.tile j :=
  Tbl.getD_set_other _ _ h _
theorem State.elem_setElem_other (s : State) {k j : Nat} (x : Elem) (h : j ≠ k) : (s.setElem k x).elem j = s.elem j :=
  Grp.getD_set_other _ _ h _
theorem State.port_setPort_other (s : State) {k j : Nat} (x : Port) (h : j ≠ k) : (s.setPort k x).port j = s.port j :=
  Tbl.getD_set_other _ _ h _
theorem State.ctx_setCtx_other (s : State) {k j : Nat} (c : Ctx) (h : j ≠ k) : (s.setCtx k c).ctx j = s.ctx j :=
  Tbl.getD_set_other _ _ h _

end Sys2Proof.Machine
end

