-- ==== Sys2Proof/Laws/Recorder.lean ====
section
/-!
SUPPORT. Sys2Proof/Laws/Recorder.lean: what an occurrence, a completion and a refusal can do, said once (`State.Recorded`).
-/
namespace Sys2Proof.Machine

theorem EvtSt.SameStore.refl (a : EvtSt) : a.SameStore a := ⟨rfl, rfl, rfl, rfl, rfl, rfl, rfl, rfl⟩

theorem EvtSt.SameStore.trans {a b c : EvtSt} (h : a.SameStore b) (g : b.SameStore c) : a.SameStore c :=
  ⟨g.1.trans h.1, g.2.1.trans h.2.1, g.2.2.1.trans h.2.2.1, g.2.2.2.1.trans h.2.2.2.1, g.2.2.2.2.1.trans h.2.2.2.2.1,
   g.2.2.2.2.2.1.trans h.2.2.2.2.2.1, g.2.2.2.2.2.2.1.trans h.2.2.2.2.2.2.1, g.2.2.2.2.2.2.2.trans h.2.2.2.2.2.2.2⟩

namespace State.Recorded

theorem refl (s : State) : s.Recorded s :=
  ⟨rfl, rfl, rfl, rfl, rfl, .refl _, rfl, rfl, rfl, rfl, rfl, rfl, rfl, rfl, rfl, rfl, rfl, fun _ _ => rfl⟩

theorem trans {a b c : State} (h : a.Recorded b) (g : b.Recorded c) : a.Recorded c :=
  ⟨g.pending.trans h.pending, g.time.trans h.time, g.bus.trans h.bus, g.tm.trans h.tm,
   by rw [g.cmd, h.cmd], h.evt.trans g.evt, g.net.trans h.net, g.svc.trans h.svc, g.nv.trans h.nv, g.fab.trans h.fab, g.cir.trans h.cir,
   g.sch.trans h.sch, g.trv.trans h.trv, g.tiles.trans h.tiles, g.drv.trans h.drv, g.cal.trans h.cal, g.thm.trans h.thm,
   fun x hx => (g.rd x hx).trans (h.rd x hx)⟩

theorem get {a b : State} (h : a.Recorded b) (f : Fld) (hf : ¬ evtReg f.addr) : b.get f = a.get f := by
  unfold State.get
  rw [h.rd _ hf]

theorem flag {a b : State} (h : a.Recorded b) (f : Fld) (hf : ¬ evtReg f.addr) : b.flag f = a.flag f := by
  unfold State.flag
  rw [h.get f hf]

theorem put (s : State) (f : Fld) (v : Nat) (hf : evtReg f.addr) : s.Recorded (s.put f v) :=
  ⟨rfl, rfl, rfl, rfl, rfl, .refl _, rfl, rfl, rfl, rfl, rfl, rfl, rfl, rfl, rfl, rfl, rfl,
   fun _ hx => State.rd_put_other s f v (fun e => hx (e ▸ hf))⟩

theorem ofEvt (s : State) (e : EvtSt) (h : s.evt.SameStore e) : s.Recorded { s with evt := e } :=
  ⟨rfl, rfl, rfl, rfl, rfl, h, rfl, rfl, rfl, rfl, rfl, rfl, rfl, rfl, rfl, rfl, rfl, fun _ _ => rfl⟩

theorem ofRing (s : State) (x : Tbl Rec) : s.Recorded { s with evt.ring := x } :=
  ofEvt s _ ⟨rfl, rfl, rfl, rfl, rfl, rfl, rfl, rfl⟩

theorem ofOpens (s : State) (x : List OpenRec) : s.Recorded { s with evt.opens := x } :=
  ofEvt s _ ⟨rfl, rfl, rfl, rfl, rfl, rfl, rfl, rfl⟩

theorem ofTileQ (s : State) (x : List (Occ × Nat)) : s.Recorded { s with evt.tileQ := x } :=
  ofEvt s _ ⟨rfl, rfl, rfl, rfl, rfl, rfl, rfl, rfl⟩

theorem ofLostRun (s : State) (x : Bool) : s.Recorded { s with evt.lostRun := x } :=
  ofEvt s _ ⟨rfl, rfl, rfl, rfl, rfl, rfl, rfl, rfl⟩

theorem ofFlushDue (s : State) (x : Option Nat) : s.Recorded { s with evt.flushDue := x } :=
  ofEvt s _ ⟨rfl, rfl, rfl, rfl, rfl, rfl, rfl, rfl⟩

theorem emit (s : State) (m : OutMsg) : s.Recorded (s.emit m) :=
  ⟨rfl, rfl, rfl, rfl, rfl, .refl _, rfl, rfl, rfl, rfl, rfl, rfl, rfl, rfl, rfl, rfl, rfl, fun _ _ => rfl⟩

theorem draw (s : State) : s.Recorded s.draw :=
  ⟨rfl, rfl, rfl, rfl, rfl, .refl _, rfl, rfl, rfl, rfl, rfl, rfl, rfl, rfl, rfl, rfl, rfl, fun _ _ => rfl⟩

theorem foldl {α : Type} (f : State → α → State) (h : ∀ (s : State) a, s.Recorded (f s a)) (l : List α) (s : State) :
    s.Recorded (l.foldl f s) := by
  induction l generalizing s with
  | nil => exact refl s
  | cons a l ih => exact (h s a).trans (ih (f s a))

end State.Recorded

theorem State.notify_recorded (s : State) (r : Rec) (at_ : Nat) (every : Bool) : s.Recorded (s.notify r at_ every) := by
  unfold State.notify
  have h (want : List Nat → Nat → Bool) : s.Recorded (s.cmd.sessions.foldl (fun s e =>
      if want e.2.subs e.2.tenant then s.emit (noticeTo e.1 e.2 r.code at_ r.bytes) else s) s) :=
    State.Recorded.foldl _ (fun s a => by
      split
      · exact State.Recorded.emit s _
      · exact State.Recorded.refl s) _ s
  extract_lets want s1
  split
  · exact (h want).trans (State.Recorded.emit _ _)
  · exact h want

theorem State.writeSlot_recorded (s : State) (r : Rec) : s.Recorded (s.writeSlot r).1 := State.Recorded.ofRing s _

theorem State.writeOpen_recorded (s : State) (o : OpenRec) (c : Bool) (at_ : Nat) : s.Recorded (s.writeOpen o c at_).1 :=
  State.Recorded.ofRing s _

theorem State.closeRec_recorded (s : State) (src at_ : Nat) : s.Recorded (s.closeRec src at_) := by
  unfold State.closeRec
  split
  · exact State.Recorded.refl s
  · rename_i o _
    have h := (State.writeOpen_recorded s o true at_).trans
      (State.Recorded.ofOpens _ ((s.writeOpen o true at_).1.evt.opens.filter (·.rec_.src != src)))
    dsimp only
    split
    · exact h.trans (State.notify_recorded _ _ _ _)
    · exact h

theorem State.newRecord_recorded (s : State) (o : Occ) (at_ : Nat) (b p : Bool) : s.Recorded (s.newRecord o at_ b p).1 := by
  unfold State.newRecord
  dsimp only
  split
  · refine .trans ?_ (State.Recorded.put _ _ _ (.inr (.inl rfl)))
    refine .trans ?_ (State.Recorded.put _ _ _ (.inr (.inr (.inl rfl))))
    refine .trans ?_ (State.Recorded.put _ _ _ (.inl rfl))
    exact (State.Recorded.draw s).trans (State.writeSlot_recorded _ _)
  · refine .trans ?_ (State.Recorded.put _ _ _ (.inl rfl))
    exact (State.Recorded.draw s).trans (State.writeSlot_recorded _ _)

theorem State.alertFlush_recorded (s : State) (src at_ : Nat) (h : src < 1536) : s.Recorded (s.alertFlush src at_) := by
  unfold State.alertFlush
  have hp : evtReg (R.EVT_PEND (src / 32)) := by
    refine .inr (.inr (.inr (.inr ?_)))
    unfold R.EVT_PEND
    omega
  dsimp only
  split
  · split
    · exact (State.Recorded.put s _ _ hp).trans (State.Recorded.ofFlushDue _ _)
    · exact State.Recorded.put s _ _ hp
  · split
    · exact State.Recorded.ofFlushDue s _
    · exact State.Recorded.refl s

theorem State.recordOcc_recorded (s : State) (o : Occ) (at_ : Nat) (h : o.src < 1536) : s.Recorded (s.recordOcc o at_).1 := by
  unfold State.recordOcc
  dsimp only
  split
  · have h1 := (State.alertFlush_recorded s o.src at_ h).trans (State.Recorded.draw _)
    split
    · exact h1.trans (State.notify_recorded _ _ _ _)
    · exact h1
  · split
    · have h1 := (State.newRecord_recorded s o at_ false false).trans (State.alertFlush_recorded _ o.src at_ h)
      split
      · exact h1.trans (State.notify_recorded _ _ _ _)
      · exact h1
    · split
      · exact State.Recorded.ofOpens s _
      · have h1 := (State.closeRec_recorded s o.src at_).trans (State.newRecord_recorded _ o at_ true false)
        split
        · refine .trans ?_ (State.notify_recorded _ _ _ _)
          refine .trans ?_ (State.alertFlush_recorded _ o.src at_ h)
          exact h1.trans (State.Recorded.ofOpens _ _)
        · refine .trans ?_ (State.alertFlush_recorded _ o.src at_ h)
          exact h1.trans (State.Recorded.ofOpens _ _)

theorem State.record_recorded (s : State) (o : Occ) (at_ : Nat) (h : o.src < 1536) : s.Recorded (s.record o at_) := by
  unfold State.record
  have h1 := State.recordOcc_recorded s o at_ h
  dsimp only
  split
  · split
    · exact h1
    · exact (h1.trans (State.Recorded.ofLostRun _ _)).trans (State.recordOcc_recorded _ _ _ (by decide))
  · exact h1.trans (State.Recorded.ofLostRun _ _)

/-- An occurrence changes nothing but the recorder, its registers and the frames made. -/
theorem State.raise_recorded (s : State) (o : Occ) (h : o.src < 1536) : s.Recorded (s.raise o) := by
  unfold State.raise
  split
  · exact State.record_recorded s o _ h
  · split
    · exact State.Recorded.refl s
    · dsimp only
      split
      · exact State.Recorded.ofTileQ s _
      · exact State.Recorded.put s _ _ (.inr (.inr (.inr (.inl rfl))))

theorem State.ev_recorded (s : State) (src code : Nat) (h : src < 1536) : s.Recorded (s.ev src code) :=
  State.raise_recorded s _ h

theorem State.evPort_recorded (s : State) (src : Nat) (out : Bool) (port tenant code : Nat) (h : src < 1536) :
    s.Recorded (s.evPort src out port tenant code) := State.raise_recorded s _ h

theorem State.evCtx_recorded (s : State) (src ctx tenant code : Nat) (h : src < 1536) : s.Recorded (s.evCtx src ctx tenant code) :=
  State.raise_recorded s _ h

theorem State.evElem_recorded (s : State) (src e code : Nat) (h : src < 1536) : s.Recorded (s.evElem src e code) :=
  State.raise_recorded s _ h

/-- A refusal puts its code and raises its event, and does nothing else (R13, R538). -/
theorem State.refuse_recorded (s : State) (f : Fld) (src code : Nat) (h : src < 1536) : (s.put f code).Recorded (s.refuse f src code) :=
  State.ev_recorded _ _ _ h

/-! ## What reads the same after an occurrence -/

theorem State.raise_pending (s : State) (o : Occ) (h : o.src < 1536) : (s.raise o).pending = s.pending := (State.raise_recorded s o h).pending
theorem State.raise_t (s : State) (o : Occ) (h : o.src < 1536) : (s.raise o).t = s.t := (State.raise_recorded s o h).time
theorem State.raise_bus (s : State) (o : Occ) (h : o.src < 1536) : (s.raise o).bus = s.bus := (State.raise_recorded s o h).bus
theorem State.raise_tm (s : State) (o : Occ) (h : o.src < 1536) : (s.raise o).tm = s.tm := (State.raise_recorded s o h).tm
theorem State.raise_net (s : State) (o : Occ) (h : o.src < 1536) : (s.raise o).net = s.net := (State.raise_recorded s o h).net
theorem State.raise_svc (s : State) (o : Occ) (h : o.src < 1536) : (s.raise o).svc = s.svc := (State.raise_recorded s o h).svc
theorem State.raise_nv (s : State) (o : Occ) (h : o.src < 1536) : (s.raise o).nv = s.nv := (State.raise_recorded s o h).nv
theorem State.raise_fab (s : State) (o : Occ) (h : o.src < 1536) : (s.raise o).fab = s.fab := (State.raise_recorded s o h).fab
theorem State.raise_cir (s : State) (o : Occ) (h : o.src < 1536) : (s.raise o).cir = s.cir := (State.raise_recorded s o h).cir
theorem State.raise_sch (s : State) (o : Occ) (h : o.src < 1536) : (s.raise o).sch = s.sch := (State.raise_recorded s o h).sch
theorem State.raise_trv (s : State) (o : Occ) (h : o.src < 1536) : (s.raise o).trv = s.trv := (State.raise_recorded s o h).trv
theorem State.raise_tiles (s : State) (o : Occ) (h : o.src < 1536) : (s.raise o).tiles = s.tiles := (State.raise_recorded s o h).tiles
theorem State.raise_drv (s : State) (o : Occ) (h : o.src < 1536) : (s.raise o).drv = s.drv := (State.raise_recorded s o h).drv
theorem State.raise_cal (s : State) (o : Occ) (h : o.src < 1536) : (s.raise o).cal = s.cal := (State.raise_recorded s o h).cal
theorem State.raise_thm (s : State) (o : Occ) (h : o.src < 1536) : (s.raise o).thm = s.thm := (State.raise_recorded s o h).thm
theorem State.raise_rd (s : State) (o : Occ) (h : o.src < 1536) {a : Nat} (ha : ¬ evtReg a) : (s.raise o).rd a = s.rd a := (State.raise_recorded s o h).rd a ha
theorem State.raise_get (s : State) (o : Occ) (h : o.src < 1536) {f : Fld} (hf : ¬ evtReg f.addr) : (s.raise o).get f = s.get f := (State.raise_recorded s o h).get f hf
theorem State.raise_flag (s : State) (o : Occ) (h : o.src < 1536) {f : Fld} (hf : ¬ evtReg f.addr) : (s.raise o).flag f = s.flag f := (State.raise_recorded s o h).flag f hf

theorem State.ev_pending (s : State) (src code : Nat) (h : src < 1536) : (s.ev src code).pending = s.pending := (State.ev_recorded s src code h).pending
theorem State.ev_t (s : State) (src code : Nat) (h : src < 1536) : (s.ev src code).t = s.t := (State.ev_recorded s src code h).time
theorem State.ev_bus (s : State) (src code : Nat) (h : src < 1536) : (s.ev src code).bus = s.bus := (State.ev_recorded s src code h).bus
theorem State.ev_tm (s : State) (src code : Nat) (h : src < 1536) : (s.ev src code).tm = s.tm := (State.ev_recorded s src code h).tm
theorem State.ev_net (s : State) (src code : Nat) (h : src < 1536) : (s.ev src code).net = s.net := (State.ev_recorded s src code h).net
theorem State.ev_svc (s : State) (src code : Nat) (h : src < 1536) : (s.ev src code).svc = s.svc := (State.ev_recorded s src code h).svc
theorem State.ev_nv (s : State) (src code : Nat) (h : src < 1536) : (s.ev src code).nv = s.nv := (State.ev_recorded s src code h).nv
theorem State.ev_fab (s : State) (src code : Nat) (h : src < 1536) : (s.ev src code).fab = s.fab := (State.ev_recorded s src code h).fab
theorem State.ev_cir (s : State) (src code : Nat) (h : src < 1536) : (s.ev src code).cir = s.cir := (State.ev_recorded s src code h).cir
theorem State.ev_sch (s : State) (src code : Nat) (h : src < 1536) : (s.ev src code).sch = s.sch := (State.ev_recorded s src code h).sch
theorem State.ev_trv (s : State) (src code : Nat) (h : src < 1536) : (s.ev src code).trv = s.trv := (State.ev_recorded s src code h).trv
theorem State.ev_tiles (s : State) (src code : Nat) (h : src < 1536) : (s.ev src code).tiles = s.tiles := (State.ev_recorded s src code h).tiles
theorem State.ev_drv (s : State) (src code : Nat) (h : src < 1536) : (s.ev src code).drv = s.drv := (State.ev_recorded s src code h).drv
theorem State.ev_cal (s : State) (src code : Nat) (h : src < 1536) : (s.ev src code).cal = s.cal := (State.ev_recorded s src code h).cal
theorem State.ev_thm (s : State) (src code : Nat) (h : src < 1536) : (s.ev src code).thm = s.thm := (State.ev_recorded s src code h).thm
theorem State.ev_rd (s : State) (src code : Nat) (h : src < 1536) {a : Nat} (ha : ¬ evtReg a) : (s.ev src code).rd a = s.rd a := (State.ev_recorded s src code h).rd a ha
theorem State.ev_get (s : State) (src code : Nat) (h : src < 1536) {f : Fld} (hf : ¬ evtReg f.addr) : (s.ev src code).get f = s.get f := (State.ev_recorded s src code h).get f hf
theorem State.ev_flag (s : State) (src code : Nat) (h : src < 1536) {f : Fld} (hf : ¬ evtReg f.addr) : (s.ev src code).flag f = s.flag f := (State.ev_recorded s src code h).flag f hf

theorem State.evPort_pending (s : State) (src : Nat) (out : Bool) (port tenant code : Nat) (h : src < 1536) : (s.evPort src out port tenant code).pending = s.pending := (State.evPort_recorded s src out port tenant code h).pending
theorem State.evPort_t (s : State) (src : Nat) (out : Bool) (port tenant code : Nat) (h : src < 1536) : (s.evPort src out port tenant code).t = s.t := (State.evPort_recorded s src out port tenant code h).time
theorem State.evPort_bus (s : State) (src : Nat) (out : Bool) (port tenant code : Nat) (h : src < 1536) : (s.evPort src out port tenant code).bus = s.bus := (State.evPort_recorded s src out port tenant code h).bus
theorem State.evPort_tm (s : State) (src : Nat) (out : Bool) (port tenant code : Nat) (h : src < 1536) : (s.evPort src out port tenant code).tm = s.tm := (State.evPort_recorded s src out port tenant code h).tm
theorem State.evPort_net (s : State) (src : Nat) (out : Bool) (port tenant code : Nat) (h : src < 1536) : (s.evPort src out port tenant code).net = s.net := (State.evPort_recorded s src out port tenant code h).net
theorem State.evPort_svc (s : State) (src : Nat) (out : Bool) (port tenant code : Nat) (h : src < 1536) : (s.evPort src out port tenant code).svc = s.svc := (State.evPort_recorded s src out port tenant code h).svc
theorem State.evPort_nv (s : State) (src : Nat) (out : Bool) (port tenant code : Nat) (h : src < 1536) : (s.evPort src out port tenant code).nv = s.nv := (State.evPort_recorded s src out port tenant code h).nv
theorem State.evPort_fab (s : State) (src : Nat) (out : Bool) (port tenant code : Nat) (h : src < 1536) : (s.evPort src out port tenant code).fab = s.fab := (State.evPort_recorded s src out port tenant code h).fab
theorem State.evPort_cir (s : State) (src : Nat) (out : Bool) (port tenant code : Nat) (h : src < 1536) : (s.evPort src out port tenant code).cir = s.cir := (State.evPort_recorded s src out port tenant code h).cir
theorem State.evPort_sch (s : State) (src : Nat) (out : Bool) (port tenant code : Nat) (h : src < 1536) : (s.evPort src out port tenant code).sch = s.sch := (State.evPort_recorded s src out port tenant code h).sch
theorem State.evPort_trv (s : State) (src : Nat) (out : Bool) (port tenant code : Nat) (h : src < 1536) : (s.evPort src out port tenant code).trv = s.trv := (State.evPort_recorded s src out port tenant code h).trv
theorem State.evPort_tiles (s : State) (src : Nat) (out : Bool) (port tenant code : Nat) (h : src < 1536) : (s.evPort src out port tenant code).tiles = s.tiles := (State.evPort_recorded s src out port tenant code h).tiles
theorem State.evPort_drv (s : State) (src : Nat) (out : Bool) (port tenant code : Nat) (h : src < 1536) : (s.evPort src out port tenant code).drv = s.drv := (State.evPort_recorded s src out port tenant code h).drv
theorem State.evPort_cal (s : State) (src : Nat) (out : Bool) (port tenant code : Nat) (h : src < 1536) : (s.evPort src out port tenant code).cal = s.cal := (State.evPort_recorded s src out port tenant code h).cal
theorem State.evPort_thm (s : State) (src : Nat) (out : Bool) (port tenant code : Nat) (h : src < 1536) : (s.evPort src out port tenant code).thm = s.thm := (State.evPort_recorded s src out port tenant code h).thm
theorem State.evPort_rd (s : State) (src : Nat) (out : Bool) (port tenant code : Nat) (h : src < 1536) {a : Nat} (ha : ¬ evtReg a) : (s.evPort src out port tenant code).rd a = s.rd a := (State.evPort_recorded s src out port tenant code h).rd a ha
theorem State.evPort_get (s : State) (src : Nat) (out : Bool) (port tenant code : Nat) (h : src < 1536) {f : Fld} (hf : ¬ evtReg f.addr) : (s.evPort src out port tenant code).get f = s.get f := (State.evPort_recorded s src out port tenant code h).get f hf
theorem State.evPort_flag (s : State) (src : Nat) (out : Bool) (port tenant code : Nat) (h : src < 1536) {f : Fld} (hf : ¬ evtReg f.addr) : (s.evPort src out port tenant code).flag f = s.flag f := (State.evPort_recorded s src out port tenant code h).flag f hf

theorem State.evCtx_pending (s : State) (src ctx tenant code : Nat) (h : src < 1536) : (s.evCtx src ctx tenant code).pending = s.pending := (State.evCtx_recorded s src ctx tenant code h).pending
theorem State.evCtx_t (s : State) (src ctx tenant code : Nat) (h : src < 1536) : (s.evCtx src ctx tenant code).t = s.t := (State.evCtx_recorded s src ctx tenant code h).time
theorem State.evCtx_bus (s : State) (src ctx tenant code : Nat) (h : src < 1536) : (s.evCtx src ctx tenant code).bus = s.bus := (State.evCtx_recorded s src ctx tenant code h).bus
theorem State.evCtx_tm (s : State) (src ctx tenant code : Nat) (h : src < 1536) : (s.evCtx src ctx tenant code).tm = s.tm := (State.evCtx_recorded s src ctx tenant code h).tm
theorem State.evCtx_net (s : State) (src ctx tenant code : Nat) (h : src < 1536) : (s.evCtx src ctx tenant code).net = s.net := (State.evCtx_recorded s src ctx tenant code h).net
theorem State.evCtx_svc (s : State) (src ctx tenant code : Nat) (h : src < 1536) : (s.evCtx src ctx tenant code).svc = s.svc := (State.evCtx_recorded s src ctx tenant code h).svc
theorem State.evCtx_nv (s : State) (src ctx tenant code : Nat) (h : src < 1536) : (s.evCtx src ctx tenant code).nv = s.nv := (State.evCtx_recorded s src ctx tenant code h).nv
theorem State.evCtx_fab (s : State) (src ctx tenant code : Nat) (h : src < 1536) : (s.evCtx src ctx tenant code).fab = s.fab := (State.evCtx_recorded s src ctx tenant code h).fab
theorem State.evCtx_cir (s : State) (src ctx tenant code : Nat) (h : src < 1536) : (s.evCtx src ctx tenant code).cir = s.cir := (State.evCtx_recorded s src ctx tenant code h).cir
theorem State.evCtx_sch (s : State) (src ctx tenant code : Nat) (h : src < 1536) : (s.evCtx src ctx tenant code).sch = s.sch := (State.evCtx_recorded s src ctx tenant code h).sch
theorem State.evCtx_trv (s : State) (src ctx tenant code : Nat) (h : src < 1536) : (s.evCtx src ctx tenant code).trv = s.trv := (State.evCtx_recorded s src ctx tenant code h).trv
theorem State.evCtx_tiles (s : State) (src ctx tenant code : Nat) (h : src < 1536) : (s.evCtx src ctx tenant code).tiles = s.tiles := (State.evCtx_recorded s src ctx tenant code h).tiles
theorem State.evCtx_drv (s : State) (src ctx tenant code : Nat) (h : src < 1536) : (s.evCtx src ctx tenant code).drv = s.drv := (State.evCtx_recorded s src ctx tenant code h).drv
theorem State.evCtx_cal (s : State) (src ctx tenant code : Nat) (h : src < 1536) : (s.evCtx src ctx tenant code).cal = s.cal := (State.evCtx_recorded s src ctx tenant code h).cal
theorem State.evCtx_thm (s : State) (src ctx tenant code : Nat) (h : src < 1536) : (s.evCtx src ctx tenant code).thm = s.thm := (State.evCtx_recorded s src ctx tenant code h).thm
theorem State.evCtx_rd (s : State) (src ctx tenant code : Nat) (h : src < 1536) {a : Nat} (ha : ¬ evtReg a) : (s.evCtx src ctx tenant code).rd a = s.rd a := (State.evCtx_recorded s src ctx tenant code h).rd a ha
theorem State.evCtx_get (s : State) (src ctx tenant code : Nat) (h : src < 1536) {f : Fld} (hf : ¬ evtReg f.addr) : (s.evCtx src ctx tenant code).get f = s.get f := (State.evCtx_recorded s src ctx tenant code h).get f hf
theorem State.evCtx_flag (s : State) (src ctx tenant code : Nat) (h : src < 1536) {f : Fld} (hf : ¬ evtReg f.addr) : (s.evCtx src ctx tenant code).flag f = s.flag f := (State.evCtx_recorded s src ctx tenant code h).flag f hf

theorem State.evElem_pending (s : State) (src e code : Nat) (h : src < 1536) : (s.evElem src e code).pending = s.pending := (State.evElem_recorded s src e code h).pending
theorem State.evElem_t (s : State) (src e code : Nat) (h : src < 1536) : (s.evElem src e code).t = s.t := (State.evElem_recorded s src e code h).time
theorem State.evElem_bus (s : State) (src e code : Nat) (h : src < 1536) : (s.evElem src e code).bus = s.bus := (State.evElem_recorded s src e code h).bus
theorem State.evElem_tm (s : State) (src e code : Nat) (h : src < 1536) : (s.evElem src e code).tm = s.tm := (State.evElem_recorded s src e code h).tm
theorem State.evElem_net (s : State) (src e code : Nat) (h : src < 1536) : (s.evElem src e code).net = s.net := (State.evElem_recorded s src e code h).net
theorem State.evElem_svc (s : State) (src e code : Nat) (h : src < 1536) : (s.evElem src e code).svc = s.svc := (State.evElem_recorded s src e code h).svc
theorem State.evElem_nv (s : State) (src e code : Nat) (h : src < 1536) : (s.evElem src e code).nv = s.nv := (State.evElem_recorded s src e code h).nv
theorem State.evElem_fab (s : State) (src e code : Nat) (h : src < 1536) : (s.evElem src e code).fab = s.fab := (State.evElem_recorded s src e code h).fab
theorem State.evElem_cir (s : State) (src e code : Nat) (h : src < 1536) : (s.evElem src e code).cir = s.cir := (State.evElem_recorded s src e code h).cir
theorem State.evElem_sch (s : State) (src e code : Nat) (h : src < 1536) : (s.evElem src e code).sch = s.sch := (State.evElem_recorded s src e code h).sch
theorem State.evElem_trv (s : State) (src e code : Nat) (h : src < 1536) : (s.evElem src e code).trv = s.trv := (State.evElem_recorded s src e code h).trv
theorem State.evElem_tiles (s : State) (src e code : Nat) (h : src < 1536) : (s.evElem src e code).tiles = s.tiles := (State.evElem_recorded s src e code h).tiles
theorem State.evElem_drv (s : State) (src e code : Nat) (h : src < 1536) : (s.evElem src e code).drv = s.drv := (State.evElem_recorded s src e code h).drv
theorem State.evElem_cal (s : State) (src e code : Nat) (h : src < 1536) : (s.evElem src e code).cal = s.cal := (State.evElem_recorded s src e code h).cal
theorem State.evElem_thm (s : State) (src e code : Nat) (h : src < 1536) : (s.evElem src e code).thm = s.thm := (State.evElem_recorded s src e code h).thm
theorem State.evElem_rd (s : State) (src e code : Nat) (h : src < 1536) {a : Nat} (ha : ¬ evtReg a) : (s.evElem src e code).rd a = s.rd a := (State.evElem_recorded s src e code h).rd a ha
theorem State.evElem_get (s : State) (src e code : Nat) (h : src < 1536) {f : Fld} (hf : ¬ evtReg f.addr) : (s.evElem src e code).get f = s.get f := (State.evElem_recorded s src e code h).get f hf
theorem State.evElem_flag (s : State) (src e code : Nat) (h : src < 1536) {f : Fld} (hf : ¬ evtReg f.addr) : (s.evElem src e code).flag f = s.flag f := (State.evElem_recorded s src e code h).flag f hf

end Sys2Proof.Machine
end

