-- ==== Sys2Proof/Laws/Touch.lean ====
section
/-!
SUPPORT. Sys2Proof/Laws/Touch.lean: when a command runs, and what each shared update touches, said once (`State.Touches`).
-/
namespace Sys2Proof.Machine

/-! ## Running a command -/

theorem State.resetDue_live {s : State} (h : s.Live) : s.resetDue = s := by
  unfold State.resetDue
  rw [h.2]

theorem run_live {s : State} (f : State → State) (h : s.Live) : run (live f) s = .next (f s).settle := by
  unfold run live
  rw [State.resetDue_live h, if_pos h.1]

theorem run_bar {s : State} (f : State → State) (h : s.Served) : run (viaBar f) s = .next (f s).settle := by
  unfold run viaBar
  rw [State.resetDue_live h.1, h.2.1, h.2.2]
  rfl

theorem leaves_live {s : State} {i : Instr} {P : State → Prop} (f : State → State) (hi : exec i s = run (live f) s) (h : s.Live)
    (hp : P (f s)) : Leaves i s P := ⟨f s, by rw [hi, run_live f h], hp⟩

theorem leaves_bar {s : State} {i : Instr} {P : State → Prop} (f : State → State) (hi : exec i s = run (viaBar f) s) (h : s.Served)
    (hp : P (f s)) : Leaves i s P := ⟨f s, by rw [hi, run_bar f h], hp⟩

/-! ## Touching -/

namespace State.Touches

theorem refl (s : State) (ps : List Part) (rs : List Nat) : s.Touches s ps rs :=
  ⟨rfl, fun p _ => by cases p <;> first | exact ⟨rfl, rfl⟩ | rfl, fun _ _ _ => rfl⟩

theorem trans {a b c : State} {ps : List Part} {rs : List Nat} (h : a.Touches b ps rs) (g : b.Touches c ps rs) : a.Touches c ps rs := by
  refine ⟨g.1.trans h.1, fun p hp => ?_, fun x hx hr => (g.2.2 x hx hr).trans (h.2.2 x hx hr)⟩
  have h1 := h.2.1 p hp
  have h2 := g.2.1 p hp
  cases p <;> simp only [Part.same] at h1 h2 ⊢
  case cmd => rw [h2, h1]
  case recorder => exact ⟨h2.1.trans h1.1, h2.2.trans h1.2⟩
  all_goals exact h2.trans h1

theorem mono {a b : State} {ps qs : List Part} {rs ss : List Nat} (h : a.Touches b ps rs) (hp : ∀ p, p ∈ ps → p ∈ qs)
    (hr : ∀ r, r ∈ rs → r ∈ ss) : a.Touches b qs ss :=
  ⟨h.1, fun p hp' => h.2.1 p (fun c => hp' (hp p c)), fun x hx hq => h.2.2 x (fun c => hx (hr x c)) (fun c => hq ⟨hp _ c.1, c.2⟩)⟩

theorem put (s : State) (f : Fld) (v : Nat) {ps : List Part} {rs : List Nat} (h : f.addr ∈ rs) : s.Touches (s.put f v) ps rs :=
  ⟨rfl, fun p _ => by cases p <;> first | exact ⟨rfl, rfl⟩ | rfl,
   fun _ hx _ => State.rd_put_other s f v (fun e => hx (e ▸ h))⟩

theorem wr (s : State) (a : Nat) (w : Word) {ps : List Part} {rs : List Nat} (h : a ∈ rs) : s.Touches (s.wr a w) ps rs :=
  ⟨rfl, fun p _ => by cases p <;> first | exact ⟨rfl, rfl⟩ | rfl,
   fun _ hx _ => State.rd_wr_other s w (fun e => hx (e ▸ h))⟩

theorem take (s : State) (a : Nat) (v : Word) {ps : List Part} {rs : List Nat} (h : a ∈ rs) : s.Touches (s.take a v) ps rs :=
  wr s a _ h

theorem count (s : State) (f : Fld) {ps : List Part} {rs : List Nat} (h : f.addr ∈ rs) : s.Touches (s.count f) ps rs :=
  put s f _ h

theorem ofRecorded {s t : State} (h : s.Recorded t) {ps : List Part} {rs : List Nat} (h1 : Part.recorder ∈ ps) (h2 : Part.frames ∈ ps) :
    s.Touches t ps rs := by
  refine ⟨h.pending, fun p hp => ?_, fun x _ hx => h.rd x (fun c => hx ⟨h1, c⟩)⟩
  cases p
  case recorder => exact absurd h1 hp
  case frames => exact absurd h2 hp
  all_goals simp only [Part.same]
  · exact h.time
  · exact h.bus
  · exact h.tm
  · exact h.cmd
  · exact h.net
  · exact h.svc
  · exact h.nv
  · exact h.fab
  · exact h.cir
  · exact h.sch
  · exact h.trv
  · exact h.tiles
  · exact h.drv
  · exact h.cal
  · exact h.thm

theorem ev (s : State) (src code : Nat) {ps : List Part} {rs : List Nat} (h : src < 1536) (h1 : Part.recorder ∈ ps)
    (h2 : Part.frames ∈ ps) : s.Touches (s.ev src code) ps rs := ofRecorded (State.ev_recorded s src code h) h1 h2

theorem raise (s : State) (o : Occ) {ps : List Part} {rs : List Nat} (h : o.src < 1536) (h1 : Part.recorder ∈ ps)
    (h2 : Part.frames ∈ ps) : s.Touches (s.raise o) ps rs := ofRecorded (State.raise_recorded s o h) h1 h2

theorem refuse (s : State) (f : Fld) (src code : Nat) {ps : List Part} {rs : List Nat} (h : src < 1536) (h1 : Part.recorder ∈ ps)
    (h2 : Part.frames ∈ ps) (hf : f.addr ∈ rs) : s.Touches (s.refuse f src code) ps rs :=
  (put s f code hf).trans (ofRecorded (State.refuse_recorded s f src code h) h1 h2)

theorem with_t (s : State) (x : Nat) {ps : List Part} {rs : List Nat} (h : Part.time ∈ ps) : s.Touches { s with t := x } ps rs :=
  ⟨rfl, fun p hp => by cases p <;> first | exact ⟨rfl, rfl⟩ | rfl | exact absurd h hp, fun _ _ _ => rfl⟩

theorem with_bus (s : State) (x : Word) {ps : List Part} {rs : List Nat} (h : Part.bus ∈ ps) : s.Touches { s with bus := x } ps rs :=
  ⟨rfl, fun p hp => by cases p <;> first | exact ⟨rfl, rfl⟩ | rfl | exact absurd h hp, fun _ _ _ => rfl⟩

theorem with_tm (s : State) (x : TimeSt) {ps : List Part} {rs : List Nat} (h : Part.tm ∈ ps) : s.Touches { s with tm := x } ps rs :=
  ⟨rfl, fun p hp => by cases p <;> first | exact ⟨rfl, rfl⟩ | rfl | exact absurd h hp, fun _ _ _ => rfl⟩

theorem with_cmd (s : State) (x : CmdSt) {ps : List Part} {rs : List Nat} (h : Part.cmd ∈ ps) (h2 : Part.frames ∈ ps) : s.Touches { s with cmd := x } ps rs :=
  ⟨rfl, fun p hp => by cases p <;> first | exact ⟨rfl, rfl⟩ | rfl | exact absurd h hp | exact absurd h2 hp, fun _ _ _ => rfl⟩

theorem with_evt (s : State) (x : EvtSt) {ps : List Part} {rs : List Nat} (h : Part.recorder ∈ ps) : s.Touches { s with evt := x } ps rs :=
  ⟨rfl, fun p hp => by cases p <;> first | exact ⟨rfl, rfl⟩ | rfl | exact absurd h hp, fun _ _ _ => rfl⟩

theorem with_net (s : State) (x : NetSt) {ps : List Part} {rs : List Nat} (h : Part.net ∈ ps) : s.Touches { s with net := x } ps rs :=
  ⟨rfl, fun p hp => by cases p <;> first | exact ⟨rfl, rfl⟩ | rfl | exact absurd h hp, fun _ _ _ => rfl⟩

theorem with_svc (s : State) (x : SvcSt) {ps : List Part} {rs : List Nat} (h : Part.svc ∈ ps) : s.Touches { s with svc := x } ps rs :=
  ⟨rfl, fun p hp => by cases p <;> first | exact ⟨rfl, rfl⟩ | rfl | exact absurd h hp, fun _ _ _ => rfl⟩

theorem with_nv (s : State) (x : NvSt) {ps : List Part} {rs : List Nat} (h : Part.nv ∈ ps) : s.Touches { s with nv := x } ps rs :=
  ⟨rfl, fun p hp => by cases p <;> first | exact ⟨rfl, rfl⟩ | rfl | exact absurd h hp, fun _ _ _ => rfl⟩

theorem with_fab (s : State) (x : FabSt) {ps : List Part} {rs : List Nat} (h : Part.fab ∈ ps) : s.Touches { s with fab := x } ps rs :=
  ⟨rfl, fun p hp => by cases p <;> first | exact ⟨rfl, rfl⟩ | rfl | exact absurd h hp, fun _ _ _ => rfl⟩

theorem with_cir (s : State) (x : CirSt) {ps : List Part} {rs : List Nat} (h : Part.cir ∈ ps) : s.Touches { s with cir := x } ps rs :=
  ⟨rfl, fun p hp => by cases p <;> first | exact ⟨rfl, rfl⟩ | rfl | exact absurd h hp, fun _ _ _ => rfl⟩

theorem with_sch (s : State) (x : SchSt) {ps : List Part} {rs : List Nat} (h : Part.sch ∈ ps) : s.Touches { s with sch := x } ps rs :=
  ⟨rfl, fun p hp => by cases p <;> first | exact ⟨rfl, rfl⟩ | rfl | exact absurd h hp, fun _ _ _ => rfl⟩

theorem with_trv (s : State) (x : TrvSt) {ps : List Part} {rs : List Nat} (h : Part.trv ∈ ps) : s.Touches { s with trv := x } ps rs :=
  ⟨rfl, fun p hp => by cases p <;> first | exact ⟨rfl, rfl⟩ | rfl | exact absurd h hp, fun _ _ _ => rfl⟩

theorem with_tiles (s : State) (x : Tbl TileSt) {ps : List Part} {rs : List Nat} (h : Part.tiles ∈ ps) : s.Touches { s with tiles := x } ps rs :=
  ⟨rfl, fun p hp => by cases p <;> first | exact ⟨rfl, rfl⟩ | rfl | exact absurd h hp, fun _ _ _ => rfl⟩

theorem with_drv (s : State) (x : DrvSt) {ps : List Part} {rs : List Nat} (h : Part.drv ∈ ps) : s.Touches { s with drv := x } ps rs :=
  ⟨rfl, fun p hp => by cases p <;> first | exact ⟨rfl, rfl⟩ | rfl | exact absurd h hp, fun _ _ _ => rfl⟩

theorem with_cal (s : State) (x : CalSt) {ps : List Part} {rs : List Nat} (h : Part.cal ∈ ps) : s.Touches { s with cal := x } ps rs :=
  ⟨rfl, fun p hp => by cases p <;> first | exact ⟨rfl, rfl⟩ | rfl | exact absurd h hp, fun _ _ _ => rfl⟩

theorem with_thm (s : State) (x : ThmSt) {ps : List Part} {rs : List Nat} (h : Part.thm ∈ ps) : s.Touches { s with thm := x } ps rs :=
  ⟨rfl, fun p hp => by cases p <;> first | exact ⟨rfl, rfl⟩ | rfl | exact absurd h hp, fun _ _ _ => rfl⟩

theorem emit (s : State) (m : OutMsg) {ps : List Part} {rs : List Nat} (h : Part.frames ∈ ps) : s.Touches (s.emit m) ps rs :=
  ⟨rfl, fun p hp => by cases p <;> first | exact ⟨rfl, rfl⟩ | rfl | exact absurd h hp, fun _ _ _ => rfl⟩

theorem draw (s : State) {ps : List Part} {rs : List Nat} (h : Part.recorder ∈ ps) : s.Touches s.draw ps rs :=
  ⟨rfl, fun p hp => by cases p <;> first | exact ⟨rfl, rfl⟩ | rfl | exact absurd h hp, fun _ _ _ => rfl⟩

theorem advanceTo (s : State) (n : Nat) {ps : List Part} {rs : List Nat} (h : Part.time ∈ ps) : s.Touches (s.advanceTo n) ps rs :=
  with_t s _ h

end State.Touches

/-! ## Registers after the shared updates -/

theorem State.get_refuse (s : State) (f : Fld) (src code : Nat) (h : src < 1536) (hf : ¬ evtReg f.addr) (ho : f.ok) :
    (s.refuse f src code).get f = code % 2 ^ (f.hi + 1 - f.lo) := by
  unfold State.refuse
  rw [State.ev_get _ _ _ h hf, State.get_put_self _ _ _ ho]

theorem State.flag_put_one (s : State) (f : Fld) (h : f.ok) (h1 : f.hi = f.lo) : (s.put f 1).flag f = true :=
  State.flag_put_self s f true h h1

theorem State.flag_put_zero (s : State) (f : Fld) (h : f.ok) (h1 : f.hi = f.lo) : (s.put f 0).flag f = false :=
  State.flag_put_self s f false h h1

theorem State.rd_put_whole (s : State) (a v : Nat) : (s.put (whole a) v).rd a = BitVec.ofNat 32 v := by
  unfold State.put whole
  rw [State.rd_wr_self]
  apply BitVec.eq_of_toNat_eq
  have := (s.rd a).isLt
  simp only [setBits, bits, BitVec.toNat_ofNat, pow_zero, Nat.div_one, Nat.mul_one, Nat.sub_zero, Nat.reduceAdd]
  rw [Nat.mod_eq_of_lt this, Nat.sub_self, Nat.zero_add, Nat.mod_mod]

end Sys2Proof.Machine
end

