-- ==== Sys2Proof/Laws/Proto.lean ====
section
/-!
SUPPORT. Sys2Proof/Laws/Proto.lean: how a request that passes the orders of R405 is carried out and answered, said once.
-/
namespace Sys2Proof.Machine

/-- Orders 5 to 11 of R405: the refusal of the first order that fails, or the effect with its answer. -/
theorem State.execute_orders (u : State) (spec : OpSpec) (r : Requester) (key : TagKey) (p : List Byte) :
    u.execute spec r key true p = match u.orders spec r p with
      | some code => (u.setLast r.sess r.uid code).reply
          { kind := .reply, final := code != Code.ACCEPTED, sess := r.sess, uid := r.uid, tenant := r.tenant, reqId := r.reqId,
            opcode := r.opcode, code := code, stamp := r.stamp, params := [], key := key, port := r.port, addr := r.addr, udp := r.udp }
      | none =>
        let b := spec.body ⟨r, p, r.stamp⟩ ((u.count (whole (R.CMD_CNT 4))).await r)
        b.1.answered r key b.2.1 b.2.2 := by
  unfold State.execute State.orders State.answered
  simp only [Bool.true_and, Bool.not_eq_true', Bool.and_eq_true, bne_iff_ne, ne_eq, List.contains_iff_mem]
  split
  · rfl
  · split
    · rfl
    · split
      · rfl
      · split
        · rfl
        · split
          · rfl
          · split
            · rfl
            · rfl

theorem State.process_admitted {s u : State} {spec : OpSpec} {f : Frame} {at_ : Nat} {r : Requester} {key : TagKey} {w : State}
    (ha : s.arrive f = (u, some at_)) (h : s.admitted spec f = some (r, key, w)) :
    f.opcode = spec.opcode ∧ (u.advanceTo at_).process spec f at_ = w.execute spec r key true f.params := by
  unfold State.admitted at h
  split at h
  · cases h
  · rename_i ho
    refine ⟨not_not.mp ho, ?_⟩
    rw [ha] at h
    simp only at h
    unfold State.process
    split at h
    · rename_i hv
      simp only [hv]
      split at h
      · rename_i hc
        obtain ⟨h1, h2, h3, h4, h5, h6, h7, h8, h9⟩ := hc
        cases h
        simp [h1, h2, h3, h4, h6, h7, h8, h9]
        intro hh
        omega
      · cases h
    · rename_i rx src srcUdp dst hv
      simp only [hv]
      split at h
      · cases h
      · rename_i hc
        push Not at hc
        simp only [ne_eq, Bool.not_eq_false] at hc
        rw [hc.1]
        simp only [Bool.not_true, Bool.false_eq_true, if_false]
        split at h
        · rename_i hs
          rw [if_pos hs]
          split at h
          · cases h
          · rename_i kt hk
            try rw [hk]
            try simp only
            split at h
            · rename_i h1
              cases h
              simp [Frame.opens, h1, hc.2]
            · rename_i h1
              split at h
              · rename_i h2
                obtain ⟨h3, h4, h5⟩ := h2
                cases h
                have e : Machine.u f.params 0 8 = beNat (f.params.take 8) := rfl
                have e2 : (f.tag == gmac kt (BitVec.ofNat 96 (2 * 2 ^ 64 + (BitVec.ofNat 64 (Machine.u f.params 0 8)).toNat)) f.bytes) = true := by
                  rw [e, h5]
                  exact beq_self_eq_true _
                rw [if_neg h1, h4, e2, hc.2]
                simp [Frame.opens, h3, e]
              · cases h
        · rename_i hs
          rw [if_neg hs]
          split at h
          · cases h
          · rename_i x hx
            try rw [hx]
            try simp only
            split at h
            · rename_i h1
              obtain ⟨h2, h3, h4, h5, h6, h7, h8⟩ := h1
              cases h
              rw [if_pos ⟨h2, h3, h4⟩, h5]
              unfold State.inSession
              have e : (f.tag == gmac x.key (BitVec.ofNat 96 f.seq.toNat) f.bytes) = true := by rw [h7]; exact beq_self_eq_true _
              simp only [h6, e, Bool.and_self, Bool.not_true, Bool.false_eq_true, if_false, h8, hc.2]
            · cases h

/-- A request that passes every order is carried out by its effect and answered with what that gives. -/
theorem doAfisk_acts {s w : State} {spec : OpSpec} {f : Frame} {r : Requester} {key : TagKey} (h : s.acts spec f = some (r, key, w)) :
    doAfisk spec f s = (spec.body ⟨r, f.params, r.stamp⟩ w).1.answered r key (spec.body ⟨r, f.params, r.stamp⟩ w).2.1
      (spec.body ⟨r, f.params, r.stamp⟩ w).2.2 := by
  unfold State.acts at h
  split at h
  · cases h
  · rename_i r' key' u ha
    split at h
    · cases h
    · rename_i ho
      cases h
      unfold doAfisk
      have hs : s.arrive f = ((s.arrive f).1, (s.arrive f).2) := rfl
      cases hat : (s.arrive f).2 with
      | none =>
        exfalso
        unfold State.admitted at ha
        rw [hs, hat] at ha
        split at ha <;> cases ha
      | some at_ =>
        rw [hat] at hs
        obtain ⟨h1, h2⟩ := State.process_admitted hs ha
        rw [if_pos h1, hs]
        simp only
        rw [h2, State.execute_orders, ho]

/-- A request that some order of R405 refuses has no effect but its one reply. -/
theorem doAfisk_refused {s u : State} {spec : OpSpec} {f : Frame} {r : Requester} {key : TagKey} {code : Nat}
    (h : s.admitted spec f = some (r, key, u)) (hc : u.orders spec r f.params = some code) :
    doAfisk spec f s = (u.setLast r.sess r.uid code).reply
      { kind := .reply, final := code != Code.ACCEPTED, sess := r.sess, uid := r.uid, tenant := r.tenant, reqId := r.reqId,
        opcode := r.opcode, code := code, stamp := r.stamp, params := [], key := key, port := r.port, addr := r.addr, udp := r.udp } := by
  unfold doAfisk
  have hs : s.arrive f = ((s.arrive f).1, (s.arrive f).2) := rfl
  cases hat : (s.arrive f).2 with
  | none =>
    exfalso
    unfold State.admitted at h
    rw [hs, hat] at h
    split at h <;> cases h
  | some at_ =>
    rw [hat] at hs
    obtain ⟨h1, h2⟩ := State.process_admitted hs h
    rw [if_pos h1, hs]
    simp only
    rw [h2, State.execute_orders, hc]

theorem serves_of {i : Instr} {spec : OpSpec} {f : Frame} {s : State} {P : State → Requester → State → Nat → List Byte → Prop}
    (hi : exec i s = run (live (doAfisk spec f)) s) (hl : s.Live)
    (h : ∀ r key w, s.acts spec f = some (r, key, w) → P w r (spec.body ⟨r, f.params, r.stamp⟩ w).1 (spec.body ⟨r, f.params, r.stamp⟩ w).2.1
      (spec.body ⟨r, f.params, r.stamp⟩ w).2.2) : Serves i spec f s P := by
  intro r key w ha
  refine leaves_live _ hi hl ?_
  exact ⟨_, _, _, doAfisk_acts ha, h r key w ha⟩

end Sys2Proof.Machine
end

