-- ==== Sys2Proof/WellFormed.lean ====
section
/-!
DEFINITION. Sys2Proof/WellFormed.lean: the commands whose operands lie in the ranges the spec gives them. The operand types bound most of
them; what is left is checked here.
-/
namespace Sys2Proof

/-- No two entries with one key. -/
def keysDistinct {α : Type} [DecidableEq α] (l : List α) : Bool := match l with
  | [] => true
  | x :: r => !r.contains x && keysDistinct r

/-- A tag's VID has 12 bits (R423). -/
def VlanTag.wf (v : VlanTag) : Bool := decide (v.vid < 4096)

/-- A SecTAG has a two-bit AN (R428). -/
def SecTag.wf (v : SecTag) : Bool := decide (v.an < 4) && decide (v.pn < 2 ^ 64)

/-- A received Ethernet frame: one of four ports, and the widths of its fields (R423, R428). -/
def EthRx.wf (x : EthRx) : Bool :=
  decide (x.port < 4) && x.vlan.all VlanTag.wf && x.sec.all SecTag.wf && x.dscp.all fun d => decide (d < 64)

/-- The carriage of a frame (R398, R399). -/
def Via.wf : Via → Bool
  | .net rx _ a b => rx.wf && decide (a < 2 ^ 16) && decide (b < 2 ^ 16)
  | .mailbox => true

/-- The widths of the header of R396; the parameters lie within the bytes received. -/
def Frame.wf (f : Frame) : Bool :=
  f.via.wf && decide (f.magic < 2 ^ 16) && decide (f.ver < 2 ^ 8) && decide (f.typ < 16) && decide (f.flags < 16) &&
    decide (f.length < 2 ^ 16) && decide (f.session < 2 ^ 8) && decide (f.tenant < 2 ^ 8) && decide (f.reqId < 2 ^ 32) &&
    decide (f.opcode < 2 ^ 16) && decide (f.code < 2 ^ 16) && decide (32 + f.params.length ≤ f.rcvd)

/-- The header words of an image (R500). -/
def BootImage.wf (b : BootImage) : Bool := decide (b.imgVer < 2 ^ 32) && decide (b.arbVer < 2 ^ 32) && decide (b.len < 2 ^ 32)

/-- Trims and words name each place once (R366). -/
def CalResult.wf (r : CalResult) : Bool := keysDistinct (r.trims.map (·.1)) && keysDistinct (r.words.map (·.1))

/-- Channels, trims and table entries name each place once (R506). -/
def BaseTile.wf (b : BaseTile) : Bool :=
  keysDistinct (b.supply.map (·.1)) && keysDistinct (b.trims.map (·.1)) && keysDistinct (b.corr.map (·.1)) && keysDistinct (b.fd.map (·.1))

/-- The operands of a command lie in the ranges the spec gives them. -/
def Instr.wf : Instr → Bool
  | .coldReset _ => true
  | .porRelease notDark => keysDistinct (notDark.map (·.1))
  | .bootRom a b => a.wf && b.wf
  | .bootWatchdogExpiry other => other.wf
  | .restoreStage _ _ => true
  | .basecampStage tiles => tiles.toList.all BaseTile.wf
  | .enableStage => true
  | .verifyStage failOpen failClose => keysDistinct failOpen && keysDistinct failClose
  | .warmReset _ => true
  | .hubWatchdogExpiry _ => true
  | .controlRestart off => keysDistinct (off.map (·.1))
  | .softReset _ => true
  | .powerFail _ _ => true
  | .emergencyClose => true
  | .pcieReset => true
  | .refclkLoss => true
  | .refclkReturn => true
  | .tileHoldoverEntry _ => true
  | .holdoverFreeze => true
  | .holdoverFreezeEnd => true
  | .plainRegisterWrite a _ _ => decide (a < 2 ^ 32)
  | .accessError _ a => decide (a < 2 ^ 32)
  | .guardSample readings => keysDistinct (readings.map (·.1))
  | .guardLatch _ => true
  | .guardStsClear _ _ => true
  | .guardCfgWrite _ => true
  | .ownerWrite _ _ _ => true
  | .circuitPlacement => true
  | .rearrangeRunEnd => true
  | .circuitArm _ => true
  | .pointOfNoReturn _ _ => true
  | .decisionInstant _ _ => true
  | .blankStrobe _ _ _ => true
  | .selfStrobeDetect _ _ _ => true
  | .switchStrobe _ _ => true
  | .readySample _ _ nak => keysDistinct nak
  | .unblankStrobe _ _ => true
  | .reofferUnblank _ _ _ => true
  | .epochCommit _ _ => true
  | .lossCheckDeadline _ => true
  | .circuitLeaseExpiry _ => true
  | .grantLeaseExpiry _ => true
  | .sessionLeaseExpiry _ => true
  | .deferredRelease => true
  | .schedulePlacementDone _ => true
  | .staleReplacementDone _ => true
  | .repairRetry => true
  | .plcCtlWrite _ => true
  | .plcPolicyWrite _ _ => true
  | .timeIncCommit _ => true
  | .timeValidSet _ => true
  | .timeValidClr _ => true
  | .timeStepArm _ => true
  | .timeStepApply => true
  | .timeStepNoWindow => true
  | .timePtpCfgWrite _ => true
  | .ptpFrame rx _ domain _ _ _ => rx.wf && decide (domain < 256)
  | .servoHoldover => true
  | .ppsCapture _ err => decide (err.natAbs ≤ 2)
  | .ppsCapRead => true
  | .ppsOutPulse => true
  | .trefGate ppb => decide (-(2 ^ 23) ≤ ppb) && decide (ppb < 2 ^ 23)
  | .trefLoss => true
  | .timeNowSnapshot => true
  | .syncMark off => keysDistinct (off.map (·.1))
  | .schLoadBegin f => f.wf
  | .schLoadSlot f => f.wf
  | .schLoadEnd f => f.wf
  | .schErase f => f.wf
  | .schSwap f => f.wf
  | .schCancel f => f.wf
  | .schLoadTimeout _ => true
  | .schdCtlWrite _ => true
  | .epoCtlWrite _ => true
  | .epoGbWrite _ => true
  | .epoBelayCfgWrite _ => true
  | .epoNextSnapshot => true
  | .epoXlastSnapshot => true
  | .schdCycStartSnapshot => true
  | .hubJunctionSample _ => true
  | .frameEdge _ abandoned => keysDistinct abandoned
  | .belaySubstep _ _ => true
  | .belayOverrun _ => true
  | .frameStretch _ => true
  | .heaterClampReport _ => true
  | .mirrorStreamEnd _ _ => true
  | .ucodeFallback _ => true
  | .tileLpCtlWrite _ _ => true
  | .lpPeriodWrite _ _ => true
  | .lpParamWrite _ _ _ => true
  | .xtTableWrite _ _ _ => true
  | .ucodeCommit _ _ => true
  | .ucodeCheckDone _ _ => true
  | .ucodeExchange _ => true
  | .ucodeCommitTimeout _ => true
  | .ucodeCancel _ _ => true
  | .ucodeWindowWrite _ _ _ => true
  | .lawSetWrite _ _ => true
  | .probeStart _ _ => true
  | .probeStop _ _ => true
  | .capDataRead _ => true
  | .learnStart _ _ => true
  | .learnAbort _ _ => true
  | .pwmUpdatePoint _ _ => true
  | .pwmBctlWrite _ _ _ => true
  | .pwmTopArm _ _ _ => true
  | .pwmTopDiscard _ _ => true
  | .pwmDutyWrite _ _ _ => true
  | .pwmChcfgWrite _ _ _ => true
  | .pwmUsetWrite _ _ _ _ => true
  | .fdCodeWrite _ _ _ => true
  | .fdBankStrobe _ _ _ => true
  | .fdTileStrobe _ _ => true
  | .fdBctlWrite _ _ _ => true
  | .blkCfgWrite _ _ => true
  | .blkForceWrite _ _ _ => true
  | .latchCloseSense _ _ _ => true
  | .latchOpenStart _ _ => true
  | .latchOpenSense _ _ _ => true
  | .latchAudit _ senses => keysDistinct (senses.map (·.1))
  | .wearWrite _ _ _ => true
  | .latCfgWrite _ _ => true
  | .bankReadout _ codes _ => codes.length == 512
  | .tapReadout _ codes _ => codes.length == 512
  | .spareRotation _ _ _ => true
  | .trigInEdge _ => true
  | .syncOutPulse => true
  | .mcCtlWrite _ _ => true
  | .mcCommit _ _ => true
  | .mcHoldWrite _ _ => true
  | .corrDataWrite _ _ => true
  | .mcTrigTSnapshot _ => true
  | .hkChannelSlot _ _ _ => true
  | .hkMaskWrite _ _ _ => true
  | .anchorStart _ _ => true
  | .anchorDone _ _ => true
  | .calAgeTrigger _ => true
  | .recalStart => true
  | .recalStepDone _ res => res.wf
  | .calDefer _ => true
  | .calCtlWrite _ => true
  | .calGo _ => true
  | .calAbort _ => true
  | .calTableWrite _ => true
  | .calTableRead => true
  | .sensorReinstate _ _ => true
  | .thmWrite _ _ => true
  | .sesChallenge f => f.wf
  | .sesOpen f => f.wf
  | .sesClose f => f.wf
  | .sesKeepalive f => f.wf
  | .cirRequest f => f.wf
  | .cirRelease f => f.wf
  | .cirEnable f => f.wf
  | .cirDisable f => f.wf
  | .cirAttr f => f.wf
  | .cirLease f => f.wf
  | .cirRead f => f.wf
  | .grantCreate f => f.wf
  | .grantRevoke f => f.wf
  | .grantLease f => f.wf
  | .trvRequest f => f.wf
  | .trvAbort f => f.wf
  | .trvResume f => f.wf
  | .trvRollback f => f.wf
  | .traverseTimed => true
  | .trvCtlWrite _ => true
  | .trvSpecCfgWrite _ => true
  | .trvCurSnapshot => true
  | .telElement f => f.wf
  | .telPort f => f.wf
  | .telStatus f => f.wf
  | .regRead f => f.wf
  | .regWrite f _ => f.wf
  | .mntIdentity f => f.wf
  | .mntFwStage f => f.wf
  | .mntFwActivate f => f.wf
  | .fwStandbyReady _ _ => true
  | .fwHandover _ => true
  | .fwKeepExpiry => true
  | .mntCell f => f.wf
  | .mntSoftReset f => f.wf
  | .evtSubscribe f => f.wf
  | .evtUnsubscribe f => f.wf
  | .evtRead f => f.wf
  | .mbxDoorbell _ => true
  | .mbxCplHeadWrite _ => true
  | .mbxStall => true
  | .cmdMbxCfgWrite _ => true
  | .cmdCtlWrite _ => true
  | .keySet _ => true
  | .keyClear _ => true
  | .ethFrameRx rx _ => rx.wf
  | .egressFrameStart _ => true
  | .sakSet _ => true
  | .sakClear _ => true
  | .msecTxAnWrite _ _ => true
  | .policerWrite _ _ _ => true
  | .shaperWrite _ _ _ _ => true
  | .gateCommit _ _ => true
  | .gateListApply _ => true
  | .queueSample _ => true
  | .linkChange _ _ => true
  | .netCtlWrite _ => true
  | .portCtlWrite _ _ => true
  | .recordWrite src => decide (src < 1536)
  | .recordClose src => decide (src < 1536)
  | .flushStart => true
  | .flushBlockDone _ => true
  | .logStoreTimeout => true
  | .evtRetry _ _ => true
  | .evtPendClear n _ => decide (n < 48)
  | .cairnHostWrite _ => true
  | .evtCtlWrite _ => true
  | .wearSave => true
  | .engineDeclareFailed _ => true
  | .spareTakeover _ => true
  | .engineTest _ _ => true
  | .engineTestDone _ _ => true
  | .engineReturn _ _ => true
  | .eccScrub _ _ => true
  | .bivClr _ => true
  | .ddrChannelLoss _ => true
  | .memRetrain _ _ _ => true
  | .memCtlWrite _ _ _ => true
  | .configAreaSave _ => true
  | .arbAdvance _ => true
  | .hubFatalFault _ => true
  | .failoverFreezeEnd _ => true
  | .standbyReloadDone => true
  | .cellLossRefresh parts => keysDistinct (parts.map (·.1))
  | .ddrScrub _ _ _ => true
  | .ppsOkTimeout => true
  | .afiskFrameDropped f => f.wf
  | .jtagInstruction _ => true

end Sys2Proof
end

