-- ==== Sys2Proof/Tests/Slice0.lean ====
section
/-!
SUPPORT. Sys2Proof/Tests/Slice0.lean: ill-formed commands that the check refuses, states that meet the hypotheses of the obligations, and
small runs of one command whose results the manual gives.
-/
namespace Sys2Proof.Tests
open Sys2Proof.Machine

set_option Elab.async false

/-! ## Small states and frames -/

/-- The module in READY, with the registers given. -/
def up (rs : List (Nat × Word)) : State :=
  rs.foldl (fun s x => s.wr x.1 x.2) ({ State.reset with svc.por := true, svc.fwRuns := true }.put R.GLB_BOOT_STAGE 6)

/-- `State.Live`, as a decision. -/
def lives (s : State) : Bool := s.svc.por && s.svc.resetAt.isNone

/-- `State.Served`, as a decision. -/
def serves (s : State) : Bool := lives s && s.ctrlUp && !s.svc.pfail

theorem lives_live {s : State} (h : lives s = true) : s.Live := by
  unfold lives at h
  simp only [Bool.and_eq_true, Option.isNone_iff_eq_none] at h
  exact h

theorem serves_served {s : State} (h : serves s = true) : s.Served := by
  unfold serves at h
  simp only [Bool.and_eq_true, Bool.not_eq_true'] at h
  exact ⟨lives_live h.1.1, h.1.2, h.2⟩

/-- READY with the mailbox enabled and one slot posted at 0. -/
def mbx : State := { (up []).put R.CMD_MBX_CFG_ENABLE 1 with cmd.posted := [(0, 0)] }

/-- A mailbox request. -/
def req (op : Nat) (ps : List Byte) : Frame :=
  { via := .mailbox, rcvd := 32 + ps.length, magic := 0x4146, ver := 1, typ := 1, flags := 0, length := 32 + ps.length, session := 0, tenant := 0,
    seq := 0, reqId := 7, opcode := op, code := 0, stamp := 0, params := ps, tag := 0 }

/-- A frame received on port 0. -/
def rx0 : EthRx :=
  { port := 0, len := 100, fcsOk := true, pause := false, vlan := none, sec := none, dscp := none, toUs := true, fragment := false, pcsStamp := 0 }

/-- READY with port 0 and the command interface enabled, a key of tenant 1, an outstanding nonce and an open session 0. -/
def net : State :=
  { ((up []).put (R.PORT_CTL_ENABLE 0) 1).put R.CMD_CTL_ENABLE 1 with
    cmd.keys := [(1, 5)], cmd.nonces := [(1, ⟨9, 0⟩)],
    cmd.sessions := [(0, ⟨1, 1, 77, 0, [], 10, 0, 1, 5000, [], [], 0⟩)] }

/-- A session-opening request of tenant 1 from the network. -/
def openReq (op flags : Nat) (ps : List Byte) (tag : BitVec 128) : Frame :=
  { req op ps with via := .net rx0 1 5000 0x4744, session := 0xFF, tenant := 1, flags := flags, tag := tag,
                   rcvd := 32 + ps.length + 16 * flags, length := 32 + ps.length + 16 * flags }

/-- A request of tenant 1 in session 0, with the tag given. -/
def sesReq (op : Nat) (tag : BitVec 128) : Frame :=
  { req op [] with via := .net rx0 1 5000 0x4744, session := 0, tenant := 1, seq := 1, flags := 1, rcvd := 48, length := 48, tag := tag }

/-! ## Ill-formed commands -/

theorem wf_refuses_repeated_ports : Instr.wf (.porRelease [(3, 0), (3, 1)]) = false := by decide
theorem wf_refuses_repeated_latches : Instr.wf (.verifyStage [5, 5] []) = false := by decide
theorem wf_refuses_wide_image : Instr.wf (.bootWatchdogExpiry ⟨true, true, 2 ^ 32, 0, 4096⟩) = false := by decide
theorem wf_refuses_repeated_tiles : Instr.wf (.controlRestart [(0, 5), (0, 6)]) = false := by decide
theorem wf_refuses_wide_address : Instr.wf (.plainRegisterWrite (2 ^ 32) 0 ⟨true, true, true⟩) = false := by decide
theorem wf_refuses_wide_access : Instr.wf (.accessError true (2 ^ 32)) = false := by decide
theorem wf_refuses_repeated_inputs : Instr.wf (.guardSample [(1, 0), (1, 5)]) = false := by decide
theorem wf_refuses_repeated_nak : Instr.wf (.readySample false 0 [2, 2]) = false := by decide
theorem wf_refuses_port_4 : Instr.wf (.ethFrameRx { rx0 with port := 4 } .other) = false := by decide
theorem wf_refuses_wide_vid : Instr.wf (.ethFrameRx { rx0 with vlan := some ⟨4096, false⟩ } .other) = false := by decide
theorem wf_refuses_wide_dscp : Instr.wf (.ethFrameRx { rx0 with dscp := some 64 } .other) = false := by decide
theorem wf_refuses_wide_domain : Instr.wf (.ptpFrame rx0 false 256 true none none) = false := by decide
theorem wf_refuses_capture_error : Instr.wf (.ppsCapture false 3) = false := by decide
theorem wf_refuses_wide_ppb : Instr.wf (.trefGate (2 ^ 23)) = false := by decide
theorem wf_refuses_repeated_marks : Instr.wf (.syncMark [(4, 0), (4, 1)]) = false := by decide
theorem wf_refuses_short_frame : Instr.wf (.mntIdentity { req 0x7001 [] with rcvd := 31 }) = false := by decide
theorem wf_refuses_wide_header : Instr.wf (.mntIdentity { req 0x7001 [] with reqId := 2 ^ 32 }) = false := by decide
theorem wf_refuses_repeated_entries : Instr.wf (.frameEdge 0 [9, 9]) = false := by decide
theorem wf_refuses_repeated_senses : Instr.wf (.latchAudit false [(1, 0), (1, 1)]) = false := by decide
theorem wf_refuses_short_bank : Instr.wf (.bankReadout 0 [0, 0] false) = false := by decide
theorem wf_refuses_short_taps : Instr.wf (.tapReadout true [] false) = false := by decide
theorem wf_refuses_repeated_trims : Instr.wf (.recalStepDone 0 ⟨true, [(3, 1), (3, 2)], []⟩) = false := by decide
theorem wf_refuses_source_1536 : Instr.wf (.recordWrite 1536) = false ∧ Instr.wf (.recordClose 1536) = false := by decide
theorem wf_refuses_pend_48 : Instr.wf (.evtPendClear 48 0) = false := by decide
theorem wf_refuses_repeated_cells : Instr.wf (.cellLossRefresh [(8, 1), (8, 2)]) = false := by decide
theorem wf_takes_a_request : Instr.wf (.mntIdentity (req 0x7001 [])) = true := by decide

/-! ## Requests that pass every order (hypothesis of `Serves`) -/

/-- Whether a request row is carried by a frame that passes every order in a state. -/
def passes (s : State) (i : Instr) : Bool := match requestRow i with
  | none => false
  | some (spec, f) => lives s && (s.acts spec f).isSome

/-- Big-endian bytes. -/
def be (n v : Nat) : List Byte := natBe n v

theorem witness_circuit_requests : ([
    .cirRequest (req 0x2001 (be 2 5 ++ be 2 6 ++ be 1 0 ++ be 1 0 ++ be 1 0 ++ be 1 0 ++ be 8 0 ++ be 4 0)),
    .cirEnable (req 0x2003 (be 4 0)), .cirRelease (req 0x2002 (be 4 0)), .cirDisable (req 0x2004 (be 4 0)), .cirAttr (req 0x2005 (be 4 0 ++ be 1 1 ++ be 3 0)),
    .cirLease (req 0x2006 (be 4 0 ++ be 4 31_536_000)), .cirRead (req 0x2007 (be 4 262_143 ++ be 2 1 ++ be 2 0)),
    .grantCreate (req 0x2008 (be 1 0 ++ be 1 63 ++ be 2 1023 ++ be 4 0)), .grantRevoke (req 0x2009 (be 2 0)),
    .grantLease (req 0x200A (be 2 0 ++ be 2 0 ++ be 4 60))] : List Instr).all (passes mbx) = true := by decide +kernel

theorem witness_schedule_requests : ([
    .schLoadBegin (req 0x3001 (be 1 63 ++ be 1 0 ++ be 2 0 ++ be 4 10_000)), .schLoadSlot (req 0x3002 (be 1 0 ++ be 1 0 ++ be 2 0 ++ be 2 1 ++ be 2 0 ++ be 4 64)),
    .schLoadEnd (req 0x3003 (be 1 0 ++ be 3 0 ++ be 4 1)), .schErase (req 0x3004 (be 1 0 ++ be 3 0)),
    .schSwap (req 0x3005 (be 1 0xFF ++ be 1 0 ++ be 6 0 ++ be 4 999_999_999)), .schCancel (req 0x3006 [])] : List Instr).all (passes mbx) = true := by
  decide +kernel

theorem witness_traverse_requests : ([
    .trvRequest (req 0x4001 (be 1 1 ++ be 1 0 ++ be 2 0 ++ be 8 0 ++ be 4 0)), .trvAbort (req 0x4002 (be 1 0 ++ be 1 0 ++ be 2 0 ++ be 4 0)),
    .trvResume (req 0x4003 []), .trvRollback (req 0x4004 [])] : List Instr).all (passes mbx) = true := by decide +kernel

theorem witness_telemetry_and_register_requests : ([
    .telElement (req 0x5001 (be 4 81_919 ++ be 2 1 ++ be 2 0)), .telPort (req 0x5002 (be 1 1 ++ be 1 0 ++ be 2 1023 ++ be 2 1 ++ be 2 0)),
    .telStatus (req 0x5003 []), .regRead (req 0x6001 (be 4 0x40 ++ be 2 1 ++ be 2 0)),
    .regWrite (req 0x6002 (be 2 1 ++ be 2 0 ++ be 4 0x20 ++ be 4 100)) ⟨true, true, true⟩,
    .evtSubscribe (req 0x8001 (be 2 1535 ++ be 2 1 ++ be 1 0x80)), .evtUnsubscribe (req 0x8002 (be 2 0 ++ be 2 0)),
    .evtRead (req 0x8003 (be 4 0 ++ be 2 32 ++ be 2 0))] : List Instr).all (passes mbx) = true := by decide +kernel

theorem witness_maintenance_requests : ([
    .mntIdentity (req 0x7001 []), .mntFwStage (req 0x7002 (be 4 (2 ^ 27 - 1) ++ be 2 1 ++ be 2 0 ++ be 1 9)), .mntFwActivate (req 0x7003 (be 4 0)),
    .mntCell (req 0x7004 (be 1 1 ++ be 1 19 ++ be 2 511 ++ be 1 2 ++ be 3 0)), .mntSoftReset (req 0x7005 [])] : List Instr).all (passes mbx) = true := by
  decide +kernel

/-- A network request of an open session that passes orders 1 to 10 of R405. -/
theorem acts_in_session {s v : State} {spec : OpSpec} {f : Frame} {rx : EthRx} {src : BitVec 128} {a b at_ : Nat} {x y : Session}
    (hv : f.via = .net rx src a b) (ho : f.opcode = spec.opcode) (hr : (s.arrive f).2 = some at_) (hf : f.formed = true ∧ f.headerZero = true)
    (hs : f.session < 32) (hu : v = (s.arrive f).1.advanceTo at_) (hx : Tbl.look v.cmd.sessions f.session = some x)
    (hy : y = { x with lease := tai at_ + v.get R.CMD_LEASE_CFG_SES_LEASE })
    (hc : x.tenant = f.tenant ∧ tai at_ < x.lease ∧ f.opens = false ∧ f.auth = true) (hj : y.judge (2 ^ v.get R.CMD_CTL_REPLAY_W) f.seq.toNat = .accept)
    (ht : f.tag = gmac x.key (BitVec.ofNat 96 f.seq.toNat) f.bytes)
    (hn : ({ v with cmd.sessions := Tbl.put v.cmd.sessions f.session (y.accept (2 ^ v.get R.CMD_CTL_REPLAY_W) f.seq.toNat) } : State).orders spec
        ⟨f.session, x.uid, x.tenant, f.reqId, f.opcode, at_, rx.port, src, a⟩ f.params = none) : (s.acts spec f).isSome = true := by
  have : s.admitted spec f = some (⟨f.session, x.uid, x.tenant, f.reqId, f.opcode, at_, rx.port, src, a⟩, .session x.key,
      { v with cmd.sessions := Tbl.put v.cmd.sessions f.session (y.accept (2 ^ v.get R.CMD_CTL_REPLAY_W) f.seq.toNat) }) := by
    unfold State.admitted
    have hr' : s.arrive f = ((s.arrive f).1, some at_) := Prod.ext rfl hr
    rw [if_neg (fun h => h ho), hr']
    simp only [hv]
    rw [← hu, if_neg (by simp [hf.1, hf.2]), if_neg (by omega), hx]
    simp only
    rw [← hy, if_pos ⟨hs, hc.1, hc.2.1, hc.2.2.1, hc.2.2.2, ht, hj⟩]
  unfold State.acts
  rw [this]
  simp only [hn]
  rfl

/-- An SES_OPEN from the network that passes orders 1 to 10 of R405. -/
theorem acts_opening {s v : State} {spec : OpSpec} {f : Frame} {rx : EthRx} {src : BitVec 128} {a b at_ : Nat} {kt : BitVec 256} {nD : BitVec 64}
    (hv : f.via = .net rx src a b) (ho : f.opcode = spec.opcode) (hr : (s.arrive f).2 = some at_) (hf : f.formed = true ∧ f.headerZero = true)
    (hs : f.session = 0xFF) (hu : v = (s.arrive f).1.advanceTo at_) (hk : Tbl.look v.cmd.keys (f.tenant % 64) = some kt)
    (hn : nD = BitVec.ofNat 64 (beNat (f.params.take 8)))
    (hc : f.opcode = 0x1002 ∧ f.auth = true ∧ f.tag = gmac kt (BitVec.ofNat 96 (2 * 2 ^ 64 + nD.toNat)) f.bytes)
    (hq : v.orders spec ⟨0xFF, 0, f.tenant % 64, f.reqId, f.opcode, at_, rx.port, src, a⟩ f.params = none) : (s.acts spec f).isSome = true := by
  have : s.admitted spec f = some (⟨0xFF, 0, f.tenant % 64, f.reqId, f.opcode, at_, rx.port, src, a⟩, .tenant kt 4 nD, v) := by
    unfold State.admitted
    have hr' : s.arrive f = ((s.arrive f).1, some at_) := Prod.ext rfl hr
    rw [if_neg (fun h => h ho), hr']
    simp only [hv]
    rw [← hu, if_neg (by simp [hf.1, hf.2]), if_pos hs, hk]
    simp only
    rw [if_neg (by omega), ← hn, if_pos hc]
  unfold State.acts
  rw [this]
  simp only [hq]
  rfl

theorem witness_sesChallenge : passes net (.sesChallenge (openReq 0x1001 0 (be 8 3) 0)) = true := by decide +kernel

/-- An SES_OPEN of tenant 1 with the outstanding nonce, tagged under its key. -/
def sesOpenFrame : Frame :=
  openReq 0x1002 1 (be 8 9 ++ be 8 4) (gmac 5 (BitVec.ofNat 96 (2 * 2 ^ 64 + 9)) (openReq 0x1002 1 (be 8 9 ++ be 8 4) 0).bytes)

theorem sesOpenFrame_tag : sesOpenFrame.tag = gmac 5 (BitVec.ofNat 96 (2 * 2 ^ 64 + (9 : BitVec 64).toNat)) sesOpenFrame.bytes := by
  have h : sesOpenFrame.bytes = (openReq 0x1002 1 (be 8 9 ++ be 8 4) 0).bytes := by unfold sesOpenFrame openReq Frame.bytes; rfl
  rw [h]
  unfold sesOpenFrame openReq
  rfl

/-- A request of session 0, tagged under its key. -/
def sesFrame (op : Nat) : Frame := sesReq op (gmac 77 (BitVec.ofNat 96 1) (sesReq op 0).bytes)

theorem sesFrame_tag (op : Nat) : (sesFrame op).tag = gmac 77 (BitVec.ofNat 96 (sesFrame op).seq.toNat) (sesFrame op).bytes := by
  have h : (sesFrame op).bytes = (sesReq op 0).bytes := by unfold sesFrame sesReq Frame.bytes; rfl
  rw [h]
  unfold sesFrame sesReq
  rfl

theorem witness_sesOpen : net.Live ∧ (net.acts opOpen sesOpenFrame).isSome = true :=
  ⟨lives_live (by decide), acts_opening (rx := rx0) (src := 1) (a := 5000) (b := 0x4744) (kt := 5) (nD := 9) (at_ := 0) rfl rfl (by decide +kernel)
    ⟨by decide +kernel, by decide +kernel⟩ rfl rfl (by decide +kernel) (by decide +kernel) ⟨rfl, by decide +kernel, sesOpenFrame_tag⟩ (by decide +kernel)⟩

theorem witness_sesClose : net.Live ∧ (net.acts opClose (sesFrame 0x1003)).isSome = true :=
  ⟨lives_live (by decide), acts_in_session (rx := rx0) (src := 1) (a := 5000) (b := 0x4744) (at_ := 0) (x := ⟨1, 1, 77, 0, [], 10, 0, 1, 5000, [], [], 0⟩)
    rfl rfl (by decide +kernel) ⟨by decide +kernel, by decide +kernel⟩ (by decide +kernel) rfl (by decide +kernel) rfl
    ⟨by decide +kernel, by decide +kernel, by decide +kernel, by decide +kernel⟩ (by decide +kernel) (sesFrame_tag 0x1003) (by decide +kernel)⟩

theorem witness_sesKeepalive : net.Live ∧ (net.acts opKeepalive (sesFrame 0x1004)).isSome = true :=
  ⟨lives_live (by decide), acts_in_session (rx := rx0) (src := 1) (a := 5000) (b := 0x4744) (at_ := 0) (x := ⟨1, 1, 77, 0, [], 10, 0, 1, 5000, [], [], 0⟩)
    rfl rfl (by decide +kernel) ⟨by decide +kernel, by decide +kernel⟩ (by decide +kernel) rfl (by decide +kernel) rfl
    ⟨by decide +kernel, by decide +kernel, by decide +kernel, by decide +kernel⟩ (by decide +kernel) (sesFrame_tag 0x1004) (by decide +kernel)⟩

/-! ## States that meet the hypotheses of the obligations -/

/-- READY with the fields given. -/
def upf (fs : List (Fld × Nat)) : State := fs.foldl (fun s x => s.put x.1 x.2) (up [])

/-- READY with the circuit contexts given. -/
def cirs (cs : Tbl Ctx) : State := { up [] with cir.ctxs := cs }

/-- A transition of the class and epoch, in the phase given. -/
def trans0 (cls : Bool) (e phase : Nat) : Trans := ⟨cls, e, 1_200, phase, [], none, false, [], [], [], [], false, [], []⟩

/-- The requester of the mailbox. -/
def mreq : Requester := ⟨32, 0, 0, 7, 0x2001, 0, 4, 0, 0⟩

/-- A traverse of one planned stage that moves context 0 from route 0 to route 1. -/
def trav0 : Trav := ⟨3, 2, false, 0, 0, some mreq, none, Ts.queued, [⟨[⟨0, 0, 1, false⟩], 0, Ss.planned, 0⟩], 0, none, false, 0, false, 0, 0, 0, 0, 0,
  false, false⟩

/-- Hypothesis `Served` (and `Live`): what most statements about host accesses ask. -/
theorem witness_served : (up []).Live ∧ (up []).Served := ⟨lives_live (by decide +kernel), serves_served (by decide +kernel)⟩

theorem witness_TimeIncrementValidityAndSteps :
    (asks R.TIME_ADJ_CTL_GO (1 <<< R.TIME_ADJ_CTL_GO.hi) = true) ∧
    (let s := { upf [(R.TIME_STS_RUNNING, 1)] with tm.step := some (500, 7) }
     lives s = true ∧ s.tm.step = some (500, 7) ∧ s.flag R.TIME_STS_RUNNING = true) := by decide +kernel

theorem witness_ServoFollowsSyncAndEnable :
    (let s := upf [(R.TIME_STS_SRV_STATE, srvLocked)]
     lives s = true ∧ s.ctrlUp = true ∧ s.get R.TIME_STS_SRV_STATE = srvLocked) ∧
    (let s := upf [(R.TIME_PTP_CFG_ENABLE, 1)]
     serves s = true ∧ s.flag R.TIME_PTP_CFG_ENABLE = true ∧ s.rwcHit R.TIME_PTP_CFG (~~~ s.rd R.TIME_PTP_CFG) = true ∧ bits (0 : Word) 0 0 = 0) ∧
    (let s := upf [(R.PORT_CTL_ENABLE 0, 1), (R.TIME_PTP_CFG_ENABLE, 1), (R.TIME_STS_SRV_STATE, srvLocking)]
     let u := (s.receive rx0 true).1
     let w := (u.police rx0 65).1
     lives s = true ∧ rx0.port < 4 ∧ s.receive rx0 true = (u, true) ∧ rx0.port = u.get R.TIME_PTP_CFG_PORT ∧ u.police rx0 65 = (w, true) ∧
     0 = w.get R.TIME_PTP_CFG_DOMAIN ∧ w.get R.TIME_PTP_CFG_TRANSPORT = 0 ∧ w.flag R.TIME_PTP_CFG_ENABLE = true ∧
     w.get R.TIME_STS_SRV_STATE = srvLocking ∧ incMin ≤ 2 ^ 32 ∧ 2 ^ 32 ≤ incMax) := by decide +kernel

theorem witness_TimePinsSnapshotsAndSyncMarks :
    (let s := upf [(R.TIME_PPS_CFG_IN_EN, 1)]
     lives s = true ∧ s.ctrlUp = true ∧ s.flag R.TIME_PPS_CFG_IN_EDGE = false ∧ s.flag R.TIME_PPS_CFG_IN_EN = true) ∧
    (up []).flag R.TIME_PPS_CFG_IN_EN = false ∧
    (let s := { up [] with tm.lastPps := some 5 }
     lives s = true ∧ s.ctrlUp = true ∧ s.tm.lastPps = some 5) ∧
    (let s := upf [(R.TIME_PPS_CFG_OUT_EN, 1), (R.TIME_STS_VALID, 1)]
     lives s = true ∧ s.ctrlUp = true ∧ s.flag R.TIME_PPS_CFG_OUT_EN = true ∧ s.flag R.TIME_STS_VALID = true) ∧
    (let s := upf [(R.TIME_CLK_CFG_TREF_EN, 1)]
     lives s = true ∧ s.ctrlUp = true ∧ s.flag R.TIME_CLK_CFG_TREF_EN = true) ∧
    (lives (up []) = true ∧ (up []).hubIn = true) := by decide +kernel

theorem witness_PolicersShapersAndMacsec :
    (let v : Word := 1 <<< R.CMD_SAK_CTL_SET.hi
     asks R.CMD_SAK_CTL_SET v = true ∧ asks R.CMD_SAK_CTL_CLEAR v = !true) ∧
    (let v : Word := 1 <<< R.CMD_SAK_CTL_CLEAR.hi
     asks R.CMD_SAK_CTL_SET v = false ∧ asks R.CMD_SAK_CTL_CLEAR v = !false) := by decide +kernel

theorem witness_GatesLinksAndPortEnables :
    asks (R.PORT_GATE_CTL_COMMIT 0) (1 <<< (R.PORT_GATE_CTL_COMMIT 0).hi) = true ∧
    (let s := { up [] with net.gates := [(0, ⟨0, 0, some (9, 1, [])⟩)] }
     lives s = true ∧ s.ctrlUp = true ∧ (s.gate 0).pending = some (9, 1, [])) ∧
    (let s := upf [(R.PORT_QS_CFG_INTERVAL 0, 1)]
     lives s = true ∧ s.ctrlUp = true ∧ 1 ≤ s.get (R.PORT_QS_CFG_INTERVAL 0)) ∧
    (lives (up []) = true ∧ (up []).ctrlUp = true ∧ (up []).flag (R.PORT_CTL_LINK 0) = !true) := by decide +kernel

theorem witness_ReceivedFramesAreAnsweredOrCounted :
    (let s := upf [(R.PORT_CTL_ENABLE 0, 1)]
     lives s = true ∧ s.portRuns 0 = true ∧ rx0.fcsOk = true ∧ ({ rx0 with fcsOk := false }).fcsOk = false ∧ ({ rx0 with len := 63 }).len < 64) ∧
    (let s := upf [(R.PORT_CTL_ENABLE 0, 1), (whole (R.PORT_IP4 0), 1)]
     let u := (s.receive rx0 false).1
     let w := u.police rx0 65
     lives s = true ∧ s.receive rx0 false = (u, true) ∧ rx0.toUs = true ∧ u.rd (R.PORT_IP4 0) ≠ 0 ∧ u.police rx0 65 = (w.1, w.2)) := by
  decide +kernel

theorem witness_EgressServesLowestQueueFirst :
    (let f : EgressFrame := ⟨.control false, 64, 0⟩
     let s := { upf [(R.PORT_CTL_ENABLE 0, 1), (R.PORT_CTL_LINK 0, 1)] with net.queues := [(1, ⟨[f], [], 0, 0, 0, 64, 0⟩)] }
     let u := s.advanceTo (Tbl.getD s.net.lineBusy 0 0)
     lives s = true ∧ s.portRuns 0 = true ∧ s.flag (R.PORT_CTL_LINK 0) = true ∧ s.flag (R.PORT_MSEC_MS_EN 0) = false ∧ u.mayStart 0 1 = true ∧
     (∀ j : Fin 4, j.val < 1 → u.mayStart 0 j = false) ∧ (u.queue 0 1).frames = [f] ∧ (u.queue 0 1).waiting = []) := by decide +kernel

theorem witness_OccurrencesAreRecordedAndAlert :
    (let s := upf [(R.EVT_SRC_REC 3, 1), (R.EVT_SRC_ALERT 3, 1), (R.EVT_SRC_COAL 3, 0)]
     s.hubIn = true ∧ s.flag (R.EVT_SRC_REC 3) = true ∧ s.get (R.EVT_SRC_COAL 3) = 0 ∧ s.flag (R.EVT_SRC_ALERT 3) = true ∧ s.evt.opens = [] ∧
     ((s.rd R.EVT_HEAD).toNat + 2 ^ 32 - (s.rd R.EVT_FLUSHED).toNat) % 2 ^ 32 < 16_384) ∧ State.reset.hubIn = false := by decide +kernel

/-- An open record of source 3, written at 0, that one occurrence has joined. -/
def open3 : OpenRec := ⟨⟨3, 0, 0, true, false, false, 0, 0, 1, 0, 0, 0, 0, 0, 0⟩, 0, 0, 1, 500⟩

theorem witness_RecordsCloseFlushAndSave :
    (let s := { up [] with evt.opens := [open3] }
     lives s = true ∧ s.hubIn = true ∧ s.evt.opens.find? (·.rec_.src == 3) = some open3 ∧ 0 < open3.joined) ∧
    (let s := upf [(R.EVT_CTL_ENABLE, 1), (R.EVT_CTL_LS_EN, 1), (R.EVT_STS_LS_STATE, lsOk), (whole R.EVT_HEAD, 1)]
     lives s = true ∧ s.hubIn = true ∧ s.flag R.EVT_CTL_ENABLE = true ∧ s.flag R.EVT_CTL_LS_EN = true ∧ s.evt.block = none ∧
     s.get R.EVT_STS_LS_STATE ≠ lsFailed ∧ 1 ≤ s.flushable ∧ s.closedWaiting < 1024) ∧
    (let s := { up [] with evt.block := some ⟨0, 1, 0, 0, false⟩ }
     lives s = true ∧ s.evt.block = some ⟨0, 1, 0, 0, false⟩ ∧ 0 + 1 < 3) ∧
    (let s := { up [] with evt.block := some ⟨0, 1, 0, 2, false⟩ }
     lives s = true ∧ s.evt.block = some ⟨0, 1, 0, 2, false⟩ ∧ 3 ≤ 2 + 1 ∧ s.svc.pfail = false ∧ s.nv.cairn.length < 256) ∧
    (let s := upf [(R.EVT_CTL_ENABLE, 1), (R.EVT_CTL_LS_EN, 1), (R.EVT_STS_LS_STATE, lsFailed)]
     let v := s.rd R.EVT_CTL ||| 1 <<< R.EVT_CTL_RETRY.hi
     serves s = true ∧ asks R.EVT_CTL_RETRY v = true ∧ s.flag R.EVT_CTL_ENABLE = true ∧ s.flag R.EVT_CTL_LS_EN = true ∧ s.rwcHit R.EVT_CTL v = false ∧
     bits v 0 0 = 1 ∧ s.get R.EVT_STS_LS_STATE = lsFailed) ∧
    asks R.EVT_CAIRN_HOST_CTL_WRITE (1 <<< R.EVT_CAIRN_HOST_CTL_WRITE.hi) = true ∧ (lives (up []) = true ∧ (up []).hubIn = true) := by decide +kernel

theorem witness_GuardsAndBlankersHoldPorts :
    lives (up []) = true ∧ ([(3, 2_300)] : List (Fin 1024 × Int)).map (·.1) = [3] ∧ ([(3, 2_300)] : List (Fin 1024 × Int)).Pairwise (fun a b => a.1 ≠ b.1) := by
  decide +kernel

theorem witness_LatchesOpenCloseAndAreAudited :
    (let w : OpenWait := ⟨3, 0, 0⟩
     let s := { upf [(R.TILE_FD_LAT_CFG_ENABLE 0, 1)] with fab.waits := [w], fab.noOpen := false }
     lives s = true ∧
     s.fab.waits.filter (fun x => portTile x.port == 0 && !s.guardLatched x.port && ((s.port x.port).lstate == 0 || (s.port x.port).lstate == 4))
       = [] ++ w :: [] ∧ w.port = portKey false 3 ∧ s.flag (R.TILE_FD_LAT_CFG_ENABLE 0) = true ∧
     (s.opening 0).length < s.get (R.TILE_FD_LAT_CFG_OPEN_MAX 0) ∧ s.inHoldover 0 = false ∧ s.fab.noOpen = false ∧
     s.flag R.THM_STS_SHUTDOWN = false) ∧
    (let s := (up []).setPort 3 { Port.reset with lstate := 1, pulse := some 0 }
     lives s = true ∧ (s.port (portKey false 3)).lstate = 1 ∧ (s.port (portKey false 3)).pulse = some 0) ∧
    (let s := (up []).setPort 3 { Port.reset with lstate := 3, pulse := some 0, tries := 3 }
     lives s = true ∧ (s.port (portKey false 3)).lstate = 3 ∧ (s.port (portKey false 3)).pulse = some 0 ∧ 3 ≤ (s.port 3).tries) ∧
    (((up []).port (portKey false 3)).lstate = 0 ∧ ([(3, 0)] : List (Fin 1024 × Fin 3)).Pairwise (fun a b => a.1 ≠ b.1)) := by decide +kernel

theorem witness_FastDriveShadowsStrobesAndBanks :
    (let s := upf [(R.TILE_FD_BCTL_ENABLE 0 0, 1), (R.TILE_FD_BCTL_SRC 0 0, 1)]
     let v := s.rd (R.TILE_FD_BCTL 0 0) ||| 4
     serves s = true ∧ bits v 2 2 = 1 ∧ bits v 0 0 = 1 ∧ s.flag (R.TILE_FD_BCTL_ENABLE 0 0) = true ∧ s.flag (R.TILE_FD_BCTL_SRC 0 0) = true ∧
     s.rwcHit (R.TILE_FD_BCTL 0 0) v = false) ∧ bits (1 : Word) 2 2 = 0 ∧ bits (1 : Word) 0 0 = 1 := by decide +kernel

theorem witness_RequestsAreRefusedInOrderOrAnsweredOnce :
    (let f := req 0x5003 [0]
     let u := (mbx.arrive f).1.advanceTo 0
     lives mbx = true ∧ (mbx.admitted opTelStatus f).isSome = true ∧
     (mbx.admitted opTelStatus f).any (fun x => x.2.2.orders opTelStatus x.1 f.params == some Code.SES_BAD_PARAM) = true ∧ u.pending = []) ∧
    passes mbx (.telStatus (req 0x5003 [])) = true ∧ (req 0x5003 []).opcode ≠ opSchSwap.opcode := by decide +kernel

theorem witness_SessionsAndTheirReplayWindows :
    (let x : Session := ⟨1, 1, 77, 40, [40, 38], 10, 0, 1, 5000, [], [], 0⟩
     1 ≤ 41 ∧ x.high < 41 ∧ x.judge 32 41 = .accept ∧ 39 ≤ x.high ∧ x.high < 39 + 32 ∧ 39 ∉ x.seen ∧ 38 ∈ x.seen ∧ 8 + 32 ≤ x.high) ∧
    (let s := { net with svc.refLost := false }
     lives s = true ∧ s.hubIn = true ∧ (Tbl.look s.cmd.sessions 0).isSome = true) := by decide +kernel

theorem witness_KeysEnablesAndMailboxRings :
    (let v : Word := 1 <<< R.CMD_KEY_CTL_SET.hi
     asks R.CMD_KEY_CTL_SET v = true ∧ asks R.CMD_KEY_CTL_CLEAR v = !true) ∧
    (let v : Word := 1 <<< R.CMD_KEY_CTL_CLEAR.hi
     asks R.CMD_KEY_CTL_SET v = false ∧ asks R.CMD_KEY_CTL_CLEAR v = !false) ∧
    (let v : Word := 1 <<< R.CMD_KEY_CTL_SET.hi ||| 1 <<< R.CMD_KEY_CTL_CLEAR.hi
     asks R.CMD_KEY_CTL_SET v = true ∧ asks R.CMD_KEY_CTL_CLEAR v = true) ∧ (serves mbx = true ∧ mbx.mbxOn = true) ∧
    (let s := { mbx with cmd.fullSince := some 5 }
     lives s = true ∧ s.cmd.fullSince = some 5 ∧ s.cmd.stallReported = false) ∧
    (let s := { mbx with cmd.stallReported := true }
     lives s = true ∧ s.cmd.stallReported = true) := by decide +kernel

theorem witness_PcieResetStopsTheMailboxOnly : lives mbx = true ∧ mbx.mbxOn = true := by decide +kernel

theorem witness_AttributesLeasesAndExpiries :
    (let s := cirs [(0, { Ctx.idle with state := Cs.lit, lease := 9 })]
     lives s = true ∧ (s.ctx 0).state ≠ Cs.idle ∧ (s.ctx 0).lease ≠ 0 ∧ s.bivouac = false ∧ s.hubIn = true ∧ s.committing 0 = none ∧
     s.stageOf 0 = none ∧ (s.ctx 0).state ≠ Cs.moving) ∧
    (let s := { up [] with cir.grants := [(0, ⟨false, 3, 1, 2, 9⟩)] }
     lives s = true ∧ Tbl.look s.cir.grants 0 = some ⟨false, 3, 1, 2, 9⟩ ∧ s.hubIn = true ∧ s.grantUsers 0 = []) ∧
    (let s := { cirs [(0, { Ctx.idle with state := Cs.lit })] with cir.deferred := [⟨false, 0, 0⟩] }
     lives s = true ∧ s.hubIn = true ∧ s.bivouac = false ∧ s.cir.deferred = [⟨false, 0, 0⟩] ∧ (s.ctx 0).state ≠ Cs.idle ∧
     (s.ctx 0).state ≠ Cs.moving ∧ s.committing 0 = none ∧ s.stageOf 0 = none) ∧
    (upf [(R.GLB_STS_BIVOUAC, 1)]).bivouac = true := by decide +kernel

theorem minBy_finds {α : Type} (key : α → Nat) (l : List α) (b : Option α) :
    ∃ x, l.foldl (fun b x => match b with
      | none => some x
      | some y => if key x < key y then some x else some y) b = x ∧ (x = b ∨ ∃ y, y ∈ l ∧ x = some y) ∧ (x = none → b = none ∧ l = []) := by
  induction l generalizing b with
  | nil => exact ⟨b, rfl, .inl rfl, fun h => ⟨h, rfl⟩⟩
  | cons y l ih =>
    obtain ⟨x, h, hm, hn⟩ := ih (match b with
      | none => some y
      | some z => if key y < key z then some y else some z)
    refine ⟨x, h, ?_, fun hx => ?_⟩
    · rcases hm with hm | ⟨z, hz, hx⟩
      · cases b with
        | none => exact .inr ⟨y, by simp, hm⟩
        | some w =>
          simp only at hm
          split at hm
          · exact .inr ⟨y, by simp, hm⟩
          · exact .inl hm
      · exact .inr ⟨z, by simp [hz], hx⟩
    · have := (hn hx).1
      cases b with
      | none => simp at this
      | some w => simp only at this; split at this <;> cases this

/-- A circuit placed alone finds a line, whose cells are usable, where one line passes the filters. -/
theorem place_finds (s : State) (cyc : CycOf) (it : Item) (m : Nat) (hm : m < 1024) (h1 : s.cellsOk (it.at_ m).hops = true)
    (h2 : s.cycOk cyc [] [it.at_ m] (it.at_ m) = true) (h3 : s.lossOk (it.at_ m) = true) (h4 : s.hotOk cyc [it.at_ m] (it.at_ m) = true) :
    ∃ n score ncyc, s.place cyc [] [] it = .ok n score ncyc ∧ s.cellsOk (it.at_ n).hops = true := by
  have ft : ∀ l : List Nat, l.filter (fun _ => true) = l := fun l => List.filter_eq_self.2 fun _ _ => rfl
  unfold State.place
  simp only [List.filter_nil, List.nil_append, Resv.free, State.isolated, State.partnersOk, List.all_nil, Bool.true_and, Bool.or_true, ft]
  have hin : ∀ l : List Nat, m ∈ l → l.isEmpty = false := fun l h => by cases l <;> simp_all
  rw [hin _ (by simp [hm, h1]), hin _ (by simp [hm, h1, h2]), hin _ (by simp [hm, h1, h2, h3]), hin _ (by simp [hm, h1, h2, h3, h4])]
  simp only [Bool.false_eq_true, if_false]
  obtain ⟨x, h, hx, hn⟩ := minBy_finds (fun m => s.score cyc [it.at_ m] (it.at_ m)) (List.filter (fun m => s.hotOk cyc [it.at_ m] (it.at_ m))
    (List.filter (fun m => s.lossOk (it.at_ m)) (List.filter (fun m => s.cycOk cyc [] [it.at_ m] (it.at_ m))
      (List.filter (fun m => s.cellsOk (it.at_ m).hops) (List.range 1024))))) none
  rw [show minBy _ _ = x from h]
  cases x with
  | none => exact absurd (hn rfl).2 (fun hc => by
    have : m ∈ ([] : List Nat) := by rw [← hc]; simp [hm, h1, h2, h3, h4]
    cases this)
  | some n =>
    rcases hx with hx | ⟨y, hy, hx⟩
    · cases hx
    · cases hx
      exact ⟨n, _, _, rfl, by simp at hy; exact hy.2.2.2.2⟩

/-- READY with a pending request of context 0 and the cell losses of route 0 measured. -/
def measured : State :=
  { cirs [(0, { Ctx.idle with state := Cs.pending, req := some mreq })] with
    cir.run := some ⟨.request 0, 0, [], []⟩
    regs := (path 0 0).foldl (fun l h => [0, 1].foldl (fun l p => Tbl.put l (R.PLC_CELL_LOSS (cellEntry p h.pos / 2)) 0) l) (up []).regs }

theorem witness_PlacementChoosesFreePaths_run : ∃ m score ncyc,
    let run : Run := ⟨.request 0, 0, [], []⟩
    let u := measured.draw
    measured.Live ∧ measured.ctrlUp = true ∧ measured.cir.run = some run ∧ run.goal = .request 0 ∧ (measured.ctx 0).state = Cs.pending ∧
    measured.cir.waitRuns = [] ∧ u.place u.cycActive run.snap run.scope (u.item 0) = .ok m score ncyc ∧ u.conflicts run [(u.item 0, m)] = false := by
  obtain ⟨m, a, b, h, hc⟩ := place_finds measured.draw measured.draw.cycActive (measured.draw.item 0) 0 (by decide) (by decide +kernel)
    (by decide +kernel) (by decide +kernel) (by decide +kernel)
  refine ⟨m, a, b, lives_live (by decide +kernel), by decide +kernel, rfl, rfl, by decide +kernel, rfl, h, ?_⟩
  have hr : measured.draw.resvs = [] := by decide +kernel
  unfold State.conflicts
  rw [hr]
  simp [hc, Resv.free]

theorem witness_PlacementChoosesFreePaths_rest :
    (let s := { cirs [(0, { Ctx.idle with state := Cs.pending })] with cir.queue := [0] }
     lives s = true ∧ s.ctrlUp = true ∧ s.cir.queue = 0 :: []) ∧
    (let s := ((cirs [(0, { Ctx.idle with state := Cs.placed })]).setPort 0 { Port.reset with lstate := 2 }).setPort 1_024 { Port.reset with lstate := 2 }
     lives s = true ∧ (s.ctx 0).state = Cs.placed ∧ s.isOpen (portKey false (s.ctx 0).input) = true ∧ s.isOpen (portKey true (ctxOut 0)) = true ∧
     s.trv.journal = []) ∧
    (let run : Run := ⟨.repair 5 none, 0, [], [0]⟩
     let s := { cirs [(0, { Ctx.idle with state := Cs.lit, route := some 0 })] with cir.run := some run, svc.crvHost := [(cellEntry 0 0, 2)] }
     let u := s.draw
     lives s = true ∧ s.ctrlUp = true ∧ s.cir.run = some run ∧ run.goal = .repair 5 none ∧ run.scope ≠ [] ∧ s.cir.waitRuns = [] ∧
     u.joint u.cycActive run.snap (run.scope.map u.item) false (fun l => l.length) = none) ∧
    (let s := { upf [(R.PLC_CTL_ENABLE, 1)] with cir.retryAt := some 9, cir.policy := [(R.PLC_CTL, 1 <<< R.PLC_CTL_REPAIR_EN.lo)] }
     lives s = true ∧ s.ctrlUp = true ∧ s.flag R.PLC_CTL_ENABLE = true ∧ s.pol R.PLC_CTL_REPAIR_EN = 1 ∧ s.cir.retryAt = some 9) ∧
    (∀ n, n ≤ 20 → lineAfter 0 0 n ≠ lineAfter 1 (2 ^ 20 - 1) n) := by decide +kernel

theorem witness_PolicyEpochAndTraverseRegisters :
    (lives (up []) = true ∧ (up []).ctrlUp = true ∧ ([(3, 9)] : List (Fin 20480 × Nat)).Pairwise (fun a b => a.1 ≠ b.1)) ∧
    (let s := upf [(R.TRV_CTL_ENABLE, 1)]
     serves s = true ∧ s.flag R.TRV_CTL_ENABLE = true ∧ s.rwcHit R.TRV_CTL (~~~ s.rd R.TRV_CTL) = true) ∧
    (let s := { up [] with trv.journal := [trav0] }
     s.trvShown = some trav0 ∧ trav0.state < 16 ∧ trav0.origin < 4 ∧ trav0.slot < 2 ^ 9 ∧ trav0.id < 2 ^ 16 ∧ trav0.done < 2 ^ 5 ∧
     trav0.stages.length < 2 ^ 5 ∧ trav0.tenant < 2 ^ 6 ∧ trav0.reason < 2 ^ 16) := by decide +kernel

theorem witness_TransitionsBeginAtPointOfNoReturnAndG0 :
    (let s := { upf [(R.EPO_CTL_ENABLE, 1)] with cir.ctxs := [(0, { Ctx.idle with state := Cs.armed })] }
     let u := s.advanceTo (50_000 - 5_000)
     lives s = true ∧ s.ready = true ∧ s.hubIn = true ∧ s.svc.holdover = [] ∧ s.flag R.EPO_CTL_ENABLE = true ∧ s.epochAt false 50_000 = true ∧
     s.trans false 50_000 = none ∧ s.bivouac = false ∧ s.trv.journal = [] ∧ s.sch.swap = none ∧
     u.committers false 50_000 ((u.slotEpoch 50_000).getD 0) = [0]) ∧
    (let w : Swap := ⟨some 0, 60_000, mreq, [], false, [], false⟩
     let s := { upf [(R.EPO_CTL_ENABLE, 1)] with sch.swap := some w }
     lives s = true ∧ s.ready = true ∧ s.hubIn = true ∧ s.svc.holdover = [] ∧ s.flag R.EPO_CTL_ENABLE = true ∧ s.sch.swap = some w ∧
     s.trans true w.esw = none ∧ s.trv.journal = []) ∧
    (let s := { upf [(R.EPO_CTL_ENABLE, 1)] with fab.trans := [trans0 false 50_000 0] }
     lives s = true ∧ s.flag R.EPO_CTL_ENABLE = true ∧ s.trans false 50_000 = some (trans0 false 50_000 0) ∧ s.hubIn = true) ∧
    (let s := { up [] with fab.trans := [trans0 false 50_000 1] }
     lives s = true ∧ s.trans false 50_000 = some (trans0 false 50_000 1) ∧ (trans0 false 50_000 1).phase ≠ 0 ∧ 5 ∉ (trans0 false 50_000 1).selfs) := by
  decide +kernel

theorem witness_CellsSwitchAndPortsAreReleased :
    (let tr := { trans0 false 50_000 1 with loads := [(0, true)] }
     let s := { up [] with fab.trans := [tr] }
     lives s = true ∧ s.trans false 50_000 = some tr ∧ tr.phase = 1 ∧ (tr.loads.map (·.1)).Nodup ∧ (∀ l, l ∈ tr.loads → l.1 < 10_240) ∧
     (s.fdch 0).rangeUse = 1 ∧ (s.fdch 1).rangeUse = 1 ∧ (s.elem 0).prov = none) ∧
    (let s := { up [] with fab.trans := [trans0 false 50_000 2] }
     lives s = true ∧ s.trans false 50_000 = some (trans0 false 50_000 2)) ∧
    (let s := { up [] with fab.trans := [trans0 false 50_000 3] }
     lives s = true ∧ s.trans false 50_000 = some (trans0 false 50_000 3)) ∧
    (let x : Nat × Ctx := (0, { Ctx.idle with state := Cs.lit, route := some 0 })
     let s := (cirs [x]).setPort 0 { Port.reset with epo := true }
     lives s = true ∧ x ∈ s.cir.ctxs ∧ x.2.lit = true ∧ 0 ∈ ctxPorts x.1 x.2 ∧ (∀ y, y ∈ s.cir.ctxs → y = x) ∧ x.2.scheduled = false ∧
     isGrid persGrid 50_000 = true ∧ x.2.eplan < 50_000 ∧ (s.port (portKey false 0)).epo = true ∧ s.fab.trans = []) := by decide +kernel

theorem witness_CircuitsStagesAndSwapsCommitAtTheEpoch :
    (let tr := { trans0 false 50_000 4 with lights := [0] }
     let s := { cirs [(0, { Ctx.idle with state := Cs.armed, placed := some 0 })] with fab.trans := [tr] }
     lives s = true ∧ s.trans false 50_000 = some tr ∧ tr.phase = 4 ∧ tr.swap = false ∧ tr.stage = none ∧ Tbl.wf s.cir.ctxs = true ∧ tr.lights.Nodup ∧
     (∀ i, i ∈ tr.lights → (s.ctx i).after = none) ∧ s.sch.active = none) ∧
    (let tr := { trans0 false 50_000 4 with stage := some 0 }
     let s := { cirs [(0, { Ctx.idle with state := Cs.moving, route := some 0 })] with fab.trans := [tr], trv.journal := [trav0] }
     lives s = true ∧ s.trans false 50_000 = some tr ∧ tr.swap = false ∧ tr.stage = some 0 ∧ tr.lights = [] ∧ s.trv.journal = trav0 :: [] ∧
     trav0.newCtx = none ∧ ((trav0.stage 0).moved.map (·.ctx)).Nodup ∧ (trav0.stage 0).moved.length = 1 ∧
     (∀ m, m ∈ (trav0.stage 0).moved → (s.ctx m.ctx).after = none)) ∧
    (let w : Swap := ⟨some 0, 60_000, mreq, [], true, [], false⟩
     let tr := { trans0 true 60_000 4 with swap := true }
     let s := { up [] with sch.swap := some w, fab.trans := [tr] }
     lives s = true ∧ s.sch.swap = some w ∧ s.trans true w.esw = some tr ∧ tr.phase = 4 ∧ tr.swap = true ∧ tr.stage = none ∧ w.target = some 0 ∧
     s.trv.journal = [] ∧ Tbl.wf s.cir.ctxs = true ∧ s.sch.active = none) := by decide +kernel

theorem witness_DecisionsGuardLatchesLossChecksAndSteps :
    (let a : After := ⟨false, true, 0, none⟩
     let tr := { trans0 false 50_000 2 with lights := [0] }
     let s := { cirs [(0, { Ctx.idle with state := Cs.armed, after := some a })] with fab.trans := [tr] }
     lives s = true ∧ s.trans false 50_000 = some tr ∧ tr.phase < 3 ∧ tr.swap = false ∧ tr.stage = none ∧ tr.lights = [0] ∧ (s.ctx 0).waits = true ∧
     (s.ctx 0).after = some a) ∧
    (let h := { trav0 with abortDue := true }
     let tr := { trans0 false 50_000 2 with stage := some 0 }
     let s := { cirs [(0, { Ctx.idle with state := Cs.moving, route := some 0 })] with fab.trans := [tr], trv.journal := [h] }
     lives s = true ∧ s.trans false 50_000 = some tr ∧ tr.phase < 3 ∧ tr.swap = false ∧ tr.stage = some 0 ∧ tr.lights = [] ∧ s.trv.journal = h :: [] ∧
     h.abortDue = true ∧ h.newCtx = none ∧ (∀ m, m ∈ (h.stage 0).moved → (s.ctx m.ctx).after = none ∧ (s.ctx m.ctx).state = Cs.moving)) ∧
    (let s := { upf [(⟨R.TILE_FD_GUARD_STS 0, 3, 3⟩, 1)] with fab.guard := [(3, (0, 4_000))] }
     lives s = true ∧ Tbl.wf s.cir.ctxs = true ∧ 4_000 ≤ (Tbl.getD s.fab.guard 3 (0, 0)).2 ∧ s.guarded 3 = true ∧ s.guardLatched 3 = false) ∧
    (let s := cirs [(0, { Ctx.idle with state := Cs.lit, check := some (9, 2) })]
     lives s = true ∧ s.ctrlUp = true ∧ (s.ctx 0).check = some (9, 2)) ∧
    (let s := { up [] with tm.step := some (500, 0) }
     lives s = true ∧ s.ctrlUp = true ∧ s.tm.step = some (500, 0) ∧ s.engineRuns = false) ∧
    (let s := { up [] with tm.step := some (500, 0), trv.journal := [trav0] }
     lives s = true ∧ s.ctrlUp = true ∧ s.tm.step = some (500, 0) ∧ s.engineRuns = true ∧ s.sch.lastE = 0 ∧
     s.nextEpo.all (fun x => decide ((s.now : Int) + 500 + 500 + 2_000 ≤ (x.1 : Int) - s.gb)) = true) := by decide +kernel

/-- An entry of one slot of 10 µs that has been loaded. -/
def entry0 (l : Nat) : LibEntry := { LibEntry.empty with lstate := l, durs := [10_000] }

theorem witness_LibraryEntriesLoadAndBecomeReady :
    (let s := { up [] with sch.lib := [(0, entry0 Ls.loading)] }
     lives s = true ∧ (s.entry 0).lstate = Ls.loading) ∧
    (let s := { up [] with sch.lib := [(0, entry0 Ls.placing)] }
     lives s = true ∧ s.ctrlUp = true ∧ (s.entry 0).lstate = Ls.placing) ∧
    (let s := { up [] with sch.lib := [(0, entry0 Ls.stale)] }
     lives s = true ∧ s.ctrlUp = true ∧ (s.entry 0).lstate = Ls.stale ∧ (∀ e, e ∈ s.sch.lib → ¬ e.1 < 0)) := by decide +kernel

theorem witness_SwapsAreArmedRefusedAndCancelled :
    (let s := { mbx with sch.lib := [(0, entry0 Ls.ready)], regs := (upf [(R.SCHD_CTL_ENABLE, 1), (R.EPO_CTL_ENABLE, 1), (R.TIME_STS_VALID, 1),
       (R.CMD_MBX_CFG_ENABLE, 1)]).regs }
     passes s (.schSwap (req 0x3005 (be 1 0 ++ be 1 1 ++ be 6 0 ++ be 4 9_000_000))) = true ∧ s.bivouac = false ∧ s.level < 2 ∧
     s.flag R.SCHD_CTL_ENABLE = true ∧ s.flag R.EPO_CTL_ENABLE = true ∧ s.sch.swap.isSome = false ∧ (s.entry 0).lstate = Ls.ready ∧
     s.flag R.TIME_STS_VALID = true) ∧
    (let w : Swap := ⟨some 0, 6_000_000, mreq, [], false, [], false⟩
     passes { mbx with sch.swap := some w } (.schCancel (req 0x3006 [])) = true ∧ ¬ w.esw ≤ 0 + 5_000) := by decide +kernel

theorem witness_TraverseRequestsAndAbortsAreAnswered :
    (let s := { mbx with regs := (upf [(R.PLC_CTL_ENABLE, 1), (R.EPO_CTL_ENABLE, 1), (R.TRV_CTL_ENABLE, 1), (R.CMD_MBX_CFG_ENABLE, 1)]).regs,
                         cir.ctxs := [(0, { Ctx.idle with state := Cs.held, route := some 0 })] }
     passes s (.trvRequest (req 0x4001 (be 1 1 ++ be 1 0 ++ be 2 0 ++ be 8 0 ++ be 4 0))) = true ∧ (s.ctx 0).state ≠ Cs.idle ∧ s.bivouac = false ∧
     s.level < 2 ∧ s.flag R.PLC_CTL_ENABLE = true ∧ s.flag R.EPO_CTL_ENABLE = true ∧ s.timeCheck none 0 250_000 = none ∧
     1 ≤ s.pol R.PLC_LIM2_MOVE_MAX ∧ s.flag R.TRV_CTL_ENABLE = true) ∧
    (let h := { trav0 with state := Ts.running, elast := 90_000 }
     let s := { mbx with trv.journal := [h] }
     passes s (.trvAbort (req 0x4002 (be 1 0 ++ be 1 0 ++ be 2 3 ++ be 4 0))) = true ∧ h.timedNow = true ∧ h.back = false ∧ h.abortDue = false ∧
     h.inFlight = none ∧ h.id = 3) := by decide +kernel

theorem witness_TraversesAreTimedResumedAndRolledBack :
    (let s := { up [] with trv.journal := [trav0] }
     lives s = true ∧ s.ready = true ∧ s.hubIn = true ∧ s.bivouac = false ∧ s.trv.journal = trav0 :: [] ∧ trav0.state = Ts.queued ∧ trav0.back = false) ∧
    (let h := { trav0 with state := Ts.suspFwd }
     let s := { mbx with trv.journal := [h], cir.ctxs := [(0, { Ctx.idle with state := Cs.held, route := some 0 })],
                         regs := (upf ((R.CMD_MBX_CFG_ENABLE, 1) :: (List.range 20).map fun n => (R.TILE_LP_CTL_ENABLE n, 1))).regs }
     passes s (.trvResume (req 0x4003 [])) = true ∧ passes s (.trvRollback (req 0x4004 [])) = true ∧ h.suspended = true ∧ s.level ≠ 4 ∧
     h.back = false ∧ h.newCtx = none ∧ (h.remaining.all fun k => (h.stage k).moved.all fun m => s.moveOk h m) = true) := by decide +kernel

/-- READY with tile 0 as given. -/
def tiled (f : TileSt → TileSt) : State := (up []).setTile 0 (f TileSt.reset)

/-- READY with element 0 as given. -/
def elemed (f : Elem → Elem) : State := (up []).setElem 0 (f Elem.reset)

theorem witness_LoopLawHoldsClampsAndTrims :
    (let cx : LawCx := ⟨1, 1, 0, false, false, true, 100, 200, 8, 0x200, 0x10, 50, 500, 50, 10, 0, 0⟩
     let p : Pair := ⟨3_000, 1_000, 2_000, 1_000, false, false⟩
     p.missing = false ∧ ({ p with missing := true }).missing = true ∧
     (takePair cx 0x4000 false true p { Elem.reset.toElemRec with ageH := 1 }).2.isSome = true ∧ (Elem.reset.toElemRec).hsign ≠ true ∧
     (let s := { up [] with cal.tables := (List.range 8).map fun k => (k, if k = 3 then 0x9000_0000 else 0) }
      (s.closedLoop cx 0 1_000_000 0 false).2.2 = true ∧ (s.closedLoop cx 0 0 0 false).2.2 = false)) := by
  decide +kernel

theorem witness_BelaysOverrunsAndMirrorStreams :
    (let b : Belay := ⟨false, 3, 10, 12, 0, 100, 50, 50_000, 0, 0, false⟩
     let s := { elemed (fun x => { x with belay := some b }) with tiles := [(0, { TileSt.reset with drives := true })] }
     lives s = true ∧ s.engineServes 0 = true ∧ (s.tile 0).drives = true ∧ Grp.wf s.fab.elems = true ∧ (s.elem 0).belay = some b ∧ 0 < b.frames ∧
     s.touchedNow 0 = false ∧ s.flag (R.TILE_FD_BCTL_SRC 0 0) = false) ∧
    (let b : Belay := ⟨false, 13, 10, 12, 0, 100, 50, 50_000, 0, 0, false⟩
     let s := elemed fun x => { x with belay := some b }
     lives s = true ∧ (s.elem 0).belay = some b ∧ b.overrun = false ∧ b.limit < b.frames ∧ s.crv 0 = 0) ∧
    (let s := elemed fun x => { x with clamp := true, clampRun := 65_535 }
     lives s = true ∧ (s.elem 0).clamp = true ∧ (s.elem 0).clampTold = false ∧ bits (s.tile (tileOf 0)).use.clamp 31 16 ≤ (s.elem 0).clampRun ∧
     s.crv 0 = 0) ∧
    (let s := { upf [(R.TILE_LP_STS_OVR_RUN 0, 9)] with tiles := [(0, { TileSt.reset with missed := [3] })] }
     lives s = true ∧ (s.tile 0).missed ≠ [] ∧ s.get (R.TILE_LP_STS_OVR_RUN 0) = 9 ∧ (s.tile 0).endAt = none) ∧
    (let s := tiled fun x => { x with drives := true }
     lives s = true ∧ s.hubIn = true ∧ (s.tile 0).drives = true ∧ s.engineServes 0 = true ∧ (s.tile 0).mirrorK ≠ s.get (whole (R.TILE_LP_FN 0)) + 1) := by
  decide +kernel

theorem witness_MicrocodeIsCheckedAndExchanged :
    bit (1 : Word) 0 = true ∧ bit (2 : Word) 1 = true ∧
    (let s := tiled fun x => { x with checking := some 0 }
     lives s = true ∧ (s.tile 0).checking.isSome = true) ∧
    (let s := upf [(R.TILE_LP_UCODE_PENDING 0, 1)]
     lives s = true ∧ s.flag (R.TILE_LP_UCODE_PENDING 0) = true ∧ s.tileOwner 0 = 0 ∧ s.engineServes 0 = true ∧ s.fab.trans = [] ∧
     ((List.range 4_096).all fun l => s.law l == 3) = true) ∧
    (let s := { upf [(R.TILE_LP_UCODE_PENDING 0, 1)] with tiles := [(0, { TileSt.reset with pendingFrames := 2_000 })] }
     lives s = true ∧ s.flag (R.TILE_LP_UCODE_PENDING 0) = true ∧ 2_000 ≤ (s.tile 0).pendingFrames) ∧
    (let s := tiled fun x => { x with abandonRun := 10, passA := true, passB := true }
     lives s = true ∧ 10 ≤ (s.tile 0).abandonRun ∧ s.passed 0 false = true) := by decide +kernel

theorem witness_ProbesLearningRunsAndCapture :
    serves (up []) = true ∧ bit (1 : Word) 0 = true ∧ bit (1 : Word) 1 = false ∧ bit (2 : Word) 1 = true ∧ bit (2 : Word) 0 = false ∧
    (let s := tiled fun x => { x with learn := some ⟨0, 0, 0, [], [], []⟩ }
     serves s = true ∧ (s.tile 0).learn.isSome = true) := by decide +kernel

theorem witness_HeaterDriveSharesUpdatesAndChecks :
    (10 ≤ 200 ∧ 200 % 2 = 0 ∧ 8 ≤ 16 ∧ 4 * 16 + 64 ≤ 200 ∧ HtrCh.reset.acc < max 1 16 ∧ HtrCh.reset.active < 65_536) ∧
    ((up []).countMode 0 0 = false ∧ (upf [(R.TILE_PW_BCTL_MODE 0 0, 1)]).countMode 0 0 = true) ∧
    (let s := { up [] with drv.banks := [(0, { HtrBank.reset with runs := true })] }
     lives s = true ∧ (s.pwb 0 0).runs = true ∧ s.drv.off = false ∧ (s.pwb 0 0).offDue = false) ∧
    (let s := { upf [(R.TILE_PW_BCTL_MODE 0 0, 1), (whole (R.TILE_PW_USET 0 0 0), 1)] with
                drv.banks := [(0, { HtrBank.reset with runs := true, armed := some (100, 3), age := 1_023 })] }
     lives s = true ∧ (s.pwb 0 0).armed.isSome = true ∧ (s.pwb 0 0).runs = true ∧ 1_023 ≤ (s.pwb 0 0).age + (s.updatePoint 0 0).2 ∧
     s.topDue 0 0 (s.updatePoint 0 0).1 = false) ∧ bit (0x8000_0000 : Word) 31 = true := by decide +kernel

theorem witness_MonitorSequencesTriggersAndAnchor :
    bit (2 : Word) 1 = true ∧ bit (1 : Word) 0 = true ∧
    (let s := { upf [(R.TILE_MC_STS_SPARE_OK 0, 1)] with tiles := [(0, { TileSt.reset with rotFrames := 65_535 })] }
     lives s = true ∧ s.flag (R.TILE_MC_STS_SPARE_OK 0) = true ∧ s.get (R.TILE_MC_ROT_ROT_FRAMES 0) ≤ (s.tile 0).rotFrames) ∧
    (let s := upf [(R.TILE_MC_SYNC_CFG_EN, 1)]
     lives s = true ∧ s.flag R.TILE_MC_SYNC_CFG_EN = true) ∧
    (let s := tiled fun x => { x with anchor := some 9 }
     lives s = true ∧ (s.tile 0).anchor = some 9) := by decide +kernel

theorem witness_ReadoutsPostCorrectedSamples :
    (let s := tiled fun x => { x with seqRun := [0], seqList := [0x8000_0004], seqSlices := List.range 12 }
     lives s = true ∧ s.position 0 = some 0) ∧
    (let s := tiled fun x => { x with seqRun := [16], seqList := [], seqSlices := List.range 12 }
     lives s = true ∧ s.position (if false then 9 else 0) = some 16) ∧
    (let s := elemed fun x => x
     (s.elem (4_096 * 0 + 1 / 2)).since + 100 ≤ 200 ∧ bit (0x0800_0000 : Word) 27 = true) := by decide +kernel

/-- READY with a lit circuit under its loss check and a tap sample on each side. -/
def tapped : State :=
  let t : TileSt := { TileSt.reset with taps := [(0, 0x03E8_0000)], tapWin := [(16, 1_000, 2_000, 0)] }
  { cirs [(0, { Ctx.idle with state := Cs.lit, route := some 0, check := some (0, 3) })] with
    tiles := [(0, t), (9, t)], t := 2_000 * 2 ^ 32 }

/-- The hypotheses of the loss check meet wherever the tap constant of the input port, a free value, leaves its reading at −30 dBm or above. -/
theorem witness_ReadoutsPostCorrectedSamples_loss (hf : ∀ pi, tapped.tapPower 0 = some pi → -3_000 ≤ pi) : ∃ pi : Int,
    let s := tapped
    let c := s.ctx 0
    c.check = some (0, 3) ∧ s.tapWindow 0 = some (1_000, 2_000, 0) ∧ s.tapWindow 1_024 = some (1_000, 2_000, 0) ∧ s.litNow 0 c = true ∧
    s.tapWhole 0 c (1_000, 2_000, 0) = true ∧ 0 ≤ s.now ∧ s.now ≤ 0 + 10_000_000 ∧ s.tapPower 0 = some pi ∧ -3_000 ≤ pi := by
  obtain ⟨pi, h⟩ := Option.isSome_iff_exists.1 (show (tapped.tapPower 0).isSome = true by decide +kernel)
  exact ⟨pi, by decide +kernel, by decide +kernel, by decide +kernel, by decide +kernel, by decide +kernel, by decide +kernel, by decide +kernel, h, hf pi h⟩

/-- A quick recalibration of a tile at a step. -/
def recal0 (step : Nat) : Recal := ⟨false, step, 0, 0, 0, 0, none, none, [], [], 0⟩

theorem witness_RecalibrationRunsItsSteps :
    (let s := { upf [(R.CAL_CTL_ENABLE, 1)] with cal.lastDone := [(0, 5)] }
     lives s = true ∧ Tbl.look s.cal.lastDone 0 = some 5 ∧ s.flag R.CAL_CTL_ENABLE = true ∧ s.ctrlUp = true ∧ 0 ∉ s.cal.queue ∧ s.recalOf 0 = none ∧
     s.flag R.CAL_SWEEP_RUN = false) ∧
    (let s := { upf [(R.CAL_CTL_CAL_PAR, 1)] with cal.queue := [4] }
     lives s = true ∧ s.hubIn = true ∧ s.flag R.THM_STS_SHUTDOWN = false ∧ s.cal.queue = 4 :: [] ∧
     (s.cal.recal.filter fun x => !x.2.full).length < s.get R.CAL_CTL_CAL_PAR ∧ s.recalOf 4 = none) ∧
    (let s := { up [] with cal.recal := [(0, recal0 1)] }
     lives s = true ∧ s.hubIn = true ∧ s.recalOf 0 = some (recal0 1) ∧ s.fab.trans = []) ∧
    (let s := { up [] with cal.recal := [(0, recal0 3)] }
     lives s = true ∧ s.ctrlUp = true ∧ s.recalOf 0 = some (recal0 3) ∧ (recal0 3).step = 3 ∧ (recal0 3).part < 16 ∧ (recal0 3).started = none) := by
  decide +kernel

theorem witness_CalibrationCommandsAreChecked :
    serves (up []) = true ∧ bit (1 : Word) 0 = true ∧ bit (4 : Word) 2 = true ∧
    (let s := tiled fun x => { x with tblWait := [(2, 9)] }
     Tbl.look (s.tile 0).tblWait 2 = some 9 ∧ ∀ x, x ∈ (s.tile 0).tblWait → ∀ y, y ∈ (s.tile 0).tblWait → x.1 = y.1 → x = y) := by decide +kernel

theorem witness_ThrottleLevelFollowsTheSources :
    lives (up []) = true ∧ (up []).ctrlUp = true ∧ (let s := upf [(R.THM_STS_LEVEL, 2)]; 1 ≤ s.level ∧ s.level ≤ 4) := by decide +kernel

theorem witness_TelemetryShowsWhatTheTenantMaySee :
    (let v : Prov := ⟨.circuit 0, true, false, 0, 0, 0, 0, false⟩
     let s := (cirs [(0, { Ctx.idle with state := Cs.pending, tenant := 3 })]).setElem 0 { Elem.reset with prov := some v }
     (s.elem 0).prov = some v ∧ v.source = .circuit 0 ∧ 3 ≠ 0) := by decide +kernel

theorem witness_RegisterAndEventOpcodesAct : lives mbx = true ∧ 0x1FFF ∉ knownOpcodes ∧ (mbx.admitted (opUnknown 0x2FFF) (req 0x2FFF [])).isSome = true := by
  decide +kernel

theorem witness_RegisterAccessesFollowTheirTypes :
    (let fs := fieldsAt R.GLB_WDT
     (∀ f, f ∈ fs → f.lo ≤ f.hi ∧ f.hi < 32) ∧ fs.Pairwise (fun f g => f.hi < g.lo ∨ g.hi < f.lo) ∧ (regRow R.GLB_WDT).isSome = true) ∧
    mapped R.GLB_WDT = true ∧ mapped 0x3 = false ∧ serves (up []) = true := by decide +kernel

theorem witness_FirmwareChangesRunInSteps :
    (let x : FwChange := ⟨1, 4_096, ⟨0, 0⟩, false, mreq, true⟩
     let s := { up [] with svc.fw := some x }
     lives s = true ∧ s.ctrlUp = true ∧ s.svc.fw = some x ∧ x.step ≠ 3) ∧
    (let x : FwChange := ⟨3, 4_096, ⟨2, 1⟩, false, mreq, true⟩
     let s := { up [] with svc.fw := some x }
     lives s = true ∧ s.hubIn = true ∧ s.svc.fw = some x ∧ x.step = 3 ∧ s.tm.step = none) ∧
    (let s := { up [] with svc.keptSince := some 5 }
     lives s = true ∧ s.svc.keptSince = some 5 ∧ s.svc.fw = none) ∧
    (let s := upf [(R.GLB_FW_0_STBY_READY, 0)]
     lives s = true ∧ s.ctrlUp = true ∧ s.svc.keptSince = none ∧ s.svc.fw = none ∧ s.flag R.GLB_FW_0_STBY_READY = false) := by decide +kernel

theorem witness_ServiceCommandsAct :
    serves (up []) = true ∧ bit (1 : Word) 0 = true ∧ bit (2 : Word) 1 = true ∧ (up []).hubIn = true ∧ (up []).get R.GLB_BOOT_STAGE = 6 := by decide +kernel

theorem witness_JtagLoadsWhatTheStageAllows :
    State.reset.svc.resetAt = none ∧ State.reset.get R.GLB_BOOT_STAGE = 0 ∧ (up []).get R.GLB_BOOT_STAGE = 6 := by decide +kernel

theorem witness_FailedEnginesAreReplaced :
    (let s := up []
     lives s = true ∧ s.hubIn = true ∧ s.get (R.TILE_OWNER_OWNER 5) = 0 ∧ s.get (R.GLB_ENG_STATE 5) = 0 ∧ s.svc.spare0 = none) ∧
    (let s := { up [] with svc.fence := [(5, 1)] }
     lives s = true ∧ Tbl.look s.svc.fence 5 = some 1) ∧
    (let s := upf [(R.GLB_ENG_STATE 5, 1), (R.GLB_ENG_HEALTHY 5, 1)]
     serves s = true ∧ s.get (R.GLB_ENG_STATE 5) = 1 ∧ s.flag (R.GLB_ENG_HEALTHY 5) = true) ∧
    (let s := { up [] with svc.engTest := [(5, 9)] }
     lives s = true ∧ Tbl.look s.svc.engTest 5 = some 9) := by decide +kernel

theorem witness_CellsAndMemoryFaultsAreHandled :
    (let s := upf [(R.MEM_STS_CH_OK, 3)]
     lives s = true ∧ s.get R.MEM_STS_CH_OK / 2 ^ 1 % 2 = 1) ∧ serves (up []) = true ∧ bit (8 : Word) 3 = true := by decide +kernel

theorem witness_HoldoverAndFailoverFreezes :
    (lives (up []) = true ∧ (up []).svc.refLost = false) ∧
    (let s := { up [] with svc.refLost := true }
     lives s = true ∧ s.svc.refLost = true) ∧
    (let s := { up [] with svc.holdover := [(3, 50)] }
     lives s = true ∧ (3, 50) ∈ s.svc.holdover ∧ ∀ y, y ∈ s.svc.holdover → 50 ≤ y.2) ∧
    (let s := { upf [(R.GLB_STS_HO_FROZEN, 1), (R.TIME_STS_REF_OK, 1)] with svc.refGoodSince := some 5 }
     lives s = true ∧ s.svc.refGoodSince = some 5 ∧ s.flag R.GLB_STS_HO_FROZEN = true ∧ s.hubIn = true ∧ s.flag R.TIME_STS_REF_OK = true) ∧
    (let s := { up [] with svc.freezeEnd := some 5 }
     lives s = true ∧ s.svc.freezeEnd = some 5 ∧ s.evt.tileQ = []) := by decide +kernel

/-- A boot image of version `v`. -/
def boot (v : Nat) : BootImage := ⟨true, true, v, 0, 4_096⟩

/-- The module released, at a boot stage. -/
def booting (stage : Nat) (runs : Bool) : State := { State.reset with svc.por := true, svc.fwRuns := runs }.put R.GLB_BOOT_STAGE stage

theorem witness_ColdStartChoosesTheImage :
    State.reset.svc.resetAt = none ∧ State.reset.svc.por = false ∧ (lives (booting 0 false) = true ∧ (booting 0 false).get R.GLB_BOOT_STAGE = 0) ∧
    (lives (booting 1 false) = true ∧ (booting 1 false).get R.GLB_BOOT_STAGE = 1 ∧ (booting 1 false).svc.ctrlReset = false) := by decide +kernel

theorem witness_StartUpRestoresAndProves :
    (let s := booting 1 false
     lives s = true ∧ s.get R.GLB_BOOT_STAGE = 1 ∧ s.svc.ctrlReset = false ∧ s.flag R.MEM_CTL_ENABLE = false ∧ s.rd R.MEM_CTL = resetWord R.MEM_CTL ∧
     (s.nv.config.all fun c => c.regs.all fun e => saved e.1) = true ∧ s.evt.tileQ = []) ∧
    (∀ k, k ∈ [2, 3, 4] → lives (booting k true) = true ∧ (booting k true).get R.GLB_BOOT_STAGE = k ∧ (booting k true).svc.fwRuns = true) := by
  decide +kernel

theorem witness_ControlResetsKeepTheFabric :
    (let s := up []
     lives s = true ∧ s.ctrlUp = true ∧ s.svc.freezeEnd = none ∧ s.get R.GLB_BOOT_STAGE = 6 ∧ s.svc.ctrlReset = false) ∧
    (upf [(R.GLB_FW_0_STBY_READY, 1)]).flag R.GLB_FW_0_STBY_READY = true ∧ (upf [(R.GLB_FW_0_STBY_READY, 0)]).flag R.GLB_FW_0_STBY_READY = false ∧
    ({ up [] with svc.resetAt := some (9, 3) } : State).svc.resetAt = some (9, 3) := by decide +kernel

theorem witness_RestartAndPowerFailure :
    (let s := { up [] with svc.ctrlReset := true }
     lives s = true ∧ s.svc.ctrlReset = true ∧ s.get R.GLB_BOOT_STAGE = 6 ∧ s.svc.freezeEnd = none) := by decide +kernel

theorem witness_StepsTakeOneCommandAtATime :
    ((up []).pending = [] ∧ lives (up []) = true) ∧ State.reset.svc.por = false ∧ State.reset.svc.resetAt = none ∧
    Instr.refclkLoss ≠ .coldReset 0 ∧ Instr.refclkLoss ≠ .porRelease [] ∧ Instr.refclkLoss ≠ .jtagInstruction .idcode := by decide +kernel

theorem witness_StatusBitsAndPinsAlwaysAgree : ∃ t, step (up []) = .next t := ⟨_, rfl⟩

/-! ## One command, with the results of the manual -/

/-- The state after one command. -/
def after (i : Instr) (s : State) : State := match exec i s with
  | .next t => t
  | .fault _ => s
  | .refused _ => s

/-- R11: the example that locates `TILE_LP_STS` of tile 13. -/
theorem test_register_of_tile_13 : R.TILE_LP_STS 13 = 0x01D1_0040 := by decide

/-- R20 to R23: the example path from input 5 to output 700, route word 0xA_F000. -/
theorem test_path_example : (path 5 0xA_F000).map (·.line) = [4, 4, 4, 4, 4, 4, 4, 4, 0, 0, 0, 0, 4, 12, 28, 60, 60, 188, 188, 700] ∧
    (path 5 0xA_F000).map (fun h => h.pos % 512) = [2, 4, 4, 4, 4, 4, 4, 4, 0, 0, 0, 0, 0, 4, 12, 28, 60, 60, 188, 188] ∧
    (path 5 0xA_F000).map (·.cross) = [true, false, false, false, false, false, false, false, true, false, false, false, true, true, true, true,
      false, true, false, true] ∧ routeOf 700 0 = 0xA_F000 := by decide +kernel

/-- R26: the splitter and combiner of its stages 8 and 19. -/
theorem test_path_elements : 16_385 ∈ pathAll (path 5 0xA_F000) ∧ 16_386 ∈ pathAll (path 5 0xA_F000) ∧ 39_664 ∈ pathAll (path 5 0xA_F000) ∧
    80_624 ∈ pathAll (path 5 0xA_F000) ∧ tileOf 80_624 = 19 := by decide +kernel

/-- R125: the last multiple before the wrap is no grid point, and the frame before it ends at schedule time 0. -/
theorem test_grid_at_the_wrap : isGrid 50_000 281_474_976_700_000 = false ∧ isGrid 50_000 281_474_976_650_000 = true ∧
    gridFrom 50_000 281_474_976_650_001 = 2 ^ 48 := by decide +kernel

/-- R238: the example of one dither step gives err = −656 LPU. -/
theorem test_dither_example :
    let r (w u : Int) : Int := roundDiv (u * 2 ^ 32) (w * 64 + u)
    demodulate 262 (2 ^ 48 - expNeg 50_000 80_000) false (r 19_993 444) (r 19_997 209) = -656 ∧ roundDiv (2_048 * -656) 4_096 = -328 ∧
    roundDiv (1_024 * -656) 4_096 = -164 := by decide +kernel

/-- R289 to R293: the example pair near the end of its span, DUTY 0x00B0, over its first dither cycle. -/
theorem test_heater_example :
    let x : HtrCh := { HtrCh.reset with active := 0x00B0 }
    let s := upf [(R.TILE_PW_BSTS_TOP_USE 4 0, 250), (R.TILE_PW_BTIM_DEAD 4 0, 8), (R.TILE_PW_BTIM_MINP 4 0, 4)]
    (List.range 16).map (s.widthA 4 0 x) = [2, 1, 2, 1, 2, 1, 1, 1, 2, 1, 1, 1, 2, 1, 1, 1] ∧
    (((List.range 16).foldl (fun (b : HtrCh × List (Nat × Nat × Nat)) p =>
      let w := windowOf b.1 (s.widthA 4 0 b.1 p) (s.onTime 4 0) (s.dead 4 0) (s.wMin 4 0)
      (w.ch, b.2 ++ [(w.ch.wA, w.ch.acc, w.ch.wB)])) (x, [])).2 =
      [(0, 2, 484), (0, 3, 484), (0, 5, 484), (0, 6, 484), (8, 0, 476), (0, 1, 484), (0, 2, 484), (0, 3, 484), (0, 5, 484), (0, 6, 484), (0, 7, 484),
       (8, 0, 476), (0, 2, 484), (0, 3, 484), (0, 4, 484), (0, 5, 484)]) := by decide +kernel

/-- R338, R340: the reset sequence of tile 0 with its taps fits a period of 50 µs and not one of 25 µs. -/
theorem test_sequence_budget :
    let s := upf [(R.TILE_MC_TAP_CFG_TAP_EN 0, 1)]
    let l := (List.range 16).map fun k => resetWord (R.TILE_MC_SEQ 0 k)
    s.seqFits 0 l 2 = true ∧ s.seqFits 0 l 1 = false ∧ readTime 12 = 5_500 := by decide +kernel

/-- R531: the identification code of the JTAG port. -/
theorem test_jtag_idcode : (after (.jtagInstruction .idcode) State.reset).svc.jtagDr = 0x1102_4F79 := by decide +kernel

/-- R499, R501: the rise of POR_N, then slot A taken where both are valid and equal, and slot B where it is newer. -/
theorem test_boot_slots : (after (.porRelease []) State.reset).svc.por = true ∧
    (after (.bootRom (boot 7) (boot 7)) (booting 0 false)).get R.GLB_BOOT_SLOT = 0 ∧
    (after (.bootRom (boot 7) (boot 8)) (booting 0 false)).get R.GLB_BOOT_SLOT = 1 := by decide +kernel

/-- R501: with no valid image the boot ROM halts with 0x0D03. -/
theorem test_boot_no_image :
    let t := after (.bootRom { boot 7 with sigOk := false } { boot 7 with wellFormed := false }) (booting 0 false)
    t.get R.GLB_BOOT_STAGE = 7 ∧ t.get R.GLB_BOOT_CODE = 0x0D03 := by decide +kernel

/-- R117, R121: an increment of 1 is refused with 0x0403; nominal is taken. -/
theorem test_increment_range : (after (.timeIncCommit 1) ({ up [] with tm.heldHi := some 0 })).get R.TIME_STS_REFUSE = 0x0403 ∧
    (after (.timeIncCommit 5) (up [])).rd R.TIME_INC_LO = 5 := by decide +kernel

/-- R47: an IN_GUARD of 9.9 dBm is refused with 0x0A01, and one of 10.0 dBm taken. -/
theorem test_guard_range : (after (.guardCfgWrite 99) (up [])).get R.TILE_FD_GUARD_REFUSE_REFUSE = 0x0A01 ∧
    (after (.guardCfgWrite 100) (up [])).get R.TILE_FD_GUARD_CFG_IN_GUARD = 100 := by decide +kernel

/-- R166: GB_SET below 1.0 µs is refused with 0x0304. -/
theorem test_guard_band_range : (after (.epoGbWrite 999) (up [])).get R.EPO_CTL_REFUSE = Code.SCH_GB_RANGE ∧
    (after (.epoGbWrite 5_000) (up [])).get R.EPO_GB_GB_SET = 5_000 := by decide +kernel

/-- R16, R538: a read where no register lies returns 0. -/
theorem test_access_error : (after (.accessError false 0x7F_FFFC) { up [] with bus := 9 }).bus = 0 ∧
    (after (.accessError false R.GLB_WDT) { up [] with bus := 9 }).bus = 9 := by decide +kernel

/-- R417: the reply to MNT_IDENTITY begins with the part name. -/
theorem test_identity : ((after (.mntIdentity (req 0x7001 [])) mbx).cmd.sent.map fun x => (x.msg.code, x.msg.params.take 8)) =
    [(0, [0x5A, 0x4D, 0x31, 0x30, 0x32, 0x34, 0, 0])] := by decide +kernel

/-- R323: 170 µs after an open pulse a latch sensed OPEN is OPEN. -/
theorem test_latch_opens :
    let t := after (.latchOpenSense false 3 0) ((cirs [(0, { Ctx.idle with state := Cs.placed, input := 3 })]).setPort 3
      { Port.reset with lstate := 1, pulse := some 1_000 })
    (t.port 3).lstate = 2 ∧ t.now = 171_000 := by decide +kernel

/-- R404: a SEQ seen is a replay, and one below the window is dropped. -/
theorem test_replay_window :
    let x : Session := ⟨1, 1, 77, 40, [40, 38], 10, 0, 1, 5000, [], [], 0⟩
    (x.judge 32 41, x.judge 32 39, x.judge 32 38, x.judge 32 8) = (.accept, .accept, .replay, .drop) := by decide +kernel

/-- R499: with POR_N low a loss of REFCLK has no effect. -/
theorem test_por_low : (after .refclkLoss State.reset).svc.refLost = false ∧ (after .refclkLoss (up [])).svc.refLost = true := by decide +kernel

/-- R512: PFAIL_N low for 0.9 µs has no effect. -/
theorem test_short_power_fail : (after (.powerFail 900 false) (up [])).get R.GLB_BOOT_STAGE = 6 := by
  decide +kernel

/-- A step takes the command in front of the queue. -/
theorem test_step_takes_the_front : ∃ t, step { up [] with pending := [.refclkLoss, .refclkReturn] } = .next t ∧ t.pending = [.refclkReturn] ∧
    t.svc.refLost = true := ⟨_, rfl, by decide +kernel, by decide +kernel⟩

end Sys2Proof.Tests
end

section
/-!
PROOFS. Facts about tables that are filtered by key.
-/
namespace Sys2Proof

/-- A table filtered by key reads as before at the keys kept. -/
theorem Tbl.look_filter {α : Type} (p : Nat → Bool) (m : List (Nat × α)) (k : Nat) :
    Tbl.look (m.filter fun e => p e.1) k = if p k then Tbl.look m k else none := by
  induction m with
  | nil => simp
  | cons x r ih =>
    obtain ⟨j, v⟩ := x
    by_cases hj : j = k
    · subst hj
      cases hp : p j <;> simp [hp, Tbl.look, ih]
    · cases hp : p j <;> simp [hp, Tbl.look, ih, hj]

end Sys2Proof
end

section
/-!
PROOFS. Facts that the proofs below share: how a command runs, how fields read, what `State.Touches` gives, and folds of updates.
-/
namespace Sys2Proof.Machine

/-! ## Running a command -/

theorem State.resetDue_none {s : State} (h : s.svc.resetAt = none) : s.resetDue = s := by simp [State.resetDue, h]

theorem leaves_run {s : State} {i : Instr} {P : State → Prop} (f : State → State) (hi : exec i s = run f s) (h : s.svc.resetAt = none)
    (hp : P (f s)) : Leaves i s P := ⟨f s, by rw [hi, run, State.resetDue_none h], hp⟩

/-! ## Registers -/

/-- A field reads the value put into it where the value fits. -/
theorem State.get_put_fits (s : State) (f : Fld) (v : Nat) (h : f.ok) (hv : v < 2 ^ (f.hi + 1 - f.lo)) : (s.put f v).get f = v := by
  rw [State.get_put_self s f v h, Nat.mod_eq_of_lt hv]

theorem State.get_with_svc (s : State) (x : SvcSt) (f : Fld) : { s with svc := x }.get f = s.get f := rfl

theorem State.get_count_self (s : State) (f : Fld) (h : f.ok) : (s.count f).get f = satInc (f.hi + 1 - f.lo) (s.get f) := by
  have hlt : satInc (f.hi + 1 - f.lo) (s.get f) < 2 ^ (f.hi + 1 - f.lo) :=
    lt_of_le_of_lt (min_le_right _ _) (Nat.sub_lt (by positivity) one_pos)
  rw [State.count, State.get_put_self s f _ h, Nat.mod_eq_of_lt hlt]

theorem State.get_count_apart (s : State) (f g : Fld) (h : f.ok) (hg : g.ok) (ha : f.apart g) : (s.count f).get g = s.get g :=
  State.get_put_apart s f g _ h hg ha

theorem State.get_congr {s t : State} (h : t.regs = s.regs) (f : Fld) : t.get f = s.get f := by
  unfold State.get State.rd
  rw [h]

theorem whole_ok (a : Nat) : (whole a).ok := ⟨Nat.zero_le _, Nat.lt_succ_self 31⟩

/-! ## Parts of the state -/

theorem State.port_congr {s t : State} (h : t.fab = s.fab) (k : Nat) : t.port k = s.port k := by
  unfold State.port
  rw [h]

theorem State.tile_congr {s t : State} (h : t.tiles = s.tiles) (n : Nat) : t.tile n = s.tile n := by
  unfold State.tile
  rw [h]

theorem Part.same_trans {p : Part} {a b c : State} (h : p.same a b) (g : p.same b c) : p.same a c := by
  cases p <;> simp only [Part.same] at h g ⊢
  case cmd => rw [g, h]
  case recorder =>
    obtain ⟨he, hf⟩ := h
    rw [← he, ← hf]
    exact g
  all_goals exact g.trans h

theorem State.Touches.same {s t : State} {ps : List Part} {rs : List Nat} (h : s.Touches t ps rs) (p : Part) (hp : p ∉ ps) : p.same s t := by
  obtain ⟨-, hsame, -⟩ := h
  exact hsame p hp

theorem State.Touches.get {s t : State} {ps : List Part} {rs : List Nat} (h : s.Touches t ps rs) {f : Fld} (hr : f.addr ∉ rs)
    (he : ¬ evtReg f.addr) : t.get f = s.get f := by
  obtain ⟨-, -, hrd⟩ := h
  rw [State.get, State.get, hrd _ hr fun c => he c.2]

theorem State.Touches.flag {s t : State} {ps : List Part} {rs : List Nat} (h : s.Touches t ps rs) {f : Fld} (hr : f.addr ∉ rs)
    (he : ¬ evtReg f.addr) : t.flag f = s.flag f := by rw [State.flag, State.flag, h.get hr he]

theorem State.Touches.with_svc_evt (s : State) (x : SvcSt) (y : EvtSt) : s.Touches { s with svc := x, evt := y } [.svc, .recorder] [] :=
  (State.Touches.with_svc s x (.head _)).trans (.with_evt { s with svc := x } y (.tail _ (.head _)))

theorem State.Touches.setPort (s : State) (k : Nat) (x : Port) {ps : List Part} {rs : List Nat} (h : Part.fab ∈ ps) :
    s.Touches (s.setPort k x) ps rs := State.Touches.with_fab s _ h

theorem State.Touches.setTile (s : State) (t : Nat) (x : TileSt) {ps : List Part} {rs : List Nat} (h : Part.tiles ∈ ps) :
    s.Touches (s.setTile t x) ps rs := State.Touches.with_tiles s _ h

/-! ## Folds -/

/-- An update made item by item touches what each item touches. -/
theorem State.Touches.foldl {α : Type} {f : State → α → State} {ps : List Part} {rs : List Nat} {l : List α}
    (h : ∀ (s : State) a, a ∈ l → s.Touches (f s a) ps rs) (s : State) : s.Touches (l.foldl f s) ps rs :=
  List.foldlRecOn l f (motive := fun t => s.Touches t ps rs) (.refl s ps rs) fun t ht a ha => ht.trans (h t a ha)

/-- Updates item by item, each of one port, leave the port that no item names. -/
theorem State.foldl_port_other {α : Type} {f : State → α → State} {key : α → Nat} {j : Nat} {l : List α}
    (h : ∀ s a, j ≠ key a → (f s a).port j = s.port j) (hj : ∀ a, a ∈ l → j ≠ key a) (s : State) : (l.foldl f s).port j = s.port j :=
  List.foldlRecOn l f (motive := fun t => t.port j = s.port j) rfl fun t ht a ha => (h t a (hj a ha)).trans ht

/-- What each item of a fold establishes for itself and no item undoes holds of every item at the end. -/
theorem foldl_establishes {α σ : Type} {f : σ → α → σ} {P : α → σ → Prop} (own : ∀ s a, P a (f s a))
    (kept : ∀ s a b, P b s → P b (f s a)) {l : List α} {a : α} (ha : a ∈ l) (s : σ) : P a (l.foldl f s) := by
  induction l generalizing s with
  | nil => cases ha
  | cons b r ih =>
    rcases List.mem_cons.1 ha with rfl | hr
    · exact List.foldlRecOn r f (motive := P a) (own s a) fun t ht b _ => kept t b a ht
    · exact ih hr _

end Sys2Proof.Machine
end

section
/-!
PROOFS. One step (O58), and the state after reset (O59).
-/
namespace Sys2Proof.Machine

/-- An effect that POR_N low holds back (R3, R499). -/
def HeldByPor (g : State → State) : Prop := ∀ s : State, s.svc.por = false → g s = s

@[simp] theorem heldByPor_live (f : State → State) : HeldByPor (live f) := fun s h => by simp [live, h]

@[simp] theorem heldByPor_viaBar (f : State → State) : HeldByPor (viaBar f) := fun s h => by simp [viaBar, State.ctrlUp, h]

/-- Every command but a cold reset, a release of POR_N and the JTAG port runs an effect that POR_N low holds back. -/
theorem exec_heldByPor (i : Instr) (hc : ∀ n, i ≠ .coldReset n) (hp : ∀ l, i ≠ .porRelease l) (hj : ∀ j, i ≠ .jtagInstruction j) :
    ∃ g, HeldByPor g ∧ ∀ s, exec i s = run g s := by
  cases i
  case coldReset n => exact absurd rfl (hc n)
  case porRelease l => exact absurd rfl (hp l)
  case jtagInstruction j => exact absurd rfl (hj j)
  all_goals
    refine ⟨_, ?_, fun _ => rfl⟩
    simp

theorem step_idle {s : State} (hq : s.pending = []) (h : s.Live) : step s = .next s.tick.settle := by
  rw [step, hq]
  exact run_live State.tick h

/-- Settles O58: a step by its two cases, and POR_N low by `exec_heldByPor`. -/
theorem stepsTakeOneCommandAtATime : Obligations.StepsTakeOneCommandAtATime := by
  refine ⟨⟨fun _ _ _ => rfl, fun s hq hs => step_idle hq hs⟩, fun s i hpor hres hc hp hj => ?_⟩
  obtain ⟨g, hg, hi⟩ := exec_heldByPor i hc hp hj
  rw [hi, run, State.resetDue_none hres, hg s hpor]

/-! ## The state after reset -/

theorem State.reset_pinsAgree : State.reset.PinsAgree where
  bivouac := by decide +kernel
  cause := by decide +kernel
  holdover := by decide +kernel
  running := by decide +kernel
  alert := by decide +kernel
  pps := by rintro n ⟨⟩
  epochOut := by rintro x ⟨⟩
  syncOut := by rintro x ⟨⟩

theorem State.reset_tileOwner : ∀ n, n < 20 → State.reset.tileOwner n = 0 := by decide +kernel

/-- Settles O59: every store of the reset state is empty, so each reading is what an unlisted entry reads as. -/
theorem resetStateIsCold : Obligations.ResetStateIsCold := by
  refine ⟨rfl, rfl, rfl, fun _ => rfl, fun _ => rfl, fun _ => rfl, rfl, rfl, rfl, rfl, rfl, ?_, ?_, ?_, ?_, ?_, ?_, ?_, ?_,
    State.reset_tileOwner, State.reset_pinsAgree⟩ <;> decide +kernel

end Sys2Proof.Machine
end

section
/-!
PROOFS. The boot ROM and its watchdog (R500 to R503): how a slot is judged, which image boots, and what a boot leaves.
-/
namespace Sys2Proof

/-! ## Boot images -/

/-- A slot whose header is well formed (R500). -/
def BootImage.Formed (b : BootImage) : Prop :=
  b.wellFormed = true ∧ 1 ≤ b.imgVer ∧ b.imgVer ≤ 65_535 ∧ b.arbVer ≤ 255 ∧ 4_096 ≤ b.len ∧ b.len ≤ 16_777_216

/-- The code with which the boot ROM refuses a formed slot that it cannot take (R501). -/
def BootImage.refusal (b : BootImage) : Nat := if b.sigOk then Machine.Code.BOOT_ROLLBACK else Machine.Code.BOOT_SIG_FAIL

end Sys2Proof

namespace Sys2Proof.Machine

theorem State.judgeSlot_of_not_formed (s : State) {b : BootImage} (h : ¬ b.Formed) : s.judgeSlot b = .empty := by
  unfold State.judgeSlot
  rw [if_pos]
  simp only [Bool.or_eq_true, Bool.not_eq_true', beq_iff_eq, decide_eq_true_eq]
  by_contra hn
  simp only [not_or, Bool.not_eq_false] at hn
  obtain ⟨⟨⟨⟨⟨hw, h0⟩, h1⟩, h2⟩, h3⟩, h4⟩ := hn
  exact h ⟨hw, by omega, by omega, by omega, by omega, by omega⟩

theorem State.judgeSlot_of_formed (s : State) {b : BootImage} (h : b.Formed) : s.judgeSlot b =
    if b.sigOk = false then .refused Code.BOOT_SIG_FAIL else if b.arbVer < s.nv.arbMin then .refused Code.BOOT_ROLLBACK
    else .valid ⟨b.imgVer, b.arbVer⟩ := by
  obtain ⟨hw, h1, h2, h3, h4, h5⟩ := h
  unfold State.judgeSlot
  rw [if_neg]
  · simp
  · simp [hw, h2, h3, h4, h5, Nat.ne_of_gt h1]

/-- A slot that the boot ROM takes: formed, signed, and not below the anti-rollback minimum (R501, R503). -/
def State.Bootable (s : State) (b : BootImage) : Prop := b.Formed ∧ b.sigOk = true ∧ s.nv.arbMin ≤ b.arbVer

theorem State.judgeSlot_of_bootable {s : State} {b : BootImage} (h : s.Bootable b) : s.judgeSlot b = .valid ⟨b.imgVer, b.arbVer⟩ := by
  obtain ⟨hf, hs, hm⟩ := h
  simp [s.judgeSlot_of_formed hf, hs, Nat.not_lt.2 hm]

/-- A slot that is not bootable is refused with a code where it is formed, and counts as empty where it is not. -/
theorem State.judgeSlot_of_not_bootable {s : State} {b : BootImage} (h : ¬ s.Bootable b) :
    (b.Formed ∧ s.judgeSlot b = .refused (b.refusal)) ∨ (¬ b.Formed ∧ s.judgeSlot b = .empty) := by
  by_cases hf : b.Formed
  · refine .inl ⟨hf, ?_⟩
    rw [s.judgeSlot_of_formed hf, BootImage.refusal]
    cases hs : b.sigOk
    · rfl
    · have : b.arbVer < s.nv.arbMin := Nat.lt_of_not_le fun hm => h ⟨hf, hs, hm⟩
      simp [this]
  · exact .inr ⟨hf, s.judgeSlot_of_not_formed hf⟩

/-! ## The image that boots -/

/-- What the boot ROM records of a slot it has not taken: the code of a refusal, else 0. -/
def Slot.code : Slot → Nat
  | .refused c => c
  | _ => 0

/-- Whether the boot ROM has refused a slot. -/
def Slot.isRefused : Slot → Bool
  | .refused _ => true
  | _ => false

theorem State.judgeSlot_of_refused {s : State} {b : BootImage} (h : b.Formed ∧ ¬ s.Bootable b) : s.judgeSlot b = .refused b.refusal := by
  obtain ⟨hf, hb⟩ := h
  rcases State.judgeSlot_of_not_bootable hb with ⟨-, hj⟩ | ⟨hn, -⟩
  · exact hj
  · exact absurd hf hn

/-- A slot that is not refused leaves no code and no fallback. -/
theorem State.judgeSlot_quiet {s : State} {b : BootImage} (h : ¬ (b.Formed ∧ ¬ s.Bootable b)) :
    (s.judgeSlot b).code = 0 ∧ (s.judgeSlot b).isRefused = false := by
  by_cases hb : s.Bootable b
  · rw [State.judgeSlot_of_bootable hb]
    exact ⟨rfl, rfl⟩
  · rw [s.judgeSlot_of_not_formed fun hf => h ⟨hf, hb⟩]
    exact ⟨rfl, rfl⟩

theorem State.bootable_of_judgeSlot {s : State} {b : BootImage} {v : FwImage} (h : s.judgeSlot b = .valid v) :
    s.Bootable b ∧ v = ⟨b.imgVer, b.arbVer⟩ := by
  by_cases hb : s.Bootable b
  · rw [State.judgeSlot_of_bootable hb] at h
    exact ⟨hb, (Slot.valid.inj h).symm⟩
  · rcases State.judgeSlot_of_not_bootable hb with ⟨-, hj⟩ | ⟨-, hj⟩ <;> rw [hj] at h <;> cases h

theorem State.judgeSlot_code_lt (s : State) (b : BootImage) : (s.judgeSlot b).code < 2 ^ 16 := by
  by_cases hr : b.Formed ∧ ¬ s.Bootable b
  · rw [State.judgeSlot_of_refused hr]
    show b.refusal < 2 ^ 16
    unfold BootImage.refusal
    split <;> decide
  · rw [(State.judgeSlot_quiet hr).1]
    decide

/-- The state in which the boot ROM chooses between the slots. -/
def State.romStart (s : State) : State :=
  { s.advanceTo s.svc.rstRise with svc.ctrlReset := false, svc.bootTries := 1, fab.noOpen := false }.put R.GLB_FW_ARB_ARB_MIN s.nv.arbMin

/-- The choice between two slots as judged: the valid one of higher version, slot A when equal. -/
def State.takeImage (u : State) : Slot → Slot → State
  | .valid x, .valid y => if y.imgVer ≤ x.imgVer then u.bootFrom false x 0 false else u.bootFrom true y 0 false
  | .valid x, .refused c => u.bootFrom false x c true
  | .refused c, .valid y => u.bootFrom true y c true
  | .valid x, .empty => u.bootFrom false x 0 false
  | .empty, .valid y => u.bootFrom true y 0 false
  | _, _ => u.halt Code.BOOT_NO_IMAGE

theorem doBootRom_eq {s : State} (a b : BootImage) (hp : s.svc.por = true) (h : s.stage = 0 ∨ s.stage = 1 ∧ s.svc.ctrlReset = true) :
    doBootRom a b s = s.romStart.takeImage (s.judgeSlot a) (s.judgeSlot b) := by
  unfold doBootRom
  rw [if_pos (by simpa [hp] using h)]
  rfl

theorem State.takeImage_first (u : State) (x : FwImage) (j : Slot) (h : ∀ y, j = .valid y → y.imgVer ≤ x.imgVer) :
    u.takeImage (.valid x) j = u.bootFrom false x j.code j.isRefused := by
  cases j with
  | empty => rfl
  | valid y => exact if_pos (h y rfl)
  | refused c => rfl

theorem State.takeImage_second (u : State) (y : FwImage) (j : Slot) (h : ∀ x, j = .valid x → x.imgVer < y.imgVer) :
    u.takeImage j (.valid y) = u.bootFrom true y j.code j.isRefused := by
  cases j with
  | empty => rfl
  | valid x => exact if_neg (Nat.not_le.2 (h x rfl))
  | refused c => rfl

theorem State.takeImage_none (u : State) (j k : Slot) (hj : ∀ x, j ≠ .valid x) (hk : ∀ x, k ≠ .valid x) :
    u.takeImage j k = u.halt Code.BOOT_NO_IMAGE := by
  cases j with
  | valid x => exact absurd rfl (hj x)
  | empty | refused c =>
    cases k with
    | valid y => exact absurd rfl (hk y)
    | empty | refused d => rfl

/-! ## What a boot leaves -/

/-- What a boot records before the versions and the code of a refusal. -/
def State.bootMark (s : State) (slotB : Bool) (v : FwImage) (refused : Nat) (fallback : Bool) : State :=
  (({ s with svc.active := v, svc.standby := v, svc.bootRefused := refused, svc.bootStart := s.now }.put R.GLB_BOOT_STAGE 1).put R.GLB_BOOT_SLOT
    (b2n slotB)).put R.GLB_BOOT_FALLBACK (b2n fallback)

section
variable (s : State) (b : Bool) (v : FwImage) (c : Nat) (f : Bool)

theorem State.bootMark_t : (s.bootMark b v c f).t = s.t := by rw [State.bootMark, State.put_t, State.put_t, State.put_t]

theorem State.bootMark_svc :
    (s.bootMark b v c f).svc = { s.svc with active := v, standby := v, bootRefused := c, bootStart := s.now } := by
  rw [State.bootMark, State.put_svc, State.put_svc, State.put_svc]

theorem State.bootFrom_eq : s.bootFrom b v c f =
    (((if c = 0 then s.bootMark b v c f else (s.bootMark b v c f).put R.GLB_BOOT_CODE c).put R.GLB_FW_1_VER_ACT v.imgVer).put
      R.GLB_FW_1_VER_STBY v.imgVer).put R.GLB_ARB_CTL_ARB_ACT v.arbVer := rfl

theorem State.bootFrom_t : (s.bootFrom b v c f).t = s.t := by
  rw [State.bootFrom_eq, State.put_t, State.put_t, State.put_t]
  split
  · rw [State.bootMark_t]
  · rw [State.put_t, State.bootMark_t]

theorem State.bootFrom_svc : (s.bootFrom b v c f).svc = { s.svc with active := v, standby := v, bootRefused := c, bootStart := s.now } := by
  rw [State.bootFrom_eq, State.put_svc, State.put_svc, State.put_svc]
  split
  · rw [State.bootMark_svc]
  · rw [State.put_svc, State.bootMark_svc]

/-- Outside the version words a boot leaves the fields of its marks, the code of a refusal apart. -/
theorem State.bootFrom_get (g : Fld) (hg : g.ok) (h : g.apart R.GLB_BOOT_CODE ∧ g.addr ≠ R.GLB_FW_1 ∧ g.addr ≠ R.GLB_ARB_CTL) :
    (s.bootFrom b v c f).get g = (s.bootMark b v c f).get g := by
  obtain ⟨hc, h1, h2⟩ := h
  have hc' : R.GLB_BOOT_CODE.apart g := hc.imp Ne.symm Or.symm
  rw [State.bootFrom_eq, State.get_put_apart _ _ g _ (by decide) hg (.inl h2), State.get_put_apart _ _ g _ (by decide) hg (.inl h1),
    State.get_put_apart _ _ g _ (by decide) hg (.inl h1)]
  split
  · rfl
  · exact State.get_put_apart _ _ g _ (by decide) hg hc'

theorem State.bootFrom_stage : (s.bootFrom b v c f).get R.GLB_BOOT_STAGE = 1 := by
  rw [State.bootFrom_get _ _ _ _ _ _ (by decide) (by decide), State.bootMark]
  simp (disch := decide) only [State.get_put_fits, State.get_put_apart]

theorem State.bootFrom_slot : (s.bootFrom b v c f).get R.GLB_BOOT_SLOT = b2n b := by
  rw [State.bootFrom_get _ _ _ _ _ _ (by decide) (by decide), State.bootMark, State.get_put_apart _ _ _ _ (by decide) (by decide) (by decide)]
  exact State.get_put_fits _ _ _ (by decide) (by cases b <;> decide)

theorem State.bootFrom_slotFlag : (s.bootFrom b v c f).flag R.GLB_BOOT_SLOT = b := by
  rw [State.flag, State.bootFrom_slot]
  cases b <;> rfl

theorem State.bootFrom_fallback : (s.bootFrom b v c f).flag R.GLB_BOOT_FALLBACK = f := by
  rw [State.flag, State.bootFrom_get _ _ _ _ _ _ (by decide) (by decide)]
  exact State.flag_put_self _ _ f (by decide) rfl

theorem State.bootFrom_verAct (hv : v.imgVer < 2 ^ 16) : (s.bootFrom b v c f).get R.GLB_FW_1_VER_ACT = v.imgVer := by
  rw [State.bootFrom_eq, State.get_put_apart _ _ _ _ (by decide) (by decide) (by decide),
    State.get_put_apart _ _ _ _ (by decide) (by decide) (by decide)]
  exact State.get_put_fits _ _ _ (by decide) hv

theorem State.bootFrom_verStby (hv : v.imgVer < 2 ^ 16) : (s.bootFrom b v c f).get R.GLB_FW_1_VER_STBY = v.imgVer := by
  rw [State.bootFrom_eq, State.get_put_apart _ _ _ _ (by decide) (by decide) (by decide)]
  exact State.get_put_fits _ _ _ (by decide) hv

theorem State.bootFrom_arbAct (hv : v.arbVer < 2 ^ 8) : (s.bootFrom b v c f).get R.GLB_ARB_CTL_ARB_ACT = v.arbVer :=
  State.get_put_fits _ _ _ (by decide) hv

theorem State.bootFrom_arbMin : (s.bootFrom b v c f).get R.GLB_FW_ARB_ARB_MIN = s.get R.GLB_FW_ARB_ARB_MIN := by
  rw [State.bootFrom_get _ _ _ _ _ _ (by decide) (by decide), State.bootMark]
  simp (disch := decide) only [State.get_put_apart, State.get_with_svc]

theorem State.bootFrom_code (h : c < 2 ^ 16) :
    (s.bootFrom b v c f).get R.GLB_BOOT_CODE = if c = 0 then s.get R.GLB_BOOT_CODE else c := by
  rw [State.bootFrom_eq]
  simp (disch := decide) only [State.get_put_apart]
  split
  · rw [State.bootMark]
    simp (disch := decide) only [State.get_put_apart, State.get_with_svc]
  · exact State.get_put_fits _ _ _ (by decide) h

end

theorem State.halt_stage (s : State) (c : Nat) : (s.halt c).get R.GLB_BOOT_STAGE = 7 := by
  rw [State.halt, State.get_with_svc]
  simp (disch := decide) only [State.get_put_fits, State.get_put_apart]

theorem State.halt_code (s : State) {c : Nat} (h : c < 2 ^ 16) : (s.halt c).get R.GLB_BOOT_CODE = c := by
  rw [State.halt, State.get_with_svc]
  exact State.get_put_fits _ _ _ (by decide) h

theorem State.halt_t (s : State) (c : Nat) : (s.halt c).t = s.t := by rw [State.halt, State.put_t, State.put_t]

theorem State.halt_svc (s : State) (c : Nat) : (s.halt c).svc = { s.svc with fwRuns := false } := by
  rw [State.halt, State.put_svc, State.put_svc]

theorem State.halt_arbMin (s : State) (c : Nat) : (s.halt c).get R.GLB_FW_ARB_ARB_MIN = s.get R.GLB_FW_ARB_ARB_MIN := by
  rw [State.halt, State.get_with_svc]
  simp (disch := decide) only [State.get_put_apart]

theorem State.romStart_t (s : State) : s.romStart.t = max s.t (s.svc.rstRise * 2 ^ 32) := by
  rw [State.romStart, State.put_t, State.advanceTo]

theorem State.romStart_svc (s : State) : s.romStart.svc = { s.svc with ctrlReset := false, bootTries := 1 } := by
  rw [State.romStart, State.put_svc, State.advanceTo]

theorem State.romStart_code (s : State) : s.romStart.get R.GLB_BOOT_CODE = s.get R.GLB_BOOT_CODE := by
  rw [State.romStart, State.get_put_apart _ _ _ _ (by decide) (by decide) (by decide)]
  exact State.get_congr rfl _

theorem State.romStart_arbMin (s : State) : s.romStart.get R.GLB_FW_ARB_ARB_MIN = s.nv.arbMin % 65_536 := by
  rw [State.romStart, State.get_put_self _ _ _ (by decide)]
  rfl

/-- Image `x` of slot `slot` boots (R501): both groups run it, and a refused other slot leaves FALLBACK and its code. -/
def State.Boots (s t : State) (slot : Nat) (x other : BootImage) : Prop :=
  t.get R.GLB_BOOT_STAGE = 1 ∧ t.get R.GLB_BOOT_SLOT = slot ∧ t.svc.active = ⟨x.imgVer, x.arbVer⟩ ∧ t.svc.standby = t.svc.active ∧
    t.get R.GLB_FW_1_VER_ACT = x.imgVer ∧ t.get R.GLB_FW_1_VER_STBY = x.imgVer ∧ t.get R.GLB_ARB_CTL_ARB_ACT = x.arbVer ∧
    t.svc.bootStart = t.now ∧ t.svc.bootTries = 1 ∧
    ((other.Formed ∧ ¬ s.Bootable other) → t.flag R.GLB_BOOT_FALLBACK = true ∧
      (other.sigOk = false → t.get R.GLB_BOOT_CODE = Code.BOOT_SIG_FAIL) ∧ (other.sigOk = true → t.get R.GLB_BOOT_CODE = Code.BOOT_ROLLBACK)) ∧
    (¬ (other.Formed ∧ ¬ s.Bootable other) → t.flag R.GLB_BOOT_FALLBACK = false ∧ t.get R.GLB_BOOT_CODE = s.get R.GLB_BOOT_CODE)

theorem State.bootFrom_boots {s : State} {x : BootImage} (o : BootImage) (b : Bool) (hx : s.Bootable x) :
    s.Boots (s.romStart.bootFrom b ⟨x.imgVer, x.arbVer⟩ (s.judgeSlot o).code (s.judgeSlot o).isRefused) (b2n b) x o := by
  obtain ⟨⟨-, -, hi, ha, -, -⟩, -, -⟩ := hx
  have hcode := State.bootFrom_code s.romStart b ⟨x.imgVer, x.arbVer⟩ _ (s.judgeSlot o).isRefused (s.judgeSlot_code_lt o)
  refine ⟨State.bootFrom_stage .., State.bootFrom_slot .., ?_, ?_, State.bootFrom_verAct _ _ _ _ _ (by simp only; omega),
    State.bootFrom_verStby _ _ _ _ _ (by simp only; omega), State.bootFrom_arbAct _ _ _ _ _ (by simp only; omega), ?_, ?_, fun hr => ?_, fun hr => ?_⟩
  · rw [State.bootFrom_svc]
  · rw [State.bootFrom_svc]
  · rw [State.bootFrom_svc, State.now, State.now, State.bootFrom_t]
  · rw [State.bootFrom_svc, State.romStart_svc]
  · rw [State.bootFrom_fallback, hcode, State.judgeSlot_of_refused hr, BootImage.refusal]
    refine ⟨rfl, fun hs => ?_, fun hs => ?_⟩ <;> rw [hs] <;> rfl
  · obtain ⟨hc, hf⟩ := State.judgeSlot_quiet hr
    rw [State.bootFrom_fallback, hcode, hc, hf]
    exact ⟨rfl, State.romStart_code s⟩

theorem State.takeImage_cases (u : State) (j k : Slot) :
    (∃ b v c f, u.takeImage j k = u.bootFrom b v c f) ∨ u.takeImage j k = u.halt Code.BOOT_NO_IMAGE := by
  cases j with
  | empty => cases k with
    | valid y => exact .inl ⟨_, _, _, _, rfl⟩
    | empty | refused d => exact .inr rfl
  | refused c => cases k with
    | valid y => exact .inl ⟨_, _, _, _, rfl⟩
    | empty | refused d => exact .inr rfl
  | valid x => cases k with
    | valid y =>
      by_cases h : y.imgVer ≤ x.imgVer
      · exact .inl ⟨_, _, _, _, if_pos h⟩
      · exact .inl ⟨_, _, _, _, if_neg h⟩
    | empty | refused d => exact .inl ⟨_, _, _, _, rfl⟩

section
variable {s : State} {a b : BootImage} (hp : s.svc.por = true) (h : s.stage = 0 ∨ s.stage = 1 ∧ s.svc.ctrlReset = true)
include hp h

theorem bootRom_slotA (ha : s.Bootable a) (hv : s.Bootable b → b.imgVer ≤ a.imgVer) :
    doBootRom a b s = s.romStart.bootFrom false ⟨a.imgVer, a.arbVer⟩ (s.judgeSlot b).code (s.judgeSlot b).isRefused := by
  rw [doBootRom_eq a b hp h, State.judgeSlot_of_bootable ha, State.takeImage_first]
  intro y hy
  obtain ⟨hb, rfl⟩ := State.bootable_of_judgeSlot hy
  exact hv hb

theorem bootRom_slotB (hb : s.Bootable b) (hv : s.Bootable a → a.imgVer < b.imgVer) :
    doBootRom a b s = s.romStart.bootFrom true ⟨b.imgVer, b.arbVer⟩ (s.judgeSlot a).code (s.judgeSlot a).isRefused := by
  rw [doBootRom_eq a b hp h, State.judgeSlot_of_bootable hb, State.takeImage_second]
  intro x hx
  obtain ⟨ha, rfl⟩ := State.bootable_of_judgeSlot hx
  exact hv ha

theorem bootRom_noImage (ha : ¬ s.Bootable a) (hb : ¬ s.Bootable b) : doBootRom a b s = s.romStart.halt Code.BOOT_NO_IMAGE := by
  rw [doBootRom_eq a b hp h]
  exact State.takeImage_none _ _ _ (fun _ hx => ha (State.bootable_of_judgeSlot hx).1) fun _ hx => hb (State.bootable_of_judgeSlot hx).1

/-- Whatever the boot ROM finds, it starts at the rise of HUB_RST_N and shows the anti-rollback minimum (R503). -/
theorem bootRom_always : (doBootRom a b s).t = max s.t (s.svc.rstRise * 2 ^ 32) ∧ (doBootRom a b s).svc.ctrlReset = false ∧
    (doBootRom a b s).get R.GLB_FW_ARB_ARB_MIN = s.nv.arbMin % 65_536 := by
  rw [doBootRom_eq a b hp h]
  rcases State.takeImage_cases s.romStart (s.judgeSlot a) (s.judgeSlot b) with ⟨slot, v, c, f, ht⟩ | ht <;> rw [ht]
  · rw [State.bootFrom_t, State.bootFrom_svc, State.bootFrom_arbMin, State.romStart_t, State.romStart_svc, State.romStart_arbMin]
    exact ⟨rfl, rfl, rfl⟩
  · rw [State.halt_t, State.halt_svc, State.halt_arbMin, State.romStart_t, State.romStart_svc, State.romStart_arbMin]
    exact ⟨rfl, rfl, rfl⟩

end

/-! ## The boot watchdog -/

/-- The state in which the boot watchdog expires: 10 s after the attempt began (R502). -/
def State.bootExpiry (s : State) : State := s.advanceTo (s.svc.bootStart + 10_000_000_000)

/-- The attempt counted as the `n`-th. -/
def State.tried (s : State) (n : Nat) : State := { s with svc.bootTries := n }

theorem State.tried_get (s : State) (n : Nat) (f : Fld) : (s.tried n).get f = s.get f := rfl
theorem State.tried_flag (s : State) (n : Nat) (f : Fld) : (s.tried n).flag f = s.flag f := rfl
theorem State.tried_t (s : State) (n : Nat) : (s.tried n).t = s.t := rfl
theorem State.tried_svc (s : State) (n : Nat) : (s.tried n).svc = { s.svc with bootTries := n } := rfl

section
variable {s : State} {x : BootImage} (hp : s.svc.por = true) (h1 : s.stage = 1) (hc : s.svc.ctrlReset = false)
include hp h1 hc

theorem bootWatchdog_retries (ht : s.svc.bootTries = 1) (hx : s.Bootable x) : doBootWatchdogExpiry x s =
    (s.bootExpiry.bootFrom (!s.flag R.GLB_BOOT_SLOT) ⟨x.imgVer, x.arbVer⟩ 0 true).tried 2 := by
  have hj : (s.advanceTo (s.svc.bootStart + 10_000_000_000)).judgeSlot x = .valid ⟨x.imgVer, x.arbVer⟩ := State.judgeSlot_of_bootable hx
  simp only [doBootWatchdogExpiry, hp, h1, hc, State.advanceTo_svc, ht, hj]
  rfl

theorem bootWatchdog_halts (ht : ¬ (s.svc.bootTries = 1 ∧ s.Bootable x)) : doBootWatchdogExpiry x s = s.bootExpiry.halt Code.BOOT_NO_IMAGE := by
  unfold doBootWatchdogExpiry
  rw [if_pos (by simp [hp, h1, hc])]
  by_cases h : s.svc.bootTries = 1
  · have hx : ¬ s.bootExpiry.Bootable x := fun hb => ht ⟨h, hb⟩
    rcases State.judgeSlot_of_not_bootable hx with ⟨-, hj⟩ | ⟨-, hj⟩ <;>
    · rw [State.bootExpiry] at hj
      simp only [State.advanceTo_svc, h, hj]
      rfl
  · exact if_neg h

end

end Sys2Proof.Machine
end

section
/-!
PROOFS. The rise of POR_N (R327, R328, R499): what the latches sense, which of them are closed, and what is reported.
-/
namespace Sys2Proof.Machine

/-! ## The latches at the rise of POR_N -/

/-- The senses of the latches `ks` read DARK. -/
def State.senseDark (s : State) (ks : List Nat) : State := ks.foldl (fun s k => s.setPort k { s.port k with sense := 2 }) s

/-- The latches of `notDark` read OPEN or INDET. -/
def State.senseNotDark (s : State) (notDark : List (Fin 2048 × Fin 2)) : State :=
  notDark.foldl (fun s x => s.setPort x.1.val { s.port x.1.val with lstate := if x.2.val = 0 then 2 else 0, sense := x.2.val }) s

/-- The ports of `notDark`, by number. -/
def portsOf (notDark : List (Fin 2048 × Fin 2)) : List Nat := (List.range 2048).filter fun k => notDark.any fun x => x.1.val == k

theorem mem_portsOf (l : List (Fin 2048 × Fin 2)) (k : Fin 2048) : k.val ∈ portsOf l ↔ ∃ x, (k, x) ∈ l := by
  simp only [portsOf, List.mem_filter, List.mem_range, k.isLt, true_and, List.any_eq_true, beq_iff_eq]
  constructor
  · rintro ⟨⟨j, x⟩, hm, hj⟩
    exact ⟨x, by rwa [← Fin.ext hj]⟩
  · rintro ⟨x, hm⟩
    exact ⟨_, hm, rfl⟩

/-- The module at the rise of POR_N, before an emergency close is reported. -/
def State.porHigh (s : State) (notDark : List (Fin 2048 × Fin 2)) : State :=
  let u := ({ s with svc.por := true }.put R.TIME_STS_REF_OK 1).senseDark (List.range 2048)
  (u.senseNotDark notDark).closeAll (portsOf notDark) (u.senseNotDark notDark).now true

/-- An emergency close before the start is counted and reported by tiles 0 and 9 (R328). -/
def State.reportClose (s : State) : State :=
  [0, 9].foldl (fun s t => (s.count (whole (R.TILE_FD_LAT_CNT t 3))).ev (Ev.emergencyClose t)) { s with nv.emergency := false }

theorem doPorRelease_high (l : List (Fin 2048 × Fin 2)) {s : State} (h : s.svc.por = true) : doPorRelease l s = s := if_pos h

/-- What is reported once the latches are in hand. -/
def State.reportPast (u : State) : State := if u.nv.emergency then u.reportClose else u

theorem doPorRelease_low (l : List (Fin 2048 × Fin 2)) {s : State} (h : s.svc.por = false) : doPorRelease l s = (s.porHigh l).reportPast := by
  unfold doPorRelease
  rw [if_neg (by simp [h])]
  show State.reportPast _ = _
  rfl

/-! ## What touches what -/

theorem State.senseDark_touches (s : State) (ks : List Nat) : s.Touches (s.senseDark ks) [.fab] [] :=
  State.Touches.foldl (fun s k _ => .setPort s k _ (.head _)) s

theorem State.senseNotDark_touches (s : State) (l : List (Fin 2048 × Fin 2)) : s.Touches (s.senseNotDark l) [.fab] [] :=
  State.Touches.foldl (fun s x _ => .setPort s x.1 _ (.head _)) s

/-- The registers in which tiles 0 and 9 count close pulses: the tile's, and each port's wear. -/
def pulseRegs : List Nat := [0, 9].flatMap fun t => R.TILE_FD_LAT_CNT t 1 :: (List.range 1_024).map (R.TILE_FD_WEAR t)

theorem pulseRegs_cnt (k : Nat) : R.TILE_FD_LAT_CNT (portTile k) 1 ∈ pulseRegs := by
  unfold portTile pulseRegs
  split <;> simp

theorem pulseRegs_wear (k : Nat) : R.TILE_FD_WEAR (portTile k) (k % 1_024) ∈ pulseRegs := by
  have hk : k % 1_024 ∈ List.range 1_024 := List.mem_range.2 (Nat.mod_lt _ (by decide))
  have ht : portTile k ∈ [0, 9] := by unfold portTile; split <;> simp
  exact List.mem_flatMap.2 ⟨_, ht, .tail _ (List.mem_map.2 ⟨_, hk, rfl⟩)⟩

theorem latchWear_lt (k : Nat) : Ev.latchWear (portTile k) < 1_536 := by
  unfold portTile
  split <;> decide

/-- Port `k` with its close pulse under way and the pulse counted. -/
def State.pulsed (s : State) (k start st tries : Nat) : State :=
  ((s.count (whole (R.TILE_FD_LAT_CNT (portTile k) 1))).count (whole (R.TILE_FD_WEAR (portTile k) (k % 1_024)))).setPort k
    { s.port k with lstate := st, pulse := some start, tries := tries }

/-- A close pulse is counted, and marks the port as worn where its wear has reached the limit (R324). -/
theorem State.closePulse_cases (s : State) (k start st tries : Nat) :
    s.closePulse k start st tries = s.pulsed k start st tries ∨
    s.closePulse k start st tries = ((s.pulsed k start st tries).setPort k { (s.pulsed k start st tries).port k with worn := true }).evPort
      (Ev.latchWear (portTile k)) (decide (1_024 ≤ k)) (k % 1_024) 0 := (ite_eq_or_eq _ _ _).symm

theorem State.closePulse_touches (s : State) (k start st tries : Nat) :
    s.Touches (s.closePulse k start st tries) [.fab, .recorder, .frames] pulseRegs := by
  have h : s.Touches (s.pulsed k start st tries) [.fab, .recorder, .frames] pulseRegs :=
    ((State.Touches.count s _ (pulseRegs_cnt k)).trans (.count _ _ (pulseRegs_wear k))).trans (.setPort _ k _ (.head _))
  rcases s.closePulse_cases k start st tries with hc | hc <;> rw [hc]
  · exact h
  · exact (h.trans (.setPort _ k _ (.head _))).trans (.ofRecorded (State.evPort_recorded _ _ _ _ _ _ (latchWear_lt k)) (by decide) (by decide))

theorem State.closeAll_touches (s : State) (ks : List Nat) (due : Nat) (every : Bool) :
    s.Touches (s.closeAll ks due every) [.fab, .recorder, .frames] pulseRegs :=
  (State.Touches.with_fab s _ (.head _)).trans (State.Touches.foldl (fun s x _ => s.closePulse_touches x.1 x.2 3 0) _)

/-! ## The ports -/

theorem State.senseDark_port (s : State) (ks : List Nat) (j : Nat) :
    (s.senseDark ks).port j = if j ∈ ks then { s.port j with sense := 2 } else s.port j := by
  induction ks generalizing s with
  | nil => rfl
  | cons k r ih =>
    refine (ih _).trans ?_
    by_cases hj : j = k
    · subst hj
      rw [State.port_setPort_self, if_pos (List.mem_cons_self ..)]
      split <;> rfl
    · rw [State.port_setPort_other s _ hj]
      simp [hj]

theorem State.senseNotDark_port_other (s : State) {l : List (Fin 2048 × Fin 2)} {k : Fin 2048} (h : ∀ x, (k, x) ∉ l) :
    (s.senseNotDark l).port k = s.port k := by
  unfold State.senseNotDark
  refine State.foldl_port_other (key := fun x : Fin 2048 × Fin 2 => x.1.val) (fun s _ hk => State.port_setPort_other s _ hk) ?_ s
  intro x hx hk
  exact h x.2 (by rwa [Fin.ext hk])

theorem State.closePulse_port_other (s : State) (k start st tries : Nat) {j : Nat} (h : j ≠ k) :
    (s.closePulse k start st tries).port j = s.port j := by
  have hp : (s.pulsed k start st tries).port j = s.port j := by
    rw [State.pulsed, State.port_setPort_other _ _ h, State.count_port, State.count_port]
  rcases s.closePulse_cases k start st tries with hc | hc <;> rw [hc]
  · exact hp
  · rw [State.port_congr (State.evPort_fab _ _ _ _ _ _ (latchWear_lt k)), State.port_setPort_other _ _ h, hp]

theorem State.closePulse_port_self (s : State) (k start st tries : Nat) :
    ((s.closePulse k start st tries).port k).lstate = st ∧ ((s.closePulse k start st tries).port k).pulse = some start := by
  have hp : (s.pulsed k start st tries).port k = { s.port k with lstate := st, pulse := some start, tries := tries } :=
    State.port_setPort_self _ _ _
  rcases s.closePulse_cases k start st tries with hc | hc <;> rw [hc]
  · rw [hp]
    exact ⟨rfl, rfl⟩
  · rw [State.port_congr (State.evPort_fab _ _ _ _ _ _ (latchWear_lt k)), State.port_setPort_self, hp]
    exact ⟨rfl, rfl⟩

/-- A latch is being closed: its state is CLOSING, with the pulse under way. -/
def State.Closing (k : Nat) (s : State) : Prop := (s.port k).lstate = 3 ∧ (s.port k).pulse.isSome = true

theorem State.closePulse_own (s : State) (k start : Nat) : (s.closePulse k start 3 0).Closing k := by
  obtain ⟨hl, hp⟩ := s.closePulse_port_self k start 3 0
  exact ⟨hl, by rw [hp]; rfl⟩

theorem State.closePulse_kept (s : State) (k start j : Nat) (h : s.Closing j) : (s.closePulse k start 3 0).Closing j := by
  by_cases hj : j = k
  · exact hj ▸ s.closePulse_own j start
  · rw [State.Closing, s.closePulse_port_other k start 3 0 hj]
    exact h

/-- The close pulses of one tile's ports among `ks`, 256 at a time (R320). -/
def closeGroup (ks : List Nat) (due tile : Nat) : List (Nat × Nat) :=
  (ks.filter (portTile · == tile)).zip ((List.range (ks.filter (portTile · == tile)).length).map fun i => due + i / 256 * 180)

theorem closeGroup_ports (ks : List Nat) (due tile : Nat) : (closeGroup ks due tile).map Prod.fst = ks.filter (portTile · == tile) :=
  List.map_fst_zip (by simp)

/-- The close pulses of `closeAll` when every port is asked for: those of tile 0, then those of tile 9. -/
def closeOrder (ks : List Nat) (due : Nat) : List (Nat × Nat) := closeGroup ks due 0 ++ closeGroup ks due 9

theorem closeOrder_ports (ks : List Nat) (due k : Nat) : k ∈ (closeOrder ks due).map Prod.fst ↔ k ∈ ks := by
  have ht : portTile k = 0 ∨ portTile k = 9 := by unfold portTile; split <;> simp
  rw [closeOrder, List.map_append, closeGroup_ports, closeGroup_ports]
  simp only [List.mem_append, List.mem_filter, beq_iff_eq]
  tauto

theorem State.closeAll_every (s : State) (ks : List Nat) (due : Nat) : s.closeAll ks due true =
    (closeOrder ks due).foldl (fun s x => s.closePulse x.1 x.2 3 0) { s with fab.waits := s.fab.waits.filter fun w => !ks.contains w.port } := by
  have hk : (ks.filter fun _ => true) = ks := List.filter_true ks
  simp only [State.closeAll, Bool.true_or, hk, closeOrder, closeGroup]

theorem State.closeAll_port (s : State) {ks : List Nat} (due : Nat) {k : Nat} (h : k ∈ ks) : (s.closeAll ks due true).Closing k := by
  obtain ⟨x, hx, rfl⟩ := List.mem_map.1 ((closeOrder_ports ks due k).2 h)
  rw [State.closeAll_every]
  exact foldl_establishes (P := fun x : Nat × Nat => State.Closing x.1) (fun s x => s.closePulse_own x.1 x.2)
    (fun s x y hy => s.closePulse_kept x.1 x.2 y.1 hy) hx _

theorem State.closeAll_port_other (s : State) {ks : List Nat} (due : Nat) {k : Nat} (h : k ∉ ks) :
    (s.closeAll ks due true).port k = s.port k := by
  rw [State.closeAll_every]
  exact State.foldl_port_other (key := Prod.fst) (fun (s : State) (y : Nat × Nat) hk => s.closePulse_port_other y.1 y.2 3 0 hk)
    (fun y hy hk => h ((closeOrder_ports ks due k).1 (List.mem_map.2 ⟨y, hy, hk.symm⟩))) _

/-- Registers below the tiles and a tile's count of emergency closes are no counts of close pulses. -/
theorem pulseRegs_not_mem {a : Nat} (h : a < 0x0100_0000 ∨ ∃ t, a = R.TILE_FD_LAT_CNT t 3) : a ∉ pulseRegs := by
  simp only [pulseRegs, R.TILE_FD_LAT_CNT, R.TILE_FD_WEAR, tileBase, List.mem_flatMap, List.mem_cons, List.mem_map, List.mem_range,
    List.not_mem_nil, or_false] at h ⊢
  rintro ⟨t, rfl | rfl, rfl | ⟨p, hp, rfl⟩⟩ <;> rcases h with h | ⟨t, h⟩ <;> omega

theorem cnt3_not_evtReg (t : Nat) : ¬ evtReg (R.TILE_FD_LAT_CNT t 3) := by
  simp only [evtReg, R.TILE_FD_LAT_CNT, tileBase, R.EVT_HEAD, R.EVT_FLUSHED, R.EVT_LOST, R.EVT_TILE_LOST, R.EVT_PEND]
  omega

/-! ## The module after the rise of POR_N -/

section
variable (s : State) (l : List (Fin 2048 × Fin 2))

/-- POR_N high and REFCLK good, nothing sensed yet. -/
def State.porRises : State := { s with svc.por := true }.put R.TIME_STS_REF_OK 1

theorem State.porHigh_touches : s.porRises.Touches (s.porHigh l) [.fab, .recorder, .frames] pulseRegs := by
  have h1 := s.porRises.senseDark_touches (List.range 2_048)
  have h2 := (s.porRises.senseDark (List.range 2_048)).senseNotDark_touches l
  exact ((h1.trans h2).mono (by decide) (by simp)).trans (State.closeAll_touches _ _ _ _)

theorem State.porHigh_svc : (s.porHigh l).svc = { s.svc with por := true } := (s.porHigh_touches l).same .svc (by decide)

theorem State.porHigh_nv : (s.porHigh l).nv = s.nv := (s.porHigh_touches l).same .nv (by decide)

theorem State.porHigh_refOk : (s.porHigh l).flag R.TIME_STS_REF_OK = true := by
  rw [(s.porHigh_touches l).flag (pulseRegs_not_mem (.inl (by decide))) (by decide)]
  exact State.flag_put_one _ _ (by decide) rfl

theorem State.porHigh_cnt (t : Nat) :
    (s.porHigh l).get (whole (R.TILE_FD_LAT_CNT t 3)) = s.get (whole (R.TILE_FD_LAT_CNT t 3)) := by
  have ht : R.TILE_FD_LAT_CNT t 3 ≠ R.TIME_STS := by
    simp only [R.TILE_FD_LAT_CNT, tileBase, R.TIME_STS]
    omega
  rw [(s.porHigh_touches l).get (pulseRegs_not_mem (.inr ⟨t, rfl⟩)) (cnt3_not_evtReg t), State.porRises,
    State.get_put_apart _ R.TIME_STS_REF_OK (whole (R.TILE_FD_LAT_CNT t 3)) _ (by decide) (whole_ok _) (.inl ht), State.get_with_svc]

variable {l}

theorem State.porHigh_port_listed {k : Fin 2048} (h : ∃ x, (k, x) ∈ l) :
    (s.porHigh l).Closing k :=
  State.closeAll_port _ _ ((mem_portsOf l k).2 h)

theorem State.porHigh_port_dark {k : Fin 2048} (h : ∀ x, (k, x) ∉ l) : (s.porHigh l).port k = { s.port k with sense := 2 } := by
  have hk : k.val ∉ portsOf l := fun hm => by
    obtain ⟨x, hx⟩ := (mem_portsOf l k).1 hm
    exact h x hx
  rw [State.porHigh, State.closeAll_port_other _ _ hk, State.senseNotDark_port_other _ h, State.senseDark_port,
    if_pos (List.mem_range.2 k.isLt), State.put_port]
  rfl

end

/-! ## The report of an emergency close -/

section
variable (u : State)

theorem State.reportClose_eq : u.reportClose = ((({ u with nv.emergency := false }.count (whole (R.TILE_FD_LAT_CNT 0 3))).ev
    (Ev.emergencyClose 0)).count (whole (R.TILE_FD_LAT_CNT 9 3))).ev (Ev.emergencyClose 9) := rfl

theorem State.reportClose_touches :
    u.Touches u.reportClose [.nv, .recorder, .frames] [R.TILE_FD_LAT_CNT 0 3, R.TILE_FD_LAT_CNT 9 3] := by
  rw [State.reportClose_eq]
  exact ((((State.Touches.with_nv u _ (by decide)).trans (.count _ _ (by decide))).trans (.ev _ _ _ (by decide) (by decide) (by decide))).trans
    (.count _ _ (by decide))).trans (.ev _ _ _ (by decide) (by decide) (by decide))

theorem State.reportClose_nv : u.reportClose.nv = { u.nv with emergency := false } := by
  rw [State.reportClose_eq, State.ev_nv _ _ _ (by decide), State.count_nv, State.ev_nv _ _ _ (by decide), State.count_nv]

theorem State.get_with_nv (s : State) (x : NvSt) (f : Fld) : { s with nv := x }.get f = s.get f := rfl

theorem State.reportClose_cnt {t : Nat} (h : t = 0 ∨ t = 9) :
    u.reportClose.get (whole (R.TILE_FD_LAT_CNT t 3)) = satInc 32 (u.get (whole (R.TILE_FD_LAT_CNT t 3))) := by
  rw [State.reportClose_eq, State.ev_get _ _ _ (by decide) (cnt3_not_evtReg t)]
  rcases h with rfl | rfl
  · rw [State.get_count_apart _ _ _ (by decide) (by decide) (by decide), State.ev_get _ _ _ (by decide) (cnt3_not_evtReg 0),
      State.get_count_self _ _ (by decide), State.get_with_nv]
    rfl
  · rw [State.get_count_self _ _ (by decide), State.ev_get _ _ _ (by decide) (cnt3_not_evtReg 9),
      State.get_count_apart _ _ _ (by decide) (by decide) (by decide), State.get_with_nv]
    rfl

end

/-- What the report of an emergency close leaves as the rise of POR_N left it. -/
theorem State.reportPast_touches (u : State) :
    u.Touches u.reportPast [.nv, .recorder, .frames] [R.TILE_FD_LAT_CNT 0 3, R.TILE_FD_LAT_CNT 9 3] := by
  unfold State.reportPast
  split
  · exact u.reportClose_touches
  · exact .refl _ _ _

theorem State.reportPast_nv (u : State) : u.reportPast.nv = { u.nv with emergency := false } := by
  unfold State.reportPast
  split
  · exact u.reportClose_nv
  · next h => rw [← Bool.eq_false_of_not_eq_true h]

theorem State.reportPast_port (u : State) (k : Nat) : u.reportPast.port k = u.port k :=
  State.port_congr (u.reportPast_touches.same .fab (by decide)) k

theorem State.reportPast_cnt (u : State) {t : Nat} (h : t = 0 ∨ t = 9) : u.reportPast.get (whole (R.TILE_FD_LAT_CNT t 3)) =
    if u.nv.emergency then satInc 32 (u.get (whole (R.TILE_FD_LAT_CNT t 3))) else u.get (whole (R.TILE_FD_LAT_CNT t 3)) := by
  unfold State.reportPast
  split
  · exact u.reportClose_cnt h
  · rfl

end Sys2Proof.Machine
end

section
/-!
PROOFS. Cold start (O54).
-/
namespace Sys2Proof.Machine

/-! ## Cold reset -/

theorem doColdReset_short {width : Nat} (h : width < 100) (s : State) : doColdReset width s = s := if_pos h

theorem doColdReset_long {width : Nat} (h : 100 ≤ width) (s : State) : doColdReset width s =
    { State.cold { s.nv with emergency := true } with
      pending := s.pending, free := s.free, cmd.sent := s.cmd.sent, cmd.msixCompletion := s.cmd.msixCompletion, cmd.msixAlert := s.cmd.msixAlert } :=
  if_neg (Nat.not_lt.2 h)

/-! ## The clauses of O54 -/

theorem coldReset_leaves (s : State) (width : Nat) (h : s.svc.resetAt = none) : Leaves (.coldReset width) s fun t =>
    (width < 100 → t = s) ∧
    (100 ≤ width → t.svc = SvcSt.reset ∧ t.svc.por = false ∧ (∀ a, t.rd a = resetWord a) ∧ (∀ k, (t.port k).lstate = 0) ∧ (∀ e, t.elem e = Elem.reset) ∧
      (∀ i, t.ctx i = Ctx.idle) ∧ t.sch = SchSt.reset ∧ t.trv = TrvSt.reset ∧ t.cmd.sessions = [] ∧ t.cmd.keys = [] ∧
      t.nv = { s.nv with emergency := true } ∧ t.pending = s.pending) := by
  refine leaves_run (doColdReset width) rfl h ⟨fun hw => doColdReset_short hw s, fun hw => ?_⟩
  rw [doColdReset_long hw]
  exact ⟨rfl, rfl, fun _ => rfl, fun _ => rfl, fun _ => rfl, fun _ => rfl, rfl, rfl, rfl, rfl, rfl, rfl⟩

theorem porRelease_leaves (s : State) (l : List (Fin 2048 × Fin 2)) (h : s.svc.resetAt = none) : Leaves (.porRelease l) s fun t =>
    (s.svc.por = true → t = s) ∧
    (s.svc.por = false → t.svc.por = true ∧ t.flag R.TIME_STS_REF_OK = true ∧ t.nv = { s.nv with emergency := false } ∧
      (∀ k : Fin 2048, (∃ x, (k, x) ∈ l) → (t.port k).lstate = 3 ∧ (t.port k).pulse.isSome = true) ∧
      (∀ k : Fin 2048, (∀ x, (k, x) ∉ l) → (t.port k).lstate = (s.port k).lstate ∧ (t.port k).sense = 2) ∧
      (∀ n, n = 0 ∨ n = 9 → let a := whole (R.TILE_FD_LAT_CNT n 3)
        t.get a = if s.nv.emergency then satInc 32 (s.get a) else s.get a)) := by
  refine leaves_run (doPorRelease l) rfl h ⟨fun hp => doPorRelease_high l hp, fun hp => ?_⟩
  have touched := (s.porHigh l).reportPast_touches
  rw [doPorRelease_low l hp]
  refine ⟨?_, ?_, ?_, fun k hk => ?_, fun k hk => ?_, fun n hn => ?_⟩
  · rw [touched.same .svc (by decide), State.porHigh_svc]
  · rw [touched.flag (by decide) (by decide), State.porHigh_refOk]
  · rw [State.reportPast_nv, State.porHigh_nv]
  · rw [State.reportPast_port]
    exact s.porHigh_port_listed hk
  · rw [State.reportPast_port, State.porHigh_port_dark s hk]
    exact ⟨rfl, rfl⟩
  · simp only [State.reportPast_cnt _ hn, State.porHigh_nv, State.porHigh_cnt]

theorem State.bootable_iff (s : State) (x : BootImage) : s.Bootable x ↔ x.wellFormed = true ∧ 1 ≤ x.imgVer ∧ x.imgVer ≤ 65_535 ∧
    x.arbVer ≤ 255 ∧ 4_096 ≤ x.len ∧ x.len ≤ 16_777_216 ∧ x.sigOk = true ∧ s.nv.arbMin ≤ x.arbVer := by
  simp only [State.Bootable, BootImage.Formed, and_assoc]

/-- Settles O54: each row is one of the four lemmas on cold reset, release of POR_N, the boot ROM and its watchdog. -/
theorem coldStartChoosesTheImage : Obligations.ColdStartChoosesTheImage := by
  refine ⟨coldReset_leaves, porRelease_leaves, fun s a b hs hst => ?_, fun s x hs hst hc => ?_⟩
  · refine leaves_live (doBootRom a b) rfl hs ?_
    obtain ⟨hp, -⟩ := hs
    obtain ⟨ht, hr, hm⟩ := bootRom_always (a := a) (b := b) hp hst
    refine ⟨ht, hr, hm, fun ha hv => ?_, fun hb hv => ?_, fun ha hb => ?_⟩
    · rw [bootRom_slotA hp hst ha hv]
      exact State.bootFrom_boots b false ha
    · rw [bootRom_slotB hp hst hb hv]
      exact State.bootFrom_boots a true hb
    · rw [bootRom_noImage hp hst ha hb, State.halt_svc]
      exact ⟨State.halt_stage .., State.halt_code _ (by decide), rfl⟩
  · refine leaves_live (doBootWatchdogExpiry x) rfl hs ?_
    obtain ⟨hp, -⟩ := hs
    simp only [← State.bootable_iff]
    refine ⟨?_, fun ⟨ht, hx⟩ => ?_, fun hn => ?_⟩
    · by_cases hx : s.svc.bootTries = 1 ∧ s.Bootable x
      · obtain ⟨ht, hx⟩ := hx
        rw [bootWatchdog_retries hp hst hc ht hx, State.tried_t, State.bootFrom_t]
        rfl
      · rw [bootWatchdog_halts hp hst hc hx]
        exact State.halt_t ..
    · rw [bootWatchdog_retries hp hst hc ht hx, State.tried_get, State.tried_flag, State.tried_flag, State.tried_svc, State.now, State.tried_t,
        State.bootFrom_stage, State.bootFrom_fallback, State.bootFrom_slotFlag, State.bootFrom_svc, State.bootFrom_t]
      exact ⟨rfl, rfl, rfl, rfl, rfl, rfl⟩
    · rw [bootWatchdog_halts hp hst hc hn]
      exact ⟨State.halt_stage .., State.halt_code _ (by decide)⟩

end Sys2Proof.Machine
end

section
/-!
PROOFS. Control-domain resets and failovers (O56), stage by stage: the cause noted, the registers of the domain, the hub's memory, the tiles,
the traverse and the stage.
-/
namespace Sys2Proof.Machine

/-! ## The cause, and the registers of the domain -/

/-- The reset counted, with its cause. -/
def State.countReset (s : State) (cause : Nat) : State := (s.put R.GLB_RST_CAUSE_CAUSE cause).count R.GLB_RST_CAUSE_COUNT

/-- The registers that a reset notes: its cause, and the end of a firmware change. -/
def State.noteRegs (s : State) (cause : Nat) : State :=
  if (s.countReset cause).svc.fw.isSome then ((s.countReset cause).put R.GLB_FW_0_BUSY 0).put R.GLB_FW_0_STBY_READY 0 else s.countReset cause

/-- The service state of a control domain that leaves service. -/
def SvcSt.down (x : SvcSt) (now : Nat) : SvcSt :=
  { x with ctrlReset := true, fwRuns := false, fw := none, resetAt := none, freezeEnd := none, refGoodSince := none, outAt := now }

/-- The hub leaves service. -/
def State.leaveService (u : State) : State :=
  { u with svc := u.svc.down u.now, evt := { u.evt with tileLostAt := u.get (whole R.EVT_TILE_LOST) } }

theorem State.leaveService_touches (u : State) : u.Touches u.leaveService [.svc, .recorder] [] := .with_svc_evt u _ _

theorem State.noteReset_eq (s : State) (cause : Nat) : s.noteReset cause = (s.noteRegs cause).leaveService := rfl

theorem State.noteRegs_touches (s : State) (cause : Nat) (ps : List Part) : s.Touches (s.noteRegs cause) ps [R.GLB_RST_CAUSE, R.GLB_FW_0] := by
  have h : s.Touches (s.countReset cause) ps [R.GLB_RST_CAUSE, R.GLB_FW_0] :=
    (State.Touches.put s _ _ (by decide)).trans (.count _ _ (by decide))
  unfold State.noteRegs
  split
  · exact (h.trans (.put _ _ _ (by decide))).trans (.put _ _ _ (by decide))
  · exact h

theorem State.noteReset_touches (s : State) (cause : Nat) :
    s.Touches (s.noteReset cause) [.svc, .recorder] [R.GLB_RST_CAUSE, R.GLB_FW_0] := by
  rw [State.noteReset_eq]
  exact (s.noteRegs_touches cause _).trans ((s.noteRegs cause).leaveService_touches.mono (fun _ h => h) (by simp))

theorem State.noteReset_rd (s : State) (cause a : Nat) : (s.noteReset cause).rd a = (s.noteRegs cause).rd a := by
  rw [State.noteReset_eq]
  rfl

theorem State.noteReset_svc (s : State) (cause : Nat) : (s.noteReset cause).svc = s.svc.down s.now := by
  have h := s.noteRegs_touches cause []
  have ht : (s.noteRegs cause).t = s.t := h.same .time (by decide)
  have hs : (s.noteRegs cause).svc = s.svc := h.same .svc (by decide)
  rw [State.noteReset_eq]
  simp only [State.leaveService, hs, State.now, ht]

theorem State.noteReset_evt (s : State) (cause : Nat) :
    (s.noteReset cause).evt = { s.evt with tileLostAt := (s.noteRegs cause).get (whole R.EVT_TILE_LOST) } := by
  obtain ⟨he, -⟩ := (s.noteRegs_touches cause []).same .recorder (by decide)
  rw [State.noteReset_eq]
  simp only [State.leaveService, he]

/-- The end of a firmware change leaves what the reset counted. -/
theorem State.noteRegs_get (s : State) (cause : Nat) {f : Fld} (h : f.ok) (hf : f.addr ≠ R.GLB_FW_0) :
    (s.noteRegs cause).get f = (s.countReset cause).get f := by
  unfold State.noteRegs
  split
  · rw [State.get_put_apart _ _ _ _ (by decide) h (.inl hf), State.get_put_apart _ _ _ _ (by decide) h (.inl hf)]
  · rfl

theorem State.noteRegs_cause (s : State) (cause : Nat) : (s.noteRegs cause).get R.GLB_RST_CAUSE_CAUSE = cause % 16 := by
  rw [s.noteRegs_get cause (by decide) (by decide), State.countReset, State.get_count_apart _ _ _ (by decide) (by decide) (by decide),
    State.get_put_self _ _ _ (by decide)]
  rfl

theorem State.noteRegs_count (s : State) (cause : Nat) :
    (s.noteRegs cause).get R.GLB_RST_CAUSE_COUNT = satInc 16 (s.get R.GLB_RST_CAUSE_COUNT) := by
  rw [s.noteRegs_get cause (by decide) (by decide), State.countReset, State.get_count_self _ _ (by decide),
    State.get_put_apart _ _ _ _ (by decide) (by decide) (by decide)]
  rfl

/-- Whether a control-domain reset leaves the register at `a`. -/
def State.keepsReg (s : State) (a : Nat) : Bool :=
  let past := match s.sch.swap with
    | none => false
    | some w => w.past
  domAt a != some .control || rebuilt a || (past && (a == R.SCHD_SWAP || a == R.SCHD_SWAP_T_HI || a == R.SCHD_SWAP_T_LO))

/-- The state with the registers of the domain at their reset words. -/
def State.keptRegs (s : State) : State := { s with regs := s.regs.filter fun e => s.keepsReg e.1 }

theorem State.keptRegs_rd (s : State) (a : Nat) : s.keptRegs.rd a = if s.keepsReg a then s.rd a else resetWord a := by
  simp only [State.keptRegs, State.rd, Tbl.getD, Tbl.look_filter]
  split <;> rfl

theorem State.dropControl_eq (s : State) : s.dropControl =
    ((((s.keptRegs.put R.TIME_STS_VALID (s.get R.TIME_STS_VALID)).put R.TIME_STS_REF_OK (s.get R.TIME_STS_REF_OK)).put R.TIME_STS_SRV_STATE
      s.servoAfter).put R.THM_STS_REFUSE 0).put R.EPO_CTL_REFUSE 0 := by
  unfold State.dropControl State.keptRegs State.keepsReg
  rfl

theorem State.dropControl_touches (s : State) : s.keptRegs.Touches s.dropControl [] [R.TIME_STS, R.THM_STS, R.EPO_CTL] := by
  rw [State.dropControl_eq]
  exact ((((State.Touches.put _ _ _ (by decide)).trans (.put _ _ _ (by decide))).trans (.put _ _ _ (by decide))).trans
    (.put _ _ _ (by decide))).trans (.put _ _ _ (by decide))

/-! ## The tiles without the hub -/

/-- The recalibration of a tile, its hold ended. -/
def State.recalReleased (s : State) (t : Nat) : State := match s.recalOf t with
  | none => s
  | some r => if r.started.isSome || r.held.isSome then s.setRecal t { r with started := none, held := none, since := s.now } else s

theorem State.recalReleased_cases (s : State) (t : Nat) : s.recalReleased t = s ∨ ∃ r, s.recalReleased t = s.setRecal t r := by
  unfold State.recalReleased
  split
  · exact .inl rfl
  · split
    · exact .inr ⟨_, rfl⟩
    · exact .inl rfl

/-- A hold dropped settles the held bank's channels again where the bank was in use. -/
theorem State.dropHold_cases (s : State) (t : Nat) : s.dropHold t = s.put (R.TILE_MC_HOLD_HOLD t) 0 ∨
    ∃ x, s.dropHold t = ((s.put (R.TILE_MC_HOLD_HOLD t) 0).put (R.TILE_MC_HOLD_USE t) 0).setTile t x := by
  unfold State.dropHold
  split
  · exact .inr ⟨_, rfl⟩
  · exact .inl rfl

/-- Tile `t` as the control-domain reset leaves it. -/
def State.tileAlone (s : State) (t : Nat) : State :=
  ((s.holdsEnd t).setTile t { (s.holdsEnd t).tile t with mirror := [], mirrorK := 0 }).put (R.TILE_LP_STS_MIRROR_OK t) 0

/-- The registers of tile `t` that stand for the hub's work on it. -/
def aloneRegs (t : Nat) : List Nat := [R.TILE_LP_STS t, R.TILE_MC_HOLD t, R.TILE_MC_ANC_CTL t]

theorem State.tilesAlone_eq (s : State) : s.tilesAlone = (List.range 20).foldl State.tileAlone s := rfl

theorem State.holdsEnd_eq (s : State) (t : Nat) : s.holdsEnd t =
    (((s.recalReleased t).dropHold t).setTile t { ((s.recalReleased t).dropHold t).tile t with anchor := none }).put
      (R.TILE_MC_ANC_CTL_BUSY t) 0 := rfl

theorem State.recalReleased_touches (s : State) (t : Nat) : s.Touches (s.recalReleased t) [.tiles, .cal] (aloneRegs t) := by
  rcases s.recalReleased_cases t with h | ⟨r, h⟩ <;> rw [h]
  · exact .refl ..
  · exact .with_cal s _ (by decide)

theorem State.dropHold_touches (s : State) (t : Nat) : s.Touches (s.dropHold t) [.tiles, .cal] (aloneRegs t) := by
  have hm : R.TILE_MC_HOLD t ∈ aloneRegs t := .tail _ (.head _)
  rcases s.dropHold_cases t with h | ⟨x, h⟩ <;> rw [h]
  · exact .put s _ _ hm
  · exact ((State.Touches.put s _ _ hm).trans (.put _ _ _ hm)).trans (.setTile _ _ _ (.head _))

theorem State.holdsEnd_touches (s : State) (t : Nat) : s.Touches (s.holdsEnd t) [.tiles, .cal] (aloneRegs t) := by
  rw [State.holdsEnd_eq]
  exact (((s.recalReleased_touches t).trans (State.dropHold_touches _ t)).trans (.setTile _ _ _ (.head _))).trans
    (.put _ _ _ (.tail _ (.tail _ (.head _))))

theorem State.tileAlone_touches (s : State) (t : Nat) : s.Touches (s.tileAlone t) [.tiles, .cal] (aloneRegs t) :=
  ((s.holdsEnd_touches t).trans (.setTile _ _ _ (.head _))).trans (.put _ _ _ (.head _))

theorem State.tilesAlone_touches (s : State) : s.Touches s.tilesAlone [.tiles, .cal] ((List.range 20).flatMap aloneRegs) :=
  State.Touches.foldl (fun s t ht => (s.tileAlone_touches t).mono (fun _ h => h) fun _ ha => List.mem_flatMap.2 ⟨t, ht, ha⟩) s

theorem State.holdsEnd_tile_other (s : State) {t j : Nat} (h : j ≠ t) : (s.holdsEnd t).tile j = s.tile j := by
  have h1 : (s.recalReleased t).tile j = s.tile j := by
    rcases s.recalReleased_cases t with hc | ⟨r, hc⟩ <;> rw [hc]
    rfl
  have h2 (u : State) : (u.dropHold t).tile j = u.tile j := by
    rcases u.dropHold_cases t with hc | ⟨x, hc⟩ <;> rw [hc]
    · rw [State.put_tile]
    · rw [State.tile_setTile_other _ _ h, State.put_tile, State.put_tile]
  rw [State.holdsEnd_eq, State.put_tile, State.tile_setTile_other _ _ h, h2, h1]

theorem lpSts_not_evtReg (n : Nat) : ¬ evtReg (R.TILE_LP_STS n) := by
  simp only [evtReg, R.TILE_LP_STS, tileBase, R.EVT_HEAD, R.EVT_FLUSHED, R.EVT_LOST, R.EVT_TILE_LOST, R.EVT_PEND]
  omega

theorem mirrorOk_ok (t : Nat) : (R.TILE_LP_STS_MIRROR_OK t).ok := ⟨Nat.le_refl 29, show 29 < 32 by decide⟩

/-- The hub's mirror of tile `t` is empty and invalid. -/
def State.MirrorGone (t : Nat) (s : State) : Prop := (s.tile t).mirror = [] ∧ s.flag (R.TILE_LP_STS_MIRROR_OK t) = false

theorem State.tileAlone_own (s : State) (t : Nat) : (s.tileAlone t).MirrorGone t := by
  refine ⟨?_, State.flag_put_zero _ _ (mirrorOk_ok t) rfl⟩
  rw [State.tileAlone, State.put_tile, State.tile_setTile_self]

theorem State.tileAlone_kept (s : State) (t j : Nat) (h : s.MirrorGone j) : (s.tileAlone t).MirrorGone j := by
  by_cases hj : j = t
  · exact hj ▸ s.tileAlone_own j
  · obtain ⟨hm, hf⟩ := h
    have hr : R.TILE_LP_STS j ∉ aloneRegs t := by
      simp only [aloneRegs, R.TILE_LP_STS, R.TILE_MC_HOLD, R.TILE_MC_ANC_CTL, tileBase, List.mem_cons, List.not_mem_nil, or_false]
      omega
    refine ⟨?_, ((s.tileAlone_touches t).flag hr (lpSts_not_evtReg j)).trans hf⟩
    rw [State.tileAlone, State.put_tile, State.tile_setTile_other _ _ hj, State.holdsEnd_tile_other _ hj, hm]

theorem State.tilesAlone_mirror (s : State) {n : Nat} (h : n < 20) : s.tilesAlone.MirrorGone n :=
  foldl_establishes (P := State.MirrorGone) State.tileAlone_own State.tileAlone_kept (List.mem_range.2 h) s

/-! ## The reset as a whole -/

theorem State.suspendHead_touches (s : State) : s.Touches s.suspendHead [.trv] [] := by
  unfold State.suspendHead State.setHead
  split
  · exact .refl ..
  · split
    · split
      · exact .refl ..
      · exact .with_trv _ _ (.head _)
    · exact .refl ..

theorem State.suspendHead_journal {s : State} {x : Trav} {l : List Trav} (h : s.trv.journal = x :: l) :
    s.suspendHead.trv.journal = (if x.timedNow then x.suspend else x) :: l := by
  unfold State.suspendHead State.setHead
  simp only [h]
  split <;> simp [h]

/-- A start-up that a reset interrupts resumes at ROM. -/
def State.resumeStage (s : State) : State := if s.stage = 6 ∨ s.stage = 8 then s else s.put R.GLB_BOOT_STAGE 1

theorem State.resumeStage_touches (s : State) : s.Touches s.resumeStage [] [R.GLB_BOOT] := by
  unfold State.resumeStage
  split
  · exact .refl ..
  · exact .put _ _ _ (.head _)

theorem State.resumeStage_stage (s : State) :
    s.resumeStage.get R.GLB_BOOT_STAGE = if s.stage = 6 ∨ s.stage = 8 then s.stage else 1 := by
  unfold State.resumeStage
  split
  · rfl
  · exact State.get_put_fits _ _ _ (by decide) (by decide)

/-- The hub's part of a control-domain reset, the registers included. -/
def State.hubReset (s : State) (cause : Nat) : State := ((s.noteReset cause).dropControl).dropHub

theorem State.beginReset_barred {s : State} (cause : Nat)
    (h : s.svc.por = false ∨ s.svc.ctrlReset = true ∨ s.get R.GLB_BOOT_STAGE = 0 ∨ s.get R.GLB_BOOT_STAGE = 7) : s.beginReset cause = s := if_pos h

theorem State.beginReset_eq {s : State} (cause : Nat)
    (h : ¬ (s.svc.por = false ∨ s.svc.ctrlReset = true ∨ s.get R.GLB_BOOT_STAGE = 0 ∨ s.get R.GLB_BOOT_STAGE = 7)) :
    s.beginReset cause = (s.hubReset cause).tilesAlone.suspendHead.resumeStage := if_neg h

theorem State.hubReset_tail (u : State) :
    u.Touches u.tilesAlone.suspendHead.resumeStage [.tiles, .cal, .trv] (R.GLB_BOOT :: (List.range 20).flatMap aloneRegs) :=
  ((u.tilesAlone_touches.mono (by decide) fun _ h => .tail _ h).trans (u.tilesAlone.suspendHead_touches.mono (by decide) (by simp))).trans
    (u.tilesAlone.suspendHead.resumeStage_touches.mono (by decide) (by simp))

/-! ## What the stages leave -/

theorem State.keptRegs_same (u : State) (p : Part) : p.same u u.keptRegs := by
  cases p
  case recorder => exact ⟨rfl, rfl⟩
  all_goals rfl

theorem State.dropControl_same (u : State) (p : Part) : p.same u u.dropControl :=
  Part.same_trans (u.keptRegs_same p) (u.dropControl_touches.same p (by simp))

theorem State.dropHub_touches (u : State) : u.Touches u.dropHub [.cmd, .frames, .net, .recorder, .cir, .tm, .thm] [] := by
  refine ⟨rfl, fun p hp => ?_, fun _ _ _ => rfl⟩
  cases p
  case cmd | frames | net | recorder | cir | tm | thm => exact absurd (by decide) hp
  all_goals rfl

theorem State.dropHub_rd (u : State) (a : Nat) : u.dropHub.rd a = u.rd a := rfl

theorem State.dropHub_cir (u : State) : u.dropHub.cir.ctxs = u.cir.ctxs ∧ u.dropHub.cir.grants = u.cir.grants ∧
    u.dropHub.cir.leaves = u.cir.leaves ∧ u.dropHub.cir.run = none ∧ u.dropHub.cir.queue = [] := ⟨rfl, rfl, rfl, rfl, rfl⟩

theorem State.dropHub_cmd (u : State) : u.dropHub.cmd.keys = u.cmd.keys ∧ u.dropHub.cmd.txSeq = u.cmd.txSeq ∧ u.dropHub.cmd.sessions = [] ∧
    u.dropHub.cmd.nonces = [] ∧ u.dropHub.cmd.held = [] := ⟨rfl, rfl, rfl, rfl, rfl⟩

theorem State.dropHub_net (u : State) : u.dropHub.net.sas = u.net.sas ∧ u.dropHub.net.queues = [] := ⟨rfl, rfl⟩

theorem State.dropHub_evt (u : State) : u.dropHub.evt.ring = u.evt.ring ∧ u.dropHub.evt.opens = u.evt.opens ∧ u.dropHub.evt.mirror = [] :=
  ⟨rfl, rfl, rfl⟩

section
variable (s : State) (cause : Nat)

/-- The part that neither the note of a reset, nor the hub's memory, nor the tiles hold is left as it was. -/
theorem State.hubReset_same (p : Part) (hp : p ∉ [.svc, .recorder, .cmd, .frames, .net, .cir, .tm, .thm]) : p.same s (s.hubReset cause) := by
  simp only [List.mem_cons, List.not_mem_nil, or_false, not_or] at hp
  have h1 : p.same s (s.noteReset cause) := (s.noteReset_touches cause).same p (by simp [hp])
  have h2 := (s.noteReset cause).dropControl.dropHub_touches.same p (by simp [hp])
  exact Part.same_trans (Part.same_trans h1 (State.dropControl_same _ p)) h2

theorem State.hubReset_pending : (s.hubReset cause).pending = s.pending := by
  obtain ⟨h1, -, -⟩ := s.noteReset_touches cause
  obtain ⟨h2, -, -⟩ := (s.noteReset cause).dropControl_touches
  obtain ⟨h3, -, -⟩ := (s.noteReset cause).dropControl.dropHub_touches
  rw [State.hubReset, h3, h2, ← h1]
  rfl

theorem State.hubReset_svc : (s.hubReset cause).svc = s.svc.down s.now := by
  have h1 := (s.noteReset cause).dropControl.dropHub_touches.same .svc (by decide)
  have h2 := (s.noteReset cause).dropControl_same .svc
  rw [← s.noteReset_svc cause]
  exact h1.trans h2

/-- What `dropHub` starts from, as the reset found it. -/
theorem State.dropControl_noteReset (p : Part) (hp : p ∉ [.svc, .recorder]) : p.same s (s.noteReset cause).dropControl :=
  Part.same_trans ((s.noteReset_touches cause).same p hp) (State.dropControl_same _ p)

theorem State.hubReset_cir : (s.hubReset cause).cir.ctxs = s.cir.ctxs ∧ (s.hubReset cause).cir.grants = s.cir.grants ∧
    (s.hubReset cause).cir.leaves = s.cir.leaves ∧ (s.hubReset cause).cir.run = none ∧ (s.hubReset cause).cir.queue = [] := by
  have h : (s.noteReset cause).dropControl.cir = s.cir := s.dropControl_noteReset cause .cir (by decide)
  rw [← h]
  exact State.dropHub_cir _

theorem State.hubReset_cmd : (s.hubReset cause).cmd.keys = s.cmd.keys ∧ (s.hubReset cause).cmd.txSeq = s.cmd.txSeq ∧
    (s.hubReset cause).cmd.sessions = [] ∧ (s.hubReset cause).cmd.nonces = [] ∧ (s.hubReset cause).cmd.held = [] := by
  have h : (s.noteReset cause).dropControl.cmd = { s.cmd with outQ := (s.noteReset cause).dropControl.cmd.outQ } :=
    s.dropControl_noteReset cause .cmd (by decide)
  have keys := congrArg CmdSt.keys h
  have txSeq := congrArg CmdSt.txSeq h
  simp only at keys txSeq
  rw [← keys, ← txSeq]
  exact State.dropHub_cmd _

theorem State.hubReset_net : (s.hubReset cause).net.sas = s.net.sas ∧ (s.hubReset cause).net.queues = [] := by
  have h : (s.noteReset cause).dropControl.net = s.net := s.dropControl_noteReset cause .net (by decide)
  rw [← h]
  exact State.dropHub_net _

theorem State.hubReset_evt : (s.hubReset cause).evt.ring = s.evt.ring ∧ (s.hubReset cause).evt.opens = s.evt.opens ∧
    (s.hubReset cause).evt.mirror = [] := by
  obtain ⟨h, -⟩ := (s.noteReset cause).dropControl_same .recorder
  rw [s.noteReset_evt] at h
  have ring := congrArg EvtSt.ring h
  have opens := congrArg EvtSt.opens h
  simp only at ring opens
  rw [← ring, ← opens]
  exact State.dropHub_evt _

end

/-! ## Registers across the reset -/

theorem State.hubReset_rd (s : State) (cause : Nat) {a : Nat} (h : a ∉ [R.TIME_STS, R.THM_STS, R.EPO_CTL]) :
    (s.hubReset cause).rd a = if (s.noteReset cause).keepsReg a then (s.noteRegs cause).rd a else resetWord a := by
  obtain ⟨-, -, hrd⟩ := (s.noteReset cause).dropControl_touches
  rw [State.hubReset, State.dropHub_rd, hrd a h (by simp), State.keptRegs_rd, State.noteReset_rd]

theorem State.keepsReg_of_not_control (s : State) {a : Nat} (h : domAt a ≠ some .control) : s.keepsReg a = true := by
  simp [State.keepsReg, h]

theorem State.keepsReg_of_control (s : State) {a : Nat} (h : domAt a = some .control) (hr : rebuilt a = false)
    (hs : a ∉ [R.SCHD_SWAP, R.SCHD_SWAP_T_HI, R.SCHD_SWAP_T_LO]) : s.keepsReg a = false := by
  simp only [List.mem_cons, List.not_mem_nil, or_false, not_or] at hs
  simp [State.keepsReg, h, hr, hs]

theorem domAt_aloneRegs : ∀ n, n < 20 → ∀ a, a ∈ aloneRegs n → domAt a = some .fabric := by decide +kernel

theorem domAt_boot : domAt R.GLB_BOOT = some .retained := by decide +kernel

theorem domAt_rstCause : domAt R.GLB_RST_CAUSE = some .retained := by decide +kernel

theorem not_control_of_tail {a : Nat} (h : a ∈ R.GLB_BOOT :: (List.range 20).flatMap aloneRegs) : domAt a ≠ some .control := by
  rcases List.mem_cons.1 h with rfl | h
  · simp [domAt_boot]
  · obtain ⟨n, hn, ha⟩ := List.mem_flatMap.1 h
    simp [domAt_aloneRegs n (List.mem_range.1 hn) a ha]

theorem State.hubReset_rd_kept (s : State) (cause : Nat) {a : Nat} (hd : domAt a ≠ some .control) (ha : a ∉ [R.TIME_STS, R.THM_STS, R.EPO_CTL]) :
    (s.hubReset cause).rd a = (s.noteRegs cause).rd a := by
  rw [State.hubReset_rd s cause ha, State.keepsReg_of_not_control _ hd, if_pos rfl]

/-- The stage that a reset finds is the one at which `resumeStage` decides. -/
theorem State.hubReset_stage (s : State) (cause : Nat) : (s.hubReset cause).tilesAlone.suspendHead.stage = s.get R.GLB_BOOT_STAGE := by
  have h1 := (s.noteRegs_touches cause []).get (f := R.GLB_BOOT_STAGE) (by decide) (by decide)
  have h2 := (s.hubReset cause).tilesAlone_touches.get (f := R.GLB_BOOT_STAGE) (by decide +kernel) (by decide)
  have h3 := (s.hubReset cause).tilesAlone.suspendHead_touches.get (f := R.GLB_BOOT_STAGE) (by decide) (by decide)
  rw [State.stage, h3, h2, ← h1, State.get, State.get, s.hubReset_rd_kept cause (by simp [R.GLB_BOOT_STAGE, domAt_boot]) (by decide)]

section
variable {s : State} (cause : Nat)
  (h : ¬ (s.svc.por = false ∨ s.svc.ctrlReset = true ∨ s.get R.GLB_BOOT_STAGE = 0 ∨ s.get R.GLB_BOOT_STAGE = 7))
include h

theorem State.beginReset_rd_control {a : Nat} (hd : domAt a = some .control) (hr : rebuilt a = false)
    (ha : a ∉ [R.SCHD_SWAP, R.SCHD_SWAP_T_HI, R.SCHD_SWAP_T_LO, R.TIME_STS, R.GLB_BOOT]) : (s.beginReset cause).rd a = resetWord a := by
  obtain ⟨-, -, htail⟩ := (s.hubReset cause).hubReset_tail
  have hmod : a ∉ [R.TIME_STS, R.THM_STS, R.EPO_CTL] := by
    simp only [List.mem_cons, List.not_mem_nil, or_false, not_or] at ha ⊢
    obtain ⟨-, -, -, htime, -⟩ := ha
    refine ⟨htime, ?_, ?_⟩ <;> rintro rfl <;> cases hr
  rw [State.beginReset_eq cause h, htail a (fun hm => not_control_of_tail hm hd) (by simp), State.hubReset_rd s cause hmod,
    State.keepsReg_of_control _ hd hr fun hm => ha (List.mem_append_left [R.TIME_STS, R.GLB_BOOT] hm)]
  rfl

theorem State.beginReset_rd_kept {a : Nat} (hd : domAt a ≠ some .control)
    (ha : a ∉ [R.GLB_RST_CAUSE, R.GLB_FW_0, R.GLB_BOOT, R.TIME_STS, R.THM_STS, R.EPO_CTL]) (hn : ∀ n, n < 20 → a ∉ aloneRegs n) :
    (s.beginReset cause).rd a = s.rd a := by
  obtain ⟨-, -, htail⟩ := (s.hubReset cause).hubReset_tail
  obtain ⟨-, -, hnote⟩ := s.noteRegs_touches cause []
  simp only [List.mem_cons, List.not_mem_nil, or_false, not_or] at ha
  obtain ⟨h1, h2, h3, h4, h5, h6⟩ := ha
  have hm : a ∉ R.GLB_BOOT :: (List.range 20).flatMap aloneRegs := by
    simp only [List.mem_cons, List.mem_flatMap, List.mem_range, not_or]
    exact ⟨h3, fun ⟨n, hlt, hx⟩ => hn n hlt hx⟩
  rw [State.beginReset_eq cause h, htail a hm (by simp), s.hubReset_rd_kept cause hd (by simp [h4, h5, h6]), hnote a (by simp [h1, h2]) (by simp)]

/-- The registers of the cause read what the reset noted. -/
theorem State.beginReset_get_cause {f : Fld} (hf : f.addr = R.GLB_RST_CAUSE) : (s.beginReset cause).get f = (s.noteRegs cause).get f := by
  have hd : domAt f.addr ≠ some .control := by simp [hf, domAt_rstCause]
  have hm : f.addr ∉ R.GLB_BOOT :: (List.range 20).flatMap aloneRegs := by
    rw [hf]
    decide +kernel
  obtain ⟨-, -, htail⟩ := (s.hubReset cause).hubReset_tail
  rw [State.beginReset_eq cause h, State.get, State.get, htail _ hm (by simp), s.hubReset_rd_kept cause hd (by rw [hf]; decide)]

theorem State.beginReset_same (p : Part) (hp : p ∉ [.svc, .recorder, .cmd, .frames, .net, .cir, .tm, .thm, .tiles, .cal, .trv]) :
    p.same s (s.beginReset cause) := by
  simp only [List.mem_cons, List.not_mem_nil, or_false, not_or] at hp
  rw [State.beginReset_eq cause h]
  exact Part.same_trans (s.hubReset_same cause p (by simp [hp])) ((s.hubReset cause).hubReset_tail.same p (by simp [hp]))

theorem State.beginReset_journal {x : Trav} {l : List Trav} (hj : s.trv.journal = x :: l) :
    (s.beginReset cause).trv.journal = (if x.timedNow then x.suspend else x) :: l := by
  have h1 : (s.hubReset cause).trv = s.trv := s.hubReset_same cause .trv (by decide)
  have h2 : (s.hubReset cause).tilesAlone.trv = (s.hubReset cause).trv := (s.hubReset cause).tilesAlone_touches.same .trv (by decide)
  have h3 := (s.hubReset cause).tilesAlone.suspendHead.resumeStage_touches.same .trv (by decide)
  rw [State.beginReset_eq cause h, h3]
  exact State.suspendHead_journal (by rw [h2, h1, hj])

theorem State.beginReset_mirror {n : Nat} (hn : n < 20) : (s.beginReset cause).MirrorGone n := by
  obtain ⟨hm, hf⟩ := (s.hubReset cause).tilesAlone_mirror hn
  have hrest := ((s.hubReset cause).tilesAlone.suspendHead_touches.mono (qs := [.trv]) (ss := [R.GLB_BOOT]) (by decide) (by simp)).trans
    ((s.hubReset cause).tilesAlone.suspendHead.resumeStage_touches.mono (by decide) (by simp))
  have hb : R.TILE_LP_STS n ∉ [R.GLB_BOOT] := by
    simp only [R.TILE_LP_STS, tileBase, R.GLB_BOOT, List.mem_cons, List.not_mem_nil, or_false]
    omega
  rw [State.beginReset_eq cause h]
  exact ⟨by rw [State.tile_congr (hrest.same .tiles (by decide)), hm], by rw [hrest.flag hb (lpSts_not_evtReg n), hf]⟩

end

/-! ## The clauses of O56 -/

/-- What a control-domain reset leaves and drops (R4 to R6, R104, R409). -/
theorem beginReset_leaves (s : State) (cause : Nat) :
    let t := s.beginReset cause
    let stage := s.get R.GLB_BOOT_STAGE
    let barred : Prop := s.svc.por = false ∨ s.svc.ctrlReset = true ∨ stage = 0 ∨ stage = 7
    ¬ barred → t.t = s.t ∧ t.pending = s.pending ∧ t.svc.ctrlReset = true ∧ t.svc.fwRuns = false ∧ t.svc.fw = none ∧ t.svc.resetAt = none ∧
      t.svc.freezeEnd = none ∧ t.svc.outAt = s.now ∧ t.get R.GLB_RST_CAUSE_CAUSE = cause % 16 ∧
      t.get R.GLB_RST_CAUSE_COUNT = satInc 16 (s.get R.GLB_RST_CAUSE_COUNT) ∧ t.get R.GLB_BOOT_STAGE = (if stage = 6 ∨ stage = 8 then stage else 1) ∧
      t.fab = s.fab ∧ t.drv = s.drv ∧ t.sch = s.sch ∧ t.nv = s.nv ∧ t.cir.ctxs = s.cir.ctxs ∧ t.cir.grants = s.cir.grants ∧ t.cir.leaves = s.cir.leaves ∧
      t.cir.run = none ∧ t.cir.queue = [] ∧ t.cmd.keys = s.cmd.keys ∧ t.cmd.txSeq = s.cmd.txSeq ∧ t.cmd.sessions = [] ∧ t.cmd.nonces = [] ∧
      t.cmd.held = [] ∧ t.net.sas = s.net.sas ∧ t.net.queues = [] ∧ t.evt.ring = s.evt.ring ∧ t.evt.opens = s.evt.opens ∧ t.evt.mirror = [] ∧
      (∀ x l, s.trv.journal = x :: l → t.trv.journal = (if x.timedNow then x.suspend else x) :: l) ∧
      (∀ n, n < 20 → (t.tile n).mirror = [] ∧ t.flag (R.TILE_LP_STS_MIRROR_OK n) = false) ∧
      (∀ a, domAt a = some .control → rebuilt a = false → a ∉ [R.SCHD_SWAP, R.SCHD_SWAP_T_HI, R.SCHD_SWAP_T_LO, R.TIME_STS, R.GLB_BOOT] →
        t.rd a = resetWord a) ∧
      (∀ a, domAt a ≠ some .control → a ∉ [R.GLB_RST_CAUSE, R.GLB_FW_0, R.GLB_BOOT, R.TIME_STS, R.THM_STS, R.EPO_CTL] →
        (∀ n, n < 20 → a ≠ R.TILE_LP_STS n ∧ a ≠ R.TILE_MC_HOLD n ∧ a ≠ R.TILE_MC_ANC_CTL n) → t.rd a = s.rd a) := by
  intro t stage barred h
  have ht : t = (s.hubReset cause).tilesAlone.suspendHead.resumeStage := State.beginReset_eq cause h
  have tail := (s.hubReset cause).hubReset_tail
  have hsvc : t.svc = s.svc.down s.now := ht ▸ (tail.same .svc (by decide)).trans (s.hubReset_svc cause)
  have hcir : t.cir = (s.hubReset cause).cir := ht ▸ tail.same .cir (by decide)
  have hcmd : t.cmd = (s.hubReset cause).cmd := by
    have hq : t.cmd.outQ = (s.hubReset cause).cmd.outQ := ht ▸ tail.same .frames (by decide)
    have hc : t.cmd = { (s.hubReset cause).cmd with outQ := t.cmd.outQ } := ht ▸ tail.same .cmd (by decide)
    rw [hc, hq]
  have hnet : t.net = (s.hubReset cause).net := ht ▸ tail.same .net (by decide)
  obtain ⟨hevt, -⟩ : t.evt = (s.hubReset cause).evt ∧ _ := ht ▸ tail.same .recorder (by decide)
  obtain ⟨hpend, -, -⟩ := tail
  rw [← ht, s.hubReset_pending cause] at hpend
  have hstage : t.get R.GLB_BOOT_STAGE = if stage = 6 ∨ stage = 8 then stage else 1 := by
    rw [ht, State.resumeStage_stage, s.hubReset_stage cause]
  have same := fun p => State.beginReset_same cause h p
  obtain ⟨c1, c2, c3, c4, c5⟩ := s.hubReset_cir cause
  obtain ⟨m1, m2, m3, m4, m5⟩ := s.hubReset_cmd cause
  obtain ⟨n1, n2⟩ := s.hubReset_net cause
  obtain ⟨e1, e2, e3⟩ := s.hubReset_evt cause
  rw [hpend, hsvc, hcir, hcmd, hnet, hevt, hstage, State.beginReset_get_cause cause h rfl, State.beginReset_get_cause cause h rfl,
    s.noteRegs_cause, s.noteRegs_count]
  exact ⟨same .time (by decide), rfl, rfl, rfl, rfl, rfl, rfl, rfl, rfl, rfl, rfl, same .fab (by decide), same .drv (by decide),
    same .sch (by decide), same .nv (by decide), c1, c2, c3, c4, c5, m1, m2, m3, m4, m5, n1, n2, e1, e2, e3,
    fun _ _ hj => State.beginReset_journal cause h hj, fun _ hn => State.beginReset_mirror cause h hn,
    fun _ hd hr ha => State.beginReset_rd_control cause h hd hr ha,
    fun _ hd ha hn => State.beginReset_rd_kept cause h hd ha fun n hlt => by simpa [aloneRegs] using hn n hlt⟩

theorem State.groupLost_failover {s : State} (freeze : Nat) (hc : s.ctrlUp = true) (hf : s.svc.freezeEnd = none)
    (hr : s.flag R.GLB_FW_0_STBY_READY = true) : s.groupLost freeze =
    { s with svc.freezeEnd := some (s.now + min freeze 100_000), svc.outAt := s.now, evt.tileLostAt := s.get (whole R.EVT_TILE_LOST) } := by
  simp [State.groupLost, hc, hf, hr]

theorem State.groupLost_reset {s : State} (freeze : Nat) (hc : s.ctrlUp = true) (hf : s.svc.freezeEnd = none)
    (hr : s.flag R.GLB_FW_0_STBY_READY = false) : s.groupLost freeze = s.beginReset 2 := by
  simp [State.groupLost, hc, hf, hr]

theorem groupLost_leaves (s : State) (freeze : Nat) (i : Instr) (hs : s.Live) (hc : s.ctrlUp = true) (hf : s.svc.freezeEnd = none)
    (hi : i = .hubWatchdogExpiry freeze ∨ i = .hubFatalFault freeze) : Leaves i s fun t =>
      (s.flag R.GLB_FW_0_STBY_READY = true → s.Touches t [.svc, .recorder] [] ∧
        t.svc = { s.svc with freezeEnd := some (s.now + min freeze 100_000), outAt := s.now }) ∧
      (s.flag R.GLB_FW_0_STBY_READY = false → t = s.beginReset 2) := by
  refine leaves_live (fun s => s.groupLost freeze) (by rcases hi with rfl | rfl <;> rfl) hs ⟨fun hr => ?_, fun hr => s.groupLost_reset freeze hc hf hr⟩
  simp only [State.groupLost_failover freeze hc hf hr, and_true]
  exact .with_svc_evt s _ _

theorem warmReset_leaves (s : State) (width : Nat) (hs : s.Live) : Leaves (.warmReset width) s fun t =>
    (width < 100 → t = s) ∧ (100 ≤ width → t = { s.beginReset 1 with svc.rstRise := s.now + width }) := by
  refine leaves_live (doWarmReset width) rfl hs ⟨fun hw => if_pos (.inl hw), fun hw => ?_⟩
  obtain ⟨hp, -⟩ := hs
  exact if_neg (by simp [hw, hp])

/-- Settles O56: the frame of `beginReset` with its registers, mirrors and journal, and the rows that begin one. -/
theorem controlResetsKeepTheFabric : Obligations.ControlResetsKeepTheFabric := by
  refine ⟨fun s cause => ⟨State.beginReset_barred cause, beginReset_leaves s cause⟩, warmReset_leaves, groupLost_leaves, fun s n c hr => ?_⟩
  rw [State.resetDue, hr]

end Sys2Proof.Machine
end

section
/-!
PROOFS. Paths and route words (R20 to R23, R77): the bits of lines and cells, the hops of a path, and the line after each stage (O17).
-/
namespace Sys2Proof.Machine

/-! ## Bits of lines and cells -/

theorem lineBit_eq (l b : Nat) : lineBit l b = l.testBit b := by
  rw [lineBit, Nat.testBit_eq_decide_div_mod_eq, Bool.beq_eq_decide_eq]

/-- The bits of a number put together at bit `b`: `low` below it, `v` in it, and `high` above it. -/
theorem testBit_join (high : Nat) (v : Bool) {low b : Nat} (h : low < 2 ^ b) (k : Nat) :
    (high * 2 ^ (b + 1) + b2n v * 2 ^ b + low).testBit k =
      if k < b then low.testBit k else if k = b then v else high.testBit (k - (b + 1)) := by
  have e : high * 2 ^ (b + 1) + b2n v * 2 ^ b + low = 2 ^ b * (2 * high + b2n v) + low := by ring
  rw [e, Nat.testBit_two_pow_mul_add _ h]
  split
  · rfl
  · rename_i hk
    obtain ⟨n, rfl⟩ := Nat.exists_eq_add_of_le (Nat.not_lt.1 hk)
    cases n with
    | zero => cases v <;> simp [b2n]
    | succ n =>
      have hv : b2n v ≤ 1 := by cases v <;> decide
      have half : (2 * high + b2n v) / 2 = high := by omega
      rw [Nat.add_sub_cancel_left, Nat.testBit_succ, half, if_neg (by omega), show b + (n + 1) - (b + 1) = n by omega]

/-- A line with a bit replaced is what stands above the bit, the new bit, and what stands below (R21). -/
theorem lineSet_eq (l b : Nat) (v : Bool) : lineSet l b v = l / 2 ^ (b + 1) * 2 ^ (b + 1) + b2n v * 2 ^ b + l % 2 ^ b := by
  have h1 := Nat.div_add_mod l (2 ^ b)
  have h2 := Nat.div_add_mod (l / 2 ^ b) 2
  rw [Nat.div_div_eq_div_mul, ← pow_succ] at h2
  have h3 : l = l / 2 ^ (b + 1) * 2 ^ (b + 1) + l / 2 ^ b % 2 * 2 ^ b + l % 2 ^ b := by
    calc l = 2 ^ b * (2 * (l / 2 ^ (b + 1)) + l / 2 ^ b % 2) + l % 2 ^ b := by rw [h2, h1]
      _ = _ := by ring
  rw [lineSet]
  omega

theorem testBit_lineSet (l b : Nat) (v : Bool) (k : Nat) : (lineSet l b v).testBit k = if k = b then v else l.testBit k := by
  rw [lineSet_eq, testBit_join _ _ (Nat.mod_lt _ (by positivity)), Nat.testBit_mod_two_pow, ← Nat.shiftRight_eq_div_pow, Nat.testBit_shiftRight]
  rcases Nat.lt_trichotomy k b with h | rfl | h
  · simp [h, h.ne]
  · simp
  · rw [if_neg (by omega), show b + 1 + (k - (b + 1)) = k by omega]

theorem testBit_cellOf (s l k : Nat) : (cellOf s l).testBit k = if k < stageBit s then l.testBit k else l.testBit (k + 1) := by
  have e : cellOf s l = 2 ^ stageBit s * (l / 2 ^ (stageBit s + 1)) + l % 2 ^ stageBit s := by simp only [cellOf, Nat.mul_comm]
  rw [e, Nat.testBit_two_pow_mul_add _ (Nat.mod_lt _ (by positivity)), Nat.testBit_mod_two_pow, ← Nat.shiftRight_eq_div_pow,
    Nat.testBit_shiftRight]
  split
  · simp [*]
  · congr 1
    omega

theorem testBit_lineOf (s c : Nat) (v : Bool) (k : Nat) : (lineOf s c v).testBit k =
    if k < stageBit s then c.testBit k else if k = stageBit s then v else c.testBit (k - 1) := by
  rw [lineOf, testBit_join _ _ (Nat.mod_lt _ (by positivity)), Nat.testBit_mod_two_pow, ← Nat.shiftRight_eq_div_pow, Nat.testBit_shiftRight]
  rcases Nat.lt_trichotomy k (stageBit s) with h | h | h
  · simp [h]
  · simp [h]
  · rw [if_neg (by omega), if_neg (by omega), if_neg (by omega), if_neg (by omega), show stageBit s + (k - (stageBit s + 1)) = k - 1 by omega]

/-- The cell of a line by shifts and masks: the line with its stage bit removed (R22). -/
theorem cellOf_eq (s l : Nat) : cellOf s l = ((l >>> (stageBit s + 1)) <<< stageBit s) ||| (l &&& (2 ^ stageBit s - 1)) := by
  rw [Nat.and_two_pow_sub_one_eq_mod, ← Nat.shiftLeft_add_eq_or_of_lt (Nat.mod_lt _ (by positivity)), Nat.shiftLeft_eq,
    Nat.shiftRight_eq_div_pow, cellOf]

/-- A line is fixed by its cell and by the side that its stage bit tells (R22). -/
theorem cellOf_side_iff (s l c : Nat) (v : Bool) : cellOf s l = c ∧ l.testBit (stageBit s) = v ↔ l = lineOf s c v := by
  constructor
  · rintro ⟨rfl, rfl⟩
    refine Nat.eq_of_testBit_eq fun k => ?_
    rw [testBit_lineOf, testBit_cellOf, testBit_cellOf]
    rcases Nat.lt_trichotomy k (stageBit s) with h | h | h
    · simp [h]
    · simp [h]
    · rw [if_neg (by omega), if_neg (by omega), if_neg (by omega), show k - 1 + 1 = k by omega]
  · rintro rfl
    refine ⟨Nat.eq_of_testBit_eq fun k => ?_, by simp [testBit_lineOf]⟩
    rw [testBit_cellOf, testBit_lineOf, testBit_lineOf]
    split
    · rfl
    · rw [if_neg (by omega), if_neg (by omega), Nat.add_sub_cancel]

/-! ## Hops -/

/-- The hop of a route word at a stage, from the line on which it enters (R20 to R22). -/
def hopAt (route s l : Nat) : Hop :=
  ⟨s * 512 + cellOf s l, lineBit l (stageBit s), lineBit route s, lineSet l (stageBit s) (lineBit route s)⟩

theorem hopsFrom_succ (route n s l : Nat) : hopsFrom route (n + 1) s l = hopAt route s l :: hopsFrom route n (s + 1) (hopAt route s l).line := rfl

/-- Each hop but the last is followed by the hop that enters on its line. -/
theorem hopsFrom_next {route n s l k : Nat} {h : Hop} (hk : (hopsFrom route n s l)[k]? = some h) (hn : k + 1 < n) :
    (hopsFrom route n s l)[k + 1]? = some (hopAt route (s + k + 1) h.line) := by
  induction n generalizing s l k with
  | zero => omega
  | succ n ih =>
    rw [hopsFrom_succ] at hk ⊢
    rw [List.getElem?_cons_succ]
    cases k with
    | zero =>
      obtain rfl : hopAt route s l = h := by simpa using hk
      cases n with
      | zero => omega
      | succ m => rfl
    | succ k =>
      rw [List.getElem?_cons_succ] at hk
      rw [ih hk (by omega), show s + 1 + k + 1 = s + (k + 1) + 1 by omega]

theorem lineAfter_zero (i route : Nat) : lineAfter i route 0 = i := rfl

/-- The line after a stage is that of its hop. -/
theorem lineAfter_of_hop {i route s : Nat} {h : Hop} (hs : (path i route)[s]? = some h) : lineAfter i route (s + 1) = h.line := by
  rw [lineAfter, List.take_add_one, hs]
  simp

/-- The hops of a path: that of each stage enters on the line of the stage before (R20). -/
theorem path_getElem? (i route : Nat) {s : Nat} (hs : s < 20) : (path i route)[s]? = some (hopAt route s (lineAfter i route s)) := by
  induction s with
  | zero => rfl
  | succ s ih =>
    have h := ih (by omega)
    rw [lineAfter_of_hop h, path, hopsFrom_next h hs, Nat.zero_add]

/-! ## Lines along a path -/

/-- A stage puts bit s of the route word in place of bit b(s) of the line (R21). -/
theorem testBit_lineAfter_succ (i route : Nat) {s : Nat} (hs : s < 20) (k : Nat) :
    (lineAfter i route (s + 1)).testBit k = if k = stageBit s then route.testBit s else (lineAfter i route s).testBit k := by
  rw [lineAfter_of_hop (path_getElem? i route hs), hopAt, testBit_lineSet, lineBit_eq]

theorem stageBit_lt {s : Nat} (hs : s < 20) : stageBit s < 10 := by
  unfold stageBit
  split
  · omega
  · split <;> omega

/-- The path stays on the 1,024 lines. -/
theorem lineAfter_lt {i : Nat} (route : Nat) (hi : i < 1024) {n : Nat} (hn : n ≤ 20) : lineAfter i route n < 2 ^ 10 := by
  induction n with
  | zero => exact hi
  | succ n ih =>
    refine Nat.lt_pow_two_of_testBit _ fun k hk => ?_
    have := stageBit_lt (s := n) (by omega)
    rw [testBit_lineAfter_succ i route (by omega), if_neg (by omega)]
    exact Nat.testBit_lt_two_pow (lt_of_lt_of_le (ih (by omega)) (Nat.pow_le_pow_right (by decide) hk))

/-- A bit of the line keeps what its stage put there until a later stage of the same bit. -/
theorem testBit_lineAfter (i route : Nat) {s n : Nat} (hsn : s < n) (hn : n ≤ 20) (hd : ∀ r, s < r → r < n → stageBit r ≠ stageBit s) :
    (lineAfter i route n).testBit (stageBit s) = route.testBit s := by
  induction n, hsn using Nat.le_induction with
  | base => rw [testBit_lineAfter_succ i route (by omega), if_pos rfl]
  | succ n hs ih =>
    rw [testBit_lineAfter_succ i route (by omega), if_neg (Ne.symm (hd n hs (Nat.lt_succ_self n)))]
    exact ih (by omega) fun r h1 h2 => hd r h1 (by omega)

/-- Stages 0 to 9 set every bit of the middle line once (R77). -/
theorem testBit_middle (i route : Nat) {s : Nat} (hs : s < 10) : (lineAfter i route 10).testBit (stageBit s) = route.testBit s := by
  refine testBit_lineAfter i route hs (by decide) fun r h1 h2 => ?_
  unfold stageBit
  rw [if_neg (by omega), if_pos (by omega)]
  split_ifs <;> omega

/-- Stages 10 to 19 set every bit of the output line once (R23). -/
theorem testBit_output (i route : Nat) {k : Nat} (hk : k < 10) : (lineAfter i route 20).testBit k = route.testBit (k + 10) := by
  have e (n : Nat) : stageBit (n + 10) = n := by simp [stageBit]
  have h := testBit_lineAfter i route (s := k + 10) (n := 20) (by omega) (le_refl _) fun r h1 h2 => by
    obtain ⟨m, rfl⟩ := Nat.exists_eq_add_of_le' (show 10 ≤ r by omega)
    rw [e, e]
    omega
  rwa [e] at h

/-- The stages 0 to 9 reach every bit of a line. -/
theorem exists_stage_of_bit {k : Nat} (hk : k < 10) : ∃ s, s < 10 ∧ stageBit s = k := by
  refine ⟨if k = 0 then 0 else 10 - k, by split <;> omega, ?_⟩
  unfold stageBit
  split
  · simp [*]
  · rw [if_neg (by omega), if_pos (by omega)]
    omega

theorem eq_of_testBit_lt_ten {x y : Nat} (hx : x < 2 ^ 10) (hy : y < 2 ^ 10) (h : ∀ k, k < 10 → x.testBit k = y.testBit k) : x = y :=
  Nat.eq_of_testBit_eq fun k => if hk : k < 10 then h k hk else by
    have le := Nat.pow_le_pow_right (n := 2) (by decide) (Nat.not_lt.1 hk)
    rw [Nat.testBit_lt_two_pow (hx.trans_le le), Nat.testBit_lt_two_pow (hy.trans_le le)]

/-- Whatever the input and the low bits of the route word, the path leaves on the line that its bits 19:10 name (R23). -/
theorem lineAfter_twenty {i j low : Nat} (hi : i < 1024) (hj : j < 1024) (hl : low < 1024) : lineAfter i (j * 1024 + low) 20 = j :=
  eq_of_testBit_lt_ten (lineAfter_lt _ hi (le_refl _)) hj fun k hk => by
    rw [testBit_output i _ hk, Nat.mul_comm, show 1024 = 2 ^ 10 from rfl, Nat.testBit_two_pow_mul_add _ hl, if_neg (by omega), Nat.add_sub_cancel]

/-! ## The route word of a middle line -/

/-- The route word of the path through a middle line to an output, bit by bit (R23, R77). -/
def routeThrough (mid out : Nat) : Nat := Nat.ofBits (n := 20) fun s => if s.val < 10 then mid.testBit (stageBit s) else out.testBit (s - 10)

theorem testBit_routeThrough (mid out : Nat) {s : Nat} (hs : s < 20) :
    (routeThrough mid out).testBit s = if s < 10 then mid.testBit (stageBit s) else out.testBit (s - 10) := Nat.testBit_ofBits_lt _ _ hs

/-- A route word leads through the middle line `mid` to the output `out` exactly when it is `routeThrough mid out` (R77). -/
theorem routeThrough_unique {i mid out r : Nat} (hi : i < 1024) (hm : mid < 1024) (ho : out < 1024) (hr : r < 2 ^ 20) :
    lineAfter i r 10 = mid ∧ lineAfter i r 20 = out ↔ r = routeThrough mid out := by
  constructor
  · rintro ⟨rfl, rfl⟩
    refine Nat.eq_of_testBit_eq fun s => ?_
    by_cases hs : s < 20
    · rw [testBit_routeThrough _ _ hs]
      split
      · exact (testBit_middle i r ‹_›).symm
      · rw [testBit_output i r (by omega), Nat.sub_add_cancel (by omega)]
    · have le := Nat.pow_le_pow_right (n := 2) (by decide) (Nat.not_lt.1 hs)
      rw [Nat.testBit_lt_two_pow (hr.trans_le le), routeThrough, Nat.testBit_ofBits_ge _ _ (Nat.not_lt.1 hs)]
  · rintro rfl
    refine ⟨eq_of_testBit_lt_ten (lineAfter_lt _ hi (by decide)) hm fun k hk => ?_,
      eq_of_testBit_lt_ten (lineAfter_lt _ hi (le_refl _)) ho fun k hk => ?_⟩
    · obtain ⟨s, hs, rfl⟩ := exists_stage_of_bit hk
      rw [testBit_middle i _ hs, testBit_routeThrough _ _ (by omega), if_pos hs]
    · rw [testBit_output i _ hk, testBit_routeThrough _ _ (by omega), if_neg (by omega), Nat.add_sub_cancel]

/-- Settles O17: bit by bit along the path, each bit of a line being set last by one stage. -/
theorem routeWordsFixPaths : Obligations.RouteWordsFixPaths := by
  refine ⟨fun s l _ _ => ⟨cellOf_eq s l, testBit_cellOf s l, fun c _ => ⟨cellOf_side_iff s l c false, cellOf_side_iff s l c true⟩⟩,
    fun i route s _ hs => ⟨lineAfter_zero i route, hopAt route s (lineAfter i route s), path_getElem? i route hs, ?_⟩,
    fun i j low hi hj hl => lineAfter_twenty hi hj hl, fun i j hi hj => ⟨fun route _ => ⟨?_, fun s h1 h9 => ?_⟩, fun mid hm => ?_⟩⟩
  · exact ⟨rfl, lineBit_eq _ _, lineBit_eq _ _, testBit_lineAfter_succ i route hs, bne_iff_ne⟩
  · exact testBit_middle i route (s := 0) (by decide)
  · have h := testBit_middle i route (s := s) (by omega)
    rwa [stageBit, if_neg (by omega), if_pos h9] at h
  · have hlt : routeThrough mid j < 2 ^ 20 := Nat.ofBits_lt_two_pow _
    have through := (routeThrough_unique hi hm hj hlt).2 rfl
    exact ⟨routeThrough mid j, ⟨hlt, through⟩, fun r hr h10 h20 => (routeThrough_unique hi hm hj hr).1 ⟨h10, h20⟩⟩

end Sys2Proof.Machine
end

section
/-!
PROOFS. What the decision instant can do (R61, R158, R209): the frame of its loads and of an end of circuits, and what it withdraws.
-/
namespace Sys2Proof.Machine

/-! ## Steady updates -/

/-- From `s` to `t` neither device time nor a transition in progress changes. -/
structure State.KeepsTrans (s t : State) : Prop where
  time : t.t = s.t
  trans : t.fab.trans = s.fab.trans

/-- Beside these, the circuits and the journal stay. -/
structure State.Steady (s t : State) : Prop extends s.KeepsTrans t where
  cir : t.cir = s.cir
  trv : t.trv = s.trv

namespace State.KeepsTrans

theorem refl (s : State) : s.KeepsTrans s := ⟨rfl, rfl⟩

theorem comp {a b c : State} (h : a.KeepsTrans b) (g : b.KeepsTrans c) : a.KeepsTrans c :=
  ⟨g.time.trans h.time, g.trans.trans h.trans⟩

end State.KeepsTrans

namespace State.Steady

theorem refl (s : State) : s.Steady s := ⟨.refl s, rfl, rfl⟩

theorem comp {a b c : State} (h : a.Steady b) (g : b.Steady c) : a.Steady c :=
  ⟨h.toKeepsTrans.comp g.toKeepsTrans, g.cir.trans h.cir, g.trv.trans h.trv⟩

theorem foldl {α : Type} {f : State → α → State} (h : ∀ (s : State) a, s.Steady (f s a)) (l : List α) (s : State) :
    s.Steady (l.foldl f s) :=
  List.foldlRecOn l f (motive := s.Steady) (refl s) fun t ht a _ => ht.comp (h t a)

theorem ofRecorded {s t : State} (h : s.Recorded t) : s.Steady t := ⟨⟨h.time, by rw [h.fab]⟩, h.cir, h.trv⟩

theorem ctx {s t : State} (h : s.Steady t) (i : Nat) : t.ctx i = s.ctx i := by rw [State.ctx, State.ctx, h.cir]

end State.Steady

theorem State.count_steady (s : State) (f : Fld) : s.Steady (s.count f) := ⟨⟨rfl, rfl⟩, rfl, rfl⟩

theorem State.alertFlush_steady (s : State) (src at_ : Nat) : s.Steady (s.alertFlush src at_) := by
  unfold State.alertFlush
  dsimp only
  split <;> split <;> exact ⟨⟨rfl, rfl⟩, rfl, rfl⟩

/-- An occurrence of any source, even of one that no event register holds. -/
theorem State.recordOcc_steady (s : State) (o : Occ) (at_ : Nat) : s.Steady (s.recordOcc o at_).1 := by
  have notified (u : State) (r : Rec) (on every : Bool) (h : s.Steady u) : s.Steady (if on then u.notify r at_ every else u) := by
    split
    · exact h.comp (.ofRecorded (u.notify_recorded r at_ every))
    · exact h
  unfold State.recordOcc
  dsimp only
  split
  · exact notified _ _ _ _ ((s.alertFlush_steady o.src at_).comp (.ofRecorded (.draw _)))
  · split
    · exact notified _ _ _ _ ((State.Steady.ofRecorded (s.newRecord_recorded o at_ false false)).comp (State.alertFlush_steady _ _ _))
    · split
      · exact ⟨⟨rfl, rfl⟩, rfl, rfl⟩
      · refine notified _ _ _ _ (.comp ?_ (State.alertFlush_steady _ _ _))
        exact .ofRecorded (((s.closeRec_recorded o.src at_).trans (State.newRecord_recorded _ o at_ true false)).trans (.ofOpens _ _))

theorem State.raise_steady (s : State) (o : Occ) : s.Steady (s.raise o) := by
  unfold State.raise
  split
  · unfold State.record
    have h := s.recordOcc_steady o s.now
    dsimp only
    split
    · split
      · exact h
      · exact (h.comp (.ofRecorded (.ofLostRun _ true))).comp (State.recordOcc_steady _ _ _)
    · exact h.comp (.ofRecorded (.ofLostRun _ false))
  · split
    · exact .refl s
    · dsimp only
      split <;> exact ⟨⟨rfl, rfl⟩, rfl, rfl⟩

theorem State.ev_steady (s : State) (src code : Nat) : s.Steady (s.ev src code) := s.raise_steady _

theorem State.completeOpt_steady (s : State) (r : Option Requester) (final : Bool) (code : Nat) (params : List Byte) :
    s.Steady (s.completeOpt r final code params) := by
  unfold State.completeOpt
  split
  · exact .refl s
  · rename_i r
    unfold State.complete
    split
    · dsimp only
      split
      · unfold State.endRequest
        split
        · exact ⟨⟨rfl, rfl⟩, rfl, rfl⟩
        · split <;> exact ⟨⟨rfl, rfl⟩, rfl, rfl⟩
      · exact ⟨⟨rfl, rfl⟩, rfl, rfl⟩
    · exact (s.count_steady _).comp (State.raise_steady _ _)

/-! ## Loads -/

theorem State.fdLoad_steady (s : State) (k code range : Nat) : s.Steady (s.fdLoad k code range).1 := by
  have h (x : FdCh) : s.Steady (s.setFd k x) := ⟨⟨rfl, rfl⟩, rfl, rfl⟩
  unfold State.fdLoad
  extract_lets x t
  split
  · exact ((h { x with pend := none }).comp (State.count_steady _ (whole (R.TILE_FD_CNT t 0)))).comp (State.ev_steady _ _ _)
  · exact h _

theorem State.setElem_steady (s : State) (e : Nat) (x : Elem) : s.Steady (s.setElem e x) := ⟨⟨rfl, rfl⟩, rfl, rfl⟩

theorem State.loadPin_steady (s : State) (e : Nat) (ph trim : Int) : s.Steady (s.loadPin e ph trim).1 :=
  ((s.fdLoad_steady _ _ _).comp (State.fdLoad_steady _ _ _ _)).comp (State.setElem_steady _ e _)

theorem State.undoCell_steady (s : State) (tr : Trans) (pos : Nat) (old : Bool) : s.Steady (s.undoCell tr pos old) := by
  have h : s.Steady (s.setCell pos old) := ⟨⟨rfl, rfl⟩, rfl, rfl⟩
  exact h.comp (.foldl (fun u e => (u.loadPin_steady e _ _).comp (State.setElem_steady _ e _)) _ _)

theorem State.withdrawLoads_steady (s : State) (tr : Trans) : s.Steady (s.withdrawLoads tr).1 := by
  unfold State.withdrawLoads
  extract_lets a needed gone
  exact .foldl (fun (u : State) (l : Nat × Bool) => u.undoCell_steady tr l.1 (!l.2)) gone s

/-- A transition reduced to what remains of it: past its switch strobe the tiles take a withdraw load, before it the changes are found anew. -/
def State.reduced (s : State) (phase : Nat) (tr : Trans) : State × Trans :=
  if phase = 2 then s.withdrawLoads tr else (s, { tr with loads := if phase = 1 then s.changes tr else [] })

theorem State.reduced_steady (s : State) (phase : Nat) (tr : Trans) : s.Steady (s.reduced phase tr).1 := by
  unfold State.reduced
  split
  · exact s.withdrawLoads_steady tr
  · exact .refl s

theorem State.reduced_loads (s : State) (phase : Nat) (tr : Trans) : ∃ l, (s.reduced phase tr).2 = { tr with loads := l } := by
  unfold State.reduced
  split <;> exact ⟨_, rfl⟩

/-! ## Transitions in progress -/

theorem State.trans_congr {s t : State} (h : t.fab.trans = s.fab.trans) (cls : Bool) (e : Nat) : t.trans cls e = s.trans cls e := by
  rw [State.trans, State.trans, h]

theorem State.trans_key {s : State} {cls : Bool} {e : Nat} {tr : Trans} (h : s.trans cls e = some tr) : tr.slotClass = cls ∧ tr.e = e := by
  simpa using List.find?_some h

/-- A transition is that of a class and an epoch. -/
def Trans.isAt (cls : Bool) (e : Nat) (tr : Trans) : Bool := tr.slotClass == cls && tr.e == e

theorem Trans.isAt_replaced {cls : Bool} {e : Nat} {tr : Trans} (h : tr.isAt cls e = true) :
    (Trans.isAt cls e ∘ fun t => if t.isAt cls e then tr else t) = Trans.isAt cls e := by
  funext t
  by_cases ht : t.isAt cls e = true <;> simp [ht, h]

/-- A transition reads back as it was put. -/
theorem State.trans_setTrans (s : State) {tr : Trans} {cls : Bool} {e : Nat} (hk : tr.slotClass = cls ∧ tr.e = e) :
    (s.setTrans tr).trans cls e = some tr := by
  obtain ⟨rfl, rfl⟩ := hk
  have self : tr.isAt tr.slotClass tr.e = true := by simp [Trans.isAt]
  unfold State.setTrans
  split
  · rename_i h
    obtain ⟨x, hx⟩ := Option.isSome_iff_exists.1 h
    have replaced : (s.fab.trans.map fun t => if t.isAt tr.slotClass tr.e then tr else t).find? (Trans.isAt tr.slotClass tr.e) = some tr := by
      have hf : s.fab.trans.find? (Trans.isAt tr.slotClass tr.e) = some x := hx
      rw [List.find?_map, Trans.isAt_replaced self, hf, Option.map_some, if_pos (List.find?_some hf)]
    exact replaced
  · rename_i h
    rw [State.trans] at h ⊢
    simp [List.find?_append, Option.not_isSome_iff_eq_none.1 h]

/-! ## A circuit that ends while it waits -/

theorem State.setPort_steady (s : State) (k : Nat) (x : Port) : s.Steady (s.setPort k x) := ⟨⟨rfl, rfl⟩, rfl, rfl⟩

theorem State.with_waits_steady (s : State) (l : List OpenWait) : s.Steady { s with fab.waits := l } := ⟨⟨rfl, rfl⟩, rfl, rfl⟩

theorem State.closePulse_steady (s : State) (k start st tries : Nat) : s.Steady (s.closePulse k start st tries) := by
  have h : s.Steady (s.pulsed k start st tries) :=
    ((s.count_steady _).comp (State.count_steady _ _)).comp (State.setPort_steady _ k _)
  rcases s.closePulse_cases k start st tries with hc | hc <;> rw [hc]
  · exact h
  · exact (h.comp (State.setPort_steady _ k _)).comp (State.raise_steady _ _)

theorem State.close_steady (s : State) (ks : List Nat) : s.Steady (s.close ks) :=
  (s.with_waits_steady _).comp (.foldl (fun (v : State) (x : Nat × Nat) => v.closePulse_steady x.1 x.2 3 0) _ _)

theorem State.setCtx_keepsTrans (s : State) (i : Nat) (c : Ctx) : s.KeepsTrans (s.setCtx i c) := ⟨rfl, rfl⟩

theorem State.retrySoon_cases (s : State) : s.retrySoon = s ∨ ∃ n, s.retrySoon = { s with cir.retryAt := n } := by
  unfold State.retrySoon
  split
  · exact .inl rfl
  · exact .inr ⟨_, rfl⟩

theorem State.retrySoon_keepsTrans (s : State) : s.KeepsTrans s.retrySoon := by
  rcases s.retrySoon_cases with h | ⟨n, h⟩ <;> (rw [h]; exact ⟨rfl, rfl⟩)

theorem State.retrySoon_ctx (s : State) (i : Nat) : s.retrySoon.ctx i = s.ctx i := by
  rcases s.retrySoon_cases with h | ⟨n, h⟩
  · rw [h]
  · rw [h]
    rfl

theorem State.stalePath_keepsTrans (s : State) (h : List Hop) : s.KeepsTrans (s.stalePath h) := ⟨rfl, rfl⟩

theorem State.dropOpens_steady (s : State) (i : Nat) : s.Steady (s.dropOpens i) :=
  (s.with_waits_steady _).comp (State.close_steady _ _)

theorem State.closeOpened_steady (s : State) (i : Nat) : s.Steady (s.closeOpened i) := s.close_steady _

/-- A waiting circuit that ends leaves device time and the transitions, and reads the state it goes to. -/
theorem State.leaveWait_reads (s : State) (i goal reason : Nat) :
    s.KeepsTrans (s.leaveWait i goal reason) ∧ ((s.leaveWait i goal reason).ctx i).state = goal := by
  unfold State.leaveWait
  extract_lets x0 u c v w d
  have hu : s.KeepsTrans u := ⟨rfl, rfl⟩
  have hv : u.KeepsTrans v := by
    unfold v
    split
    · exact u.stalePath_keepsTrans _
    · exact .refl u
  have hw : v.KeepsTrans w := by
    unfold w
    split
    · exact (v.dropOpens_steady i).toKeepsTrans
    · exact (v.closeOpened_steady i).toKeepsTrans
  have h := (hu.comp hv).comp hw
  rw [State.retrySoon_ctx]
  split
  · rename_i hg
    exact ⟨(h.comp (w.setCtx_keepsTrans i _)).comp (State.retrySoon_keepsTrans _), by rw [State.idleCtx, State.ctx_setCtx_self, hg]; rfl⟩
  · exact ⟨(h.comp (w.setCtx_keepsTrans i _)).comp (State.retrySoon_keepsTrans _), by rw [State.ctx_setCtx_self]⟩

theorem State.endLight_keepsTrans (s : State) (i code : Nat) : s.KeepsTrans (s.endLight i code) :=
  (s.setCtx_keepsTrans i { s.ctx i with req := none }).comp (State.completeOpt_steady _ _ _ _ _).toKeepsTrans

/-- A release or DISABLE of a waiting circuit (R57, R59). -/
theorem State.finishLeave_waits {s : State} {i : Nat} (h : (s.ctx i).waits = true) (a : After) (code e : Nat) :
    s.KeepsTrans (s.finishLeave i a code e) ∧ ((s.finishLeave i a code e).ctx i).state = if a.disable then Cs.dark else Cs.idle := by
  unfold State.finishLeave
  extract_lets c goal reason u v
  have hu : u = (s.endLight i code).leaveWait i goal reason := if_pos h
  obtain ⟨hk, hg⟩ := (s.endLight i code).leaveWait_reads i goal reason
  rw [← hu] at hk hg
  have hv : u.Steady v := by
    unfold v
    split
    · exact .refl u
    · exact u.raise_steady _
  have hc := hv.comp (v.completeOpt_steady a.req true Code.DONE [])
  exact ⟨((s.endLight_keepsTrans i code).comp hk).comp hc.toKeepsTrans, by rw [hc.ctx, hg]⟩

/-! ## The decision instant (R61, R209) -/

/-- A circuit that a transition gives up ends as what R61 left for it asks. -/
def State.giveUp (s : State) (i : Nat) : State := match (s.ctx i).after with
  | none => s
  | some a => (s.setCtx i { s.ctx i with after := none }).finishLeave i a Code.TRV_ABORTED s.nextPers

/-- The traverse at the head of the journal is reversed for an abort (R208). -/
def State.abortHead (s : State) : State := match s.trv.journal with
  | [] => s
  | t :: _ => s.reverse t s.now Code.TRV_ABORTED

section
variable {s : State} {cls : Bool} {e : Nat} {tr : Trans} (ht : s.trans cls e = some tr) (hp : tr.phase < 3) (hw : tr.swap = false)
include ht hp hw

theorem decisionInstant_stands {i : Nat} {a : After} (hs : tr.stage = none) (hl : tr.lights = [i]) (ha : (s.ctx i).after = some a)
    (hd : a.withdraw = false) : doDecisionInstant cls e s = s.advanceTo (e - 1_000) := by
  simp [doDecisionInstant, ht, Nat.not_le.2 hp, hw, hs, hl, ha, hd]

theorem decisionInstant_withdraws {i : Nat} {a : After} (hs : tr.stage = none) (hl : tr.lights = [i]) (ha : (s.ctx i).after = some a)
    (hd : a.withdraw = true) : doDecisionInstant cls e s =
      let x := (s.advanceTo (e - 1_000)).reduced tr.phase { tr with lights := [] }
      (x.1.setTrans x.2).giveUp i := by
  simp [doDecisionInstant, ht, Nat.not_le.2 hp, hw, hs, hl, ha, hd]
  rfl

theorem decisionInstant_aborts {k : Nat} {h : Trav} {rest : List Trav} (hs : tr.stage = some k) (hl : tr.lights = [])
    (hj : s.trv.journal = h :: rest) (ha : h.abortDue = true) : doDecisionInstant cls e s =
      let x := ((s.advanceTo (e - 1_000)).withdrawStage k).reduced tr.phase { tr with stage := none }
      (x.1.setTrans x.2).abortHead := by
  simp [doDecisionInstant, ht, Nat.not_le.2 hp, hw, hs, hl, hj, ha, State.abortHead, State.reduced]
  generalize (State.setTrans _ _).trv.journal = j
  cases j <;> rfl

end

theorem State.setTrans_keeps (s : State) (tr : Trans) : (s.setTrans tr).cir = s.cir ∧ (s.setTrans tr).trv = s.trv ∧ (s.setTrans tr).t = s.t := by
  unfold State.setTrans
  split <;> exact ⟨rfl, rfl, rfl⟩

theorem State.setTrans_ctx (s : State) (tr : Trans) (i : Nat) : (s.setTrans tr).ctx i = s.ctx i := by
  obtain ⟨h, -, -⟩ := s.setTrans_keeps tr
  rw [State.ctx, State.ctx, h]

theorem State.giveUp_of_after {s : State} {i : Nat} {a : After} (h : (s.ctx i).after = some a) :
    s.giveUp i = (s.setCtx i { s.ctx i with after := none }).finishLeave i a Code.TRV_ABORTED s.nextPers := by
  rw [State.giveUp, h]

/-- A waiting circuit that its transition gives up reads DARK or IDLE. -/
theorem State.giveUp_waits {s : State} {i : Nat} {a : After} (h : (s.ctx i).after = some a) (hw : (s.ctx i).waits = true) :
    s.KeepsTrans (s.giveUp i) ∧ ((s.giveUp i).ctx i).state = if a.disable then Cs.dark else Cs.idle := by
  have hw' : ((s.setCtx i { s.ctx i with after := none }).ctx i).waits = true := by
    rw [State.ctx_setCtx_self]
    exact hw
  obtain ⟨hk, hs⟩ := State.finishLeave_waits hw' a Code.TRV_ABORTED s.nextPers
  rw [State.giveUp_of_after h]
  exact ⟨(s.setCtx_keepsTrans i _).comp hk, hs⟩

/-- What a release or DISABLE in time withdraws at the decision instant (R61). -/
theorem decisionInstant_withdraw_leaves (s : State) (cls : Bool) (e i : Nat) (tr : Trans) (a : After) (hl : s.Live) (ht : s.trans cls e = some tr)
    (hp : tr.phase < 3) (hw : tr.swap = false) (hs : tr.stage = none) (hi : tr.lights = [i]) (hc : (s.ctx i).waits = true)
    (ha : (s.ctx i).after = some a) : Leaves (.decisionInstant cls e) s fun t =>
      t.t = max s.t ((e - 1_000) * 2 ^ 32) ∧
      (a.withdraw = false → t = s.advanceTo (e - 1_000)) ∧
      (a.withdraw = true → (t.ctx i).state = (if a.disable then Cs.dark else Cs.idle) ∧
        ∃ tr', t.trans cls e = some tr' ∧ tr'.lights = [] ∧ tr'.phase = tr.phase ∧ tr'.ports = tr.ports) := by
  refine leaves_live (doDecisionInstant cls e) rfl hl ?_
  cases hd : a.withdraw with
  | false =>
    rw [decisionInstant_stands ht hp hw hs hi ha hd]
    exact ⟨rfl, fun _ => rfl, fun h => absurd h (by decide)⟩
  | true =>
    have key := State.trans_key ht
    obtain ⟨l, hx⟩ := (s.advanceTo (e - 1_000)).reduced_loads tr.phase { tr with lights := [] }
    have hr := (s.advanceTo (e - 1_000)).reduced_steady tr.phase { tr with lights := [] }
    rw [decisionInstant_withdraws ht hp hw hs hi ha hd]
    generalize (s.advanceTo (e - 1_000)).reduced tr.phase { tr with lights := [] } = x at hx hr
    obtain ⟨-, -, htime⟩ := x.1.setTrans_keeps x.2
    have hctx : (x.1.setTrans x.2).ctx i = s.ctx i := (x.1.setTrans_ctx x.2 i).trans (hr.ctx i)
    have hset := x.1.trans_setTrans (tr := x.2) (by rw [hx]; exact key)
    obtain ⟨hk, hst⟩ := State.giveUp_waits (s := x.1.setTrans x.2) (hctx ▸ ha) (hctx ▸ hc)
    exact ⟨hk.time.trans (htime.trans hr.time), fun h => absurd h (by decide), fun _ =>
      ⟨hst, x.2, (State.trans_congr hk.trans cls e).trans hset, by rw [hx], by rw [hx], by rw [hx]⟩⟩

/-! ## A stage that is taken out (R209) -/

/-- Beside device time and the transitions in progress, every circuit keeps its state and its committed route. -/
structure State.KeepsPaths (s t : State) : Prop extends s.KeepsTrans t where
  paths : ∀ i, (t.ctx i).state = (s.ctx i).state ∧ (t.ctx i).route = (s.ctx i).route

namespace State.KeepsPaths

theorem comp {a b c : State} (h : a.KeepsPaths b) (g : b.KeepsPaths c) : a.KeepsPaths c :=
  ⟨h.toKeepsTrans.comp g.toKeepsTrans, fun i => by
    obtain ⟨hs, hr⟩ := h.paths i
    rw [← hs, ← hr]
    exact g.paths i⟩

theorem ofSteady {s t : State} (h : s.Steady t) : s.KeepsPaths t := ⟨h.toKeepsTrans, fun i => by rw [h.ctx]; exact ⟨rfl, rfl⟩⟩

theorem refl (s : State) : s.KeepsPaths s := ofSteady (.refl s)

theorem with_trv (s : State) (x : TrvSt) : s.KeepsPaths { s with trv := x } := ⟨⟨rfl, rfl⟩, fun _ => ⟨rfl, rfl⟩⟩

theorem setCtx (s : State) (i : Nat) {c : Ctx} (hs : c.state = (s.ctx i).state) (hr : c.route = (s.ctx i).route) :
    s.KeepsPaths (s.setCtx i c) := by
  refine ⟨s.setCtx_keepsTrans i c, fun j => ?_⟩
  by_cases hj : j = i
  · subst hj
    rw [State.ctx_setCtx_self]
    exact ⟨hs, hr⟩
  · rw [State.ctx_setCtx_other s c hj]
    exact ⟨rfl, rfl⟩

theorem foldl {α : Type} {f : State → α → State} (h : ∀ (s : State) a, s.KeepsPaths (f s a)) (l : List α) (s : State) :
    s.KeepsPaths (l.foldl f s) :=
  List.foldlRecOn l f (motive := s.KeepsPaths) (refl s) fun t ht a _ => ht.comp (h t a)

end State.KeepsPaths

/-- The end of a traverse without a new circuit (R207). -/
theorem State.endTrav_keepsPaths (s : State) {t : Trav} (hn : t.newCtx = none) (code : Nat) : s.KeepsPaths (s.endTrav t code) := by
  unfold State.endTrav
  extract_lets t' _ s1 s2 s3 s4 _ s5 params s6 s7
  have h2 : s1.KeepsPaths s2 := by
    unfold s2
    split_ifs
    · exact .ofSteady (s1.count_steady _)
    · exact .refl s1
    · exact .ofSteady (s1.count_steady _)
  have h3 : s2.KeepsPaths s3 := .foldl (fun u m => by
    split
    · exact .setCtx u m.ctx rfl rfl
    · exact .refl u) _ _
  have h4 : s4 = s3 := by simp only [s4, hn]
  have h6 : s5.KeepsPaths s6 := by
    unfold s6
    split
    · exact .ofSteady (s5.completeOpt_steady _ _ _ _)
    · exact .refl s5
  have h7 : s6.KeepsPaths s7 := by
    unfold s7
    split
    · exact .refl s6
    · exact .ofSteady (s6.completeOpt_steady _ _ _ _)
  have h5 : s3.KeepsPaths s5 := h4 ▸ .ofSteady (s4.raise_steady _)
  have h := (((((State.KeepsPaths.with_trv s _).comp h2).comp h3).comp h5).comp h6).comp h7
  split
  · exact h
  · rename_i r _
    split
    · exact (h.comp (.with_trv s7 _)).comp (.ofSteady (State.completeOpt_steady _ (some r) true Code.DONE params))
    · exact h

theorem State.setHead_keepsPaths (s : State) (t : Trav) : s.KeepsPaths (s.setHead t) := by
  unfold State.setHead
  split
  · exact .refl s
  · exact .with_trv s _

/-- An abort reverses the head of the journal, or ends it where nothing is left to reverse (R208). -/
theorem State.abortHead_keepsPaths {s : State} (hn : ∀ t l, s.trv.journal = t :: l → t.newCtx = none) : s.KeepsPaths s.abortHead := by
  unfold State.abortHead
  split
  · exact .refl s
  · rename_i t l hj
    unfold State.reverse
    extract_lets t'
    split
    · exact s.endTrav_keepsPaths (t := t') (hn t l hj) _
    · exact s.setHead_keepsPaths _

/-- An invariant that the update of one item turns into what no other update undoes: at the end of the fold that stands. -/
theorem foldl_reaches {α σ : Type} {f : σ → α → σ} {I D : σ → Prop} {l : List α} {a : α} (ha : a ∈ l) (inv : ∀ s b, I s → I (f s b))
    (own : ∀ s, I s → D (f s a)) (kept : ∀ s b, D s → D (f s b)) {s : σ} (hs : I s) : D (l.foldl f s) := by
  induction l generalizing s with
  | nil => cases ha
  | cons b r ih =>
    rcases List.mem_cons.1 ha with rfl | hr
    · exact List.foldlRecOn r f (motive := D) (own s hs) fun t ht b _ => kept t b ht
    · exact ih hr (inv s b hs)

/-- A circuit of a withdrawn stage: HELD where it was MOVING, its old path kept. -/
def Ctx.withdrawn (c : Ctx) : Ctx := { c with state := if c.state = Cs.moving then Cs.held else c.state, placed := none }

theorem Ctx.withdrawn_held {c : Ctx} (h : c.state = Cs.moving ∨ c.state = Cs.held) : c.withdrawn.state = Cs.held := by
  rcases h with h | h <;> simp [Ctx.withdrawn, h]

/-- The moved circuits of a stage withdrawn, one after the other. -/
def State.holdMoved (s : State) (l : List Move) : State := l.foldl (fun s m => s.setCtx m.ctx (s.ctx m.ctx).withdrawn) s

theorem State.holdMoved_touches (s : State) (l : List Move) : s.Touches (s.holdMoved l) [.cir] [] :=
  .foldl (fun u _ _ => .with_cir u _ (.head _)) s

theorem State.holdMoved_ctx (s : State) (l : List Move) (i : Nat) :
    ((s.holdMoved l).ctx i).route = (s.ctx i).route ∧ ((s.holdMoved l).ctx i).after = (s.ctx i).after := by
  refine List.foldlRecOn l _ (motive := fun t : State => (t.ctx i).route = (s.ctx i).route ∧ (t.ctx i).after = (s.ctx i).after) ⟨rfl, rfl⟩
    fun t ht m _ => ?_
  by_cases hi : i = m.ctx
  · subst hi
    rw [State.ctx_setCtx_self]
    exact ht
  · rw [State.ctx_setCtx_other t _ hi]
    exact ht

/-- Every circuit named that was MOVING is HELD, however often it is named. -/
theorem State.holdMoved_held {s : State} {l : List Move} {m : Move} (hm : m ∈ l) (h : (s.ctx m.ctx).state = Cs.moving) :
    ((s.holdMoved l).ctx m.ctx).state = Cs.held := by
  have other (t : State) (b : Move) (hb : ¬ m.ctx = b.ctx) : (t.setCtx b.ctx (t.ctx b.ctx).withdrawn).ctx m.ctx = t.ctx m.ctx :=
    State.ctx_setCtx_other t _ hb
  refine foldl_reaches (I := fun t : State => (t.ctx m.ctx).state = Cs.moving ∨ (t.ctx m.ctx).state = Cs.held)
    (D := fun t : State => (t.ctx m.ctx).state = Cs.held) hm (fun t b ht => ?_) (fun t ht => ?_) (fun t b ht => ?_) (.inl h)
  · by_cases hb : m.ctx = b.ctx
    · rw [← hb, State.ctx_setCtx_self]
      exact .inr (Ctx.withdrawn_held ht)
    · rwa [other t b hb]
  · rw [State.ctx_setCtx_self]
    exact Ctx.withdrawn_held ht
  · by_cases hb : m.ctx = b.ctx
    · rw [← hb, State.ctx_setCtx_self]
      exact Ctx.withdrawn_held (.inr ht)
    · rwa [other t b hb]

theorem State.setHead_journal {s : State} {h : Trav} {rest : List Trav} (hj : s.trv.journal = h :: rest) (t : Trav) :
    (s.setHead t).trv.journal = t :: rest ∧ (s.setHead t).cir = s.cir ∧ (s.setHead t).fab = s.fab := by
  rw [State.setHead, hj]
  exact ⟨rfl, rfl, rfl⟩

/-- A stage withdrawn where none of its moved circuits was asked to end. -/
theorem State.withdrawStage_eq {s : State} {k : Nat} {h : Trav} {rest : List Trav} (hj : s.trv.journal = h :: rest)
    (hn : ∀ m, m ∈ (h.stage k).moved → (s.ctx m.ctx).after = none) : s.withdrawStage k =
      (s.holdMoved (h.stage k).moved).setHead (h.setStage k { h.stage k with sstate := Ss.withdrawn }) := by
  have hj' : (s.holdMoved (h.stage k).moved).trv.journal = h :: rest := by
    rw [(s.holdMoved_touches _).same .trv (by decide), hj]
  obtain ⟨-, hc, -⟩ := State.setHead_journal hj' (h.setStage k { h.stage k with sstate := Ss.withdrawn })
  unfold State.withdrawStage
  rw [hj]
  refine List.foldlRecOn (h.stage k).moved _ (motive := fun t : State => t = _) rfl fun t ht m hm => ?_
  have ha : (t.ctx m.ctx).after = none := by
    obtain ⟨-, h2⟩ := s.holdMoved_ctx (h.stage k).moved m.ctx
    rw [ht, State.ctx, hc]
    exact h2.trans (hn m hm)
  simp only [ha]
  exact ht

theorem newCtx_eq_none {t : Trav} : t.newCtx = none ↔ ∀ g, g ∈ t.stages → g.moves.find? (·.isNew) = none := List.findSome?_eq_none_iff

/-- A stage marked anew brings no new circuit into a traverse. -/
theorem newCtx_setStage {t : Trav} (k x : Nat) (h : t.newCtx = none) : (t.setStage k { t.stage k with sstate := x }).newCtx = none := by
  rw [newCtx_eq_none] at h ⊢
  intro g hg
  rcases List.mem_or_eq_of_mem_set hg with hg | rfl
  · exact h g hg
  · by_cases hk : k < t.stages.length
    · have hm : t.stage k ∈ t.stages := by
        rw [Trav.stage, List.getD_eq_getElem _ _ hk]
        exact List.getElem_mem hk
      exact h (t.stage k) hm
    · rw [Trav.stage, List.getD_eq_default _ _ (Nat.not_lt.1 hk)]
      rfl

/-- What an abort in time takes out at the decision instant (R209). -/
theorem decisionInstant_abort_leaves (s : State) (cls : Bool) (e k : Nat) (tr : Trans) (h : Trav) (rest : List Trav) (hl : s.Live)
    (ht : s.trans cls e = some tr) (hp : tr.phase < 3) (hw : tr.swap = false) (hs : tr.stage = some k) (hi : tr.lights = [])
    (hj : s.trv.journal = h :: rest) (ha : h.abortDue = true) (hn : h.newCtx = none)
    (hm : ∀ m, m ∈ (h.stage k).moved → (s.ctx m.ctx).after = none ∧ (s.ctx m.ctx).state = Cs.moving) :
    Leaves (.decisionInstant cls e) s fun t =>
      (∃ tr', t.trans cls e = some tr' ∧ tr'.stage = none) ∧
      ∀ m, m ∈ (h.stage k).moved → (t.ctx m.ctx).state = Cs.held ∧ (t.ctx m.ctx).route = (s.ctx m.ctx).route := by
  refine leaves_live (doDecisionInstant cls e) rfl hl ?_
  have key := State.trans_key ht
  set u := s.advanceTo (e - 1_000)
  have huj : (u.holdMoved (h.stage k).moved).trv.journal = h :: rest :=
    (congrArg TrvSt.journal ((u.holdMoved_touches _).same .trv (by decide))).trans hj
  obtain ⟨hvj, hvc, -⟩ := State.setHead_journal huj (h.setStage k { h.stage k with sstate := Ss.withdrawn })
  rw [decisionInstant_aborts ht hp hw hs hi hj ha, State.withdrawStage_eq (s := u) hj fun m hmem => (hm m hmem).1]
  set v := (u.holdMoved (h.stage k).moved).setHead (h.setStage k { h.stage k with sstate := Ss.withdrawn })
  obtain ⟨l, hx⟩ := v.reduced_loads tr.phase { tr with stage := none }
  have hr := v.reduced_steady tr.phase { tr with stage := none }
  generalize v.reduced tr.phase { tr with stage := none } = x at hx hr
  obtain ⟨hsc, hst, -⟩ := x.1.setTrans_keeps x.2
  have hset := x.1.trans_setTrans (tr := x.2) (by rw [hx]; exact key)
  have hk : (x.1.setTrans x.2).KeepsPaths (x.1.setTrans x.2).abortHead := State.abortHead_keepsPaths fun t l' htl => by
    rw [hst, hr.trv, hvj] at htl
    obtain ⟨rfl, -⟩ := List.cons.inj htl
    exact newCtx_setStage k Ss.withdrawn hn
  refine ⟨⟨x.2, (State.trans_congr hk.trans cls e).trans hset, by rw [hx]⟩, fun m hmem => ?_⟩
  have hc : (x.1.setTrans x.2).ctx m.ctx = (u.holdMoved (h.stage k).moved).ctx m.ctx := by
    rw [State.setTrans_ctx, hr.ctx, State.ctx, hvc]
    rfl
  obtain ⟨hps, hpr⟩ := hk.paths m.ctx
  rw [hps, hpr, hc]
  obtain ⟨-, hmoving⟩ := hm m hmem
  obtain ⟨hroute, -⟩ := u.holdMoved_ctx (h.stage k).moved m.ctx
  exact ⟨State.holdMoved_held hmem hmoving, hroute⟩

end Sys2Proof.Machine
end

section
/-!
PROOFS. The guard latch (R42, R44): closes due now, the port latched, and the circuits it darkens.
-/
namespace Sys2Proof

theorem Tbl.mem_of_look {α : Type} {m : List (Nat × α)} {k : Nat} {v : α} (h : Tbl.look m k = some v) : (k, v) ∈ m := by
  induction m with
  | nil => cases h
  | cons x r ih =>
    obtain ⟨j, w⟩ := x
    rw [Tbl.look] at h
    split at h
    · obtain rfl := Option.some.inj h
      simp [*]
    · exact .tail _ (ih h)

end Sys2Proof

namespace Sys2Proof.Machine

/-! ## Closes due now -/

theorem State.close_eq (s : State) (ks : List Nat) : s.close ks =
    (closeOrder (ks.filter fun k => (s.port k).lstate != 0 && (s.port k).lstate != 4) s.now).foldl (fun s x => s.closePulse x.1 x.2 3 0)
      { s with fab.waits := s.fab.waits.filter fun w => !ks.contains w.port } := rfl

/-- A close reaches every port asked for that is neither dark nor FAULT_OPEN (R320). -/
theorem State.close_port {s : State} {ks : List Nat} {k : Nat} (h : k ∈ ks) (h0 : (s.port k).lstate ≠ 0) (h4 : (s.port k).lstate ≠ 4) :
    ((s.close ks).port k).lstate = 3 := by
  have hf : k ∈ ks.filter fun k => (s.port k).lstate != 0 && (s.port k).lstate != 4 := List.mem_filter.2 ⟨h, by simp [h0, h4]⟩
  obtain ⟨x, hx, rfl⟩ := List.mem_map.1 ((closeOrder_ports _ s.now k).2 hf)
  rw [State.close_eq]
  obtain ⟨hc, -⟩ := foldl_establishes (P := fun x : Nat × Nat => State.Closing x.1) (fun s x => s.closePulse_own x.1 x.2)
    (fun s x y hy => s.closePulse_kept x.1 x.2 y.1 hy) hx
      { s with fab.waits := s.fab.waits.filter fun w => !ks.contains w.port }
  exact hc

theorem State.close_port_other (s : State) {ks : List Nat} {k : Nat} (h : k ∉ ks) : (s.close ks).port k = s.port k := by
  rw [State.close_eq]
  refine State.foldl_port_other (key := Prod.fst) (fun (s : State) (y : Nat × Nat) hk => s.closePulse_port_other y.1 y.2 3 0 hk)
    (fun y hy hk => h ?_) _
  exact List.mem_of_mem_filter ((closeOrder_ports _ s.now k).1 (List.mem_map.2 ⟨y, hy, hk.symm⟩))

/-! ## The guard latch (R42, R44) -/

/-- The bit of a port in the guard's latch registers. -/
def guardLatBit (k : Nat) : Fld := ⟨R.TILE_FD_GUARD_LAT (k / 32), k % 32, k % 32⟩

theorem guardLatBit_ok (k : Nat) : (guardLatBit k).ok := ⟨Nat.le_refl _, Nat.mod_lt k (by decide)⟩

theorem State.guardLatched_iff {s : State} {k : Nat} (hk : k < 1024) : s.guardLatched k = true ↔ s.flag (guardLatBit k) = true := by
  simp [State.guardLatched, State.flag, guardLatBit, hk]

/-- The latch registers of the guard count no pulse and hold no occurrence. -/
theorem guardLat_apart {k : Nat} (hk : k < 1024) : (guardLatBit k).addr ∉ pulseRegs ∧ ¬ evtReg (guardLatBit k).addr := by
  constructor
  · simp only [guardLatBit, pulseRegs, R.TILE_FD_GUARD_LAT, R.TILE_FD_LAT_CNT, R.TILE_FD_WEAR, tileBase, List.mem_flatMap, List.mem_cons,
      List.mem_map, List.mem_range, List.not_mem_nil, or_false]
    rintro ⟨t, rfl | rfl, h | ⟨p, hp, h⟩⟩ <;> omega
  · simp only [guardLatBit, R.TILE_FD_GUARD_LAT, tileBase, evtReg, R.EVT_HEAD, R.EVT_FLUSHED, R.EVT_LOST, R.EVT_TILE_LOST, R.EVT_PEND]
    omega

/-- The port latched and closing, its circuits not yet met. -/
def State.guardShut (s : State) (k : Nat) : State := ((s.put (guardLatBit k) 1).evPort Ev.inputGuardLatch false k 0).close [k]

/-- The circuits that enter at a port. -/
def State.entering (s : State) (k : Nat) : List Nat := (s.cir.ctxs.filter fun x => x.2.input == k && x.2.state != Cs.idle).map (·.1)

/-- The open that a waiting circuit still needs is asked for again (R321). -/
def State.reopen (s : State) (k : Nat) : State :=
  if s.cir.ctxs.any fun x => x.2.waits && x.2.input == k then s.wantOpen k s.now else s

theorem guardLatch_acts {s : State} {p : Fin 1024} (hc : 4_000 ≤ (Tbl.getD s.fab.guard p (0, 0)).2) (hg : s.guarded p = true)
    (hl : s.guardLatched p = false) : doGuardLatch p s = (((s.guardShut p).entering p).foldl State.guardDarkens (s.guardShut p)).reopen p :=
  if_pos ⟨hc, hg, hl⟩

section
variable (s : State) (k : Nat)

theorem State.guardShut_touches :
    (s.put (guardLatBit k) 1).Touches (s.guardShut k) [.fab, .recorder, .frames] pulseRegs :=
  (State.Touches.ofRecorded (State.evPort_recorded _ _ _ _ _ _ (by decide)) (by decide) (by decide)).trans (State.closeAll_touches _ _ _ _)

theorem State.guardShut_cir : (s.guardShut k).cir = s.cir := (s.guardShut_touches k).same .cir (by decide)

theorem State.guardShut_latched (hk : k < 1024) : (s.guardShut k).flag (guardLatBit k) = true := by
  obtain ⟨hp, he⟩ := guardLat_apart hk
  rw [(s.guardShut_touches k).flag hp he]
  exact State.flag_put_one s _ (guardLatBit_ok k) rfl

theorem State.guardShut_port (h0 : (s.port k).lstate ≠ 0) (h4 : (s.port k).lstate ≠ 4) : ((s.guardShut k).port k).lstate = 3 := by
  have h : ((s.put (guardLatBit k) 1).evPort Ev.inputGuardLatch false k 0).port k = s.port k :=
    State.port_congr (State.evPort_fab _ _ _ _ _ _ (by decide)) k
  exact State.close_port (List.mem_singleton.2 rfl) (h ▸ h0) (h ▸ h4)

theorem State.guardShut_port_other {j : Nat} (h : j ≠ k) : (s.guardShut k).port j = s.port j :=
  (State.close_port_other _ (by simpa using h)).trans (State.port_congr (State.evPort_fab _ _ _ _ _ _ (by decide)) j)

theorem State.wantOpen_touches (n : Nat) : s.Touches (s.wantOpen k n) [.fab] [] := by
  unfold State.wantOpen
  have h : s.Touches (s.setEpo k true) [.fab] [] := .setPort s k _ (.head _)
  extract_lets l v
  split
  · split
    · exact h
    · exact h.trans (.with_fab v _ (.head _))
  · split
    · exact h
    · exact .refl s _ _

theorem State.wantOpen_port_other (n : Nat) {j : Nat} (h : j ≠ k) : (s.wantOpen k n).port j = s.port j := by
  have he : (s.setEpo k true).port j = s.port j := State.port_setPort_other s _ h
  unfold State.wantOpen
  extract_lets l v
  split
  · split
    · exact he
    · exact he
  · split
    · exact he
    · rfl

theorem State.wantOpen_lstate (n : Nat) : ((s.wantOpen k n).port k).lstate = (s.port k).lstate := by
  have he : ((s.setEpo k true).port k).lstate = (s.port k).lstate := by rw [State.setEpo, State.port_setPort_self]
  unfold State.wantOpen
  extract_lets l v
  split
  · split
    · exact he
    · exact he
  · split
    · exact he
    · rfl

theorem State.reopen_cases : s.reopen k = s ∨ s.reopen k = s.wantOpen k s.now := (ite_eq_or_eq _ _ _).symm

theorem State.reopen_touches : s.Touches (s.reopen k) [.fab] [] := by
  rcases s.reopen_cases k with h | h <;> rw [h]
  · exact .refl s _ _
  · exact s.wantOpen_touches k s.now

theorem State.reopen_port_other {j : Nat} (h : j ≠ k) : (s.reopen k).port j = s.port j := by
  rcases s.reopen_cases k with hr | hr <;> rw [hr]
  exact s.wantOpen_port_other k s.now h

theorem State.reopen_lstate : ((s.reopen k).port k).lstate = (s.port k).lstate := by
  rcases s.reopen_cases k with hr | hr <;> rw [hr]
  exact s.wantOpen_lstate k s.now

/-! ## Circuits darkened by the guard -/

/-- A circuit that the guard has darkened. -/
def Ctx.GuardDark (c : Ctx) : Prop := c.state = Cs.dark ∧ c.reason = Code.CIR_GUARD_LATCHED

theorem State.retrySoon_touches : s.Touches s.retrySoon [.cir] [] := by
  rcases s.retrySoon_cases with h | ⟨n, h⟩ <;> rw [h]
  · exact .refl s _ _
  · exact .with_cir s _ (.head _)

theorem State.leaveLit_reads (i reason e : Nat) :
    s.Touches (s.leaveLit i Cs.dark reason e) [.cir, .sch] [] ∧ ((s.leaveLit i Cs.dark reason e).ctx i).state = Cs.dark ∧
      ((s.leaveLit i Cs.dark reason e).ctx i).reason = reason ∧ ∀ j, j ≠ i → (s.leaveLit i Cs.dark reason e).ctx j = s.ctx j := by
  unfold State.leaveLit
  extract_lets c old _ u v d w
  have hu : s.Touches u [.cir, .sch] [] := .with_cir s _ (.head _)
  have hv : u.Touches v [.cir, .sch] [] ∧ v.cir = u.cir := by
    unfold v
    split
    · exact ⟨.refl u _ _, rfl⟩
    · exact ⟨.with_sch u _ (.tail _ (.head _)), rfl⟩
  obtain ⟨hv, hvc⟩ := hv
  have hw : w = v.setCtx i { d with state := Cs.dark, reason := reason, placed := none, check := none, after := none } := if_neg (by decide)
  have hwt : v.Touches w [.cir, .sch] [] := hw ▸ .with_cir v _ (.head _)
  refine ⟨((hu.trans hv).trans hwt).trans (w.retrySoon_touches.mono (by decide) (by simp)), ?_, ?_, fun j hj => ?_⟩
  · rw [State.retrySoon_ctx, hw, State.ctx_setCtx_self]
  · rw [State.retrySoon_ctx, hw, State.ctx_setCtx_self]
  · rw [State.retrySoon_ctx, hw, State.ctx_setCtx_other v _ hj, State.ctx, hvc]
    rfl

theorem State.guardDarkens_unlit {i : Nat} (h : ¬ (s.ctx i).lit = true) : s.guardDarkens i = s := if_neg h

theorem State.guardDarkens_touches (i : Nat) : s.Touches (s.guardDarkens i) [.trv, .cir, .sch] [] := by
  by_cases h : (s.ctx i).lit = true
  · rw [State.guardDarkens, if_pos h]
    obtain ⟨ht, -⟩ := State.leaveLit_reads { s with trv.journal := _ } i Code.CIR_GUARD_LATCHED _
    exact (State.Touches.with_trv s _ (.head _)).trans (ht.mono (by decide) (by simp))
  · rw [s.guardDarkens_unlit h]
    exact .refl s _ _

theorem State.guardDarkens_other (i : Nat) {j : Nat} (hj : j ≠ i) : (s.guardDarkens i).ctx j = s.ctx j := by
  by_cases h : (s.ctx i).lit = true
  · rw [State.guardDarkens, if_pos h]
    obtain ⟨-, -, -, ho⟩ := State.leaveLit_reads { s with trv.journal := _ } i Code.CIR_GUARD_LATCHED _
    exact ho j hj
  · rw [s.guardDarkens_unlit h]

theorem State.guardDarkens_lit {i : Nat} (h : (s.ctx i).lit = true) : ((s.guardDarkens i).ctx i).GuardDark := by
  rw [State.guardDarkens, if_pos h]
  obtain ⟨-, hs, hr, -⟩ := State.leaveLit_reads { s with trv.journal := _ } i Code.CIR_GUARD_LATCHED _
  exact ⟨hs, hr⟩

end

theorem Ctx.GuardDark.unlit {c : Ctx} (h : c.GuardDark) : ¬ c.lit = true := by
  obtain ⟨hs, -⟩ := h
  rw [Ctx.lit, hs]
  decide

/-- Later circuits leave a darkened one as it is. -/
theorem State.guardDarkens_kept (s : State) (i : Nat) {j : Nat} (h : (s.ctx j).GuardDark) : ((s.guardDarkens i).ctx j).GuardDark := by
  by_cases hj : j = i
  · subst hj
    rwa [s.guardDarkens_unlit h.unlit]
  · rwa [s.guardDarkens_other i hj]

theorem State.foldl_guardDarkens_lit {s : State} {l : List Nat} {i : Nat} (hi : i ∈ l) (h : (s.ctx i).lit = true) :
    ((l.foldl State.guardDarkens s).ctx i).GuardDark := by
  have own (t : State) (ht : (t.ctx i).lit = true ∨ (t.ctx i).GuardDark) : ((t.guardDarkens i).ctx i).GuardDark :=
    ht.elim t.guardDarkens_lit (t.guardDarkens_kept i)
  refine foldl_reaches (I := fun t : State => (t.ctx i).lit = true ∨ (t.ctx i).GuardDark) (D := fun t : State => (t.ctx i).GuardDark) hi
    (fun t b ht => ?_) own (fun t b => t.guardDarkens_kept b) (.inl h)
  by_cases hb : i = b
  · exact .inr (hb ▸ own t ht)
  · rwa [t.guardDarkens_other b hb]

theorem State.foldl_guardDarkens_other (s : State) {l : List Nat} {i : Nat} (hi : i ∉ l) :
    (l.foldl State.guardDarkens s).ctx i = s.ctx i :=
  List.foldlRecOn l State.guardDarkens (motive := fun t : State => t.ctx i = s.ctx i) rfl fun t ht b hb =>
    (t.guardDarkens_other b fun (h : i = b) => hi (h ▸ hb)).trans ht

theorem State.foldl_guardDarkens_touches (s : State) (l : List Nat) : s.Touches (l.foldl State.guardDarkens s) [.trv, .cir, .sch] [] :=
  .foldl (fun t b _ => t.guardDarkens_touches b) s

/-- A circuit that is not IDLE is listed. -/
theorem State.mem_ctxs {s : State} {i : Nat} (h : (s.ctx i).state ≠ Cs.idle) : (i, s.ctx i) ∈ s.cir.ctxs := by
  rw [State.ctx, Tbl.getD] at h ⊢
  cases hc : Tbl.look s.cir.ctxs i with
  | none =>
    rw [hc] at h
    exact absurd rfl h
  | some c => exact Tbl.mem_of_look hc

/-- The circuits that enter at a port, by what their contexts read. -/
theorem State.mem_entering {s : State} (hw : Tbl.wf s.cir.ctxs = true) (k i : Nat) :
    i ∈ s.entering k ↔ (s.ctx i).input = k ∧ (s.ctx i).state ≠ Cs.idle := by
  simp only [State.entering, List.mem_map, List.mem_filter, Bool.and_eq_true, beq_iff_eq, bne_iff_ne]
  constructor
  · rintro ⟨⟨j, c⟩, ⟨hm, hin, hst⟩, rfl⟩
    have hc : s.ctx j = c := by rw [State.ctx, Tbl.getD, (Tbl.mem_iff_look _ hw j c).1 hm]; rfl
    rw [hc]
    exact ⟨hin, hst⟩
  · rintro ⟨hin, hst⟩
    exact ⟨(i, s.ctx i), ⟨State.mem_ctxs hst, hin, hst⟩, rfl⟩

/-- The port's latch closes, its lit circuits go DARK, and everything else on the plant stays (R42, R44). -/
theorem guardLatch_leaves (s : State) (p : Fin 1024) (hl : s.Live) (hw : Tbl.wf s.cir.ctxs = true)
    (hc : 4_000 ≤ (Tbl.getD s.fab.guard p (0, 0)).2) (hg : s.guarded p = true) (hn : s.guardLatched p = false) :
    Leaves (.guardLatch p) s fun t =>
      t.guardLatched p = true ∧ ((s.port p).lstate ≠ 0 → (s.port p).lstate ≠ 4 → (t.port p).lstate = 3) ∧
      (∀ i, (s.ctx i).lit = true → (s.ctx i).input = p.val → (t.ctx i).state = Cs.dark ∧ (t.ctx i).reason = Code.CIR_GUARD_LATCHED) ∧
      (∀ i, (s.ctx i).input ≠ p.val → t.ctx i = s.ctx i) ∧ ∀ k, k ≠ p.val → t.port k = s.port k := by
  refine leaves_live (doGuardLatch p) rfl hl ?_
  have hu := s.guardShut_cir p
  have huc (i : Nat) : (s.guardShut p).ctx i = s.ctx i := by rw [State.ctx, State.ctx, hu]
  have mem (i : Nat) : i ∈ (s.guardShut p).entering p ↔ (s.ctx i).input = p ∧ (s.ctx i).state ≠ Cs.idle := by
    rw [State.mem_entering (hu ▸ hw), huc]
  rw [guardLatch_acts hc hg hn]
  set u := s.guardShut p
  have hv := u.foldl_guardDarkens_touches (u.entering p)
  set v := (u.entering p).foldl State.guardDarkens u with hvd
  have ht := v.reopen_touches p
  have htc (i : Nat) : (v.reopen p).ctx i = v.ctx i := by rw [State.ctx, State.ctx, ht.same .cir (by decide)]
  have hvp (k : Nat) : v.port k = u.port k := State.port_congr (hv.same .fab (by decide)) k
  refine ⟨?_, fun h0 h4 => ?_, fun i hlit hin => ?_, fun i hin => ?_, fun k hk => ?_⟩
  · obtain ⟨-, he⟩ := guardLat_apart p.isLt
    rw [State.guardLatched_iff p.isLt, ht.flag (by simp) he, hv.flag (by simp) he, s.guardShut_latched p p.isLt]
  · rw [v.reopen_lstate, hvp, s.guardShut_port p h0 h4]
  · have hi : i ∈ u.entering p := (mem i).2 ⟨hin, fun h => by simp [Ctx.lit, h, Cs.idle] at hlit⟩
    rw [htc]
    exact State.foldl_guardDarkens_lit hi ((huc i).symm ▸ hlit)
  · rw [htc, hvd, State.foldl_guardDarkens_other u fun hi => hin ((mem i).1 hi).1, huc]
  · rw [v.reopen_port_other p hk, hvp, s.guardShut_port_other p hk]

end Sys2Proof.Machine
end

section
/-!
PROOFS. The loss check's deadline and phase steps (R58, R71, R123), and O27.
-/
namespace Sys2Proof.Machine

theorem lossCheckDeadline_leaves (s : State) (i : Fin 262144) (from_ n : Nat) (hl : s.Live) (hu : s.ctrlUp = true)
    (hc : (s.ctx i).check = some (from_, n)) : Leaves (.lossCheckDeadline i) s fun t =>
      t.t = max s.t ((from_ + 10_000_000) * 2 ^ 32) ∧ t.ctx i = { s.ctx i with check := none, gen := ((s.ctx i).gen + 1) % 65_536 } ∧
      (∀ j, j ≠ i.val → t.ctx j = s.ctx j) ∧ s.Touches t [.time, .cir] [] := by
  have h : doLossCheckDeadline i s = (s.advanceTo (from_ + 10_000_000)).setCtx i { s.ctx i with check := none } := by
    simp only [doLossCheckDeadline, hc, hu, if_true]
  refine leaves_live (doLossCheckDeadline i) rfl hl ?_
  rw [h]
  exact ⟨rfl, State.ctx_setCtx_self _ _ _, fun j hj => State.ctx_setCtx_other _ _ hj,
    (State.Touches.advanceTo s _ (.head _)).trans (.with_cir _ _ (.tail _ (.head _)))⟩

/-- A circuit's lease that a step from `was` has jumped is among the deferred releases (R71). -/
theorem State.stepPast_defers {s : State} {was i : Nat} (hs : (s.ctx i).state ≠ Cs.idle) (h0 : (s.ctx i).lease ≠ 0)
    (h1 : was < (s.ctx i).lease * 1_000_000_000) (h2 : (s.ctx i).lease * 1_000_000_000 ≤ s.now) :
    Deferred.mk false i Code.CIR_LEASE_EXPIRED ∈ (s.stepPast was).cir.deferred := by
  unfold State.stepPast
  extract_lets past cs gs
  have hm : Deferred.mk false i Code.CIR_LEASE_EXPIRED ∈ cs ++ gs :=
    List.mem_append_left gs (List.mem_map.2 ⟨(i, s.ctx i), List.mem_filter.2 ⟨State.mem_ctxs hs, by simp [past, hs, h0, h1, h2]⟩, rfl⟩)
  rw [if_neg (by rw [List.isEmpty_iff]; exact List.ne_nil_of_mem hm)]
  by_cases hd : Deferred.mk false i Code.CIR_LEASE_EXPIRED ∈ s.cir.deferred
  · exact List.mem_append_left _ hd
  · exact List.mem_append_right _ (List.mem_filter.2 ⟨hm, by simp [hd]⟩)

theorem State.stepPast_touches (s : State) (was : Nat) :
    s.Touches (s.stepPast was) [.cir] [] ∧ (s.stepPast was).cir.ctxs = s.cir.ctxs := by
  unfold State.stepPast
  extract_lets past cs gs
  split
  · exact ⟨.refl s _ _, rfl⟩
  · exact ⟨.with_cir s _ (.head _), rfl⟩

/-- The state in which a step is applied: the next tick where the epoch engine does not run (R123). -/
def State.stepTick (s : State) : State := if s.engineRuns then s else s.tick

/-- Device time moved by a step, and the step disarmed. -/
def State.stepBy (u : State) (d : Int) : State :=
  { u with t := ((u.t : Int) + d * 2 ^ 32).toNat, tm.step := none }.put R.TIME_ADJ_CTL_ARMED 0

theorem State.Touches.with_t_tm (s : State) (x : Nat) (y : TimeSt) : s.Touches { s with t := x, tm := y } [.time, .tm] [] :=
  (State.Touches.with_t s x (.head _)).trans (.with_tm { s with t := x } y (.tail _ (.head _)))

theorem State.stepBy_touches (u : State) (d : Int) : u.Touches (u.stepBy d) [.time, .tm] [R.TIME_ADJ_CTL] :=
  ((State.Touches.with_t_tm u _ { u.tm with step := none }).mono (by decide) (by simp)).trans (.put _ _ _ (.head _))

theorem State.stepTick_cases (s : State) : s.engineRuns = true ∧ s.stepTick = s ∨ s.engineRuns = false ∧ s.stepTick = s.tick := by
  unfold State.stepTick
  cases s.engineRuns <;> simp

theorem State.stepTick_touches (s : State) : s.Touches s.stepTick [.time] [] := by
  rcases s.stepTick_cases with ⟨-, h⟩ | ⟨-, h⟩ <;> rw [h]
  · exact .refl s _ _
  · exact .with_t s _ (.head _)

/-- The window of R123 while the epoch engine runs: 2 µs after the last epoch and before the next one, the step taken or not. -/
def State.StepWindow (s : State) (d : Int) : Prop :=
  (s.sch.lastE = 0 ∨ (s.sch.lastE : Int) + 2_000 ≤ s.now ∧ (s.sch.lastE : Int) + 2_000 ≤ (s.now : Int) + d) ∧ ∀ x, s.nextEpo = some x →
    (s.now : Int) + d.natAbs + 2_000 ≤ (x.1 : Int) - s.gb ∧ (s.now : Int) + d + d.natAbs + 2_000 ≤ (x.1 : Int) - s.gb

/-- Both instants, the step taken or not, leave room before the guard band of the next epoch. -/
def State.stepRoom (s : State) (d : Int) : Bool := match s.nextEpo with
  | none => true
  | some (e, _, _, _) => decide ((s.now : Int) + d.natAbs + 2_000 ≤ (e : Int) - s.gb) &&
      decide ((s.now : Int) + d + d.natAbs + 2_000 ≤ (e : Int) - s.gb)

/-- The instant suits the step: the epoch engine does not run, or its epochs leave the window. -/
def State.stepFits (s : State) (d : Int) : Bool :=
  s.ctrlUp && (!s.engineRuns || (s.stepRoom d && (decide ((s.sch.lastE : Int) + 2_000 ≤ s.now) &&
    decide ((s.sch.lastE : Int) + 2_000 ≤ (s.now : Int) + d) || s.sch.lastE == 0)))

theorem doTimeStepApply_eq {s : State} {d : Int} {at_ : Nat} (hs : s.tm.step = some (d, at_)) : doTimeStepApply s =
    if s.stepTick.stepFits d then ((s.stepTick.stepBy d).ev Ev.timeStep).stepPast s.stepTick.now else s.stepTick := by
  rw [doTimeStepApply, hs]
  rfl

theorem State.stepRoom_of_window {s : State} {d : Int} (h : s.StepWindow d) : s.stepRoom d = true := by
  obtain ⟨-, hnext⟩ := h
  unfold State.stepRoom
  split
  · rfl
  · rename_i hx
    simpa using hnext _ hx

theorem State.stepFits_of_window {s : State} {d : Int} (hu : s.ctrlUp = true) (hw : s.engineRuns = true → s.StepWindow d) :
    s.stepTick.stepFits d = true := by
  rcases s.stepTick_cases with ⟨hr, ht⟩ | ⟨hr, ht⟩ <;> rw [ht]
  · obtain ⟨hlast, -⟩ := hw hr
    simp [State.stepFits, hu, hr, State.stepRoom_of_window (hw hr), or_comm.1 hlast]
  · have hr' : s.tick.engineRuns = false := hr
    have hu' : s.tick.ctrlUp = true := hu
    simp [State.stepFits, hu', hr']

/-- An armed step moves device time and defers the leases it jumps (R71, R123). -/
theorem timeStepApply_leaves (s : State) (d : Int) (at_ : Nat) (hl : s.Live) (hu : s.ctrlUp = true) (hs : s.tm.step = some (d, at_))
    (hw : s.engineRuns = true → s.StepWindow d) : Leaves .timeStepApply s fun t =>
      t.t = ((s.stepTick.t : Int) + d * 2 ^ 32).toNat ∧ t.tm = { s.tm with step := none } ∧ t.flag R.TIME_ADJ_CTL_ARMED = false ∧
      (∀ i, (s.ctx i).state ≠ Cs.idle → (s.ctx i).lease ≠ 0 → s.stepTick.now < (s.ctx i).lease * 1_000_000_000 →
        (s.ctx i).lease * 1_000_000_000 ≤ t.now → ∃ x, x ∈ t.cir.deferred ∧ x.grant = false ∧ x.index = i ∧ x.code = Code.CIR_LEASE_EXPIRED) ∧
      t.cir.ctxs = s.cir.ctxs ∧ s.Touches t [.time, .tm, .cir, .recorder, .frames] [R.TIME_ADJ_CTL] := by
  refine leaves_live doTimeStepApply rfl hl ?_
  rw [doTimeStepApply_eq hs, if_pos (State.stepFits_of_window hu hw)]
  set u := s.stepTick
  have hsu := s.stepTick_touches
  have huv := u.stepBy_touches d
  have hvw : (u.stepBy d).Touches ((u.stepBy d).ev Ev.timeStep) [.recorder, .frames] [] := .ev _ _ _ (by decide) (by decide) (by decide)
  set w := (u.stepBy d).ev Ev.timeStep
  obtain ⟨hwt, hwc⟩ := w.stepPast_touches u.now
  have hcir : w.cir = s.cir :=
    ((hvw.same .cir (by decide)).trans (huv.same .cir (by decide))).trans (hsu.same .cir (by decide))
  have hctx (i : Nat) : w.ctx i = s.ctx i := by rw [State.ctx, State.ctx, hcir]
  have htime : w.t = (u.stepBy d).t := hvw.same .time (by decide)
  have htm : (u.stepBy d).tm = { s.tm with step := none } := by
    rw [← hsu.same .tm (by decide)]
    rfl
  have hnow : (w.stepPast u.now).now = w.now := congrArg (· / 2 ^ 32) (hwt.same .time (by decide))
  refine ⟨?_, ?_, ?_, fun i hst h0 h1 h2 => ?_, ?_, ?_⟩
  · rw [hwt.same .time (by decide), htime]
    rfl
  · rw [hwt.same .tm (by decide), hvw.same .tm (by decide), htm]
  · rw [hwt.flag (by decide) (by decide), hvw.flag (by decide) (by decide)]
    exact State.flag_put_zero _ _ (by decide) rfl
  · rw [hnow, ← hctx] at h2
    rw [← hctx] at hst h0 h1
    exact ⟨_, State.stepPast_defers hst h0 h1 h2, rfl, rfl, rfl⟩
  · rw [hwc, hcir]
  · exact (((hsu.mono (by decide) (by simp)).trans (huv.mono (by decide) (by simp))).trans (hvw.mono (by decide) (by simp))).trans
      (hwt.mono (by decide) (by simp))

/-- Settles O27: the decision instant, the guard latch, the loss check and the phase step, each by its own lemma. -/
theorem decisionsGuardLatchesLossChecksAndSteps : Obligations.DecisionsGuardLatchesLossChecksAndSteps :=
  ⟨decisionInstant_withdraw_leaves, decisionInstant_abort_leaves, guardLatch_leaves, lossCheckDeadline_leaves, timeStepApply_leaves⟩

end Sys2Proof.Machine
end

section
/-!
PROOFS. Clients of the command interface: the frames made only grow, a session stays open under its opening number, and a request whose
session is open gets its completion (R407, R408).
-/
namespace Sys2Proof.Machine

/-! ## Frames made -/

/-- The frames made by a step are kept, and more may follow. -/
def State.FramesGrow (s t : State) : Prop := s.cmd.outQ <+: t.cmd.outQ

namespace State.FramesGrow

theorem ofEq {s t : State} (h : t.cmd.outQ = s.cmd.outQ) : s.FramesGrow t := by
  rw [State.FramesGrow, h]

theorem refl (s : State) : s.FramesGrow s := ofEq rfl

theorem comp {a b c : State} (h : a.FramesGrow b) (g : b.FramesGrow c) : a.FramesGrow c := h.trans g

theorem emit (s : State) (m : OutMsg) : s.FramesGrow (s.emit m) := List.prefix_append _ _

theorem put (s : State) (f : Fld) (v : Nat) : s.FramesGrow (s.put f v) := ofEq (by rw [State.put_cmd])

theorem count (s : State) (f : Fld) : s.FramesGrow (s.count f) := ofEq (by rw [State.count_cmd])

theorem with_evt (s : State) (x : EvtSt) : s.FramesGrow { s with evt := x } := ofEq rfl

theorem draw (s : State) : s.FramesGrow s.draw := ofEq rfl

theorem foldl {α : Type} {f : State → α → State} (h : ∀ (s : State) a, s.FramesGrow (f s a)) (l : List α) (s : State) :
    s.FramesGrow (l.foldl f s) :=
  List.foldlRecOn l f (motive := s.FramesGrow) (refl s) fun t ht a _ => ht.comp (h t a)

end State.FramesGrow

theorem State.notify_framesGrow (s : State) (r : Rec) (at_ : Nat) (every : Bool) : s.FramesGrow (s.notify r at_ every) := by
  have each (want : List Nat → Nat → Bool) : s.FramesGrow (s.cmd.sessions.foldl (fun s e =>
      if want e.2.subs e.2.tenant then s.emit (noticeTo e.1 e.2 r.code at_ r.bytes) else s) s) :=
    .foldl (fun u e => by
      split
      · exact .emit u _
      · exact .refl u) _ _
  unfold State.notify
  extract_lets want u
  split
  · exact (each want).comp (.emit u _)
  · exact each want

theorem State.alertFlush_framesGrow (s : State) (src at_ : Nat) : s.FramesGrow (s.alertFlush src at_) := by
  have alert : s.FramesGrow (if s.flag (R.EVT_SRC_ALERT src) then s.put ⟨R.EVT_PEND (src / 32), src % 32, src % 32⟩ 1 else s) := by
    split
    · exact .put s _ _
    · exact .refl s
  unfold State.alertFlush
  extract_lets f u
  split
  · exact .comp alert (.with_evt u _)
  · exact alert

theorem State.newRecord_framesGrow (s : State) (o : Occ) (at_ : Nat) (b p : Bool) : s.FramesGrow (s.newRecord o at_ b p).1 := by
  unfold State.newRecord
  dsimp only
  split
  · exact .comp (.comp (.comp (.comp (.draw s) (.with_evt _ _)) (.put _ _ _)) (.count _ _)) (.put _ _ _)
  · exact .comp (.comp (.draw s) (.with_evt _ _)) (.put _ _ _)

theorem State.closeRec_framesGrow (s : State) (src at_ : Nat) : s.FramesGrow (s.closeRec src at_) := by
  unfold State.closeRec
  split
  · exact .refl s
  · rename_i o _
    have h : s.FramesGrow { (s.writeOpen o true at_).1 with evt.opens := (s.writeOpen o true at_).1.evt.opens.filter (·.rec_.src != src) } :=
      .ofEq rfl
    dsimp only
    split
    · exact h.comp (State.notify_framesGrow _ _ _ _)
    · exact h

theorem State.recordOcc_framesGrow (s : State) (o : Occ) (at_ : Nat) : s.FramesGrow (s.recordOcc o at_).1 := by
  have notified (u : State) (r : Rec) (on every : Bool) (h : s.FramesGrow u) : s.FramesGrow (if on then u.notify r at_ every else u) := by
    split
    · exact h.comp (u.notify_framesGrow r at_ every)
    · exact h
  unfold State.recordOcc
  dsimp only
  split
  · exact notified _ _ _ _ ((s.alertFlush_framesGrow o.src at_).comp (.draw _))
  · split
    · exact notified _ _ _ _ ((s.newRecord_framesGrow o at_ false false).comp (State.alertFlush_framesGrow _ _ _))
    · split
      · exact .with_evt s _
      · have h := (s.closeRec_framesGrow o.src at_).comp (State.newRecord_framesGrow _ o at_ true false)
        exact notified _ _ _ _ ((h.comp (.with_evt _ _)).comp (State.alertFlush_framesGrow _ _ _))

/-- An occurrence adds its notices to the frames made. -/
theorem State.raise_framesGrow (s : State) (o : Occ) : s.FramesGrow (s.raise o) := by
  unfold State.raise
  split
  · have h := s.recordOcc_framesGrow o s.now
    unfold State.record
    dsimp only
    split
    · split
      · exact h
      · exact (h.comp (.with_evt _ _)).comp (State.recordOcc_framesGrow _ _ _)
    · exact h.comp (.with_evt _ _)
  · split
    · exact .refl s
    · dsimp only
      split
      · exact .with_evt s _
      · exact .count s _

theorem State.closePulse_framesGrow (s : State) (k start st tries : Nat) : s.FramesGrow (s.closePulse k start st tries) := by
  have set (u : State) (x : Port) : u.FramesGrow (u.setPort k x) := .ofEq rfl
  have h : s.FramesGrow (s.pulsed k start st tries) := .comp (.comp (.count s _) (.count _ _)) (set _ _)
  rcases s.closePulse_cases k start st tries with hc | hc <;> rw [hc]
  · exact h
  · exact (h.comp (set _ _)).comp (State.raise_framesGrow _ _)

theorem State.close_framesGrow (s : State) (ks : List Nat) : s.FramesGrow (s.close ks) := by
  have waits : s.FramesGrow { s with fab.waits := s.fab.waits.filter fun w => !ks.contains w.port } := .ofEq rfl
  rw [State.close_eq]
  exact waits.comp (.foldl (fun u (x : Nat × Nat) => u.closePulse_framesGrow x.1 x.2 3 0) _ _)

/-! ## Sessions -/

/-- Frames made are kept, and every session that was open is open under the same opening number. -/
structure State.KeepsClients (s t : State) : Prop where
  frames : s.FramesGrow t
  uid : ∀ i, (Tbl.look t.cmd.sessions i).map Session.uid = (Tbl.look s.cmd.sessions i).map Session.uid
  mbxUid : t.cmd.mbxUid = s.cmd.mbxUid
  mbxOn : t.mbxOn = s.mbxOn

namespace State.KeepsClients

theorem refl (s : State) : s.KeepsClients s := ⟨.refl s, fun _ => rfl, rfl, rfl⟩

theorem comp {a b c : State} (h : a.KeepsClients b) (g : b.KeepsClients c) : a.KeepsClients c :=
  ⟨h.frames.comp g.frames, fun i => (g.uid i).trans (h.uid i), g.mbxUid.trans h.mbxUid, g.mbxOn.trans h.mbxOn⟩

/-- What touches the command interface at most in its frames keeps the clients. -/
theorem ofTouches {s t : State} {ps : List Part} {rs : List Nat} (h : s.Touches t ps rs) (hp : Part.cmd ∉ ps) (hr : R.CMD_MBX_CFG ∉ rs)
    (hf : s.FramesGrow t) : s.KeepsClients t := by
  have hc : t.cmd = { s.cmd with outQ := t.cmd.outQ } := h.same .cmd hp
  exact ⟨hf, fun i => by rw [hc], by rw [hc], h.flag (f := R.CMD_MBX_CFG_ENABLE) hr (by decide)⟩

theorem sessionLive {s t : State} (h : s.KeepsClients t) (r : Requester) : t.sessionLive r = s.sessionLive r := by
  have hu := h.uid r.sess
  rw [State.sessionLive, State.sessionLive, h.mbxOn, h.mbxUid]
  cases ht : Tbl.look t.cmd.sessions r.sess <;> cases hs : Tbl.look s.cmd.sessions r.sess <;> simp_all

end State.KeepsClients

/-! ## Completions -/

/-- A final completion of the request with a code is among the frames made. -/
def State.Completed (s : State) (r : Requester) (code : Nat) : Prop :=
  ∃ m, m ∈ s.cmd.outQ ∧ m.kind = .completion ∧ m.final = true ∧ m.reqId = r.reqId ∧ m.code = code

theorem State.Completed.kept {s t : State} {r : Requester} {code : Nat} (h : s.Completed r code) (g : s.FramesGrow t) : t.Completed r code := by
  obtain ⟨m, hm, hrest⟩ := h
  exact ⟨m, g.subset hm, hrest⟩

theorem State.endRequest_cases (s : State) (r : Requester) :
    s.endRequest r = { s with cmd.mbxOutstanding := s.cmd.mbxOutstanding.erase r.reqId } ∨ s.endRequest r = s ∨
      ∃ x, Tbl.look s.cmd.sessions r.sess = some x ∧
        s.endRequest r = { s with cmd.sessions := Tbl.put s.cmd.sessions r.sess { x with outstanding := x.outstanding.erase r.reqId } } := by
  unfold State.endRequest
  split
  · exact .inl rfl
  · cases h : Tbl.look s.cmd.sessions r.sess with
    | none => exact .inr (.inl rfl)
    | some x => exact .inr (.inr ⟨x, rfl, rfl⟩)

theorem State.endRequest_outQ (s : State) (r : Requester) : (s.endRequest r).cmd.outQ = s.cmd.outQ := by
  rcases s.endRequest_cases r with h | h | ⟨x, -, h⟩ <;> rw [h]

theorem State.endRequest_touches (s : State) (r : Requester) : s.Touches (s.endRequest r) [.cmd, .frames] [] := by
  rcases s.endRequest_cases r with h | h | ⟨x, -, h⟩ <;> rw [h]
  · exact .with_cmd s _ (.head _) (.tail _ (.head _))
  · exact .refl s _ _
  · exact .with_cmd s _ (.head _) (.tail _ (.head _))

theorem State.endRequest_keepsClients (s : State) (r : Requester) : s.KeepsClients (s.endRequest r) := by
  rcases s.endRequest_cases r with h | h | ⟨x, hx, h⟩ <;> rw [h]
  · exact ⟨.ofEq rfl, fun _ => rfl, rfl, rfl⟩
  · exact .refl s
  · refine ⟨.ofEq rfl, fun i => ?_, rfl, rfl⟩
    by_cases hi : i = r.sess
    · rw [hi, Tbl.look_put_self, hx]
      rfl
    · rw [Tbl.look_put_other _ hi]

theorem State.raise_keepsClients (s : State) (o : Occ) (h : o.src < 1536) : s.KeepsClients (s.raise o) :=
  .ofTouches (.raise s o h (ps := Part.occ) (rs := []) (.head _) (.tail _ (.head _))) (by decide) (by simp) (s.raise_framesGrow o)

theorem State.complete_live {s : State} {r : Requester} (h : s.sessionLive r = true) (code : Nat) (params : List Byte) :
    s.complete r true code params = (s.emit (s.answer r .completion true code params)).endRequest r := by
  rw [State.complete, if_pos h]
  rfl

theorem State.complete_completed {s : State} {r : Requester} (h : s.sessionLive r = true) (code : Nat) (params : List Byte) :
    (s.complete r true code params).Completed r code := by
  rw [State.complete_live h]
  refine ⟨s.answer r .completion true code params, ?_, rfl, rfl, rfl, rfl⟩
  rw [State.endRequest_outQ]
  exact List.mem_append_right _ (List.mem_singleton.2 rfl)

theorem State.emit_keepsClients (s : State) (m : OutMsg) : s.KeepsClients (s.emit m) := ⟨.emit s m, fun _ => rfl, rfl, rfl⟩

theorem State.complete_keepsClients (s : State) (r : Requester) (final : Bool) (code : Nat) (params : List Byte) :
    s.KeepsClients (s.complete r final code params) := by
  unfold State.complete
  split
  · cases final
    · exact s.emit_keepsClients _
    · exact (s.emit_keepsClients _).comp (State.endRequest_keepsClients _ r)
  · have hc : s.KeepsClients (s.count (whole (R.CMD_CNT 5))) :=
      .ofTouches (ps := []) (.count s _ (.head [])) (by decide) (by decide) (.ofEq rfl)
    exact hc.comp (State.raise_keepsClients _ _ (by decide))

theorem State.complete_touches (s : State) (r : Requester) (final : Bool) (code : Nat) (params : List Byte) :
    s.Touches (s.complete r final code params) [.cmd, .frames, .recorder] [R.CMD_CNT 5] := by
  have he (m : OutMsg) : s.Touches (s.emit m) [.cmd, .frames, .recorder] [R.CMD_CNT 5] := .emit s m (by decide)
  unfold State.complete
  split
  · cases final
    · exact he _
    · exact (he _).trans ((State.endRequest_touches _ r).mono (by decide) (by simp))
  · exact (State.Touches.count s _ (.head _)).trans (.ev _ _ _ (by decide) (by decide) (by decide))

theorem State.completeOpt_touches (s : State) (r : Option Requester) (final : Bool) (code : Nat) (params : List Byte) :
    s.Touches (s.completeOpt r final code params) [.cmd, .frames, .recorder] [R.CMD_CNT 5] := by
  cases r with
  | none => exact .refl s _ _
  | some r => exact s.complete_touches r final code params

theorem State.completeOpt_keepsClients (s : State) (r : Option Requester) (final : Bool) (code : Nat) (params : List Byte) :
    s.KeepsClients (s.completeOpt r final code params) := by
  cases r with
  | none => exact .refl s
  | some r => exact s.complete_keepsClients r final code params

end Sys2Proof.Machine
end

section
/-!
PROOFS. The end of a circuit (R57, R59, R61, R66): what it can touch, the state and the lines it leaves, and whom it tells.
-/
namespace Sys2Proof.Machine

/-! ## What an end can touch -/

/-- What ends of circuits can do: they touch circuits, the library, the journal, the ports and the command interface, and leave the
transitions in progress, an armed swap, the deferred releases and the grants; an empty journal stays empty. -/
structure State.Ends (s t : State) : Prop where
  touches : s.Touches t [.fab, .cir, .sch, .trv, .cmd, .frames, .recorder] (R.CMD_CNT 5 :: pulseRegs)
  clients : s.KeepsClients t
  trans : t.fab.trans = s.fab.trans
  swap : t.sch.swap = s.sch.swap
  deferred : t.cir.deferred = s.cir.deferred
  deferUntil : t.cir.deferUntil = s.cir.deferUntil
  grants : t.cir.grants = s.cir.grants
  journal : s.trv.journal = [] → t.trv.journal = []

namespace State.Ends

theorem refl (s : State) : s.Ends s := ⟨.refl s _ _, .refl s, rfl, rfl, rfl, rfl, rfl, id⟩

theorem comp {a b c : State} (h : a.Ends b) (g : b.Ends c) : a.Ends c :=
  ⟨h.touches.trans g.touches, h.clients.comp g.clients, g.trans.trans h.trans, g.swap.trans h.swap, g.deferred.trans h.deferred,
    g.deferUntil.trans h.deferUntil, g.grants.trans h.grants, g.journal ∘ h.journal⟩

theorem foldl {α : Type} {f : State → α → State} (h : ∀ (s : State) a, s.Ends (f s a)) (l : List α) (s : State) : s.Ends (l.foldl f s) :=
  List.foldlRecOn l f (motive := s.Ends) (refl s) fun t ht a _ => ht.comp (h t a)

theorem ofTouches {s t : State} (h : s.Touches t [.cmd, .frames, .recorder] [R.CMD_CNT 5]) (hc : s.KeepsClients t) : s.Ends t := by
  have hcir : t.cir = s.cir := h.same .cir (by decide)
  have hfab : t.fab = s.fab := h.same .fab (by decide)
  have hsch : t.sch = s.sch := h.same .sch (by decide)
  have htrv : t.trv = s.trv := h.same .trv (by decide)
  exact ⟨h.mono (by decide) (by simp), hc, by rw [hfab], by rw [hsch], by rw [hcir], by rw [hcir], by rw [hcir], by rw [htrv]; exact id⟩

theorem time {s t : State} (h : s.Ends t) : t.t = s.t := h.touches.same .time (by decide)

theorem now {s t : State} (h : s.Ends t) : t.now = s.now := congrArg (· / 2 ^ 32) h.time

end State.Ends

theorem State.raise_ends (s : State) (o : Occ) (h : o.src < 1536) : s.Ends (s.raise o) :=
  .ofTouches (.raise s o h (by decide) (by decide)) (s.raise_keepsClients o h)

theorem State.evCtx_ends (s : State) (src i tenant code : Nat) (h : src < 1536) : s.Ends (s.evCtx src i tenant code) :=
  s.raise_ends _ h

theorem State.completeOpt_ends (s : State) (r : Option Requester) (final : Bool) (code : Nat) (params : List Byte) :
    s.Ends (s.completeOpt r final code params) :=
  .ofTouches (s.completeOpt_touches r final code params) (s.completeOpt_keepsClients r final code params)

theorem State.setCtx_ends (s : State) (i : Nat) (c : Ctx) : s.Ends (s.setCtx i c) :=
  ⟨.with_cir s _ (.tail _ (.head _)), ⟨.ofEq rfl, fun _ => rfl, rfl, rfl⟩, rfl, rfl, rfl, rfl, rfl, id⟩

theorem State.with_queue_ends (s : State) (l : List Nat) : s.Ends { s with cir.queue := l } :=
  ⟨.with_cir s _ (.tail _ (.head _)), ⟨.ofEq rfl, fun _ => rfl, rfl, rfl⟩, rfl, rfl, rfl, rfl, rfl, id⟩

theorem State.with_leaves_ends (s : State) (l : List Leave) : s.Ends { s with cir.leaves := l } :=
  ⟨.with_cir s _ (.tail _ (.head _)), ⟨.ofEq rfl, fun _ => rfl, rfl, rfl⟩, rfl, rfl, rfl, rfl, rfl, id⟩

theorem State.retrySoon_ends (s : State) : s.Ends s.retrySoon := by
  rcases s.retrySoon_cases with h | ⟨n, h⟩ <;> rw [h]
  · exact .refl s
  · exact ⟨.with_cir s _ (.tail _ (.head _)), ⟨.ofEq rfl, fun _ => rfl, rfl, rfl⟩, rfl, rfl, rfl, rfl, rfl, id⟩

theorem State.staleBy_ends (s : State) (hit : SchCir → Bool) : s.Ends (s.staleBy hit) :=
  ⟨.with_sch s _ (.tail _ (.tail _ (.head _))), ⟨.ofEq rfl, fun _ => rfl, rfl, rfl⟩, rfl, rfl, rfl, rfl, rfl, id⟩

theorem State.close_ends (s : State) (ks : List Nat) : s.Ends (s.close ks) := by
  have h : s.Touches (s.close ks) [.fab, .recorder, .frames] pulseRegs := s.closeAll_touches ks s.now false
  have hs : (s.close ks).sch = s.sch := h.same .sch (by decide)
  obtain ⟨⟨-, ht⟩, hc, hv⟩ := s.close_steady ks
  refine ⟨h.mono (by decide) (fun r hr => .tail _ hr), .ofTouches h (by decide) (pulseRegs_not_mem (.inl (by decide))) (s.close_framesGrow ks),
    ht, by rw [hs], by rw [hc], by rw [hc], by rw [hc], by rw [hv]; exact id⟩

theorem State.dropMove_ends (s : State) (i : Nat) : s.Ends (s.dropMove i) :=
  ⟨.with_trv s _ (.tail _ (.tail _ (.tail _ (.head _)))), ⟨.ofEq rfl, fun _ => rfl, rfl, rfl⟩, rfl, rfl, rfl, rfl, rfl,
    fun h => by rw [State.dropMove, h]; rfl⟩

theorem State.dropOpens_ends (s : State) (i : Nat) : s.Ends (s.dropOpens i) := by
  have waits (l : List OpenWait) : s.Ends { s with fab.waits := l } :=
    ⟨.with_fab s _ (.head _), ⟨.ofEq rfl, fun _ => rfl, rfl, rfl⟩, rfl, rfl, rfl, rfl, rfl, id⟩
  exact (waits _).comp (State.close_ends _ _)

theorem State.endLight_ends (s : State) (i code : Nat) : s.Ends (s.endLight i code) :=
  (s.setCtx_ends i { s.ctx i with req := none }).comp (State.completeOpt_ends _ _ _ _ _)

/-! ## A circuit that waits -/

/-- The context of a circuit that leaves its wait: IDLE, or DARK or FAILED with its reason. -/
def State.unplaced (s : State) (i goal reason : Nat) : State :=
  if goal = Cs.idle then s.idleCtx i
  else s.setCtx i { s.ctx i with state := goal, reason := reason, placed := none, after := none, opened := [] }

/-- The latches of a circuit that leaves its wait. -/
def State.releaseLatches (s : State) (i goal : Nat) : State := if goal = Cs.failed then s.dropOpens i else s.closeOpened i

/-- The path placed for a circuit is free again: library entries that it met become STALE (R108). -/
def State.freePlaced (s : State) (i : Nat) : State :=
  if (s.ctx i).placed.isSome && !(s.ctx i).scheduled then s.stalePath (s.ctx i).newHops else s

theorem State.leaveWait_eq (s : State) (i goal reason : Nat) : s.leaveWait i goal reason =
    ((({ s with cir.queue := s.cir.queue.erase i }.freePlaced i).releaseLatches i goal).unplaced i goal reason).retrySoon := rfl

theorem State.unplaced_ends (s : State) (i goal reason : Nat) : s.Ends (s.unplaced i goal reason) := by
  unfold State.unplaced
  split
  · exact s.setCtx_ends i _
  · exact s.setCtx_ends i _

theorem State.freePlaced_ends (s : State) (i : Nat) : s.Ends (s.freePlaced i) := by
  unfold State.freePlaced
  split
  · exact s.staleBy_ends _
  · exact .refl s

theorem State.releaseLatches_ends (s : State) (i goal : Nat) : s.Ends (s.releaseLatches i goal) := by
  unfold State.releaseLatches
  split
  · exact s.dropOpens_ends i
  · exact s.close_ends _

theorem State.leaveWait_ends (s : State) (i goal reason : Nat) : s.Ends (s.leaveWait i goal reason) := by
  rw [State.leaveWait_eq]
  exact ((((s.with_queue_ends _).comp (State.freePlaced_ends _ i)).comp (State.releaseLatches_ends _ i goal)).comp
    (State.unplaced_ends _ i goal reason)).comp (State.retrySoon_ends _)

/-- A circuit that fails while it waits keeps the reason and no path (R57). -/
theorem State.leaveWait_failed (s : State) (i reason : Nat) :
    ((s.leaveWait i Cs.failed reason).ctx i).reason = reason ∧ ((s.leaveWait i Cs.failed reason).ctx i).placed = none := by
  rw [State.leaveWait_eq, State.retrySoon_ctx, State.unplaced, if_neg (by decide), State.ctx_setCtx_self]
  exact ⟨rfl, rfl⟩

/-! ## A lit circuit -/

/-- The lines that a lit circuit leaves reserved until an epoch (R59, R79). -/
def Ctx.leaving (c : Ctx) (i e : Nat) : List Leave := match c.route with
  | none => []
  | some r => [⟨i, c.input, r, c.scheduled, ctxSlot i, e⟩]

/-- The path of a persistent circuit is free: library entries that it met become STALE (R108). -/
def State.freeLit (s : State) (i : Nat) : State := if (s.ctx i).scheduled then s else s.stalePath (s.ctx i).hops

/-- The context of a circuit that leaves a lit state. -/
def State.unlit (s : State) (i goal reason : Nat) : State :=
  if goal = Cs.idle then s.idleCtx i
  else s.setCtx i { s.ctx i with state := goal, reason := reason, placed := none, check := none, after := none }

theorem State.leaveLit_eq (s : State) (i goal reason e : Nat) : s.leaveLit i goal reason e =
    (({ s with cir.leaves := s.cir.leaves ++ (s.ctx i).leaving i e }.freeLit i).unlit i goal reason).retrySoon := by
  unfold State.leaveLit Ctx.leaving
  rfl

theorem State.freeLit_ends (s : State) (i : Nat) : s.Ends (s.freeLit i) := by
  unfold State.freeLit
  split
  · exact .refl s
  · exact s.staleBy_ends _

theorem State.freeLit_cir (s : State) (i : Nat) : (s.freeLit i).cir = s.cir := by
  unfold State.freeLit
  split <;> rfl

theorem State.unlit_ends (s : State) (i goal reason : Nat) : s.Ends (s.unlit i goal reason) := by
  unfold State.unlit
  split
  · exact s.setCtx_ends i _
  · exact s.setCtx_ends i _

theorem State.unlit_reads (s : State) (i goal reason : Nat) :
    ((s.unlit i goal reason).ctx i).state = goal ∧ (s.unlit i goal reason).cir.leaves = s.cir.leaves := by
  unfold State.unlit
  split
  · rename_i h
    rw [State.idleCtx, State.ctx_setCtx_self, h]
    exact ⟨rfl, rfl⟩
  · rw [State.ctx_setCtx_self]
    exact ⟨rfl, rfl⟩

theorem State.retrySoon_leaves (s : State) : s.retrySoon.cir.leaves = s.cir.leaves := by
  rcases s.retrySoon_cases with h | ⟨n, h⟩ <;> rw [h]

theorem State.leaveLit_ends (s : State) (i goal reason e : Nat) : s.Ends (s.leaveLit i goal reason e) := by
  rw [State.leaveLit_eq]
  exact (((s.with_leaves_ends _).comp (State.freeLit_ends _ i)).comp (State.unlit_ends _ i goal reason)).comp (State.retrySoon_ends _)

theorem State.leaveLit_leaves (s : State) (i goal reason e : Nat) : ((s.leaveLit i goal reason e).ctx i).state = goal ∧
    (s.leaveLit i goal reason e).cir.leaves = s.cir.leaves ++ (s.ctx i).leaving i e := by
  obtain ⟨hs, hl⟩ := ({ s with cir.leaves := s.cir.leaves ++ (s.ctx i).leaving i e }.freeLit i).unlit_reads i goal reason
  rw [State.leaveLit_eq, State.retrySoon_ctx, State.retrySoon_leaves, hl, State.freeLit_cir]
  exact ⟨hs, rfl⟩

/-! ## A release, DISABLE, expiry or revocation now (R57, R59, R211) -/

/-- The state in which a circuit ends. -/
def After.goal (a : After) : Nat := if a.disable then Cs.dark else Cs.idle

/-- What the end of a circuit does to it and to the request that was to light it. -/
def State.endCircuit (s : State) (i : Nat) (a : After) (lightCode e : Nat) : State :=
  if (s.ctx i).waits then (s.endLight i lightCode).leaveWait i a.goal (if a.disable then Code.CIR_DISABLED else a.code)
  else if (s.ctx i).lit then (s.dropMove i).leaveLit i a.goal (if a.disable then Code.CIR_DISABLED else a.code) e
  else if a.disable then
    s.setCtx i { s.ctx i with state := Cs.dark, reason := if (s.ctx i).state = Cs.dark then (s.ctx i).reason else Code.CIR_DISABLED }
  else s.idleCtx i

/-- An expiry or revocation raises EV 41 (R66, R70). -/
def State.tellEnd (s : State) (i : Nat) (a : After) (tenant : Nat) : State :=
  if a.code = 0 then s else s.evCtx Ev.revocation i tenant a.code

theorem State.finishLeave_eq (s : State) (i : Nat) (a : After) (lightCode e : Nat) : s.finishLeave i a lightCode e =
    ((s.endCircuit i a lightCode e).tellEnd i a (s.ctx i).tenant).completeOpt a.req true Code.DONE [] := rfl

section
variable (s : State) (i : Nat) (a : After) (lightCode e : Nat)

theorem State.endCircuit_ends : s.Ends (s.endCircuit i a lightCode e) := by
  unfold State.endCircuit
  split
  · exact (s.endLight_ends i lightCode).comp (State.leaveWait_ends _ _ _ _)
  · split
    · exact (s.dropMove_ends i).comp (State.leaveLit_ends _ _ _ _ _)
    · split
      · exact s.setCtx_ends i _
      · exact s.setCtx_ends i _

theorem State.endCircuit_state : ((s.endCircuit i a lightCode e).ctx i).state = a.goal := by
  unfold State.endCircuit
  split
  · obtain ⟨-, h⟩ := (s.endLight i lightCode).leaveWait_reads i a.goal (if a.disable then Code.CIR_DISABLED else a.code)
    exact h
  · split
    · obtain ⟨h, -⟩ := (s.dropMove i).leaveLit_leaves i a.goal (if a.disable then Code.CIR_DISABLED else a.code) e
      exact h
    · split
      · rename_i h
        rw [State.ctx_setCtx_self, After.goal, if_pos h]
      · rename_i h
        rw [State.idleCtx, State.ctx_setCtx_self, After.goal, if_neg h]
        rfl

theorem State.endCircuit_lit (h : (s.ctx i).lit = true) :
    (s.endCircuit i a lightCode e).cir.leaves = s.cir.leaves ++ (s.ctx i).leaving i e := by
  have hw : (s.ctx i).waits = false := by
    simp only [Ctx.lit, Bool.and_eq_true, decide_eq_true_eq] at h
    simp only [Ctx.waits, Cs.pending, Cs.placed, Cs.armed, Bool.or_eq_false_iff, beq_eq_false_iff_ne]
    omega
  obtain ⟨-, hl⟩ := (s.dropMove i).leaveLit_leaves i a.goal (if a.disable then Code.CIR_DISABLED else a.code) e
  rw [State.endCircuit, if_neg (by simp [hw]), if_pos h]
  exact hl

theorem State.tellEnd_steady (tenant : Nat) : s.Steady (s.tellEnd i a tenant) := by
  unfold State.tellEnd
  split
  · exact .refl s
  · exact s.raise_steady _

theorem State.tellEnd_ends (tenant : Nat) : s.Ends (s.tellEnd i a tenant) := by
  unfold State.tellEnd
  split
  · exact .refl s
  · exact s.evCtx_ends _ _ _ _ (by decide)

/-- Telling the requester and the recorder changes no circuit. -/
theorem State.finishLeave_cir : (s.finishLeave i a lightCode e).cir = (s.endCircuit i a lightCode e).cir := by
  rw [State.finishLeave_eq, (State.completeOpt_steady _ _ _ _ _).cir, (State.tellEnd_steady _ _ _ _).cir]

theorem State.finishLeave_ends : s.Ends (s.finishLeave i a lightCode e) := by
  rw [State.finishLeave_eq]
  exact ((s.endCircuit_ends i a lightCode e).comp (State.tellEnd_ends _ _ _ _)).comp (State.completeOpt_ends _ _ _ _ _)

theorem State.finishLeave_state : ((s.finishLeave i a lightCode e).ctx i).state = a.goal := by
  rw [State.ctx, State.finishLeave_cir]
  exact s.endCircuit_state i a lightCode e

theorem State.finishLeave_completed {r : Requester} (hr : a.req = some r) (hl : s.sessionLive r = true) :
    (s.finishLeave i a lightCode e).Completed r Code.DONE := by
  have h := (s.endCircuit_ends i a lightCode e).comp (State.tellEnd_ends _ i a (s.ctx i).tenant)
  rw [State.finishLeave_eq, hr]
  exact State.complete_completed (by rw [h.clients.sessionLive, hl]) _ _

end

/-- A release, DISABLE, expiry or revocation is left for the circuit's commit, or ends the circuit now (R61). -/
theorem State.leave_cases (s : State) (i : Nat) (a : After) (ingress lightCode : Nat) :
    (∃ x, s.leave i a ingress lightCode = s.setCtx i { s.ctx i with after := some x }) ∨
      s.leave i a ingress lightCode = s.finishLeave i a lightCode s.nextPers := by
  unfold State.leave
  extract_lets c
  split
  · exact .inl ⟨_, rfl⟩
  · exact (ite_eq_or_eq _ _ _).imp (fun h => ⟨_, h⟩) id

theorem State.leave_ends (s : State) (i : Nat) (a : After) (ingress lightCode : Nat) : s.Ends (s.leave i a ingress lightCode) := by
  rcases s.leave_cases i a ingress lightCode with ⟨x, h⟩ | h <;> rw [h]
  · exact s.setCtx_ends i _
  · exact s.finishLeave_ends i a lightCode _

/-- Where no transition and no stage holds a circuit up, it ends now (R59). -/
theorem State.leave_now {s : State} {i : Nat} (hc : s.committing i = none) (hs : s.stageOf i = none) (hm : (s.ctx i).state ≠ Cs.moving)
    (a : After) (ingress lightCode : Nat) : s.leave i a ingress lightCode = s.finishLeave i a lightCode s.nextPers := by
  simp [State.leave, hc, hs, hm]

/-! ## A circuit that fails its verification (R57) -/

theorem State.verifyFails_ends (s : State) (i : Nat) : s.Ends (s.verifyFails i) :=
  ((s.endLight_ends i _).comp (State.leaveWait_ends _ _ _ _)).comp (State.evCtx_ends _ _ _ _ _ (by decide))

theorem State.verifyFails_reads (s : State) (i : Nat) : ((s.verifyFails i).ctx i).state = Cs.failed ∧
    ((s.verifyFails i).ctx i).reason = Code.CIR_VERIFY_FAIL ∧ ((s.verifyFails i).ctx i).placed = none := by
  obtain ⟨-, hs⟩ := (s.endLight i Code.CIR_VERIFY_FAIL).leaveWait_reads i Cs.failed Code.CIR_VERIFY_FAIL
  obtain ⟨hr, hp⟩ := (s.endLight i Code.CIR_VERIFY_FAIL).leaveWait_failed i Code.CIR_VERIFY_FAIL
  have hc (j : Nat) : (s.verifyFails i).ctx j = ((s.endLight i Code.CIR_VERIFY_FAIL).leaveWait i Cs.failed Code.CIR_VERIFY_FAIL).ctx j :=
    (State.raise_steady _ _).ctx j
  rw [hc]
  exact ⟨hs, hr, hp⟩

theorem State.endLight_completed {s : State} {i : Nat} {r : Requester} (hr : (s.ctx i).req = some r) (hl : s.sessionLive r = true)
    (code : Nat) : (s.endLight i code).Completed r code := by
  have h : (s.setCtx i { s.ctx i with req := none }).sessionLive r = true := by rw [(s.setCtx_ends i _).clients.sessionLive, hl]
  unfold State.endLight
  dsimp only
  rw [hr]
  exact State.complete_completed h _ _

theorem State.verifyFails_completed {s : State} {i : Nat} {r : Requester} (hr : (s.ctx i).req = some r) (hl : s.sessionLive r = true) :
    (s.verifyFails i).Completed r Code.CIR_VERIFY_FAIL :=
  (State.endLight_completed hr hl _).kept ((State.leaveWait_ends _ _ _ _).comp (State.evCtx_ends _ _ _ _ _ (by decide))).clients.frames

end Sys2Proof.Machine
end

section
/-!
PROOFS. CIR_RELEASE and CIR_DISABLE (R59, R61, R411), and O19.
-/
namespace Sys2Proof.Machine

/-- The REQ_ID of the command that last reached a circuit (R55). -/
def State.noteReq (s : State) (i reqId : Nat) : State := s.setCtx i { s.ctx i with reqId := reqId }

theorem State.noteReq_ends (s : State) (i reqId : Nat) : s.Ends (s.noteReq i reqId) := s.setCtx_ends i _

theorem State.noteReq_ctx (s : State) (i reqId : Nat) :
    (s.noteReq i reqId).ctx i = { s.ctx i with reqId := reqId, gen := ((s.ctx i).gen + 1) % 65_536 } := State.ctx_setCtx_self _ _ _

/-- What CIR_RELEASE and, with `dis`, CIR_DISABLE do. -/
def State.endAsked (s : State) (dis : Bool) (q : Req) : State × Nat × List Byte :=
  let i := u q.p 0 4
  if !s.known i then (s, Code.CIR_UNKNOWN, [])
  else if !s.mayEnd i q.r.tenant then (s, Code.CIR_NOT_OWNER, [])
  else if s.bivouac then (s, Code.TRV_BIVOUAC, [])
  else ((s.noteReq i q.r.reqId).leave i ⟨dis, false, 0, some q.r⟩ q.at_ Code.TRV_ABORTED, Code.ACCEPTED, [])

theorem body_endAsked (dis : Bool) (q : Req) (s : State) :
    (if dis then opCirDisable else opCirRelease).body q s = s.endAsked dis q := by
  cases dis <;> rfl

theorem State.endAsked_params (s : State) (dis : Bool) (q : Req) : (s.endAsked dis q).2.2 = [] := by
  unfold State.endAsked
  dsimp only
  split_ifs <;> rfl

theorem State.mayEnd_eq_false {s : State} {i tenant : Nat} (h0 : tenant ≠ 0) (ht : tenant ≠ (s.ctx i).tenant)
    (hi : s.owner false (s.ctx i).input ≠ tenant) (ho : s.owner true (ctxOut i) ≠ tenant) : s.mayEnd i tenant = false := by
  simp [State.mayEnd, h0, ht, hi, ho]

section
variable {s : State} (dis : Bool) (q : Req)

theorem State.endAsked_unknown (h : s.known (u q.p 0 4) = false) : s.endAsked dis q = (s, Code.CIR_UNKNOWN, []) := by
  simp [State.endAsked, h]

theorem State.endAsked_notOwner (h : s.known (u q.p 0 4) = true) (hm : s.mayEnd (u q.p 0 4) q.r.tenant = false) :
    s.endAsked dis q = (s, Code.CIR_NOT_OWNER, []) := by
  simp [State.endAsked, h, hm]

theorem State.endAsked_bivouac (h : s.known (u q.p 0 4) = true) (hm : s.mayEnd (u q.p 0 4) q.r.tenant = true) (hb : s.bivouac = true) :
    s.endAsked dis q = (s, Code.TRV_BIVOUAC, []) := by
  simp [State.endAsked, h, hm, hb]

/-- Nothing holds the circuit up: it ends at once (R59). -/
theorem State.endAsked_now (h : s.known (u q.p 0 4) = true) (hm : s.mayEnd (u q.p 0 4) q.r.tenant = true) (hb : s.bivouac = false)
    (hc : s.committing (u q.p 0 4) = none) (hs : s.stageOf (u q.p 0 4) = none) (hn : (s.ctx (u q.p 0 4)).state ≠ Cs.moving) :
    s.endAsked dis q = ((s.noteReq (u q.p 0 4) q.r.reqId).finishLeave (u q.p 0 4) ⟨dis, false, 0, some q.r⟩ Code.TRV_ABORTED s.nextPers,
      Code.ACCEPTED, []) := by
  have hx : ((s.noteReq (u q.p 0 4) q.r.reqId).ctx (u q.p 0 4)).state ≠ Cs.moving := by rwa [State.noteReq_ctx]
  have hl := State.leave_now (s := s.noteReq (u q.p 0 4) q.r.reqId) hc hs hx ⟨dis, false, 0, some q.r⟩ q.at_ Code.TRV_ABORTED
  simp only [State.endAsked, h, hm, hb, Bool.not_true, Bool.false_eq_true, if_false, hl]
  rfl

end

/-- A lit circuit with a new REQ_ID leaves the lines of its route reserved. -/
theorem State.leaving_noteReq (s : State) (i reqId e : Nat) {route : Nat} (h : (s.ctx i).route = some route) :
    ((s.noteReq i reqId).ctx i).leaving i e = [⟨i, (s.ctx i).input, route, (s.ctx i).scheduled, ctxSlot i, e⟩] := by
  rw [State.noteReq_ctx, Ctx.leaving]
  simp only [h]

/-- Settles O19: a release and a DISABLE are one effect, `State.endAsked`, whose acting case is `State.finishLeave`. -/
theorem releaseAndDisableEndCircuits : Obligations.ReleaseAndDisableEndCircuits := by
  intro s f dis hl
  refine serves_of (by cases dis <;> rfl) hl fun r key w _ => ?_
  rw [body_endAsked]
  set q : Req := ⟨r, f.params, r.stamp⟩
  refine ⟨State.endAsked_params .., fun hk => ?_, fun hk h0 ht hi ho => ?_, fun hk hm hb => ?_, fun hk hm hb hc hs hn => ?_⟩
  · rw [State.endAsked_unknown dis q hk]
    exact ⟨rfl, rfl⟩
  · rw [State.endAsked_notOwner dis q hk (State.mayEnd_eq_false h0 ht hi ho)]
    exact ⟨rfl, rfl⟩
  · rw [State.endAsked_bivouac dis q hk hm hb]
    exact ⟨rfl, rfl⟩
  · rw [State.endAsked_now dis q hk hm hb hc hs hn]
    refine ⟨rfl, State.finishLeave_state .., fun route hlit hr => ?_, fun hlive => ?_⟩
    · have hlit' : ((w.noteReq (u f.params 0 4) r.reqId).ctx (u f.params 0 4)).lit = true := by
        rw [State.noteReq_ctx]
        exact hlit
      rw [State.finishLeave_cir, State.endCircuit_lit _ _ _ _ _ hlit', State.leaving_noteReq w _ _ _ hr]
      rfl
    · exact State.finishLeave_completed _ _ _ _ _ rfl (by rw [(w.noteReq_ends _ _).clients.sessionLive, hlive])

end Sys2Proof.Machine
end

section
/-!
PROOFS. Grants that end (R66, R67, R151) and revocations that complete.
-/
namespace Sys2Proof.Machine

/-! ## A grant that ends -/

/-- The entry of a grant is freed, and READY entries that use it become STALE (R66, R150). -/
def State.dropGrant (s : State) (n : Nat) : State :=
  { s.staleBy fun c => c.grantIn == some n || c.grantOut == some n with cir.grants := Tbl.del s.cir.grants n }

theorem State.dropGrant_touches (s : State) (n : Nat) : s.Touches (s.dropGrant n) [.cir, .sch, .recorder, .frames] [] :=
  have hs : s.Touches (s.staleBy fun c => c.grantIn == some n || c.grantOut == some n) [.cir, .sch, .recorder, .frames] [] :=
    .with_sch s _ (.tail _ (.head _))
  hs.trans (.with_cir _ _ (.head _))

theorem State.freeGrant_of_none {s : State} {n : Nat} (h : Tbl.look s.cir.grants n = none) : s.freeGrant n = s := by
  rw [State.freeGrant, h]

theorem State.freeGrant_of_some {s : State} {n : Nat} {g : Grant} (h : Tbl.look s.cir.grants n = some g) : s.freeGrant n =
    (s.dropGrant n).evPort Ev.revocation g.out g.port g.grantee Code.CIR_GRANT_REVOKED := by
  rw [State.freeGrant, h]
  rfl

theorem State.freeGrant_touches (s : State) (n : Nat) : s.Touches (s.freeGrant n) [.cir, .sch, .recorder, .frames] [] := by
  cases h : Tbl.look s.cir.grants n with
  | none =>
    rw [State.freeGrant_of_none h]
    exact .refl s _ _
  | some g =>
    rw [State.freeGrant_of_some h]
    exact (s.dropGrant_touches n).trans (.ofRecorded (State.evPort_recorded _ _ _ _ _ _ (by decide)) (by decide) (by decide))

/-- The end of a grant changes of the circuits' part only the table of grants. -/
theorem State.freeGrant_cir (s : State) (n : Nat) : (s.freeGrant n).cir = { s.cir with grants := (s.freeGrant n).cir.grants } := by
  cases h : Tbl.look s.cir.grants n with
  | none => rw [State.freeGrant_of_none h]
  | some g => rw [State.freeGrant_of_some h, State.evPort_cir _ _ _ _ _ _ (by decide)]; rfl

/-- The entry of an ended grant is free, and every other one stands (R66). -/
theorem State.freeGrant_grants (s : State) (n : Nat) : Tbl.look (s.freeGrant n).cir.grants n = none ∧
    ∀ j, j ≠ n → Tbl.look (s.freeGrant n).cir.grants j = Tbl.look s.cir.grants j := by
  cases h : Tbl.look s.cir.grants n with
  | none =>
    rw [State.freeGrant_of_none h]
    exact ⟨h, fun _ _ => rfl⟩
  | some g =>
    rw [State.freeGrant_of_some h, State.evPort_cir _ _ _ _ _ _ (by decide)]
    exact ⟨Tbl.look_del_self _ _, fun j hj => Tbl.look_del_other _ hj⟩

/-- Circuits of inactive entries removed, each with EV 41 (R151). -/
theorem State.purgeLib_touches (s : State) (hit : SchCir → Bool) (code : Nat) :
    s.Touches (s.purgeLib hit code) [.sch, .recorder, .frames] [] := by
  refine State.Touches.foldl (fun u e _ => ?_) s
  dsimp only
  split
  · exact .refl u _ _
  · refine .trans (.with_sch u _ (.head _)) (.foldl (fun v c _ => .ofRecorded ?_ (by decide) (by decide)) _)
    exact State.evCtx_recorded _ _ _ _ _ (by decide)

/-! ## A revocation (R66) -/

/-- The circuits that use a grant end, one after the other. -/
def State.endUsers (s : State) (n ingress : Nat) : State :=
  (s.grantUsers n).foldl (fun s i => s.leave i ⟨false, false, Code.CIR_GRANT_REVOKED, none⟩ ingress Code.CIR_GRANT_REVOKED) s

theorem State.revoke_eq (s : State) (n ingress : Nat) : s.revoke n ingress = ((s.endUsers n ingress).freeGrant n).purgeLib
    (fun c => c.grantIn == some n || c.grantOut == some n) Code.CIR_GRANT_REVOKED := rfl

theorem State.endUsers_ends (s : State) (n ingress : Nat) : s.Ends (s.endUsers n ingress) :=
  .foldl (fun u i => u.leave_ends i _ _ _) _ _

theorem State.revoke_time (s : State) (n ingress : Nat) : (s.revoke n ingress).t = s.t := by
  rw [State.revoke_eq, (State.purgeLib_touches _ _ _).same .time (by decide), (State.freeGrant_touches _ _).same .time (by decide),
    (s.endUsers_ends n ingress).time]

/-- A revocation of a grant that no circuit uses frees its entry and leaves the rest of the circuits' part (R66). -/
theorem State.revoke_unused {s : State} {n : Nat} (h : s.grantUsers n = []) (ingress : Nat) :
    (s.revoke n ingress).cir = { s.cir with grants := (s.revoke n ingress).cir.grants } ∧
    Tbl.look (s.revoke n ingress).cir.grants n = none ∧
    ∀ j, j ≠ n → Tbl.look (s.revoke n ingress).cir.grants j = Tbl.look s.cir.grants j := by
  have hc : (s.revoke n ingress).cir = (s.freeGrant n).cir := by
    rw [State.revoke_eq, State.endUsers, h]
    exact (State.purgeLib_touches _ _ _).same .cir (by decide)
  rw [hc]
  exact ⟨s.freeGrant_cir n, s.freeGrant_grants n⟩

/-! ## Revocations that complete (R66, R411) -/

/-- A revocation that waits completes once no circuit uses its grant. -/
def State.settleRevoke (s : State) (x : Nat × Requester) : State :=
  if (s.grantUsers x.1).isEmpty && !(s.cir.deferred.any fun d => d.grant && d.index == x.1) then
    { s with cir.revokes := s.cir.revokes.erase x }.complete x.2 true Code.DONE []
  else s

theorem State.settleRevokes_eq (s : State) : s.settleRevokes = s.cir.revokes.foldl State.settleRevoke s := rfl

/-- Of the circuits' part only the revocations that wait change, and device time stands. -/
def State.KeepsCircuits (s t : State) : Prop := t.t = s.t ∧ t.cir = { s.cir with revokes := t.cir.revokes }

theorem State.settleRevoke_keeps (s : State) (x : Nat × Requester) : s.KeepsCircuits (s.settleRevoke x) := by
  unfold State.settleRevoke
  split
  · have h := State.completeOpt_steady { s with cir.revokes := s.cir.revokes.erase x } (some x.2) true Code.DONE []
    refine ⟨h.time, ?_⟩
    have hc : ({ s with cir.revokes := s.cir.revokes.erase x }.complete x.2 true Code.DONE []).cir =
      { s.cir with revokes := s.cir.revokes.erase x } := h.cir
    rw [hc]
  · exact ⟨rfl, rfl⟩

theorem State.settleRevokes_keeps (s : State) : s.KeepsCircuits s.settleRevokes := by
  rw [State.settleRevokes_eq]
  refine List.foldlRecOn s.cir.revokes State.settleRevoke (motive := s.KeepsCircuits) ⟨rfl, rfl⟩ fun t ⟨htime, hcir⟩ x _ => ?_
  obtain ⟨h1, h2⟩ := t.settleRevoke_keeps x
  exact ⟨h1.trans htime, by rw [h2, hcir]⟩

theorem State.settleRevokes_ctx (s : State) (i : Nat) : s.settleRevokes.ctx i = s.ctx i := by
  obtain ⟨-, h⟩ := s.settleRevokes_keeps
  rw [State.ctx, h]
  rfl

end Sys2Proof.Machine
end

section
/-!
PROOFS. Attributes, leases and reads of circuits, what an expiry does (R66, R69 to R73, R540), and O20.
-/
namespace Sys2Proof

theorem natBe_length (n v : Nat) : (natBe n v).length = n := by
  induction n generalizing v with
  | zero => rfl
  | succ n ih => simp [natBe, ih]

/-- Blocks of one length, one after the other: their total length, and the block that starts at a multiple of it. -/
theorem flatMap_blocks {α : Type} {g : Nat → List α} {m : Nat} (h : ∀ k, (g k).length = m) (n : Nat) :
    ((List.range n).flatMap g).length = m * n ∧ ∀ k, k < n → (((List.range n).flatMap g).drop (m * k)).take m = g k := by
  induction n with
  | zero => simp
  | succ n ih =>
    obtain ⟨hl, hb⟩ := ih
    simp only [List.range_succ, List.flatMap_append, List.flatMap_singleton]
    refine ⟨by rw [List.length_append, hl, h, Nat.mul_succ], fun k hk => ?_⟩
    rcases Nat.lt_succ_iff_lt_or_eq.1 hk with hk | rfl
    · have hle : m * k + m ≤ m * n := Nat.mul_succ m k ▸ Nat.mul_le_mul_left m hk
      rw [List.drop_append_of_le_length (by omega), List.take_append_of_le_length (by rw [List.length_drop]; omega), hb k hk]
    · rw [← hl, List.drop_left, ← h k, List.take_length]

/-- Words of four bytes each. -/
theorem flatMap_natBe_length (l : List Nat) : (l.flatMap (natBe 4)).length = 4 * l.length := by
  induction l with
  | nil => rfl
  | cons a l ih => rw [List.flatMap_cons, List.length_append, natBe_length, ih, List.length_cons]; omega

end Sys2Proof

namespace Sys2Proof.Machine

/-! ## Attributes and leases (R70, R72) -/

/-- A context written, and nothing else: how it and the others read. -/
theorem State.setCtx_alone (s : State) (i : Nat) (c : Ctx) : (s.setCtx i c).ctx i = { c with gen := (c.gen + 1) % 65_536 } ∧
    (∀ j, j ≠ i → (s.setCtx i c).ctx j = s.ctx j) ∧ s.Touches (s.setCtx i c) [.cir] [] :=
  ⟨State.ctx_setCtx_self s i c, fun _ hj => State.ctx_setCtx_other s c hj, .with_cir s _ (.head _)⟩

theorem cirAttr_serves (s : State) (f : Frame) (hl : s.Live) : Serves (.cirAttr f) opCirAttr f s fun w r v code params =>
    let i := u f.params 0 4
    let pin : Bool := u f.params 4 1 == 1
    (w.known i = false → code = Code.CIR_UNKNOWN ∧ v = w) ∧
    (w.known i = true → r.tenant ≠ 0 → r.tenant ≠ (w.ctx i).tenant → code = Code.CIR_NOT_OWNER ∧ v = w) ∧
    (w.known i = true → (r.tenant = 0 ∨ r.tenant = (w.ctx i).tenant) →
      if pin = true ∧ (w.ctx i).pinned = false ∧ ((w.ctx i).state = Cs.moving ∨ w.inJournal i = true) then code = Code.CIR_BAD_STATE ∧ v = w
      else code = Code.DONE ∧ params = [] ∧
        v.ctx i = { w.ctx i with pinned := pin, reqId := r.reqId, gen := ((w.ctx i).gen + 1) % 65_536 } ∧
        (∀ j, j ≠ i → v.ctx j = w.ctx j) ∧ w.Touches v [.cir] []) := by
  refine serves_of rfl hl fun r key w _ => ?_
  intro i pin
  have hbody : opCirAttr.body ⟨r, f.params, r.stamp⟩ w =
      if !w.known i then (w, Code.CIR_UNKNOWN, [])
      else if r.tenant != 0 && r.tenant != (w.ctx i).tenant then (w, Code.CIR_NOT_OWNER, [])
      else if pin && !(w.ctx i).pinned && ((w.ctx i).state == Cs.moving || w.inJournal i) then (w, Code.CIR_BAD_STATE, [])
      else (w.setCtx i { w.ctx i with pinned := pin, reqId := r.reqId }, Code.DONE, []) := rfl
  rw [hbody]
  refine ⟨fun hk => ?_, fun hk h0 ht => ?_, fun hk ht => ?_⟩
  · simp [hk]
  · simp [hk, h0, ht]
  · have hown : (r.tenant != 0 && r.tenant != (w.ctx i).tenant) = false := by
      rcases ht with ht | ht <;> simp [ht]
    by_cases hbad : pin = true ∧ (w.ctx i).pinned = false ∧ ((w.ctx i).state = Cs.moving ∨ w.inJournal i = true)
    · obtain ⟨hp, hq, hm⟩ := hbad
      simp [hk, hown, hp, hq, hm]
    · have hgood : (pin && !(w.ctx i).pinned && ((w.ctx i).state == Cs.moving || w.inJournal i)) = false := by
        simpa [imp_iff_not_or, or_assoc] using hbad
      rw [if_neg hbad, hk, hown, hgood]
      exact ⟨rfl, rfl, w.setCtx_alone i _⟩

theorem cirLease_serves (s : State) (f : Frame) (hl : s.Live) : Serves (.cirLease f) opCirLease f s fun w r v code params =>
    let i := u f.params 0 4
    let dur := u f.params 4 4
    let x := if dur = 0 then 0 else r.stamp / 1_000_000_000 + dur
    (w.known i = true → r.tenant ≠ (w.ctx i).tenant → code = Code.CIR_NOT_OWNER ∧ v = w) ∧
    (w.known i = true → r.tenant = (w.ctx i).tenant →
      if (w.ctx i).lease ≠ 0 ∧ (w.ctx i).lease ≤ r.stamp / 1_000_000_000 then code = Code.CIR_LEASE_EXPIRED ∧ v = w
      else code = Code.DONE ∧ params = natBe 4 x ∧
        v.ctx i = { w.ctx i with lease := x, reqId := r.reqId, gen := ((w.ctx i).gen + 1) % 65_536 } ∧
        (∀ j, j ≠ i → v.ctx j = w.ctx j) ∧ w.Touches v [.cir] []) := by
  refine serves_of rfl hl fun r key w _ => ?_
  intro i dur x
  have hbody : opCirLease.body ⟨r, f.params, r.stamp⟩ w =
      if !w.known i then (w, Code.CIR_UNKNOWN, [])
      else if r.tenant != (w.ctx i).tenant then (w, Code.CIR_NOT_OWNER, [])
      else if (w.ctx i).lease != 0 && decide ((w.ctx i).lease ≤ r.stamp / 1_000_000_000) then (w, Code.CIR_LEASE_EXPIRED, [])
      else (w.setCtx i { w.ctx i with lease := x, reqId := r.reqId }, Code.DONE, natBe 4 x) := rfl
  rw [hbody]
  refine ⟨fun hk ht => ?_, fun hk ht => ?_⟩
  · simp [hk, ht]
  · by_cases hx : (w.ctx i).lease ≠ 0 ∧ (w.ctx i).lease ≤ r.stamp / 1_000_000_000
    · simp [hk, ht, hx]
    · have hx' : ((w.ctx i).lease != 0 && decide ((w.ctx i).lease ≤ r.stamp / 1_000_000_000)) = false := by
        simpa [imp_iff_not_or] using hx
      rw [if_neg hx, hk, ht, hx']
      simp only [Bool.not_true, Bool.false_eq_true, if_false, bne_self_eq_false]
      exact ⟨trivial, trivial, w.setCtx_alone i _⟩

/-! ## Reads (R55, R73) -/

theorem ctxWords_length (i : Nat) (c : Ctx) : (ctxWords i c).length = 16 := by
  unfold ctxWords
  split <;> rfl

theorem State.ctxView_length (s : State) (i tenant at_ : Nat) : (s.ctxView i tenant at_).length = 16 := by
  unfold State.ctxView
  dsimp only
  split
  · exact ctxWords_length _ _
  · split
    · split
      · simp
      · exact ctxWords_length _ _
    · simp

/-- The warden and the circuit's tenant see every word of a context (R73). -/
theorem State.ctxView_own (s : State) {i tenant : Nat} (at_ : Nat) (h : tenant = 0 ∨ (s.ctx i).tenant = tenant)
    (hs : (s.ctx i).state ≠ Cs.idle) : s.ctxView i tenant at_ = ctxWords i (s.ctx i) := by
  unfold State.ctxView
  rw [if_pos (by simpa [hs] using h)]

/-- A tenant without a right to either port sees nothing of a circuit of another (R73). -/
theorem State.ctxView_other (s : State) {i tenant at_ : Nat} (h0 : tenant ≠ 0) (ht : (s.ctx i).tenant ≠ tenant)
    (hi : s.right false (s.ctx i).input tenant at_ = none) (ho : s.right true (ctxOut i) tenant at_ = none) :
    s.ctxView i tenant at_ = List.replicate 16 0 := by
  simp [State.ctxView, h0, ht, hi, ho]

theorem cirRead_serves (s : State) (f : Frame) (hl : s.Live) : Serves (.cirRead f) opCirRead f s fun w r v code params =>
    let n := u f.params 4 2
    code = Code.DONE ∧ v = w ∧ params.length = 64 * n ∧
    ∀ k, k < n →
      let i := u f.params 0 4 + k
      let c := w.ctx i
      (r.tenant = 0 ∨ c.tenant = r.tenant → c.state ≠ Cs.idle → (params.drop (64 * k)).take 64 = (ctxWords i c).flatMap (natBe 4)) ∧
      (c.state ≠ Cs.idle → r.tenant ≠ 0 → c.tenant ≠ r.tenant → w.right false c.input r.tenant r.stamp = none →
        w.right true (ctxOut i) r.tenant r.stamp = none → (params.drop (64 * k)).take 64 = List.replicate 64 0) := by
  refine serves_of rfl hl fun r key w _ => ?_
  obtain ⟨hlen, hblock⟩ := flatMap_blocks (g := fun k => (w.ctxView (u f.params 0 4 + k) r.tenant r.stamp).flatMap (natBe 4)) (m := 64)
    (fun k => by rw [flatMap_natBe_length, State.ctxView_length]) (u f.params 4 2)
  refine ⟨rfl, rfl, hlen, fun k hk => ⟨fun ht hs => ?_, fun _ h0 ht hi ho => ?_⟩⟩
  · exact (hblock k hk).trans (by rw [State.ctxView_own w r.stamp ht hs])
  · exact (hblock k hk).trans (by rw [State.ctxView_other w h0 ht hi ho]; rfl)

/-! ## Expiries (R66, R70, R71, R540) -/

/-- A release put off, listed once (R540). -/
def State.putOff (s : State) (grant : Bool) (index code : Nat) : State :=
  if s.cir.deferred.any fun d => d.grant == grant && d.index == index then s
  else { s with cir.deferred := s.cir.deferred ++ [⟨grant, index, code⟩] }

theorem State.putOff_reads (s : State) (grant : Bool) (index code : Nat) :
    (∃ d, d ∈ (s.putOff grant index code).cir.deferred ∧ d.grant = grant ∧ d.index = index) ∧
    (s.putOff grant index code).cir.ctxs = s.cir.ctxs ∧ (s.putOff grant index code).cir.grants = s.cir.grants ∧
    (s.putOff grant index code).t = s.t := by
  unfold State.putOff
  split
  · rename_i h
    obtain ⟨d, hd, hg⟩ := List.any_eq_true.1 h
    exact ⟨⟨d, hd, by simpa using hg⟩, rfl, rfl, rfl⟩
  · exact ⟨⟨_, List.mem_append_right _ (List.mem_singleton.2 rfl), rfl, rfl⟩, rfl, rfl, rfl⟩

theorem doCircuitLeaseExpiry_eq {s : State} {i : Fin 262144} (hs : (s.ctx i).state ≠ Cs.idle) (h0 : (s.ctx i).lease ≠ 0) :
    doCircuitLeaseExpiry i s =
      let x := s.advanceTo ((s.ctx i).lease * 1_000_000_000)
      if s.bivouac || !s.hubIn then x.putOff false i Code.CIR_LEASE_EXPIRED
      else x.leave i ⟨false, false, Code.CIR_LEASE_EXPIRED, none⟩ x.now Code.CIR_LEASE_EXPIRED := by
  have hc : ((s.ctx i).state != Cs.idle && (s.ctx i).lease != 0) = true := by simp [hs, h0]
  have hf : (fun d : Deferred => !d.grant && d.index == i.val) = fun d => d.grant == false && d.index == i.val := by
    funext d
    cases d.grant <;> rfl
  unfold doCircuitLeaseExpiry State.putOff
  dsimp only
  rw [if_pos hc, hf]
  rfl

theorem circuitLeaseExpiry_leaves (s : State) (i : Fin 262144) (hl : s.Live) (hs : (s.ctx i).state ≠ Cs.idle) (h0 : (s.ctx i).lease ≠ 0) :
    Leaves (.circuitLeaseExpiry i) s fun t =>
    t.t = max s.t ((s.ctx i).lease * 1_000_000_000 * 2 ^ 32) ∧
    ((s.bivouac = true ∨ s.hubIn = false) → (∃ d, d ∈ t.cir.deferred ∧ d.grant = false ∧ d.index = i.val) ∧ t.cir.ctxs = s.cir.ctxs) ∧
    (s.bivouac = false → s.hubIn = true → s.committing i = none → s.stageOf i = none → (s.ctx i).state ≠ Cs.moving →
      (t.ctx i).state = Cs.idle ∧ t.cir.deferred = s.cir.deferred) := by
  refine leaves_live (doCircuitLeaseExpiry i) rfl hl ?_
  rw [doCircuitLeaseExpiry_eq hs h0]
  extract_lets x
  obtain ⟨hd, hctxs, -, htime⟩ := x.putOff_reads false i Code.CIR_LEASE_EXPIRED
  have hends := x.leave_ends i ⟨false, false, Code.CIR_LEASE_EXPIRED, none⟩ x.now Code.CIR_LEASE_EXPIRED
  refine ⟨?_, fun h => ?_, fun hb hh hc hg hm => ?_⟩
  · split
    · exact htime
    · exact hends.time
  · rw [if_pos (by rcases h with h | h <;> simp [h])]
    exact ⟨hd, hctxs⟩
  · rw [if_neg (by simp [hb, hh])]
    refine ⟨?_, hends.deferred⟩
    rw [State.leave_now (s := x) hc hg hm]
    exact State.finishLeave_state ..

theorem doGrantLeaseExpiry_eq {s : State} {n : Fin 512} {g : Grant} (hg : Tbl.look s.cir.grants n = some g) (h0 : g.lease ≠ 0) :
    doGrantLeaseExpiry n s =
      let x := s.advanceTo (g.lease * 1_000_000_000)
      if s.bivouac || !s.hubIn then x.putOff true n Code.CIR_GRANT_REVOKED else x.revoke n x.now := by
  have hf : (fun d : Deferred => d.grant && d.index == n.val) = fun d => d.grant == true && d.index == n.val := by
    funext d
    cases d.grant <;> rfl
  unfold doGrantLeaseExpiry State.putOff
  rw [hg]
  dsimp only
  rw [if_neg h0, hf]
  rfl

theorem grantLeaseExpiry_leaves (s : State) (n : Fin 512) (g : Grant) (hl : s.Live) (hg : Tbl.look s.cir.grants n = some g)
    (h0 : g.lease ≠ 0) : Leaves (.grantLeaseExpiry n) s fun t =>
    t.t = max s.t (g.lease * 1_000_000_000 * 2 ^ 32) ∧
    ((s.bivouac = true ∨ s.hubIn = false) → (∃ d, d ∈ t.cir.deferred ∧ d.grant = true ∧ d.index = n.val) ∧ t.cir.grants = s.cir.grants) ∧
    (s.bivouac = false → s.hubIn = true → s.grantUsers n = [] → Tbl.look t.cir.grants n = none ∧ t.cir.ctxs = s.cir.ctxs) := by
  refine leaves_live (doGrantLeaseExpiry n) rfl hl ?_
  rw [doGrantLeaseExpiry_eq hg h0]
  extract_lets x
  obtain ⟨hd, -, hgrants, htime⟩ := x.putOff_reads true n Code.CIR_GRANT_REVOKED
  refine ⟨?_, fun h => ?_, fun hb hh hu => ?_⟩
  · split
    · exact htime
    · exact x.revoke_time n x.now
  · rw [if_pos (by rcases h with h | h <;> simp [h])]
    exact ⟨hd, hgrants⟩
  · rw [if_neg (by simp [hb, hh])]
    obtain ⟨hcir, hfree, -⟩ := State.revoke_unused (s := x) hu x.now
    exact ⟨hfree, by rw [hcir]; rfl⟩

/-- The deferred releases are taken off the list at the point of no return of a grid point (R540). -/
def State.takeDeferred (s : State) : State :=
  { s.advanceTo (persFrom (max (s.cir.deferUntil.getD s.now) s.now + 5_000) - 5_000) with cir.deferred := [], cir.deferUntil := none }

theorem doDeferredRelease_one {s : State} {d : Deferred} (hh : s.hubIn = true) (hb : s.bivouac = false) (hd : s.cir.deferred = [d])
    (hg : d.grant = false) (hs : (s.ctx d.index).state ≠ Cs.idle) : doDeferredRelease s =
      (s.takeDeferred.leave d.index ⟨false, false, d.code, none⟩ s.takeDeferred.now d.code).settleRevokes := by
  have hi : (s.takeDeferred.ctx d.index).state ≠ Cs.idle := hs
  have hl : (s.advanceTo (persFrom (max (s.cir.deferUntil.getD s.now) s.now + 5_000) - 5_000)).cir.deferred = [d] := hd
  have h : (s.cir.deferred.isEmpty || s.bivouac || !s.hubIn) = false := by simp [hd, hb, hh]
  unfold doDeferredRelease
  dsimp only
  rw [if_neg (by simp [h]), hl, List.foldl_cons, List.foldl_nil, if_neg (by simp [hg])]
  exact congrArg State.settleRevokes (if_neg hi)

theorem deferredRelease_leaves (s : State) (d : Deferred) (hl : s.Live) (hh : s.hubIn = true) (hb : s.bivouac = false)
    (hd : s.cir.deferred = [d]) (hg : d.grant = false) (hs : (s.ctx d.index).state ≠ Cs.idle) (hm : (s.ctx d.index).state ≠ Cs.moving)
    (hc : s.committing d.index = none) (ho : s.stageOf d.index = none) : Leaves .deferredRelease s fun t =>
      t.cir.deferred = [] ∧ t.cir.deferUntil = none ∧ (t.ctx d.index).state = Cs.idle ∧
      t.t = max s.t ((persFrom (max (s.cir.deferUntil.getD s.now) s.now + 5_000) - 5_000) * 2 ^ 32) := by
  refine leaves_live doDeferredRelease rfl hl ?_
  rw [doDeferredRelease_one hh hb hd hg hs]
  have hends := s.takeDeferred.leave_ends d.index ⟨false, false, d.code, none⟩ s.takeDeferred.now d.code
  set v := s.takeDeferred.leave d.index ⟨false, false, d.code, none⟩ s.takeDeferred.now d.code with hv
  obtain ⟨htime, hcir⟩ := v.settleRevokes_keeps
  refine ⟨by rw [hcir]; exact hends.deferred, by rw [hcir]; exact hends.deferUntil, ?_, htime.trans hends.time⟩
  rw [State.settleRevokes_ctx, hv, State.leave_now (s := s.takeDeferred) hc ho hm]
  exact State.finishLeave_state ..

/-- Settles O20: attributes, leases, reads and the three expiries, each by its own lemma. -/
theorem attributesLeasesAndExpiries : Obligations.AttributesLeasesAndExpiries :=
  ⟨⟨cirAttr_serves, cirLease_serves, cirRead_serves⟩, circuitLeaseExpiry_leaves, grantLeaseExpiry_leaves, deferredRelease_leaves⟩

end Sys2Proof.Machine
end

section
/-!
PROOFS. Grants (R63, R66, R67, R70), ownership writes (R65, R67), and O21.
-/
namespace Sys2Proof.Machine

/-! ## Grants created, revoked and extended -/

theorem grantCreate_serves (s : State) (f : Frame) (hl : s.Live) : Serves (.grantCreate f) opGrantCreate f s fun w r v code params =>
    let out : Bool := u f.params 0 1 == 1
    let port := u f.params 2 2
    let dur := u f.params 4 4
    let x := if dur = 0 then 0 else r.stamp / 1_000_000_000 + dur
    (w.owner out port ≠ r.tenant → code = Code.CIR_NOT_OWNER ∧ v = w) ∧
    (w.owner out port = r.tenant → (∀ n, n < 512 → (Tbl.look w.cir.grants n).isSome = true) → code = Code.CIR_GRANT_FULL ∧ v = w) ∧
    (∀ n, w.owner out port = r.tenant → n < 512 → Tbl.look w.cir.grants n = none → (∀ j, j < n → (Tbl.look w.cir.grants j).isSome = true) →
      code = Code.DONE ∧ params = natBe 2 n ++ [0, 0] ++ natBe 4 x ∧
      Tbl.look v.cir.grants n = some ⟨out, port, u f.params 1 1, r.tenant, x⟩ ∧
      (∀ j, j ≠ n → Tbl.look v.cir.grants j = Tbl.look w.cir.grants j) ∧ w.Touches v [.cir] []) := by
  refine serves_of rfl hl fun r key w _ => ?_
  intro out port dur x
  refine ⟨fun ho => ?_, fun ho hfull => ?_, fun n ho hn hfree hlow => ?_⟩
  · have hno : (w.owner (u f.params 0 1 == 1) (u f.params 2 2) != r.tenant) = true := by simpa using ho
    simp only [opGrantCreate, opAny, hno, if_true, and_self]
  · have hfind : (List.range 512).find? (fun n => (Tbl.look w.cir.grants n).isNone) = none :=
      List.find?_eq_none.2 fun n hn => by simpa using Option.isSome_iff_ne_none.1 (hfull n (List.mem_range.1 hn))
    have hno : (w.owner (u f.params 0 1 == 1) (u f.params 2 2) != r.tenant) = false := by simpa using ho
    simp only [opGrantCreate, opAny, hfind, hno, Bool.false_eq_true, if_false, and_self]
  · have hfind : (List.range 512).find? (fun n => (Tbl.look w.cir.grants n).isNone) = some n :=
      List.find?_range_eq_some.2 ⟨by simp [hfree], List.mem_range.2 hn, fun j hj => by simpa using hlow j hj⟩
    have hno : (w.owner (u f.params 0 1 == 1) (u f.params 2 2) != r.tenant) = false := by simpa using ho
    simp only [opGrantCreate, opAny, hfind, hno, Bool.false_eq_true, if_false]
    exact ⟨trivial, rfl, Tbl.look_put_self _ _ _, fun j hj => Tbl.look_put_other _ hj _, .with_cir w _ (.head _)⟩

theorem grantRevoke_serves (s : State) (f : Frame) (hl : s.Live) : Serves (.grantRevoke f) opGrantRevoke f s fun w r v code params =>
    let n := u f.params 0 2
    (Tbl.look w.cir.grants n = none → code = Code.CIR_UNKNOWN ∧ v = w) ∧
    (∀ g, Tbl.look w.cir.grants n = some g → g.owner ≠ r.tenant → code = Code.CIR_NOT_OWNER ∧ v = w) ∧
    (∀ g, Tbl.look w.cir.grants n = some g → g.owner = r.tenant → code = Code.ACCEPTED ∧ params = [] ∧
      (w.bivouac = true → ⟨true, n, Code.CIR_GRANT_REVOKED⟩ ∈ v.cir.deferred ∧ v.cir.grants = w.cir.grants) ∧
      (w.bivouac = false → w.grantUsers n = [] → Tbl.look v.cir.grants n = none ∧
        (∀ j, j ≠ n → Tbl.look v.cir.grants j = Tbl.look w.cir.grants j) ∧ v.cir.ctxs = w.cir.ctxs)) := by
  refine serves_of rfl hl fun r key w _ => ?_
  intro n
  set x : State := { w with cir.revokes := w.cir.revokes ++ [(n, r)] } with hx
  have hbody : opGrantRevoke.body ⟨r, f.params, r.stamp⟩ w = match Tbl.look w.cir.grants n with
      | none => (w, Code.CIR_UNKNOWN, [])
      | some g => if g.owner != r.tenant then (w, Code.CIR_NOT_OWNER, [])
        else if w.bivouac then ({ x with cir.deferred := x.cir.deferred ++ [⟨true, n, Code.CIR_GRANT_REVOKED⟩] }, Code.ACCEPTED, [])
        else ((x.revoke n r.stamp).settleRevokes, Code.ACCEPTED, []) := rfl
  rw [hbody]
  refine ⟨fun hg => ?_, fun g hg ho => ?_, fun g hg ho => ?_⟩
  · simp [hg]
  · simp [hg, ho]
  · rw [hg]
    dsimp only
    rw [if_neg (by simp [ho])]
    cases hb : w.bivouac with
    | true => exact ⟨rfl, rfl, fun _ => ⟨List.mem_append_right _ (List.mem_singleton.2 rfl), rfl⟩, fun h => absurd h (by decide)⟩
    | false =>
      refine ⟨rfl, rfl, fun h => absurd h (by decide), fun _ hu => ?_⟩
      obtain ⟨hcir, hfree, hother⟩ := State.revoke_unused (s := x) hu r.stamp
      obtain ⟨-, hset⟩ := (x.revoke n r.stamp).settleRevokes_keeps
      rw [if_neg (by decide), hset]
      exact ⟨hfree, hother, by rw [hcir, hx]⟩

theorem grantLease_serves (s : State) (f : Frame) (hl : s.Live) : Serves (.grantLease f) opGrantLease f s fun w r v code params =>
    let n := u f.params 0 2
    let dur := u f.params 4 4
    let x := if dur = 0 then 0 else r.stamp / 1_000_000_000 + dur
    ∀ g, Tbl.look w.cir.grants n = some g →
      (w.owner g.out g.port ≠ r.tenant → code = Code.CIR_NOT_OWNER ∧ v = w) ∧
      (w.owner g.out g.port = r.tenant →
        if g.lease ≠ 0 ∧ g.lease ≤ r.stamp / 1_000_000_000 then code = Code.CIR_LEASE_EXPIRED ∧ v = w
        else code = Code.DONE ∧ params = natBe 4 x ∧ Tbl.look v.cir.grants n = some { g with lease := x } ∧
          (∀ j, j ≠ n → Tbl.look v.cir.grants j = Tbl.look w.cir.grants j) ∧ w.Touches v [.cir] []) := by
  refine serves_of rfl hl fun r key w _ => ?_
  intro n dur x g hg
  set y : State := { w with cir.grants := Tbl.put w.cir.grants n { g with lease := x } } with hy
  have hbody : opGrantLease.body ⟨r, f.params, r.stamp⟩ w =
      if w.owner g.out g.port = r.tenant then
        if g.lease ≠ 0 ∧ g.lease ≤ r.stamp / 1_000_000_000 then (w, Code.CIR_LEASE_EXPIRED, []) else (y, Code.DONE, natBe 4 x)
      else (w, Code.CIR_NOT_OWNER, []) := by
    have hread : opGrantLease.body ⟨r, f.params, r.stamp⟩ w = match Tbl.look w.cir.grants n with
        | none => (w, Code.CIR_UNKNOWN, [])
        | some g => if w.owner g.out g.port != r.tenant then (w, Code.CIR_NOT_OWNER, [])
          else if g.lease != 0 && decide (g.lease ≤ r.stamp / 1_000_000_000) then (w, Code.CIR_LEASE_EXPIRED, [])
          else ({ w with cir.grants := Tbl.put w.cir.grants n { g with lease := x } }, Code.DONE, natBe 4 x) := rfl
    rw [hread, hg]
    by_cases ho : w.owner g.out g.port = r.tenant <;> simp [ho, hy]
  refine ⟨fun ho => ?_, fun ho => ?_⟩
  · rw [hbody, if_neg ho]
    exact ⟨rfl, rfl⟩
  · rw [if_pos ho] at hbody
    rw [hbody]
    split
    · exact ⟨rfl, rfl⟩
    · exact ⟨rfl, rfl, Tbl.look_put_self _ _ _, fun j hj => Tbl.look_put_other _ hj _, .with_cir w _ (.head _)⟩

/-! ## One owner field (R65, R67) -/

/-- The owner field of a port (R63). -/
def ownerFld (out : Bool) (p : Nat) : Fld :=
  ⟨if out then R.CMD_OWN_OUT (p / 4) else R.CMD_OWN_IN (p / 4), p % 4 * 8 + 5, p % 4 * 8⟩

theorem State.owner_eq_get (s : State) (out : Bool) (p : Nat) : s.owner out p = s.get (ownerFld out p) := rfl

theorem ownerFld_ok (out : Bool) (p : Nat) : (ownerFld out p).ok := by
  unfold Fld.ok ownerFld
  dsimp only
  omega

theorem ownerFld_addr {out : Bool} {p : Nat} (hp : p < 1024) : 0x601000 ≤ (ownerFld out p).addr ∧ (ownerFld out p).addr < 0x601800 := by
  cases out <;> simp only [ownerFld, R.CMD_OWN_OUT, R.CMD_OWN_IN, Bool.false_eq_true, if_true, if_false] <;> omega

theorem ownerFld_apart {o o' : Bool} {p p' : Nat} (hp : p < 1024) (hp' : p' < 1024) (h : o' ≠ o ∨ p' ≠ p) :
    (ownerFld o p).apart (ownerFld o' p') := by
  cases o <;> cases o' <;>
    simp only [Fld.apart, ownerFld, R.CMD_OWN_OUT, R.CMD_OWN_IN, Bool.false_eq_true, if_true, if_false, ne_eq, not_true_eq_false,
      false_or] at h ⊢ <;> omega

/-- The owner fields hold no occurrence. -/
theorem ownerFld_not_evtReg {out : Bool} {p : Nat} (hp : p < 1024) : ¬ evtReg (ownerFld out p).addr := by
  obtain ⟨-, h⟩ := ownerFld_addr (out := out) hp
  simp only [evtReg, R.EVT_HEAD, R.EVT_FLUSHED, R.EVT_LOST, R.EVT_TILE_LOST, R.EVT_PEND]
  omega

/-- A circuit of another tenant uses a port (R65). -/
def State.othersUse (s : State) (out : Bool) (p v : Nat) : Bool :=
  s.cir.ctxs.any fun e => e.2.state != Cs.idle && e.2.tenant != v && (if out then ctxOut e.1 == p else e.2.input == p)

theorem State.othersUse_iff (s : State) (out : Bool) (p v : Nat) : s.othersUse out p v = true ↔
    ∃ e, e ∈ s.cir.ctxs ∧ e.2.state ≠ Cs.idle ∧ e.2.tenant ≠ v ∧ (if out = true then ctxOut e.1 = p else e.2.input = p) := by
  simp only [State.othersUse, List.any_eq_true, Bool.and_eq_true, bne_iff_ne]
  refine exists_congr fun e => and_congr_right fun _ => ?_
  cases out <;> simp [and_assoc]

/-- What the judgement of an ownership write reads of a context. -/
def useOf (e : Nat × Ctx) : Nat × Nat × Nat × Nat := (e.1, e.2.state, e.2.tenant, e.2.input)

/-- No circuit changes its state, tenant or ports. -/
def State.SameUses (s t : State) : Prop := t.cir.ctxs.map useOf = s.cir.ctxs.map useOf

theorem State.SameUses.othersUse {s t : State} (h : s.SameUses t) (out : Bool) (p v : Nat) : t.othersUse out p v = s.othersUse out p v := by
  have key (x : State) : x.othersUse out p v = (x.cir.ctxs.map useOf).any fun y =>
      y.2.1 != Cs.idle && y.2.2.1 != v && (if out then ctxOut y.1 == p else y.2.2.2 == p) := by
    rw [List.any_map]
    rfl
  rw [key, key, h]

theorem State.SameUses.comp {a b c : State} (h : a.SameUses b) (g : b.SameUses c) : a.SameUses c := g.trans h

theorem State.SameUses.ofTouches {s t : State} {ps : List Part} {rs : List Nat} (h : s.Touches t ps rs) (hp : Part.cir ∉ ps) :
    s.SameUses t := by
  have hc : t.cir = s.cir := h.same .cir hp
  rw [State.SameUses, hc]

/-- A grant of a port that has changed hands ends; the new owner's own circuits go on without it (R67). -/
def State.passGrant (v : Nat) (s : State) (e : Nat × Grant) : State :=
  { s with cir.ctxs := s.cir.ctxs.map fun (x : Nat × Ctx) =>
      if e.2.grantee == v && (x.2.grantIn == some e.1 || x.2.grantOut == some e.1) then
        (x.1, { x.2 with grantIn := if x.2.grantIn == some e.1 then none else x.2.grantIn,
                         grantOut := if x.2.grantOut == some e.1 then none else x.2.grantOut, gen := (x.2.gen + 1) % 65_536 })
      else x }.freeGrant e.1

theorem State.passGrant_touches (v : Nat) (s : State) (e : Nat × Grant) :
    s.Touches (s.passGrant v e) [.cir, .sch, .recorder, .frames] [] := by
  unfold State.passGrant
  exact (State.Touches.with_cir s _ (.head _)).trans (State.freeGrant_touches _ _)

theorem State.passGrant_sameUses (v : Nat) (s : State) (e : Nat × Grant) : s.SameUses (s.passGrant v e) := by
  unfold State.passGrant
  rw [State.SameUses, State.freeGrant_cir, List.map_map]
  refine List.map_congr_left fun x _ => ?_
  simp only [Function.comp_apply]
  split <;> rfl

/-- A port passes to a tenant: its field, the library entries that use it, and its grants (R67, R150). -/
def State.assignOwner (s : State) (out : Bool) (p v : Nat) : State :=
  let x := (s.put (ownerFld out p) v).staleBy fun c => if out then c.rec_.output == p else c.rec_.input == p
  (x.cir.grants.filter fun e => e.2.out == out && e.2.port == p).foldl (State.passGrant v) x

theorem State.ownField_eq (s : State) (out : Bool) (p v : Nat) : s.ownField out p v =
    if s.owner out p = v then (s, true) else if s.othersUse out p v then (s, false) else (s.assignOwner out p v, true) := rfl

theorem State.assignOwner_touches (s : State) (out : Bool) (p v : Nat) :
    (s.put (ownerFld out p) v).Touches (s.assignOwner out p v) [.cir, .sch, .recorder, .frames] [] := by
  have hstale (x : State) (hit : SchCir → Bool) : x.Touches (x.staleBy hit) [.cir, .sch, .recorder, .frames] [] :=
    .with_sch x _ (.tail _ (.head _))
  exact (hstale _ _).trans (.foldl (fun x e _ => x.passGrant_touches v e) _)

theorem State.assignOwner_sameUses (s : State) (out : Bool) (p v : Nat) : s.SameUses (s.assignOwner out p v) := by
  refine List.foldlRecOn _ (State.passGrant v) (motive := s.SameUses) ?_ fun t ht e _ => ht.comp (t.passGrant_sameUses v e)
  exact State.SameUses.ofTouches (ps := [.sch]) (rs := [(ownerFld out p).addr])
    ((State.Touches.put s _ _ (.head _)).trans (.with_sch _ _ (.head _))) (by decide)

theorem State.assignOwner_owner (s : State) (out : Bool) {p v : Nat} (hp : p < 1024) (hv : v < 64) :
    (s.assignOwner out p v).owner out p = v := by
  have hf : (ownerFld out p).hi + 1 - (ownerFld out p).lo = 6 := by
    simp only [ownerFld]
    omega
  rw [State.owner_eq_get, (s.assignOwner_touches out p v).get (by simp) (ownerFld_not_evtReg hp),
    State.get_put_fits _ _ _ (ownerFld_ok out p) (by rw [hf]; exact hv)]

theorem State.assignOwner_owner_other (s : State) {out o : Bool} {p p' : Nat} (v : Nat) (hp : p < 1024) (hp' : p' < 1024)
    (h : o ≠ out ∨ p' ≠ p) : (s.assignOwner out p v).owner o p' = s.owner o p' := by
  rw [State.owner_eq_get, (s.assignOwner_touches out p v).get (by simp) (ownerFld_not_evtReg hp'),
    State.get_put_apart _ _ _ _ (ownerFld_ok out p) (ownerFld_ok o p') (ownerFld_apart hp hp' h), ← State.owner_eq_get]

/-- An owner field is refused: another tenant's circuit uses the port, and the field would change (R65). -/
def State.refusesOwner (s : State) (out : Bool) (p v : Nat) : Bool := decide (s.owner out p ≠ v) && s.othersUse out p v

theorem State.ownField_reads (s : State) (out : Bool) {p v : Nat} (hp : p < 1024) (hv : v < 64) :
    (s.ownField out p v).2 = !s.refusesOwner out p v ∧ s.SameUses (s.ownField out p v).1 ∧
    (s.ownField out p v).1.owner out p = (if s.refusesOwner out p v then s.owner out p else v) ∧
    ∀ o p', p' < 1024 → (o ≠ out ∨ p' ≠ p) → (s.ownField out p v).1.owner o p' = s.owner o p' := by
  rw [State.ownField_eq, State.refusesOwner]
  by_cases ho : s.owner out p = v
  · simp [ho, State.SameUses]
  · cases hu : s.othersUse out p v with
    | true => simp [ho, State.SameUses]
    | false =>
      rw [if_neg ho, if_neg (by simp)]
      simp only [Bool.and_false, Bool.not_false, Bool.false_eq_true, if_false]
      exact ⟨trivial, s.assignOwner_sameUses out p v, s.assignOwner_owner out hp hv, fun o p' hp' h => s.assignOwner_owner_other v hp hp' h⟩

/-! ## The four fields of a write -/

/-- The first `j` fields of an ownership write judged one after the other, with the fields refused. -/
def State.ownFields (s : State) (out : Bool) (n : Nat) (v : Word) (j : Nat) : State × List Nat :=
  (List.range j).foldl (fun (x : State × List Nat) k =>
    ((x.1.ownField out (4 * n + k) (bits v (k * 8 + 5) (k * 8))).1,
      if (x.1.ownField out (4 * n + k) (bits v (k * 8 + 5) (k * 8))).2 then x.2 else x.2 ++ [k])) (s, [])

theorem State.ownFields_succ (s : State) (out : Bool) (n : Nat) (v : Word) (j : Nat) : s.ownFields out n v (j + 1) =
    (((s.ownFields out n v j).1.ownField out (4 * n + j) (bits v (j * 8 + 5) (j * 8))).1,
      if ((s.ownFields out n v j).1.ownField out (4 * n + j) (bits v (j * 8 + 5) (j * 8))).2 then (s.ownFields out n v j).2
      else (s.ownFields out n v j).2 ++ [j]) := by
  rw [State.ownFields, List.range_succ, List.foldl_append]
  rfl

/-- A field of a write is refused. -/
def State.refusesField (s : State) (out : Bool) (n : Nat) (v : Word) (k : Nat) : Bool :=
  s.refusesOwner out (4 * n + k) (bits v (k * 8 + 5) (k * 8))

theorem bits_owner_lt (v : Word) (k : Nat) : bits v (k * 8 + 5) (k * 8) < 64 := by
  have h := bits_lt v (k * 8 + 5) (k * 8)
  have e : k * 8 + 5 + 1 - k * 8 = 6 := by omega
  rwa [e] at h

/-- Each field is judged on its own: what the state before the write says of it is what happens (R65). -/
theorem State.ownFields_reads (s : State) (out : Bool) {n : Nat} (hn : n < 256) (v : Word) (j : Nat) (hj : j ≤ 4) :
    (s.ownFields out n v j).2 = (List.range j).filter (s.refusesField out n v) ∧ s.SameUses (s.ownFields out n v j).1 ∧
    (∀ k, k < j → (s.ownFields out n v j).1.owner out (4 * n + k) =
      if s.refusesField out n v k then s.owner out (4 * n + k) else bits v (k * 8 + 5) (k * 8)) ∧
    ∀ o p, p < 1024 → (o ≠ out ∨ ∀ k, k < j → p ≠ 4 * n + k) → (s.ownFields out n v j).1.owner o p = s.owner o p := by
  induction j with
  | zero => exact ⟨rfl, rfl, fun k hk => absurd hk (Nat.not_lt_zero k), fun _ _ _ _ => rfl⟩
  | succ j ih =>
    obtain ⟨hbad, huse, hown, hrest⟩ := ih (by omega)
    set x := (s.ownFields out n v j).1
    have hp : 4 * n + j < 1024 := by omega
    obtain ⟨hok, huse', hself, hother⟩ := x.ownField_reads out hp (bits_owner_lt v j)
    have hjudge : x.refusesOwner out (4 * n + j) (bits v (j * 8 + 5) (j * 8)) = s.refusesField out n v j := by
      rw [State.refusesField, State.refusesOwner, State.refusesOwner, huse.othersUse, hrest out _ hp (.inr fun k hk => by omega)]
    rw [State.ownFields_succ, hok, hjudge, hbad]
    refine ⟨?_, huse.comp huse', fun k hk => ?_, fun o p hlt h => ?_⟩
    · cases hr : s.refusesField out n v j <;> simp [List.range_succ, List.filter_append, hr]
    · rcases Nat.lt_succ_iff_lt_or_eq.1 hk with hk | rfl
      · rw [← hown k hk]
        exact hother out _ (by omega) (.inr (by omega))
      · rw [hjudge, hrest out _ hp (.inr fun i hi => by omega)] at hself
        exact hself
    · have h1 : o ≠ out ∨ p ≠ 4 * n + j := h.imp id fun h => h j (Nat.lt_succ_self j)
      have h2 : o ≠ out ∨ ∀ k, k < j → p ≠ 4 * n + k := h.imp id fun h k hk => h k (by omega)
      exact (hother o p hlt h1).trans (hrest o p hlt h2)

/-! ## CMD_OWN_REFUSE (R65) -/

/-- The four refusal bits, by field. -/
theorem testBit_refusals (P : Nat → Bool) {low k : Nat} (hk : k < 4) (hl : low < 2 ^ 27) :
    ((((List.range 4).filter P).map fun j => 2 ^ (27 + j)).sum + low).testBit (27 + k) = P k := by
  have hsum : (((List.range 4).filter P).map fun j => 2 ^ (27 + j)).sum = 2 ^ 27 * (((List.range 4).filter P).map fun j => 2 ^ j).sum := by
    simp only [pow_add, List.sum_map_mul_left]
  have hsmall : (((List.range 4).filter P).map fun j => 2 ^ j).sum.testBit k = P k := by
    have hr : List.range 4 = [0, 1, 2, 3] := rfl
    simp only [hr, List.filter_cons, List.filter_nil]
    interval_cases k <;> cases P 0 <;> cases P 1 <;> cases P 2 <;> cases P 3 <;> rfl
  rw [hsum, Nat.testBit_two_pow_mul_add _ hl, if_neg (by omega), Nat.add_sub_cancel_left, hsmall]

/-- What `CMD_OWN_REFUSE` is given for the fields refused: a bit for each, and the first with its code. -/
def refuseWord (out : Bool) (n : Nat) (bad : List Nat) : Word := match bad with
  | [] => 0
  | k :: _ => BitVec.ofNat 32 ((bad.map fun j => 2 ^ (27 + j)).sum + b2n out * 2 ^ 26 + (4 * n + k) * 2 ^ 16 + Code.CIR_PORT_IN_USE)

theorem refuseWord_bit (out : Bool) {n : Nat} (hn : n < 256) (P : Nat → Bool) {k : Nat} (hk : k < 4) :
    (refuseWord out n ((List.range 4).filter P)).getLsbD (27 + k) = P k := by
  cases hb : (List.range 4).filter P with
  | nil =>
    have h : P k = false := by simpa using (List.filter_eq_nil_iff.1 hb) k (List.mem_range.2 hk)
    rw [h]
    exact BitVec.getLsbD_zero
  | cons i l =>
    have hi : i < 4 := List.mem_range.1 (List.mem_of_mem_filter (hb ▸ List.mem_cons_self (a := i) (l := l)))
    have hlow : b2n out * 2 ^ 26 + (4 * n + i) * 2 ^ 16 + Code.CIR_PORT_IN_USE < 2 ^ 27 := by
      have : b2n out ≤ 1 := by cases out <;> decide
      have : Code.CIR_PORT_IN_USE < 2 ^ 16 := by decide
      omega
    rw [refuseWord, BitVec.getLsbD_ofNat, ← hb, Nat.add_assoc, Nat.add_assoc, ← Nat.add_assoc (b2n out * 2 ^ 26), testBit_refusals P hk hlow,
      decide_eq_true (show 27 + k < 32 by omega), Bool.true_and]

/-- The fields refused stand in `CMD_OWN_REFUSE`, and the first of them raises its event. -/
def State.noteRefusals (s : State) (out : Bool) (n : Nat) (bad : List Nat) : State := match bad with
  | [] => s.wr R.CMD_OWN_REFUSE 0
  | k :: _ => (s.wr R.CMD_OWN_REFUSE (refuseWord out n bad)).evPort Ev.ownershipRefusal out (4 * n + k) 0 Code.CIR_PORT_IN_USE

theorem doOwnerWrite_eq (out : Bool) (n : Fin 256) (v : Word) (s : State) :
    doOwnerWrite out n v s = (s.ownFields out n v 4).1.noteRefusals out n (s.ownFields out n v 4).2 := by
  unfold doOwnerWrite
  split
  next x bad h =>
    have hx : s.ownFields out n v 4 = (x, bad) := h
    rw [hx]
    cases bad <;> rfl

theorem State.noteRefusals_touches (s : State) (out : Bool) (n : Nat) (bad : List Nat) :
    (s.wr R.CMD_OWN_REFUSE (refuseWord out n bad)).Touches (s.noteRefusals out n bad) Part.occ [] := by
  cases bad with
  | nil => exact .refl _ _ _
  | cons k l => exact .ofRecorded (State.evPort_recorded _ _ _ _ _ _ (by decide)) (by decide) (by decide)

theorem State.noteRefusals_rd (s : State) (out : Bool) (n : Nat) (bad : List Nat) :
    (s.noteRefusals out n bad).rd R.CMD_OWN_REFUSE = refuseWord out n bad := by
  obtain ⟨-, -, h⟩ := s.noteRefusals_touches out n bad
  rw [h _ (by simp) (by decide), State.rd_wr_self]

theorem State.noteRefusals_owner (s : State) (out : Bool) (n : Nat) (bad : List Nat) (o : Bool) {p : Nat} (hp : p < 1024) :
    (s.noteRefusals out n bad).owner o p = s.owner o p := by
  obtain ⟨-, ha⟩ := ownerFld_addr (out := o) hp
  rw [State.owner_eq_get, (s.noteRefusals_touches out n bad).get (by simp) (ownerFld_not_evtReg hp), State.get,
    State.rd_wr_other _ _ (by unfold R.CMD_OWN_REFUSE; omega)]
  rfl

theorem ownerWrite_leaves (s : State) (out : Bool) (n : Fin 256) (v : Word) (hs : s.Served) : Leaves (.ownerWrite out n v) s fun t =>
    let new (k : Nat) : Nat := bits v (k * 8 + 5) (k * 8)
    let inUse (k : Nat) : Prop := s.owner out (4 * n + k) ≠ new k ∧ ∃ e, e ∈ s.cir.ctxs ∧ e.2.state ≠ Cs.idle ∧ e.2.tenant ≠ new k ∧
      (if out = true then ctxOut e.1 = 4 * n + k else e.2.input = 4 * n + k)
    (∀ k, k < 4 → (inUse k → t.owner out (4 * n + k) = s.owner out (4 * n + k)) ∧ (¬ inUse k → t.owner out (4 * n + k) = new k)) ∧
    ((∀ k, k < 4 → ¬ inUse k) → t.rd R.CMD_OWN_REFUSE = 0) ∧
    (∀ k, k < 4 → ((t.rd R.CMD_OWN_REFUSE).getLsbD (27 + k) = true ↔ inUse k)) ∧
    (∀ m, m < 256 → m ≠ n.val → ∀ o : Bool, (∀ k, k < 4 → t.owner o (4 * m + k) = s.owner o (4 * m + k))) := by
  refine leaves_bar (doOwnerWrite out n v) rfl hs ?_
  intro new inUse
  obtain ⟨hbad, -, hown, hrest⟩ := s.ownFields_reads out n.isLt v 4 (Nat.le_refl 4)
  have judged (k : Nat) : s.refusesField out n v k = true ↔ inUse k := by
    simp only [State.refusesField, State.refusesOwner, Bool.and_eq_true, decide_eq_true_eq, State.othersUse_iff]
    exact Iff.rfl
  rw [doOwnerWrite_eq, hbad]
  set x := (s.ownFields out n v 4).1
  refine ⟨fun k hk => ?_, fun h => ?_, fun k hk => ?_, fun m hm hmn o k hk => ?_⟩
  · rw [x.noteRefusals_owner _ _ _ _ (by omega), hown k hk]
    exact ⟨fun h => if_pos ((judged k).2 h), fun h => if_neg fun hr => h ((judged k).1 hr)⟩
  · have hnone : (List.range 4).filter (s.refusesField out n v) = [] :=
      List.filter_eq_nil_iff.2 fun k hk hr => h k (List.mem_range.1 hk) ((judged k).1 hr)
    rw [x.noteRefusals_rd, hnone]
    rfl
  · rw [x.noteRefusals_rd, refuseWord_bit out n.isLt _ hk]
    exact judged k
  · rw [x.noteRefusals_owner _ _ _ _ (by omega)]
    exact hrest o _ (by omega) (.inr fun i hi => by omega)

/-- Settles O21: grants by their three operations, and an ownership write field by field. -/
theorem grantsAndOwnership : Obligations.GrantsAndOwnership :=
  ⟨⟨grantCreate_serves, grantRevoke_serves, grantLease_serves⟩, ownerWrite_leaves⟩

end Sys2Proof.Machine
end

section
/-!
PROOFS. The point of no return, G0 and the self-strobed tiles (R57, R157, R165, R172, R175), and O24.
-/
namespace Sys2Proof.Machine

/-! ## Transition records -/

theorem State.setTrans_touches (s : State) (tr : Trans) {ps : List Part} {rs : List Nat} (h : Part.fab ∈ ps) :
    s.Touches (s.setTrans tr) ps rs := by
  unfold State.setTrans
  split <;> exact .with_fab s _ h

theorem State.setTrans_new {s : State} {tr : Trans} (h : s.trans tr.slotClass tr.e = none) :
    s.setTrans tr = { s with fab.trans := s.fab.trans ++ [tr] } := by
  unfold State.setTrans
  rw [h]
  rfl

theorem State.mem_setTrans {s : State} {tr x : Trans} (h : x ∈ (s.setTrans tr).fab.trans) : x = tr ∨ x ∈ s.fab.trans := by
  unfold State.setTrans at h
  split at h
  · obtain ⟨y, hy, rfl⟩ := List.mem_map.1 h
    split
    · exact .inl rfl
    · exact .inr hy
  · simpa [or_comm] using h

/-! ## What is due at an epoch (R57) -/

/-- The circuits of a list judged in turn: those that pass are kept, the others end (R57). -/
def State.judged (s : State) (l : List Nat) : State × List Nat :=
  l.foldl (fun (x : State × List Nat) i =>
    if x.1.verified (x.1.ctx i).input (ctxOut i) (x.1.ctx i).newHops then (x.1, x.2 ++ [i]) else (x.1.verifyFails i, x.2)) (s, [])

theorem State.judged_ends (s : State) (l : List Nat) : s.Ends (s.judged l).1 := by
  refine List.foldlRecOn l _ (motive := fun x : State × List Nat => s.Ends x.1) (.refl s) fun x hx i _ => ?_
  split
  · exact hx
  · exact hx.comp (x.1.verifyFails_ends i)

/-- The circuits due at an epoch that pass. -/
def State.armed (s : State) (cls : Bool) (e : Nat) : State × List Nat :=
  if s.bivouac then (s, []) else s.judged (s.committers cls e ((s.slotEpoch e).getD 0))

theorem State.armed_ends (s : State) (cls : Bool) (e : Nat) : s.Ends (s.armed cls e).1 := by
  unfold State.armed
  split
  · exact .refl s
  · exact s.judged_ends _

/-- With no traverse under way only circuits are due: a transition starts for those that pass, or for ports that go dark. -/
theorem State.verifyEpoch_noTraverse {s : State} (hj : s.trv.journal = []) (cls : Bool) (e : Nat) : s.verifyEpoch cls e =
    if cls || !(s.armed cls e).2.isEmpty || (!cls && (s.armed cls e).1.cir.leaves.any fun l => decide (l.e ≤ e)) then
      (s.armed cls e).1.setTrans { s.newTrans cls e with lights := (s.armed cls e).2 }
    else (s.armed cls e).1 := by
  have hj' : (s.armed cls e).1.trv.journal = [] := (s.armed_ends cls e).journal hj
  have hd : (s.armed cls e).1.stageDue cls e = none := by rw [State.stageDue, hj']
  have ha : (if s.bivouac = true then (s, []) else
      (s.committers cls e ((s.slotEpoch e).getD 0)).foldl (fun (x : State × List Nat) i => match x with
        | (s, l) => if s.verified (s.ctx i).input (ctxOut i) (s.ctx i).newHops = true then (s, l ++ [i]) else (s.verifyFails i, l)) (s, [])) =
      s.armed cls e := rfl
  unfold State.verifyEpoch
  dsimp only
  rw [ha]
  simp only [hd, ite_self, hj', List.append_nil, Option.isSome_none, Bool.or_false]
  rfl

theorem State.verifyEpoch_cases {s : State} (hj : s.trv.journal = []) (cls : Bool) (e : Nat) :
    s.verifyEpoch cls e = (s.armed cls e).1 ∨
    s.verifyEpoch cls e = (s.armed cls e).1.setTrans { s.newTrans cls e with lights := (s.armed cls e).2 } := by
  rw [State.verifyEpoch_noTraverse hj]
  split
  · exact .inr rfl
  · exact .inl rfl

theorem State.verifyEpoch_keeps {s : State} (hj : s.trv.journal = []) (cls : Bool) (e : Nat) :
    s.Touches (s.verifyEpoch cls e) [.fab, .cir, .sch, .trv, .cmd, .frames, .recorder] (R.CMD_CNT 5 :: pulseRegs) ∧
    (s.verifyEpoch cls e).sch.swap = s.sch.swap := by
  have hends := s.armed_ends cls e
  rcases State.verifyEpoch_cases hj cls e with h | h <;> rw [h]
  · exact ⟨hends.touches, hends.swap⟩
  · have hset := (s.armed cls e).1.setTrans_touches (ps := [.fab]) (rs := []) { s.newTrans cls e with lights := (s.armed cls e).2 } (.head _)
    have hsch : _ = (s.armed cls e).1.sch := hset.same .sch (by decide)
    exact ⟨hends.touches.trans (hset.mono (by decide) (by simp)), (congrArg SchSt.swap hsch).trans hends.swap⟩

/-! ## The point of no return -/

theorem doPointOfNoReturn_eq {s : State} {cls : Bool} {e : Nat} (hr : s.ready = true) (hh : s.hubIn = true) (hv : s.svc.holdover = [])
    (hen : s.flag R.EPO_CTL_ENABLE = true) (he : s.epochAt cls e = true) (ht : s.trans cls e = none) : doPointOfNoReturn cls e s =
    match s.sch.swap with
    | none => (s.advanceTo (e - 5_000)).verifyEpoch cls e
    | some w => if cls && w.esw == e then (s.advanceTo (e - 5_000)).verifySwap w else (s.advanceTo (e - 5_000)).verifyEpoch cls e := by
  unfold doPointOfNoReturn
  rw [if_pos (by simp [hr, hh, hv, hen, he, ht])]
  rfl

/-- What stands of a circuit that has failed its verification. -/
def State.FailedVerification (s t : State) (i : Nat) : Prop :=
  t.t = s.t ∧ (t.ctx i).state = Cs.failed ∧ (t.ctx i).reason = Code.CIR_VERIFY_FAIL ∧ (t.ctx i).placed = none ∧
  (∀ tr, tr ∈ t.fab.trans → i ∈ tr.lights → tr ∈ s.fab.trans) ∧
  ∀ r, (s.ctx i).req = some r → s.sessionLive r = true → t.Completed r Code.CIR_VERIFY_FAIL

theorem State.verifyFails_fails (s : State) (i : Nat) : s.FailedVerification (s.verifyFails i) i := by
  have hends := s.verifyFails_ends i
  obtain ⟨hst, hre, hpl⟩ := s.verifyFails_reads i
  exact ⟨hends.time, hst, hre, hpl, fun tr htr _ => hends.trans ▸ htr, fun r hq hs => State.verifyFails_completed hq hs⟩

/-- A transition that names no circuit changes nothing of that. -/
theorem State.FailedVerification.setTrans {s t : State} {i : Nat} (h : s.FailedVerification t i) {tr : Trans} (htr : tr.lights = []) :
    s.FailedVerification (t.setTrans tr) i := by
  obtain ⟨htime, hst, hre, hpl, hold, hcomp⟩ := h
  obtain ⟨-, -, ht⟩ := t.setTrans_keeps tr
  have hcmd : (t.setTrans tr).cmd = t.cmd := by
    unfold State.setTrans
    split <;> rfl
  refine ⟨ht.trans htime, by rw [State.setTrans_ctx, hst], by rw [State.setTrans_ctx, hre], by rw [State.setTrans_ctx, hpl],
    fun x hx hi => ?_, fun r hq hs => (hcomp r hq hs).kept (.ofEq (by rw [hcmd]))⟩
  rcases State.mem_setTrans hx with rfl | hx
  · simp [htr] at hi
  · exact hold x hx hi

theorem circuitVerification_leaves (s : State) (cls : Bool) (e i : Nat) (hl : s.Live) (hr : s.ready = true) (hh : s.hubIn = true)
    (hv : s.svc.holdover = []) (hen : s.flag R.EPO_CTL_ENABLE = true) (he : s.epochAt cls e = true) (ht : s.trans cls e = none)
    (hb : s.bivouac = false) (hj : s.trv.journal = []) (hw : s.sch.swap = none) :
    let u := s.advanceTo (e - 5_000)
    let c := s.ctx i
    u.committers cls e ((u.slotEpoch e).getD 0) = [i] →
    Leaves (.pointOfNoReturn cls e) s fun t =>
      (u.verified c.input (ctxOut i) c.newHops = true → t = { u with fab.trans := s.fab.trans ++ [{ u.newTrans cls e with lights := [i] }] }) ∧
      (u.verified c.input (ctxOut i) c.newHops = false →
        t.t = u.t ∧ (t.ctx i).state = Cs.failed ∧ (t.ctx i).reason = Code.CIR_VERIFY_FAIL ∧ (t.ctx i).placed = none ∧
        (∀ tr, tr ∈ t.fab.trans → i ∈ tr.lights → tr ∈ s.fab.trans) ∧
        ∀ r, c.req = some r → s.sessionLive r = true →
          ∃ m, m ∈ t.cmd.outQ ∧ m.kind = .completion ∧ m.final = true ∧ m.reqId = r.reqId ∧ m.code = Code.CIR_VERIFY_FAIL) := by
  intro u c hc
  have hstep : doPointOfNoReturn cls e s = u.verifyEpoch cls e := by rw [doPointOfNoReturn_eq hr hh hv hen he ht, hw]
  have harmed : u.armed cls e = if u.verified c.input (ctxOut i) c.newHops then (u, [i]) else (u.verifyFails i, []) := by
    have hb' : u.bivouac = false := hb
    rw [State.armed, hb', hc]
    rfl
  have huj : u.trv.journal = [] := hj
  refine leaves_live (doPointOfNoReturn cls e) rfl hl ?_
  rw [hstep]
  refine ⟨fun hok => ?_, fun hno => ?_⟩
  · rw [if_pos hok] at harmed
    rw [State.verifyEpoch_noTraverse huj, harmed, if_pos (by simp)]
    exact State.setTrans_new (s := u) ht
  · rw [if_neg (by simp [hno])] at harmed
    have hfail : u.FailedVerification (u.verifyEpoch cls e) i := by
      rcases State.verifyEpoch_cases huj cls e with h | h <;> rw [h, harmed]
      · exact u.verifyFails_fails i
      · exact (u.verifyFails_fails i).setTrans rfl
    exact hfail

/-! ## A swap at its point of no return (R157, R159) -/

/-- An armed swap is taken off, with its REASON. -/
def State.dropSwap (s : State) (code : Nat) : State := ({ s with sch.swap := none }.put R.SCHD_SWAP_ARMED 0).put R.SCHD_SWAP_REASON code

/-- The latches opened for a swap that has ended are closed, and its requester is told. -/
def State.tellSwapEnd (s : State) (w : Swap) (code : Nat) (event : Bool) : State :=
  let x := s.close (w.opened.filter fun k => !s.portNeeded 262_144 k)
  (if event then x.ev Ev.swapCancelled code else x).complete w.req true code []

theorem State.swapEnds_eq {s : State} {w : Swap} (hw : s.sch.swap = some w) (code : Nat) (event : Bool) :
    s.swapEnds code event = (s.dropSwap code).tellSwapEnd w code event := by
  unfold State.swapEnds
  rw [hw]
  rfl

theorem State.complete_ends (s : State) (r : Requester) (final : Bool) (code : Nat) (params : List Byte) :
    s.Ends (s.complete r final code params) := s.completeOpt_ends (some r) final code params

theorem State.tellSwapEnd_ends (s : State) (w : Swap) (code : Nat) (event : Bool) : s.Ends (s.tellSwapEnd w code event) := by
  have hx := s.close_ends (w.opened.filter fun k => !s.portNeeded 262_144 k)
  unfold State.tellSwapEnd
  cases event
  · exact hx.comp (State.complete_ends _ _ _ _ _)
  · exact (hx.comp (State.raise_ends _ _ (show Ev.swapCancelled < 1536 by decide))).comp (State.complete_ends _ _ _ _ _)

/-- The swap registers are none of those that the end of a circuit can write. -/
theorem schdSwap_kept {s t : State} {ps : List Part} (h : s.Touches t ps (R.CMD_CNT 5 :: pulseRegs)) {f : Fld} (hf : f.addr = R.SCHD_SWAP) :
    t.get f = s.get f := by
  have hp : R.SCHD_SWAP ∉ pulseRegs := pulseRegs_not_mem (.inl (by decide))
  have hc : R.SCHD_SWAP ≠ R.CMD_CNT 5 := by decide
  exact h.get (by rw [hf]; simp [hp, hc]) (by rw [hf]; decide)

theorem State.dropSwap_reads (s : State) (code : Nat) : (s.dropSwap code).flag R.SCHD_SWAP_ARMED = false ∧
    (s.dropSwap code).get R.SCHD_SWAP_REASON = code % 2 ^ 16 := by
  unfold State.dropSwap
  rw [State.flag_put_apart _ _ _ _ (by decide) (by decide) (by decide), State.get_put_self _ _ _ (by decide)]
  exact ⟨State.flag_put_zero _ _ (by decide) rfl, rfl⟩

/-- A swap that is cancelled at its point of no return, with the code (R157). -/
def State.SwapCancelled (s t : State) (code : Nat) : Prop :=
  t.t = s.t ∧ t.sch.swap = none ∧ t.flag R.SCHD_SWAP_ARMED = false ∧ t.get R.SCHD_SWAP_REASON = code % 2 ^ 16

theorem State.SwapCancelled.kept {s x t : State} {code : Nat} (h : s.SwapCancelled x code) {ps : List Part}
    (g : x.Touches t ps (R.CMD_CNT 5 :: pulseRegs)) (hp : Part.time ∉ ps) (hs : t.sch.swap = x.sch.swap) : s.SwapCancelled t code := by
  obtain ⟨htime, hswap, harmed, hreason⟩ := h
  have ht : t.t = x.t := g.same .time hp
  refine ⟨ht.trans htime, hs.trans hswap, ?_, (schdSwap_kept g rfl).trans hreason⟩
  rw [State.flag, schdSwap_kept g rfl]
  exact harmed

theorem State.swapEnds_cancelled {s : State} {w : Swap} (hw : s.sch.swap = some w) (code : Nat) (event : Bool) :
    s.SwapCancelled (s.swapEnds code event) code := by
  obtain ⟨ha, hr⟩ := s.dropSwap_reads code
  have hends := (s.dropSwap code).tellSwapEnd_ends w code event
  rw [State.swapEnds_eq hw]
  exact State.SwapCancelled.kept (x := s.dropSwap code) ⟨rfl, rfl, ha, hr⟩ hends.touches (by decide) hends.swap

/-- A circuit of slot 0 of the target that can commit with the swap (R159). -/
def State.swapLights (s : State) (c : SchCir) : Bool :=
  c.slot == 0 && c.state == 0 && (match c.route with
    | none => false
    | some r => s.verified c.rec_.input c.rec_.output (path c.rec_.input r))

theorem State.swapLights_iff (s : State) (c : SchCir) : s.swapLights c = true ↔
    c.slot = 0 ∧ c.state = 0 ∧ ∃ r, c.route = some r ∧ s.verified c.rec_.input c.rec_.output (path c.rec_.input r) = true := by
  unfold State.swapLights
  cases c.route <;> simp [and_assoc]

/-- The transition of a swap past its point of no return (R157, R159). -/
def State.swapTrans (s : State) (w : Swap) : Trans :=
  { s.newTrans true w.esw with
    lights := match w.target with
      | none => []
      | some n => ((s.entry n).circuits.filter s.swapLights).map fun c => c.rec_.output * 256 + c.slot
    swap := true }

theorem State.mem_swapTrans {s : State} {w : Swap} {i : Nat} (h : i ∈ (s.swapTrans w).lights) :
    ∃ n x r, w.target = some n ∧ x ∈ (s.entry n).circuits ∧ i = x.rec_.output * 256 + x.slot ∧ x.slot = 0 ∧ x.route = some r ∧
      s.verified x.rec_.input x.rec_.output (path x.rec_.input r) = true := by
  unfold State.swapTrans at h
  cases hn : w.target with
  | none => simp [hn] at h
  | some n =>
    simp only [hn, List.mem_map, List.mem_filter] at h
    obtain ⟨x, ⟨hx, hlit⟩, rfl⟩ := h
    obtain ⟨h0, -, r, hr, hv⟩ := (s.swapLights_iff x).1 hlit
    exact ⟨n, x, r, rfl, hx, rfl, h0, hr, hv⟩

theorem State.verifySwap_passes {s : State} {w : Swap} (h : s.swapCheck w = none) :
    s.verifySwap w = { s with sch.swap := some { w with past := true } }.setTrans (s.swapTrans w) := by
  unfold State.verifySwap
  rw [h]
  rfl

theorem State.verifySwap_fails {s : State} {w : Swap} {code : Nat} (h : s.swapCheck w = some code) : s.verifySwap w =
    if ((s.swapEnds code true).slotEpoch w.esw).isSome then (s.swapEnds code true).verifyEpoch true w.esw else s.swapEnds code true := by
  unfold State.verifySwap
  rw [h]

theorem swapVerification_leaves (s : State) (w : Swap) (hl : s.Live) (hr : s.ready = true) (hh : s.hubIn = true) (hv : s.svc.holdover = [])
    (hen : s.flag R.EPO_CTL_ENABLE = true) (hw : s.sch.swap = some w) (ht : s.trans true w.esw = none) (hj : s.trv.journal = []) :
    let u := s.advanceTo (w.esw - 5_000)
    Leaves (.pointOfNoReturn true w.esw) s fun t =>
      t.t = u.t ∧
      (u.swapCheck w = none → t.sch.swap = some { w with past := true } ∧ t.cir = s.cir ∧
        ∃ tr, t.trans true w.esw = some tr ∧ tr.swap = true ∧ tr.phase = 0 ∧ tr.stage = none ∧
          ∀ i, i ∈ tr.lights → ∃ n x r, w.target = some n ∧ x ∈ (s.entry n).circuits ∧ i = x.rec_.output * 256 + x.slot ∧ x.slot = 0 ∧
            x.route = some r ∧ u.verified x.rec_.input x.rec_.output (path x.rec_.input r) = true) ∧
      (∀ code, u.swapCheck w = some code → t.sch.swap = none ∧ t.flag R.SCHD_SWAP_ARMED = false ∧
        t.get R.SCHD_SWAP_REASON = code % 2 ^ 16) := by
  intro u
  have he : s.epochAt true w.esw = true := by simp [State.epochAt, hw]
  have hstep : doPointOfNoReturn true w.esw s = u.verifySwap w := by
    rw [doPointOfNoReturn_eq hr hh hv hen he ht, hw]
    exact if_pos (by simp)
  refine leaves_live (doPointOfNoReturn true w.esw) rfl hl ?_
  rw [hstep]
  cases hc : u.swapCheck w with
  | none =>
    rw [State.verifySwap_passes hc]
    set x : State := { u with sch.swap := some { w with past := true } } with hx
    have hsch : (x.setTrans (u.swapTrans w)).sch = x.sch := (x.setTrans_touches (ps := [.fab]) (rs := []) _ (.head _)).same .sch (by decide)
    obtain ⟨hcir, -, htime⟩ := x.setTrans_keeps (u.swapTrans w)
    refine ⟨htime, fun _ => ⟨by rw [hsch], hcir, u.swapTrans w, x.trans_setTrans ⟨rfl, rfl⟩, rfl, rfl, rfl, fun i hi => ?_⟩,
      fun code h => absurd h (by simp)⟩
    exact State.mem_swapTrans hi
  | some code =>
    have huw : u.sch.swap = some w := hw
    have hcan := State.swapEnds_cancelled huw code true
    have hj' : (u.swapEnds code true).trv.journal = [] := by
      rw [State.swapEnds_eq huw]
      exact ((u.dropSwap code).tellSwapEnd_ends w code true).journal hj
    have hall : u.SwapCancelled (u.verifySwap w) code := by
      rw [State.verifySwap_fails hc]
      split
      · obtain ⟨htouch, hswap⟩ := State.verifyEpoch_keeps hj' true w.esw
        exact hcan.kept htouch (by decide) hswap
      · exact hcan
    obtain ⟨htime, hrest⟩ := hall
    refine ⟨htime, fun h => absurd h (by simp), fun code' h => ?_⟩
    obtain rfl : code = code' := by simpa using h
    exact hrest

/-! ## G0: the affected ports are blanked (R172, R175, R206) -/

/-- A list of ports blanked. -/
def State.blank (s : State) (l : List Nat) : State := l.foldl (fun s k => s.setEpo k true) s

theorem State.blank_touches (s : State) (l : List Nat) : s.Touches (s.blank l) [.fab] [] :=
  .foldl (fun t k _ => .setPort t k _ (.head _)) s

theorem State.blank_steady (s : State) (l : List Nat) : s.Steady (s.blank l) := .foldl (fun t k => t.setPort_steady k _) l s

theorem State.blank_port_other (s : State) {l : List Nat} {k : Nat} (h : k ∉ l) : (s.blank l).port k = s.port k :=
  State.foldl_port_other (key := id) (fun t _ hj => t.port_setPort_other _ hj) (fun j ha (hk : k = j) => h (by rwa [hk])) s

theorem State.blank_epo (s : State) (l : List Nat) {k : Nat} (h : k ∈ l ∨ (s.port k).epo = true) : ((s.blank l).port k).epo = true := by
  induction l generalizing s with
  | nil => simpa [State.blank] using h
  | cons j l ih =>
    refine ih (s.setEpo j true) ?_
    by_cases hk : k = j
    · subst hk
      exact .inr (by rw [State.setEpo, State.port_setPort_self])
    · rw [State.setEpo, State.port_setPort_other _ _ hk]
      exact h.imp (fun h => (List.mem_cons.1 h).resolve_left hk) id

/-- The touched elements change from an epoch (R173). -/
def State.markSince (s : State) (loads : Tbl Bool) (e : Nat) : State :=
  loads.foldl (fun s l => (cellElems l.1).foldl (fun s x => s.setElem x { s.elem x with since := e }) s) s

theorem State.markSince_touches (s : State) (loads : Tbl Bool) (e : Nat) : s.Touches (s.markSince loads e) [.fab] [] :=
  .foldl (fun t _ _ => .foldl (fun v _ _ => .with_fab v _ (.head _)) t) s

theorem State.markSince_steady (s : State) (loads : Tbl Bool) (e : Nat) : s.Steady (s.markSince loads e) :=
  .foldl (fun t (l : Nat × Bool) => .foldl (fun v x => v.setElem_steady x _) (cellElems l.1) t) loads s

theorem State.markSince_ports (s : State) (loads : Tbl Bool) (e : Nat) : (s.markSince loads e).fab.ports = s.fab.ports := by
  refine List.foldlRecOn loads _ (motive := fun t : State => t.fab.ports = s.fab.ports) rfl fun t ht (l : Nat × Bool) _ => ?_
  exact List.foldlRecOn (cellElems l.1) _ (motive := fun v : State => v.fab.ports = s.fab.ports) ht fun _ hv _ _ => hv

/-- The circuits of a stage enter MOVING, on the routes they move to (R206). -/
def State.setMoving (s : State) (t : Trav) (l : List Move) : State :=
  l.foldl (fun s m => s.setCtx m.ctx { s.ctx m.ctx with state := Cs.moving, placed := some (t.to m) }) s

theorem State.setMoving_touches (s : State) (t : Trav) (l : List Move) : s.Touches (s.setMoving t l) [.cir] [] :=
  .foldl (fun v _ _ => .with_cir v _ (.head _)) s

theorem State.setMoving_moving (s : State) (t : Trav) (l : List Move) {i : Nat} (h : (∃ m, m ∈ l ∧ m.ctx = i) ∨ (s.ctx i).state = Cs.moving) :
    ((s.setMoving t l).ctx i).state = Cs.moving := by
  induction l generalizing s with
  | nil => simpa [State.setMoving] using h
  | cons a l ih =>
    refine ih (s.setCtx a.ctx _) ?_
    by_cases hi : i = a.ctx
    · subst hi
      exact .inr (by rw [State.ctx_setCtx_self])
    · rw [State.ctx_setCtx_other _ _ hi]
      refine h.imp (fun ⟨m, hm, hc⟩ => ⟨m, (List.mem_cons.1 hm).resolve_left fun e => hi (by rw [← hc, e]), hc⟩) id

/-- The moved circuits of the stage that a transition carries. -/
def State.beginStage (s : State) (tr : Trans) : State := match tr.stage, s.trv.journal with
  | some k, t :: _ => s.setMoving t (t.stage k).moved
  | _, _ => s

theorem State.beginStage_touches (s : State) (tr : Trans) : s.Touches (s.beginStage tr) [.cir] [] := by
  unfold State.beginStage
  split
  · exact s.setMoving_touches _ _
  · exact .refl s _ _

/-- A strobe that `EPO_OUT_CFG` selects shows on EPOCH_OUT (R168). -/
def State.markOut (s : State) (tr : Trans) (at_ : Nat) : State :=
  if s.flag R.EPO_OUT_CFG_MARK && s.marks tr then s.epochPulse at_ else s

theorem State.markOut_touches (s : State) (tr : Trans) (at_ : Nat) : s.Touches (s.markOut tr at_) [.fab] [] := by
  unfold State.markOut
  split
  · exact .with_fab s _ (.head _)
  · exact .refl s _ _

theorem State.markOut_ports (s : State) (tr : Trans) (at_ : Nat) : (s.markOut tr at_).fab.ports = s.fab.ports := by
  unfold State.markOut
  split <;> rfl

theorem State.setTrans_ports (s : State) (tr : Trans) : (s.setTrans tr).fab.ports = s.fab.ports := by
  unfold State.setTrans
  split <;> rfl

/-- What G0 does before it records the phase. -/
def State.beginTrans (s : State) (tr : Trans) : State :=
  (((s.blank (s.affected tr)).markSince (s.changes tr) tr.e).beginStage tr).markOut tr (tr.e - tr.gb)

theorem State.beginTrans_touches (s : State) (tr : Trans) : s.Touches (s.beginTrans tr) [.fab, .cir] [] := by
  have h1 := (s.blank_touches (s.affected tr)).trans (State.markSince_touches _ (s.changes tr) tr.e)
  have h2 := State.beginStage_touches ((s.blank (s.affected tr)).markSince (s.changes tr) tr.e) tr
  exact ((h1.mono (by decide) (by simp)).trans (h2.mono (by decide) (by simp))).trans ((State.markOut_touches _ _ _).mono (by decide) (by simp))

theorem State.beginTrans_ports (s : State) (tr : Trans) : (s.beginTrans tr).fab.ports = (s.blank (s.affected tr)).fab.ports := by
  have hfab : (((s.blank (s.affected tr)).markSince (s.changes tr) tr.e).beginStage tr).fab = _ :=
    (State.beginStage_touches _ tr).same .fab (by decide)
  rw [State.beginTrans, State.markOut_ports, hfab, State.markSince_ports]

/-- G0 blanks the affected ports and no other (R172). -/
theorem State.beginTrans_port (s : State) (tr : Trans) (k : Nat) :
    (k ∈ s.affected tr → ((s.beginTrans tr).port k).epo = true) ∧ (k ∉ s.affected tr → (s.beginTrans tr).port k = s.port k) := by
  have h : (s.beginTrans tr).port k = (s.blank (s.affected tr)).port k := by rw [State.port, State.port, s.beginTrans_ports]
  rw [h]
  exact ⟨fun hk => s.blank_epo _ (.inl hk), fun hk => s.blank_port_other hk⟩

/-- The circuits stand as the stage's beginning leaves them. -/
theorem State.beginTrans_begun (s : State) (tr : Trans) : ∃ x : State, s.Steady x ∧ (s.beginTrans tr).cir = (x.beginStage tr).cir :=
  ⟨_, (s.blank_steady (s.affected tr)).comp (State.markSince_steady _ (s.changes tr) tr.e),
    (State.markOut_touches _ tr (tr.e - tr.gb)).same .cir (by decide)⟩

theorem State.beginTrans_noStage (s : State) {tr : Trans} (h : tr.stage = none) : (s.beginTrans tr).cir = s.cir := by
  obtain ⟨x, hx, hcir⟩ := s.beginTrans_begun tr
  rw [hcir, State.beginStage, h]
  exact hx.cir

theorem State.beginTrans_moving {s : State} {tr : Trans} {k : Nat} {h : Trav} {l : List Trav} (hk : tr.stage = some k)
    (hj : s.trv.journal = h :: l) {m : Move} (hm : m ∈ (h.stage k).moved) : ((s.beginTrans tr).ctx m.ctx).state = Cs.moving := by
  obtain ⟨x, hx, hcir⟩ := s.beginTrans_begun tr
  have hj' : x.trv.journal = h :: l := by rw [hx.trv, hj]
  rw [State.ctx, hcir, State.beginStage, hk, hj', ← State.ctx]
  exact x.setMoving_moving h _ (.inl ⟨m, hm, rfl⟩)

theorem doBlankStrobe_eq {s : State} {cls : Bool} {e : Nat} {hub : Bool} {tr : Trans} (hl : s.Live) (hen : s.flag R.EPO_CTL_ENABLE = true)
    (ht : s.trans cls e = some tr) (hp : tr.phase = 0) (hh : hub = true → s.hubIn = true) :
    let u := s.advanceTo (e - tr.gb)
    doBlankStrobe cls e hub s = (u.beginTrans tr).setTrans { tr with phase := 1, ports := u.affected tr, loads := u.changes tr } := by
  intro u
  obtain ⟨-, rfl⟩ := State.trans_key ht
  have hgo : (!s.svc.por || !s.flag R.EPO_CTL_ENABLE || hub && !s.hubIn) = false := by
    cases hub
    · simp [hl.1, hen]
    · simp [hl.1, hen, hh rfl]
  unfold doBlankStrobe
  rw [ht]
  dsimp only
  rw [if_pos hp]
  dsimp only
  rw [if_neg (by simp [hgo])]
  rfl

theorem blankStrobe_leaves (s : State) (cls hub : Bool) (e : Nat) (tr : Trans) (hl : s.Live) (hen : s.flag R.EPO_CTL_ENABLE = true)
    (ht : s.trans cls e = some tr) (hp : tr.phase = 0) (hh : hub = true → s.hubIn = true) : Leaves (.blankStrobe cls e hub) s fun t =>
      let u := s.advanceTo (e - tr.gb)
      t.t = u.t ∧ (∀ k, k ∈ u.affected tr → (t.port k).epo = true) ∧ (∀ k, k ∉ u.affected tr → t.port k = s.port k) ∧
      t.trans cls e = some { tr with phase := 1, ports := u.affected tr, loads := u.changes tr } ∧
      (tr.stage = none → t.cir = s.cir) ∧
      (∀ k h l, tr.stage = some k → s.trv.journal = h :: l → ∀ m, m ∈ (h.stage k).moved → (t.ctx m.ctx).state = Cs.moving) ∧
      s.Touches t [.time, .fab, .cir] [] := by
  have hkey := State.trans_key ht
  refine leaves_live (doBlankStrobe cls e hub) rfl hl ?_
  rw [doBlankStrobe_eq hl hen ht hp hh]
  intro u
  set tr' : Trans := { tr with phase := 1, ports := u.affected tr, loads := u.changes tr } with htr
  set x := u.beginTrans tr with hx
  have hbegin : u.Touches x [.fab, .cir] [] := u.beginTrans_touches tr
  obtain ⟨hcir, -, htime⟩ := x.setTrans_keeps tr'
  have hport (k : Nat) : (x.setTrans tr').port k = x.port k := by rw [State.port, State.port, State.setTrans_ports]
  refine ⟨htime.trans (hbegin.same .time (by decide)), fun k hk => ?_, fun k hk => ?_, x.trans_setTrans (tr := tr') hkey, fun h => ?_,
    fun k h l hk hj m hm => ?_, ?_⟩
  · rw [hport]
    exact (u.beginTrans_port tr k).1 hk
  · rw [hport]
    exact (u.beginTrans_port tr k).2 hk
  · rw [hcir]
    exact u.beginTrans_noStage h
  · rw [State.setTrans_ctx]
    exact State.beginTrans_moving (s := u) hk hj hm
  · exact ((State.Touches.advanceTo s _ (.head _)).trans (hbegin.mono (by decide) (by simp))).trans (x.setTrans_touches tr' (by decide))

/-! ## Self-strobed tiles (R165) -/

/-- The first tile of a transition that runs self-strobed is counted. -/
def State.countSelf (s : State) (tr : Trans) : State := if tr.selfs.isEmpty then s.count (whole (R.EPO_CNT 3)) else s

/-- A tile is listed as self-strobed, once. -/
def State.listSelf (s : State) (n : Nat) : State :=
  if s.fab.selfRun.contains n then s else { s with fab.selfRun := s.fab.selfRun ++ [n] }.ev Ev.selfStrobe

/-- A slot epoch that ran self-strobed is noted. -/
def State.noteSelfs (s : State) (cls : Bool) : State := if cls then { s with sch.selfs := true } else s

theorem State.listSelf_touches (s : State) (n : Nat) : s.Touches (s.listSelf n) [.fab, .recorder, .frames] [] := by
  unfold State.listSelf
  split
  · exact .refl s _ _
  · exact (State.Touches.with_fab s _ (.head _)).trans (.ev _ _ _ (by decide) (by decide) (by decide))

theorem State.listSelf_mem (s : State) (n : Nat) : n ∈ (s.listSelf n).fab.selfRun := by
  unfold State.listSelf
  split
  · rename_i h
    simpa using h
  · rw [State.ev_fab _ _ _ (by decide)]
    exact List.mem_append_right _ (List.mem_singleton.2 rfl)

theorem State.countSelf_touches (s : State) (tr : Trans) : s.Touches (s.countSelf tr) [] [R.EPO_CNT 3] := by
  unfold State.countSelf
  split
  · exact .count s _ (.head _)
  · exact .refl s _ _

theorem State.countSelf_get (s : State) (tr : Trans) : (s.countSelf tr).get (whole (R.EPO_CNT 3)) =
    if tr.selfs = [] then satInc 32 (s.get (whole (R.EPO_CNT 3))) else s.get (whole (R.EPO_CNT 3)) := by
  unfold State.countSelf
  cases tr.selfs with
  | nil => exact State.get_count_self s _ (whole_ok _)
  | cons a l => rfl

theorem State.noteSelfs_touches (s : State) (cls : Bool) : s.Touches (s.noteSelfs cls) [.sch] [] := by
  cases cls
  · exact .refl s _ _
  · exact .with_sch s _ (.head _)

theorem State.noteSelfs_selfs (s : State) (cls : Bool) : (s.noteSelfs cls).sch.selfs = (cls || s.sch.selfs) := by
  cases cls <;> rfl

theorem State.setTrans_selfRun (s : State) (tr : Trans) : (s.setTrans tr).fab.selfRun = s.fab.selfRun := by
  unfold State.setTrans
  split <;> rfl

theorem doSelfStrobeDetect_eq {s : State} {cls : Bool} {e : Nat} {n : Fin 20} {tr : Trans} (ht : s.trans cls e = some tr)
    (hp : tr.phase ≠ 0) (hn : n.val ∉ tr.selfs) : doSelfStrobeDetect cls e n s =
      ((((s.advanceTo (e - tr.gb + 4)).countSelf tr).listSelf n).noteSelfs cls).setTrans { tr with selfs := tr.selfs ++ [n.val] } := by
  unfold doSelfStrobeDetect
  rw [ht]
  exact if_neg (by simp [hp, hn])

theorem selfStrobeDetect_leaves (s : State) (cls : Bool) (e : Nat) (n : Fin 20) (tr : Trans) (hl : s.Live) (ht : s.trans cls e = some tr)
    (hp : tr.phase ≠ 0) (hn : n.val ∉ tr.selfs) : Leaves (.selfStrobeDetect cls e n) s fun t =>
      let cnt := whole (R.EPO_CNT 3)
      t.t = max s.t ((e - tr.gb + 4) * 2 ^ 32) ∧ t.trans cls e = some { tr with selfs := tr.selfs ++ [n.val] } ∧ n.val ∈ t.fab.selfRun ∧
      t.get cnt = (if tr.selfs = [] then satInc 32 (s.get cnt) else s.get cnt) ∧ t.sch.selfs = (cls || s.sch.selfs) ∧
      s.Touches t [.time, .fab, .sch, .recorder, .frames] [R.EPO_CNT 3] := by
  have hkey := State.trans_key ht
  refine leaves_live (doSelfStrobeDetect cls e n) rfl hl ?_
  rw [doSelfStrobeDetect_eq ht hp hn]
  intro cnt
  set u := s.advanceTo (e - tr.gb + 4)
  set a := u.countSelf tr with ha
  set b := a.listSelf n with hb
  set c := b.noteSelfs cls with hc
  set tr' : Trans := { tr with selfs := tr.selfs ++ [n.val] } with htr
  have hua : u.Touches a [] [R.EPO_CNT 3] := u.countSelf_touches tr
  have hab : a.Touches b [.fab, .recorder, .frames] [] := a.listSelf_touches n
  have hbc : b.Touches c [.sch] [] := b.noteSelfs_touches cls
  have hset : c.Touches (c.setTrans tr') [.fab] [] := c.setTrans_touches tr' (.head _)
  have htouch : u.Touches (c.setTrans tr') [.fab, .sch, .recorder, .frames] [R.EPO_CNT 3] :=
    (((hua.mono (by decide) (by decide)).trans (hab.mono (by decide) (by simp))).trans (hbc.mono (by decide) (by simp))).trans
      (hset.mono (by decide) (by simp))
  have hcfab : c.fab = b.fab := hbc.same .fab (by decide)
  have hsch : (c.setTrans tr').sch = c.sch := hset.same .sch (by decide)
  have hasch : b.sch = u.sch := (hab.same .sch (by decide)).trans (hua.same .sch (by decide))
  refine ⟨htouch.same .time (by decide), c.trans_setTrans (tr := tr') hkey, ?_, ?_, ?_, ?_⟩
  · rw [State.setTrans_selfRun, hcfab]
    exact a.listSelf_mem n
  · rw [hset.get (by simp) (by decide), hbc.get (by simp) (by decide), hab.get (by simp) (by decide)]
    exact u.countSelf_get tr
  · rw [hsch, hc, State.noteSelfs_selfs, hasch]
    rfl
  · exact (State.Touches.advanceTo s _ (.head _)).trans (htouch.mono (by decide) (by decide))

/-- Settles O24: the point of no return of circuits and of a swap, G0, and the self-strobed tiles. -/
theorem transitionsBeginAtPointOfNoReturnAndG0 : Obligations.TransitionsBeginAtPointOfNoReturnAndG0 :=
  ⟨circuitVerification_leaves, swapVerification_leaves, blankStrobe_leaves, selfStrobeDetect_leaves⟩

end Sys2Proof.Machine
end

section
/-!
PROOFS. The epoch commit in its stages (R57, R143, R151, R175, R206), and what each stage keeps.
-/
namespace Sys2Proof.Machine

/-! ## The stages -/

/-- At E circuits and schedule take effect, by a swap or by the transition's own circuits (R57, R159). -/
def State.takeEffect (s : State) (tr : Trans) : State := match tr.swap, s.sch.swap with
  | true, some w => s.commitSwap tr w
  | _, _ => s.after tr

/-- The scheduled circuits that are lit up to a slot epoch (R143). -/
def State.closing (s : State) (cls : Bool) : List (Nat × Ctx) := s.cir.ctxs.filter fun x => x.2.state == Cs.lit && x.2.scheduled && cls

/-- Circuits lit before that do not commit now are HELD (R57). -/
def State.holdPrevious (s : State) (lights : List Nat) (l : List (Nat × Ctx)) : State :=
  l.foldl (fun s x => if (s.ctx x.1).state = Cs.lit ∧ lights.contains x.1 = false then s.setCtx x.1 { s.ctx x.1 with state := Cs.held } else s) s

def State.markEpoch (s : State) (e : Nat) : State := { s with sch.lastE := e }

/-- With a persistent epoch the lines of circuits that have left are free (R59). -/
def State.freeLeaves (s : State) (cls : Bool) (e : Nat) : State :=
  { s with cir.leaves := if cls then s.cir.leaves else s.cir.leaves.filter fun l => decide (e < l.e) }

/-- The transition is over. -/
def State.endTransition (s : State) (cls : Bool) (e : Nat) : State := ((s.dropTrans cls e).markEpoch e).freeLeaves cls e

def State.rehomeIf (s : State) (b : Bool) : State := if b then s.rehome else s

def State.commitLights (s : State) (tr : Trans) : State := if tr.swap then s else tr.lights.foldl (fun s i => s.committed tr.dark i) s

/-- The circuits that the stage of a transition moves. -/
def State.movedBy (s : State) (tr : Trans) : List Nat := match tr.stage, s.trv.journal with
  | some k, t :: _ => (t.stage k).moved.map Move.ctx
  | _, _ => []

/-- A moved circuit commits, and library entries that share cells with it are stale (R150, R206). -/
def State.commitMove (s : State) (dark : Bool) (i : Nat) : State :=
  (if (s.ctx i).scheduled then s else s.stalePath (s.ctx i).hops).committed dark i

def State.commitMoves (s : State) (dark : Bool) (l : List Nat) : State := l.foldl (fun s i => s.commitMove dark i) s

def State.commitStage (s : State) (tr : Trans) (e : Nat) : State := match tr.stage with
  | none => s
  | some k => s.stageDone k e

/-- Latches that no circuit needs are closed, and the epoch is counted (R126, R166). -/
def State.countEpoch (s : State) (tr : Trans) (cls bound : Bool) : State :=
  (((s.close (tr.ports.filter fun k => s.isOpen k && !s.portNeeded 262_144 k)).count (whole (R.EPO_CNT (if cls then 0 else 1)))).count
    (whole (R.EPO_XCNT 0))).applyGb tr bound

/-- An epoch that `EPO_OUT_CFG` selects shows on EPOCH_OUT (R168). -/
def State.pulseEpoch (s : State) (mark : Bool) (e : Nat) : State := if mark && !s.flag R.EPO_OUT_CFG_MARK then s.epochPulse e else s

/-- The tiles that run self-strobed follow the transition (R165). -/
def State.keepSelfs (s : State) (tr : Trans) (cls : Bool) : State :=
  { s with fab.selfRun := s.fab.selfRun.filter tr.selfs.contains, sch.selfs := if cls then !tr.selfs.isEmpty else s.sch.selfs }

/-- A slot epoch that takes place ends a freeze (R162). -/
def State.noteThaw (s : State) (b : Bool) : State := if b then s.ev Ev.freeze else s

def State.isFrozen (s : State) : Bool := match s.sch.active with
  | none => false
  | some a => a.frozen.isSome

def State.freezeIsDue (s : State) : Bool := match s.sch.active with
  | none => false
  | some a => a.freezeDue

/-- What ends an epoch: counts, the marker, and the self-strobed tiles. -/
def State.closeEpoch (s : State) (tr : Trans) (cls bound mark frozen : Bool) (e : Nat) : State :=
  (((s.countEpoch tr cls bound).pulseEpoch mark e).keepSelfs tr cls).noteThaw (frozen && cls)

/-- What begins an epoch: circuits and schedule take effect, the circuits before are held, and the transition is over. -/
def State.openEpoch (s : State) (tr : Trans) (cls : Bool) (e : Nat) : State :=
  ((((s.takeEffect tr).holdPrevious tr.lights (s.closing cls)).endTransition cls e)).rehomeIf (tr.rehomes || s.isFrozen && cls)

/-- A freeze that waited for the transition begins (R161, R185). -/
def State.freezeIf (s : State) (cls : Bool) : State := if cls && s.freezeIsDue then s.freeze else s

theorem doEpochCommit_eq {s : State} {cls : Bool} {e : Nat} {tr : Trans} (ht : s.trans cls e = some tr) (hp : tr.phase = 4) :
    let u := s.advanceTo e
    doEpochCommit cls e s =
      (((((u.openEpoch tr cls e).commitLights tr).commitMoves tr.dark (u.movedBy tr)).commitStage tr e).closeEpoch tr cls
        (tr.swap || (cls && u.slotEpoch e == some 0)) (u.marks tr) u.isFrozen e).freezeIf cls := by
  unfold doEpochCommit
  rw [ht]
  exact if_pos hp

/-! ## What ends an epoch -/

/-- Library, active schedule, armed swap and the last epoch are kept. -/
structure State.KeepsSched (s t : State) : Prop where
  lib : t.sch.lib = s.sch.lib
  active : t.sch.active = s.sch.active
  swap : t.sch.swap = s.sch.swap
  lastE : t.sch.lastE = s.sch.lastE

namespace State.KeepsSched

theorem ofEq {s t : State} (h : t.sch = s.sch) : s.KeepsSched t := ⟨by rw [h], by rw [h], by rw [h], by rw [h]⟩

theorem refl (s : State) : s.KeepsSched s := ofEq rfl

theorem comp {a b c : State} (h : a.KeepsSched b) (g : b.KeepsSched c) : a.KeepsSched c :=
  ⟨g.lib.trans h.lib, g.active.trans h.active, g.swap.trans h.swap, g.lastE.trans h.lastE⟩

theorem entry {s t : State} (h : s.KeepsSched t) (n : Nat) : t.entry n = s.entry n := by rw [State.entry, State.entry, h.lib]

end State.KeepsSched

/-- What the end of an epoch can do: ports, the record and some registers change; circuits, transitions and the schedule stand. -/
structure State.Closes (rs : List Nat) (s t : State) : Prop where
  touches : s.Touches t [.fab, .sch, .recorder, .frames] rs
  steady : s.Steady t
  sched : s.KeepsSched t
  grow : s.FramesGrow t

namespace State.Closes

theorem refl (rs : List Nat) (s : State) : s.Closes rs s := ⟨.refl s _ _, .refl s, .refl s, .refl s⟩

theorem comp {rs : List Nat} {a b c : State} (h : a.Closes rs b) (g : b.Closes rs c) : a.Closes rs c :=
  ⟨h.touches.trans g.touches, h.steady.comp g.steady, h.sched.comp g.sched, h.grow.comp g.grow⟩

theorem mono {rs ss : List Nat} {a b : State} (h : a.Closes rs b) (hs : ∀ r, r ∈ rs → r ∈ ss) : a.Closes ss b :=
  ⟨h.touches.mono (fun _ hp => hp) hs, h.steady, h.sched, h.grow⟩

theorem count {rs : List Nat} (s : State) (f : Fld) (h : f.addr ∈ rs) : s.Closes rs (s.count f) :=
  ⟨.count s f h, s.count_steady f, .ofEq rfl, .count s f⟩

theorem ev (rs : List Nat) (s : State) (src code : Nat) (h : src < 1536) : s.Closes rs (s.ev src code) :=
  ⟨.ev s src code h (by decide) (by decide), s.ev_steady src code,
    .ofEq ((State.Touches.ev s src code (ps := Part.occ) (rs := []) h (by decide) (by decide)).same .sch (by decide)), s.raise_framesGrow _⟩

end State.Closes

theorem State.close_closes (s : State) (ks : List Nat) : s.Closes pulseRegs (s.close ks) := by
  have h : s.Touches (s.close ks) [.fab, .recorder, .frames] pulseRegs := s.closeAll_touches ks s.now false
  exact ⟨h.mono (by decide) (fun _ hr => hr), s.close_steady ks, .ofEq (h.same .sch (by decide)), s.close_framesGrow ks⟩

/-- GB_SET becomes the guard band in force (R166). -/
def State.takeGb (s : State) : State := { s.put R.EPO_GB_GB_USE (s.get R.EPO_GB_GB_SET) with sch.gbWait := none }

theorem State.takeGb_closes (s : State) : s.Closes [R.EPO_GB] s.takeGb := by
  have hput : s.Touches (s.put R.EPO_GB_GB_USE (s.get R.EPO_GB_GB_SET)) [.fab, .sch, .recorder, .frames] [R.EPO_GB] := .put s _ _ (.head _)
  exact ⟨hput.trans (.with_sch _ _ (.tail _ (.head _))), ⟨⟨rfl, rfl⟩, rfl, rfl⟩, ⟨rfl, rfl, rfl, rfl⟩, .ofEq rfl⟩

theorem State.applyGb_cases (s : State) (tr : Trans) (bound : Bool) : s.applyGb tr bound = s ∨ s.applyGb tr bound = s.takeGb := by
  unfold State.applyGb
  cases s.sch.gbWait with
  | none => exact .inl rfl
  | some n => exact (ite_eq_or_eq _ _ _).symm

theorem State.applyGb_closes (s : State) (tr : Trans) (bound : Bool) : s.Closes [R.EPO_GB] (s.applyGb tr bound) := by
  rcases s.applyGb_cases tr bound with h | h <;> rw [h]
  · exact .refl _ s
  · exact s.takeGb_closes

theorem State.pulseEpoch_closes (s : State) (mark : Bool) (e : Nat) : s.Closes [] (s.pulseEpoch mark e) := by
  unfold State.pulseEpoch
  split
  · exact ⟨.with_fab s _ (.head _), ⟨⟨rfl, rfl⟩, rfl, rfl⟩, .ofEq rfl, .ofEq rfl⟩
  · exact .refl _ s

theorem State.keepSelfs_closes (s : State) (tr : Trans) (cls : Bool) : s.Closes [] (s.keepSelfs tr cls) :=
  ⟨(State.Touches.with_fab s { s.fab with selfRun := s.fab.selfRun.filter tr.selfs.contains } (.head _)).trans (.with_sch _ _ (.tail _ (.head _))),
    ⟨⟨rfl, rfl⟩, rfl, rfl⟩, ⟨rfl, rfl, rfl, rfl⟩, .ofEq rfl⟩

theorem State.noteThaw_closes (s : State) (b : Bool) : s.Closes [] (s.noteThaw b) := by
  cases b
  · exact .refl _ s
  · exact .ev _ s _ _ (by decide)

/-- The registers that the end of an epoch can write beside its own counter. -/
def epochRegs : List Nat := R.EPO_XCNT 0 :: R.EPO_GB :: pulseRegs

/-- The counter of an epoch's class. -/
def epochCnt (cls : Bool) : Fld := whole (R.EPO_CNT (if cls then 0 else 1))

/-- The end of an epoch is its count, with closes before it and the rest after it. -/
theorem State.closeEpoch_counts (s : State) (tr : Trans) (cls bound mark frozen : Bool) (e : Nat) :
    ∃ x, s.Closes pulseRegs x ∧ (x.count (epochCnt cls)).Closes [R.EPO_XCNT 0, R.EPO_GB] (s.closeEpoch tr cls bound mark frozen e) := by
  refine ⟨s.close (tr.ports.filter fun k => s.isOpen k && !s.portNeeded 262_144 k), s.close_closes _, ?_⟩
  have hx := State.Closes.count (rs := [R.EPO_XCNT 0, R.EPO_GB])
    ((s.close (tr.ports.filter fun k => s.isOpen k && !s.portNeeded 262_144 k)).count (epochCnt cls)) (whole (R.EPO_XCNT 0)) (.head _)
  have hg : s.countEpoch tr cls bound |>.pulseEpoch mark e |>.keepSelfs tr cls |>.noteThaw (frozen && cls) |> (s.countEpoch tr cls bound).Closes [] :=
    ((State.pulseEpoch_closes _ _ _).comp (State.keepSelfs_closes _ _ _)).comp (State.noteThaw_closes _ _)
  exact (hx.comp ((State.applyGb_closes _ tr bound).mono (by simp))).comp (hg.mono (by simp))

theorem epochCnt_apart (cls : Bool) : (epochCnt cls).addr ∉ epochRegs ∧ ¬ evtReg (epochCnt cls).addr ∧ (epochCnt cls).addr ≠ R.CMD_CNT 5 := by
  have hp : (epochCnt cls).addr ∉ pulseRegs := pulseRegs_not_mem (.inl (by cases cls <;> decide))
  refine ⟨?_, by cases cls <;> decide, by cases cls <;> decide⟩
  simp only [epochRegs, List.mem_cons, not_or]
  exact ⟨by cases cls <;> decide, by cases cls <;> decide, hp⟩

theorem State.closeEpoch_closes (s : State) (tr : Trans) (cls bound mark frozen : Bool) (e : Nat) :
    s.Closes ((epochCnt cls).addr :: epochRegs) (s.closeEpoch tr cls bound mark frozen e) := by
  obtain ⟨x, h1, h2⟩ := s.closeEpoch_counts tr cls bound mark frozen e
  exact ((h1.mono (by simp [epochRegs]; tauto)).comp (.count x _ (.head _))).comp (h2.mono (by simp [epochRegs]))

/-- An epoch is counted once. -/
theorem State.closeEpoch_get (s : State) (tr : Trans) (cls bound mark frozen : Bool) (e : Nat) :
    (s.closeEpoch tr cls bound mark frozen e).get (epochCnt cls) = satInc 32 (s.get (epochCnt cls)) := by
  obtain ⟨x, h1, h2⟩ := s.closeEpoch_counts tr cls bound mark frozen e
  obtain ⟨hr, he, -⟩ := epochCnt_apart cls
  simp only [epochRegs, List.mem_cons, not_or] at hr
  obtain ⟨hx, hg, hp⟩ := hr
  have hc : (x.count (epochCnt cls)).get (epochCnt cls) = satInc 32 (x.get (epochCnt cls)) := State.get_count_self x _ (whole_ok _)
  rw [h2.touches.get (by simp [hx, hg]) he, hc, h1.touches.get hp he]

/-! ## What begins an epoch -/

theorem State.rehome_closes (s : State) : s.Closes [] s.rehome :=
  List.foldlRecOn _ _ (motive := s.Closes []) (.refl _ s) fun t ht _ _ =>
    ht.comp ⟨.with_fab t _ (.head _), t.setElem_steady _ _, .ofEq rfl, .ofEq rfl⟩

theorem State.rehomeIf_closes (s : State) (b : Bool) : s.Closes [] (s.rehomeIf b) := by
  cases b
  · exact .refl _ s
  · exact s.rehome_closes

theorem State.endTransition_touches (s : State) (cls : Bool) (e : Nat) : s.Touches (s.endTransition cls e) [.fab, .cir, .sch] [] := by
  have hdrop : s.Touches (s.dropTrans cls e) [.fab, .cir, .sch] [] := .with_fab s _ (.head _)
  have hmark (x : State) : x.Touches (x.markEpoch e) [.fab, .cir, .sch] [] := .with_sch x _ (.tail _ (.tail _ (.head _)))
  have hfree (x : State) : x.Touches (x.freeLeaves cls e) [.fab, .cir, .sch] [] := .with_cir x _ (.tail _ (.head _))
  exact (hdrop.trans (hmark _)).trans (hfree _)

theorem State.endTransition_trans (s : State) (cls : Bool) (e : Nat) : (s.endTransition cls e).trans cls e = none :=
  List.find?_eq_none.2 fun t ht => by simpa [-not_and, not_and_or] using (List.mem_filter.1 ht).2

theorem State.endTransition_ctx (s : State) (cls : Bool) (e i : Nat) : (s.endTransition cls e).ctx i = s.ctx i := rfl

/-! ## Circuits held -/

theorem State.holdPrevious_touches (s : State) (lights : List Nat) (l : List (Nat × Ctx)) : s.Touches (s.holdPrevious lights l) [.cir] [] := by
  refine .foldl (fun t x _ => ?_) s
  split
  · exact .with_cir t _ (.head _)
  · exact .refl t _ _

theorem State.holdPrevious_leaves (s : State) (lights : List Nat) (l : List (Nat × Ctx)) :
    (s.holdPrevious lights l).cir.leaves = s.cir.leaves := by
  refine List.foldlRecOn l _ (motive := fun t : State => t.cir.leaves = s.cir.leaves) rfl fun t ht x _ => ?_
  split
  · exact ht
  · exact ht

/-- A circuit that is not lit, commits now or is none of the list stays as it is. -/
theorem State.holdPrevious_other (s : State) {lights : List Nat} {l : List (Nat × Ctx)} {i : Nat}
    (h : (s.ctx i).state ≠ Cs.lit ∨ i ∈ lights ∨ ∀ x, x ∈ l → x.1 ≠ i) : (s.holdPrevious lights l).ctx i = s.ctx i := by
  refine List.foldlRecOn l _ (motive := fun t : State => t.ctx i = s.ctx i) rfl fun t ht x hx => ?_
  split
  · rename_i hc
    by_cases hi : i = x.1
    · subst hi
      obtain ⟨hlit, hnot⟩ := hc
      rw [ht] at hlit
      rcases h with h | h | h
      · exact absurd hlit h
      · simp [h] at hnot
      · exact absurd rfl (h x hx)
    · rw [State.ctx_setCtx_other _ _ hi, ht]
  · exact ht

/-- Nothing moves a circuit that is held off its route. -/
theorem State.holdPrevious_route (s : State) (lights : List Nat) (l : List (Nat × Ctx)) (i : Nat) :
    ((s.holdPrevious lights l).ctx i).route = (s.ctx i).route := by
  refine List.foldlRecOn l _ (motive := fun t : State => (t.ctx i).route = (s.ctx i).route) rfl fun t ht x _ => ?_
  split
  · by_cases hi : i = x.1
    · rw [hi, State.ctx_setCtx_self, ← hi]
      exact ht
    · rw [State.ctx_setCtx_other _ _ hi, ht]
  · exact ht

/-- A circuit of the list that is lit and does not commit now is HELD. -/
theorem State.holdPrevious_held (s : State) {lights : List Nat} {i : Nat} (hnot : i ∉ lights) (l : List (Nat × Ctx))
    (h : ((s.ctx i).state = Cs.lit ∧ ∃ x, x ∈ l ∧ x.1 = i) ∨ (s.ctx i).state = Cs.held) :
    ((s.holdPrevious lights l).ctx i).state = Cs.held := by
  induction l generalizing s with
  | nil => simpa [State.holdPrevious] using h
  | cons a l ih =>
    have hlights : lights.contains i = false := by simpa using hnot
    show ((State.holdPrevious (if _ then s.setCtx a.1 _ else s) lights l).ctx i).state = Cs.held
    by_cases hi : i = a.1
    · subst hi
      refine ih _ (.inr ?_)
      split
      · rw [State.ctx_setCtx_self]
      · rename_i hc
        exact h.resolve_left fun hl => hc ⟨hl.1, hlights⟩
    · have hsame : (if (s.ctx a.1).state = Cs.lit ∧ lights.contains a.1 = false then s.setCtx a.1 { s.ctx a.1 with state := Cs.held } else s).ctx i =
          s.ctx i := by
        split
        · exact State.ctx_setCtx_other _ _ hi
        · rfl
      refine ih _ ?_
      rw [hsame]
      exact h.imp (fun ⟨hl, x, hx, hxi⟩ => ⟨hl, x, (List.mem_cons.1 hx).resolve_left fun e => hi (by rw [← hxi, e]), hxi⟩) id

end Sys2Proof.Machine
end

section
/-!
PROOFS. Circuits that commit at E (R57, R143, R206), and an epoch without stage or swap.
-/
namespace Sys2Proof.Machine

/-! ## Tables updated item by item -/

/-- Entries updated in turn: an entry under no item's key stays. -/
theorem Tbl.getD_foldl_put_other {α β : Type} {key : β → Nat} {v : β → α → α} {d : α} {i : Nat} (l : List β) (m : Tbl α)
    (h : ∀ b, b ∈ l → key b ≠ i) :
    Tbl.getD (l.foldl (fun m b => Tbl.put m (key b) (v b (Tbl.getD m (key b) d))) m) i d = Tbl.getD m i d := by
  refine List.foldlRecOn l _ (motive := fun t => Tbl.getD t i d = Tbl.getD m i d) rfl fun t ht b hb => ?_
  rw [Tbl.getD, Tbl.look_put_other _ (h b hb).symm, ← Tbl.getD, ht]

/-- Entries updated in turn under keys that differ: each is updated once. -/
theorem Tbl.getD_foldl_put {α β : Type} {key : β → Nat} {v : β → α → α} {d : α} {l : List β} (m : Tbl α) (hn : (l.map key).Nodup) {b : β}
    (hb : b ∈ l) :
    Tbl.getD (l.foldl (fun m b => Tbl.put m (key b) (v b (Tbl.getD m (key b) d))) m) (key b) d = v b (Tbl.getD m (key b) d) := by
  induction l generalizing m with
  | nil => exact absurd hb (by simp)
  | cons a l ih =>
    obtain ⟨ha, hn⟩ := List.nodup_cons.1 (List.map_cons ▸ hn)
    have ha' (c : β) (hc : c ∈ l) : key c ≠ key a := fun e => ha (e ▸ List.mem_map_of_mem hc)
    rw [List.foldl_cons]
    rcases List.mem_cons.1 hb with rfl | hb
    · rw [Tbl.getD_foldl_put_other l _ ha', Tbl.getD, Tbl.look_put_self]
      rfl
    · rw [ih _ hn hb, Tbl.getD, Tbl.look_put_other _ (ha' b hb), ← Tbl.getD]

/-! ## The circuits from E -/

/-- In a canonical table every entry is the circuit of its index. -/
theorem State.ctx_of_mem {s : State} (hwf : Tbl.wf s.cir.ctxs = true) {x : Nat × Ctx} (hx : x ∈ s.cir.ctxs) : s.ctx x.1 = x.2 := by
  rw [State.ctx, Tbl.getD, (Tbl.mem_iff_look _ hwf x.1 x.2).1 hx]
  rfl

/-- A circuit as the table holds it from its commit. -/
def Ctx.committedAt (c : Ctx) (e : Nat) : Ctx := { c.commit e with gen := (c.gen + 1) % 65_536 }

theorem State.ctxsAfter_plain {s : State} {tr : Trans} (hw : tr.swap = false) (hs : tr.stage = none) :
    s.ctxsAfter tr = tr.lights.foldl (fun m i => Tbl.put m i ((Tbl.getD m i Ctx.idle).committedAt tr.e)) s.cir.ctxs := by
  unfold State.ctxsAfter
  rw [hw, hs]
  rfl

/-- A circuit that commits takes its placed route. -/
theorem State.after_ctx_self {s : State} {tr : Trans} (hw : tr.swap = false) (hs : tr.stage = none) (hn : tr.lights.Nodup) {i : Nat}
    (hi : i ∈ tr.lights) : (s.after tr).ctx i = (s.ctx i).committedAt tr.e := by
  rw [State.ctx, State.after, State.ctxsAfter_plain hw hs]
  exact Tbl.getD_foldl_put (key := id) (v := fun _ c => c.committedAt tr.e) s.cir.ctxs (by simpa using hn) hi

theorem State.after_ctx_other {s : State} {tr : Trans} (hw : tr.swap = false) (hs : tr.stage = none) {i : Nat} (hi : i ∉ tr.lights) :
    (s.after tr).ctx i = s.ctx i := by
  rw [State.ctx, State.after, State.ctxsAfter_plain hw hs]
  exact Tbl.getD_foldl_put_other (key := id) (v := fun _ c => c.committedAt tr.e) tr.lights s.cir.ctxs fun b hb (e : b = i) => hi (e ▸ hb)

/-- A circuit without what its commit's request and its measures can change. -/
def Ctx.face (c : Ctx) : Ctx := { c with req := none, cycling := 0, reason := 0, gen := 0, traverse := none }

/-- The circuits stand but for their requests and their measures. -/
def State.SameFaces (s t : State) : Prop := ∀ j, (t.ctx j).face = (s.ctx j).face

namespace State.SameFaces

theorem refl (s : State) : s.SameFaces s := fun _ => rfl

theorem comp {a b c : State} (h : a.SameFaces b) (g : b.SameFaces c) : a.SameFaces c := fun j => (g j).trans (h j)

theorem ofSteady {s t : State} (h : s.Steady t) : s.SameFaces t := fun j => by rw [h.ctx]

theorem ofCir {s t : State} (h : t.cir = s.cir) : s.SameFaces t := fun j => by rw [State.ctx, State.ctx, h]

theorem setCtx {s : State} {i : Nat} {c : Ctx} (h : c.face = (s.ctx i).face) : s.SameFaces (s.setCtx i c) := by
  intro j
  by_cases hj : j = i
  · subst hj
    rw [State.ctx_setCtx_self]
    exact h
  · rw [State.ctx_setCtx_other _ _ hj]

theorem foldl {α : Type} {f : State → α → State} (h : ∀ (s : State) a, s.SameFaces (f s a)) (l : List α) (s : State) :
    s.SameFaces (l.foldl f s) :=
  List.foldlRecOn l f (motive := s.SameFaces) (refl s) fun t ht a _ => ht.comp (h t a)

theorem state {s t : State} (h : s.SameFaces t) (j : Nat) : (t.ctx j).state = (s.ctx j).state := (congrArg Ctx.state (h j) :)

theorem route {s t : State} (h : s.SameFaces t) (j : Nat) : (t.ctx j).route = (s.ctx j).route := (congrArg Ctx.route (h j) :)

theorem placed {s t : State} (h : s.SameFaces t) (j : Nat) : (t.ctx j).placed = (s.ctx j).placed := (congrArg Ctx.placed (h j) :)

theorem epoch {s t : State} (h : s.SameFaces t) (j : Nat) : (t.ctx j).epoch = (s.ctx j).epoch := (congrArg Ctx.epoch (h j) :)

theorem input {s t : State} (h : s.SameFaces t) (j : Nat) : (t.ctx j).input = (s.ctx j).input := (congrArg Ctx.input (h j) :)

theorem moves {s t : State} (h : s.SameFaces t) (j : Nat) : (t.ctx j).moves = (s.ctx j).moves := (congrArg Ctx.moves (h j) :)

theorem after {s t : State} (h : s.SameFaces t) (j : Nat) : (t.ctx j).after = (s.ctx j).after := (congrArg Ctx.after (h j) :)

end State.SameFaces

/-- What the commit of circuits that nothing waits for can do: their requests and measures change, and their requesters are told. -/
structure State.Commits (s t : State) : Prop where
  touches : s.Touches t [.cir, .cmd, .frames, .recorder] [R.CMD_CNT 5]
  clients : s.KeepsClients t
  leaves : t.cir.leaves = s.cir.leaves
  faces : s.SameFaces t

namespace State.Commits

theorem refl (s : State) : s.Commits s := ⟨.refl s _ _, .refl s, rfl, .refl s⟩

theorem comp {a b c : State} (h : a.Commits b) (g : b.Commits c) : a.Commits c :=
  ⟨h.touches.trans g.touches, h.clients.comp g.clients, g.leaves.trans h.leaves, h.faces.comp g.faces⟩

theorem setCtx {s : State} {i : Nat} {c : Ctx} (h : c.face = (s.ctx i).face) : s.Commits (s.setCtx i c) :=
  ⟨.with_cir s _ (.head _), (s.setCtx_ends i c).clients, rfl, .setCtx h⟩

theorem endLight (s : State) (i code : Nat) : s.Commits (s.endLight i code) := by
  have hset : s.Commits (s.setCtx i { s.ctx i with req := none }) := .setCtx rfl
  have hsteady := (s.setCtx i { s.ctx i with req := none }).completeOpt_steady (s.ctx i).req true code
    (natBe 4 i ++ be48 (s.ctx i).eplan ++ natBe 1 (s.ctx i).moved ++ [0, 0, 0])
  exact hset.comp ⟨(State.completeOpt_touches _ _ _ _ _).mono (by decide) (fun _ hr => hr), State.completeOpt_keepsClients _ _ _ _ _,
    congrArg CirSt.leaves hsteady.cir, .ofSteady hsteady⟩

end State.Commits

/-- The measures of a circuit at its commit. -/
def State.measured (s : State) (dark : Bool) (i : Nat) : State :=
  s.setCtx i { s.ctx i with cycling := s.cyclingOf (s.ctx i).hops, reason := if dark then Code.EPO_HELD_DARK else (s.ctx i).reason }

theorem State.measured_commits (s : State) (dark : Bool) (i : Nat) : s.Commits (s.measured dark i) := .setCtx rfl

/-- A circuit that nothing waits for only completes its request (R57). -/
theorem State.committed_eq {s : State} {i : Nat} (h : (s.ctx i).after = none) (dark : Bool) :
    s.committed dark i = (s.measured dark i).endLight i Code.DONE := by
  have ha : (((s.measured dark i).endLight i Code.DONE).ctx i).after = none :=
    (((s.measured_commits dark i).comp (.endLight _ i Code.DONE)).faces.after i).trans h
  unfold State.committed
  dsimp only
  rw [← State.measured, ha]

theorem State.committed_commits {s : State} {i : Nat} (h : (s.ctx i).after = none) (dark : Bool) : s.Commits (s.committed dark i) := by
  rw [State.committed_eq h]
  exact (s.measured_commits dark i).comp (.endLight _ i Code.DONE)

theorem State.endLight_ctx_other (s : State) {i j : Nat} (code : Nat) (h : j ≠ i) : (s.endLight i code).ctx j = s.ctx j :=
  ((s.setCtx i { s.ctx i with req := none }).completeOpt_steady _ _ _ _).ctx j |>.trans (State.ctx_setCtx_other s _ h)

theorem State.committed_ctx_other {s : State} {i j : Nat} (h : (s.ctx i).after = none) (dark : Bool) (hj : j ≠ i) :
    (s.committed dark i).ctx j = s.ctx j := by
  rw [State.committed_eq h, State.endLight_ctx_other _ _ hj, State.measured, State.ctx_setCtx_other _ _ hj]

theorem State.committed_completed {s : State} {i : Nat} (h : (s.ctx i).after = none) (dark : Bool) {r : Requester}
    (hr : (s.ctx i).req = some r) (hl : s.sessionLive r = true) : (s.committed dark i).Completed r Code.DONE := by
  rw [State.committed_eq h]
  refine State.endLight_completed ?_ (((s.measured_commits dark i).clients.sessionLive r).trans hl) Code.DONE
  rw [State.measured, State.ctx_setCtx_self]
  exact hr

/-- Circuits committed in turn. -/
def State.commitAll (s : State) (dark : Bool) (l : List Nat) : State := l.foldl (fun s i => s.committed dark i) s

theorem State.commitAll_commits {s : State} (dark : Bool) {l : List Nat} (h : ∀ i, i ∈ l → (s.ctx i).after = none) :
    s.Commits (s.commitAll dark l) :=
  List.foldlRecOn l _ (motive := s.Commits) (.refl s) fun _ ht i hi => ht.comp (State.committed_commits ((ht.faces.after i).trans (h i hi)) dark)

theorem State.commitAll_other {s : State} (dark : Bool) {l : List Nat} (h : ∀ i, i ∈ l → (s.ctx i).after = none) {j : Nat} (hj : j ∉ l) :
    (s.commitAll dark l).ctx j = s.ctx j := by
  have key : s.SameFaces (s.commitAll dark l) ∧ (s.commitAll dark l).ctx j = s.ctx j := by
    refine List.foldlRecOn l _ (motive := fun t : State => s.SameFaces t ∧ t.ctx j = s.ctx j) ⟨.refl s, rfl⟩ fun _ ⟨hf, hc⟩ i hi => ?_
    have ha := (hf.after i).trans (h i hi)
    have hji : j ≠ i := fun e => hj (e ▸ hi)
    exact ⟨hf.comp (State.committed_commits ha dark).faces, (State.committed_ctx_other ha dark hji).trans hc⟩
  exact key.2

/-- Every request of a circuit that commits completes with DONE (R57). -/
theorem State.commitAll_completed {s : State} (dark : Bool) {l : List Nat} (hn : l.Nodup) (h : ∀ i, i ∈ l → (s.ctx i).after = none) {i : Nat}
    (hi : i ∈ l) {r : Requester} (hr : (s.ctx i).req = some r) (hl : s.sessionLive r = true) : (s.commitAll dark l).Completed r Code.DONE := by
  induction l generalizing s with
  | nil => exact absurd hi (by simp)
  | cons a l ih =>
    obtain ⟨ha, hn⟩ := List.nodup_cons.1 hn
    have haa := h a (.head _)
    have hfirst := State.committed_commits haa dark
    have hrest (j : Nat) (hj : j ∈ l) : ((s.committed dark a).ctx j).after = none := (hfirst.faces.after j).trans (h j (.tail _ hj))
    rcases List.mem_cons.1 hi with rfl | hi
    · exact (State.committed_completed haa dark hr hl).kept (State.commitAll_commits dark hrest).clients.frames
    · refine ih hn hrest hi ?_ ((hfirst.clients.sessionLive r).trans hl)
      rw [State.committed_ctx_other haa dark fun e => ha (e ▸ hi)]
      exact hr

theorem State.after_touches (s : State) (tr : Trans) : s.Touches (s.after tr) [.cir, .sch] [] := by
  have hc : s.Touches { s with cir.ctxs := s.ctxsAfter tr } [.cir, .sch] [] := .with_cir s _ (.head _)
  exact hc.trans (.with_sch _ _ (.tail _ (.head _)))

/-! ## What begins an epoch, as a whole -/

/-- An epoch begun from the state `a` in which circuits and schedule have taken effect. -/
structure State.OpenedFrom (a o : State) (lights : List Nat) (l : List (Nat × Ctx)) (cls : Bool) (e : Nat) : Prop where
  touches : a.Touches o [.fab, .cir, .sch, .recorder, .frames] []
  clients : a.KeepsClients o
  trans : o.trans cls e = none
  lastE : o.sch.lastE = e
  active : o.sch.active = a.sch.active
  swap : o.sch.swap = a.sch.swap
  lib : o.sch.lib = a.sch.lib
  leaves : o.cir.leaves = if cls then a.cir.leaves else a.cir.leaves.filter fun x => decide (e < x.e)
  ctx : ∀ i, o.ctx i = (a.holdPrevious lights l).ctx i

theorem State.openEpoch_opened (s : State) (tr : Trans) (cls : Bool) (e : Nat) :
    (s.takeEffect tr).OpenedFrom (s.openEpoch tr cls e) tr.lights (s.closing cls) cls e := by
  set a := s.takeEffect tr with ha
  set b := a.holdPrevious tr.lights (s.closing cls) with hb
  set c := b.endTransition cls e with hc
  have ho : s.openEpoch tr cls e = c.rehomeIf (tr.rehomes || s.isFrozen && cls) := rfl
  rw [ho]
  have hab : a.Touches b [.cir] [] := a.holdPrevious_touches _ _
  have hbc : b.Touches c [.fab, .cir, .sch] [] := b.endTransition_touches cls e
  have hco := c.rehomeIf_closes (tr.rehomes || s.isFrozen && cls)
  set o := c.rehomeIf (tr.rehomes || s.isFrozen && cls)
  have htouch : a.Touches o [.fab, .cir, .sch, .recorder, .frames] [] :=
    ((hab.mono (by decide) (fun _ h => h)).trans (hbc.mono (by decide) (fun _ h => h))).trans (hco.touches.mono (by decide) (fun _ h => h))
  have hbsch : b.sch = a.sch := hab.same .sch (by decide)
  have hcmd : c.cmd.outQ = a.cmd.outQ := by
    have h1 : b.cmd.outQ = a.cmd.outQ := hab.same .frames (by decide)
    have h2 : c.cmd.outQ = b.cmd.outQ := hbc.same .frames (by decide)
    rw [h2, h1]
  refine ⟨htouch, .ofTouches htouch (by decide) (by simp) ((State.FramesGrow.ofEq hcmd).comp hco.grow), ?_, hco.sched.lastE, ?_, ?_, ?_, ?_,
    fun i => hco.steady.ctx i⟩
  · rw [State.trans_congr hco.steady.trans, hc, State.endTransition_trans]
  · rw [hco.sched.active, ← hbsch]
    rfl
  · rw [hco.sched.swap, ← hbsch]
    rfl
  · rw [hco.sched.lib, ← hbsch]
    rfl
  · have hl : b.cir.leaves = a.cir.leaves := a.holdPrevious_leaves _ _
    rw [hco.steady.cir, ← hl]
    rfl

/-! ## An epoch without stage or swap -/

theorem State.takeEffect_plain {s : State} {tr : Trans} (hw : tr.swap = false) : s.takeEffect tr = s.after tr := by
  unfold State.takeEffect
  rw [hw]

theorem State.activeAfter_plain {s : State} {tr : Trans} (hw : tr.swap = false) : s.activeAfter tr =
    if tr.slotClass then s.sch.active.map fun a =>
      { a with slot := (a.slotAt tr.e).getD a.slot, lastE := tr.e, first := false, frozen := none, resumeAt := none }
    else s.sch.active := by
  unfold State.activeAfter
  rw [hw]

/-- An epoch at which no freeze waited leaves none due. -/
theorem State.activeAfter_noFreeze {s : State} {tr : Trans} (hw : tr.swap = false) (h : ∀ a, s.sch.active = some a → a.freezeDue = false) :
    ∀ a, s.activeAfter tr = some a → a.freezeDue = false := by
  intro a ha
  rw [State.activeAfter_plain hw] at ha
  split at ha
  · obtain ⟨b, hb, rfl⟩ := Option.map_eq_some_iff.1 ha
    exact h b hb
  · exact h a ha

theorem State.freezeIf_none {s : State} (h : ∀ a, s.sch.active = some a → a.freezeDue = false) (cls : Bool) : s.freezeIf cls = s := by
  have hd : s.freezeIsDue = false := by
    unfold State.freezeIsDue
    cases ha : s.sch.active with
    | none => rfl
    | some a => exact h a ha
  rw [State.freezeIf, hd, Bool.and_false]
  rfl

/-- No circuit that commits at a plain epoch has an end waiting for it. -/
theorem State.OpenedFrom.after_none {s o : State} {tr : Trans} {l : List (Nat × Ctx)} {cls : Bool} {e : Nat}
    (h : (s.after tr).OpenedFrom o tr.lights l cls e) (hw : tr.swap = false) (hs : tr.stage = none) (hn : tr.lights.Nodup)
    (ha : ∀ i, i ∈ tr.lights → (s.ctx i).after = none) : ∀ i, i ∈ tr.lights → (o.ctx i).after = none := by
  intro i hi
  rw [h.ctx, State.holdPrevious_other _ (.inr (.inl hi)), State.after_ctx_self hw hs hn hi]
  exact ha i hi

/-- A plain epoch: begun, its circuits committed, and closed. -/
theorem doEpochCommit_plain {s : State} {cls : Bool} {e : Nat} {tr : Trans} (ht : s.trans cls e = some tr) (hp : tr.phase = 4)
    (hw : tr.swap = false) (hs : tr.stage = none) (hn : tr.lights.Nodup) (ha : ∀ i, i ∈ tr.lights → (s.ctx i).after = none)
    (hf : ∀ a, s.sch.active = some a → a.freezeDue = false) : ∃ o bound mark frozen,
      ((s.advanceTo e).after tr).OpenedFrom o tr.lights (s.closing cls) cls e ∧ o.Commits (o.commitAll tr.dark tr.lights) ∧
      doEpochCommit cls e s = (o.commitAll tr.dark tr.lights).closeEpoch tr cls bound mark frozen e := by
  set u := s.advanceTo e with hu
  have hopen := u.openEpoch_opened tr cls e
  rw [State.takeEffect_plain hw] at hopen
  set o := u.openEpoch tr cls e with ho
  have hcommit : o.Commits (o.commitAll tr.dark tr.lights) := State.commitAll_commits tr.dark (hopen.after_none hw hs hn ha)
  have hlights : o.commitLights tr = o.commitAll tr.dark tr.lights := by
    rw [State.commitLights, hw]
    rfl
  have hmoved : u.movedBy tr = [] := by rw [State.movedBy, hs]
  have hstage (x : State) : x.commitStage tr e = x := by rw [State.commitStage, hs]
  refine ⟨o, tr.swap || (cls && u.slotEpoch e == some 0), u.marks tr, u.isFrozen, hopen, hcommit, ?_⟩
  rw [doEpochCommit_eq ht hp, ← hu, ← ho, hlights, hmoved, State.commitMoves, List.foldl_nil, hstage]
  have hclose := (o.commitAll tr.dark tr.lights).closeEpoch_closes tr cls (tr.swap || (cls && u.slotEpoch e == some 0)) (u.marks tr) u.isFrozen e
  refine State.freezeIf_none (fun a hact => ?_) cls
  have hsch : (o.commitAll tr.dark tr.lights).sch = o.sch := hcommit.touches.same .sch (by decide)
  rw [hclose.sched.active, hsch, hopen.active] at hact
  exact State.activeAfter_noFreeze (s := u) hw hf a hact

/-- The circuits of a plain epoch: those that commit take their placed routes, the lit ones of the slot before are held (R57). -/
theorem plainEpoch_ctx {s o d : State} {tr : Trans} {cls : Bool} {e : Nat} (hw : tr.swap = false) (hs : tr.stage = none)
    (hwf : Tbl.wf s.cir.ctxs = true) (hopen : (s.after tr).OpenedFrom o tr.lights (s.closing cls) cls e)
    (hd : ∀ i, i ∉ tr.lights → d.ctx i = o.ctx i) (i : Nat) (hi : i ∉ tr.lights) :
    if cls = true ∧ (s.ctx i).scheduled = true ∧ (s.ctx i).state = Cs.lit then (d.ctx i).state = Cs.held ∧ (d.ctx i).route = (s.ctx i).route
    else d.ctx i = s.ctx i := by
  have hafter : (s.after tr).ctx i = s.ctx i := State.after_ctx_other hw hs hi
  have hdi : d.ctx i = ((s.after tr).holdPrevious tr.lights (s.closing cls)).ctx i := (hd i hi).trans (hopen.ctx i)
  split
  · rename_i h
    obtain ⟨hcls, hsch, hlit⟩ := h
    have hmem : (i, s.ctx i) ∈ s.closing cls :=
      List.mem_filter.2 ⟨State.mem_ctxs (by rw [hlit]; decide), by simp [hcls, hsch, hlit]⟩
    rw [hdi, State.holdPrevious_route, hafter]
    exact ⟨State.holdPrevious_held _ hi _ (.inl ⟨hafter ▸ hlit, _, hmem, rfl⟩), rfl⟩
  · rename_i h
    rw [hdi, ← hafter]
    refine State.holdPrevious_other _ ?_
    by_cases hlit : (s.ctx i).state = Cs.lit
    · refine .inr (.inr fun x hx hxi => h ?_)
      obtain ⟨hmem, hx⟩ := List.mem_filter.1 hx
      have hc : s.ctx i = x.2 := hxi ▸ State.ctx_of_mem hwf hmem
      simp only [Bool.and_eq_true, beq_iff_eq] at hx
      obtain ⟨⟨-, hsched⟩, hcls⟩ := hx
      exact ⟨hcls, hc ▸ hsched, hlit⟩
    · exact .inl (hafter ▸ hlit)

theorem plainEpochCommit_leaves (s : State) (cls : Bool) (e : Nat) (tr : Trans) (hl : s.Live) (ht : s.trans cls e = some tr)
    (hp : tr.phase = 4) (hw : tr.swap = false) (hs : tr.stage = none) (hwf : Tbl.wf s.cir.ctxs = true) (hn : tr.lights.Nodup)
    (ha : ∀ i, i ∈ tr.lights → (s.ctx i).after = none) (hf : ∀ a, s.sch.active = some a → a.freezeDue = false ∧ a.frozen = none) :
    Leaves (.epochCommit cls e) s fun t =>
      t.t = max s.t (e * 2 ^ 32) ∧ t.trans cls e = none ∧ t.sch.lastE = e ∧
      (∀ i, i ∈ tr.lights → (t.ctx i).state = Cs.lit ∧ (t.ctx i).route = (s.ctx i).placed ∧ (t.ctx i).placed = none ∧
        (t.ctx i).epoch = e % 2 ^ 48 ∧ (t.ctx i).input = (s.ctx i).input ∧
        ∀ r, (s.ctx i).req = some r → s.sessionLive r = true →
          ∃ m, m ∈ t.cmd.outQ ∧ m.kind = .completion ∧ m.final = true ∧ m.reqId = r.reqId ∧ m.code = Code.DONE) ∧
      (∀ i, i ∉ tr.lights →
        if cls = true ∧ (s.ctx i).scheduled = true ∧ (s.ctx i).state = Cs.lit then (t.ctx i).state = Cs.held ∧ (t.ctx i).route = (s.ctx i).route
        else t.ctx i = s.ctx i) ∧
      (cls = false → t.sch.active = s.sch.active ∧ ∀ l, l ∈ t.cir.leaves ↔ l ∈ s.cir.leaves ∧ e < l.e) ∧
      (cls = true → t.cir.leaves = s.cir.leaves ∧
        ∀ a, s.sch.active = some a → ∃ b, t.sch.active = some b ∧ b.entry = a.entry ∧ b.slot = (a.slotAt e).getD a.slot ∧ b.lastE = e) ∧
      t.get (whole (R.EPO_CNT (if cls then 0 else 1))) = satInc 32 (s.get (whole (R.EPO_CNT (if cls then 0 else 1)))) ∧
      t.trv = s.trv ∧ t.svc = s.svc ∧ t.nv = s.nv ∧ t.net = s.net ∧ t.tm = s.tm ∧ t.cal = s.cal ∧ t.thm = s.thm := by
  obtain ⟨hkey, rfl⟩ := State.trans_key ht
  set e := tr.e with he
  set u := s.advanceTo e with hu
  obtain ⟨o, bound, mark, frozen, hopen, hcommit, hstep⟩ := doEpochCommit_plain ht hp hw hs hn ha fun a h => (hf a h).1
  refine leaves_live (doEpochCommit cls e) rfl hl ?_
  rw [hstep]
  set d := o.commitAll tr.dark tr.lights with hd
  have hclose := d.closeEpoch_closes tr cls bound mark frozen e
  have hget := d.closeEpoch_get tr cls bound mark frozen e
  set t := d.closeEpoch tr cls bound mark frozen e with htdef
  have hu' : s.Touches u [.time] [] := .advanceTo s e (.head _)
  have heffect : s.Touches (u.after tr) [.time, .fab, .cir, .sch, .cmd, .frames, .recorder] [] :=
    (hu'.mono (by decide) (by simp)).trans ((u.after_touches tr).mono (by decide) (by simp))
  have ho : s.Touches o [.time, .fab, .cir, .sch, .cmd, .frames, .recorder] [] := heffect.trans (hopen.touches.mono (by decide) (by simp))
  have htouch : s.Touches t [.time, .fab, .cir, .sch, .cmd, .frames, .recorder] (R.CMD_CNT 5 :: (epochCnt cls).addr :: epochRegs) :=
    ((ho.mono (by decide) (by simp)).trans (hcommit.touches.mono (by decide) (by simp))).trans
      (hclose.touches.mono (by decide) (fun _ hr => .tail _ hr))
  have hctx (i : Nat) : t.ctx i = d.ctx i := hclose.steady.ctx i
  have hdo : d.sch = o.sch := hcommit.touches.same .sch (by decide)
  have hactive : t.sch.active = u.activeAfter tr := by
    rw [hclose.sched.active, hdo, hopen.active]
    rfl
  have hleaves : t.cir.leaves = if cls then s.cir.leaves else s.cir.leaves.filter fun x => decide (e < x.e) := by
    rw [hclose.steady.cir, hcommit.leaves, hopen.leaves]
    rfl
  have htime : t.t = u.t := by
    have h1 : (u.after tr).t = u.t := rfl
    have h2 : o.t = _ := hopen.touches.same .time (by decide)
    have h3 : d.t = o.t := hcommit.touches.same .time (by decide)
    rw [hclose.steady.time, h3, h2, h1]
  have htrans : t.trans cls e = none := by
    have hfab : d.fab = o.fab := hcommit.touches.same .fab (by decide)
    rw [State.trans_congr hclose.steady.trans, State.trans_congr (s := o) (by rw [hfab]), hopen.trans]
  refine ⟨htime, htrans, ?_, fun i hi => ?_, fun i hi => ?_, fun hc => ⟨?_, fun l => ?_⟩, fun hc => ⟨?_, fun a hact => ?_⟩, ?_,
    htouch.same .trv (by decide), htouch.same .svc (by decide), htouch.same .nv (by decide), htouch.same .net (by decide),
    htouch.same .tm (by decide), htouch.same .cal (by decide), htouch.same .thm (by decide)⟩
  · rw [hclose.sched.lastE, hdo, hopen.lastE]
  · have hoi : o.ctx i = (s.ctx i).committedAt e := by
      rw [hopen.ctx, State.holdPrevious_other _ (.inr (.inl hi)), State.after_ctx_self (s := u) hw hs hn hi]
      rfl
    refine ⟨?_, ?_, ?_, ?_, ?_, fun r hr hlive => ?_⟩
    · rw [hctx, hcommit.faces.state, hoi]
      rfl
    · rw [hctx, hcommit.faces.route, hoi]
      rfl
    · rw [hctx, hcommit.faces.placed, hoi]
      rfl
    · rw [hctx, hcommit.faces.epoch, hoi]
      rfl
    · rw [hctx, hcommit.faces.input, hoi]
      rfl
    · have hreq : (o.ctx i).req = some r := by
        rw [hoi]
        exact hr
      have hol : o.sessionLive r = true := (hopen.clients.sessionLive r).trans hlive
      exact (State.commitAll_completed tr.dark hn (hopen.after_none hw hs hn ha) hi hreq hol).kept hclose.grow
  · rw [hctx]
    exact plainEpoch_ctx (s := u) hw hs hwf hopen (fun i hi => State.commitAll_other tr.dark (hopen.after_none hw hs hn ha) hi) i hi
  · rw [hactive, State.activeAfter_plain hw, hkey, hc]
    rfl
  · rw [hleaves, hc, if_neg (by decide), List.mem_filter, decide_eq_true_iff]
  · rw [hleaves, hc, if_pos rfl]
  · refine ⟨{ a with slot := (a.slotAt e).getD a.slot, lastE := e, first := false, frozen := none, resumeAt := none }, ?_, rfl, rfl, rfl⟩
    have hua : u.sch.active = some a := hact
    rw [hactive, State.activeAfter_plain hw, hkey, hc, if_pos rfl, hua]
    rfl
  · obtain ⟨-, hev, hcmd⟩ := epochCnt_apart cls
    have hd' : d.get (epochCnt cls) = o.get (epochCnt cls) := hcommit.touches.get (by simpa using hcmd) hev
    have ho' : o.get (epochCnt cls) = s.get (epochCnt cls) := ho.get (by simp) hev
    rw [hd', ho'] at hget
    exact hget

end Sys2Proof.Machine
end

section
/-!
PROOFS. A stage commits at E (R206): its moved circuits, the progress of the traverse, and a freeze that waited for the transition.
-/
namespace Sys2Proof.Machine

/-! ## The progress of a traverse -/

/-- What the progress of a traverse without a new circuit can do: the journal and the circuits' measures change, and requesters are told. -/
structure State.Advances (s t : State) : Prop where
  touches : s.Touches t [.cir, .sch, .trv, .cmd, .frames, .recorder] [R.TRV_CNT 0, R.TRV_CNT 2, R.CMD_CNT 5]
  faces : s.SameFaces t

namespace State.Advances

theorem refl (s : State) : s.Advances s := ⟨.refl s _ _, .refl s⟩

theorem comp {a b c : State} (h : a.Advances b) (g : b.Advances c) : a.Advances c := ⟨h.touches.trans g.touches, h.faces.comp g.faces⟩

theorem foldl {α : Type} {f : State → α → State} (h : ∀ (s : State) a, s.Advances (f s a)) (l : List α) (s : State) :
    s.Advances (l.foldl f s) :=
  List.foldlRecOn l f (motive := s.Advances) (refl s) fun t ht a _ => ht.comp (h t a)

theorem with_trv (s : State) (x : TrvSt) : s.Advances { s with trv := x } := ⟨.with_trv s x (by decide), .ofCir rfl⟩

theorem setHead (s : State) (t : Trav) : s.Advances (s.setHead t) := by
  unfold State.setHead
  split
  · exact .refl s
  · exact .with_trv s _

theorem count (s : State) (f : Fld) (h : f.addr ∈ [R.TRV_CNT 0, R.TRV_CNT 2, R.CMD_CNT 5]) : s.Advances (s.count f) :=
  ⟨.count s f h, .ofSteady (s.count_steady f)⟩

theorem raise (s : State) (o : Occ) (h : o.src < 1536) : s.Advances (s.raise o) :=
  ⟨.raise s o h (by decide) (by decide), .ofSteady (s.raise_steady o)⟩

theorem completeOpt (s : State) (r : Option Requester) (final : Bool) (code : Nat) (params : List Byte) :
    s.Advances (s.completeOpt r final code params) :=
  ⟨(s.completeOpt_touches r final code params).mono (by decide) (by simp), .ofSteady (s.completeOpt_steady r final code params)⟩

theorem ofCommits {s t : State} (h : s.Commits t) : s.Advances t := ⟨h.touches.mono (by decide) (by simp), h.faces⟩

end State.Advances

/-- The circuits of a traverse that has ended are in no traverse. -/
theorem State.leaveTrav_advances (s : State) (id : Nat) (l : List Move) : s.Advances (l.foldl (fun s m =>
    if (s.ctx m.ctx).traverse = some id then s.setCtx m.ctx { s.ctx m.ctx with traverse := none } else s) s) := by
  refine .foldl (fun u m => ?_) l s
  split
  · exact ⟨.with_cir u _ (by decide), .setCtx rfl⟩
  · exact .refl u

/-- The end of a traverse without a new circuit (R207). -/
theorem State.endTrav_advances (s : State) {t : Trav} (hn : t.newCtx = none) (code : Nat) : s.Advances (s.endTrav t code) := by
  unfold State.endTrav
  extract_lets t' _ s1 s2 s3 s4 _ s5 params s6 s7
  have h2 : s1.Advances s2 := by
    unfold s2
    split_ifs
    · exact .count s1 _ (by decide)
    · exact .refl s1
    · exact .count s1 _ (by decide)
  have h3 : s2.Advances s3 := s2.leaveTrav_advances t.id _
  have h4 : s4 = s3 := by simp only [s4, hn]
  have h5 : s3.Advances s5 := h4 ▸ .raise s4 _ (show Ev.traverseEnded < 1536 by decide)
  have h6 : s5.Advances s6 := by
    unfold s6
    split
    · exact .completeOpt s5 _ _ _ _
    · exact .refl s5
  have h7 : s6.Advances s7 := by
    unfold s7
    split
    · exact .refl s6
    · exact .completeOpt s6 _ _ _ _
  have h := (((((State.Advances.with_trv s _).comp h2).comp h3).comp h5).comp h6).comp h7
  split
  · exact h
  · rename_i r _
    split
    · exact (h.comp (.with_trv s7 _)).comp (.completeOpt _ (some r) true Code.DONE params)
    · exact h

theorem State.reverse_advances (s : State) {t : Trav} (hn : t.newCtx = none) (a code : Nat) : s.Advances (s.reverse t a code) := by
  unfold State.reverse
  extract_lets t'
  have hn' : t'.newCtx = none := hn
  split
  · exact s.endTrav_advances hn' code
  · exact .setHead s _

/-! ## A stage that has committed (R206) -/

/-- The head of the journal once its stage `k` has committed. -/
def Trav.stageDone (t : Trav) (k e : Nat) : Trav :=
  { t.setStage k { t.stage k with sstate := if t.back then Ss.reversed else Ss.committed } with
    done := if t.back then t.done - 1 else t.done + 1, commits := t.commits + 1, lastK := t.stages.length, lastE := e }

theorem Trav.stageDone_newCtx {t : Trav} (h : t.newCtx = none) (k e : Nat) : (t.stageDone k e).newCtx = none :=
  newCtx_setStage k (if t.back then Ss.reversed else Ss.committed) h

/-- What follows the commit of a stage: the end of the traverse, its reversal, or its suspension. -/
def State.goOn (s : State) (t : Trav) : State :=
  if t.remaining.isEmpty then s.endTrav t (if t.back then t.code else Code.DONE)
  else if t.abortDue then s.reverse t s.now Code.TRV_ABORTED
  else if t.suspendDue then s.setHead t.suspend
  else s

/-- The commit of a stage is told, by its event and its progress completion. -/
def State.tellStage (s : State) (t : Trav) (k e : Nat) : State :=
  (s.raise { occ Ev.stageCommitted with tenant := t.tenant }).completeOpt t.progress false Code.DONE
    (travParams t.id (k + 1) t.stages.length e)

theorem State.stageDone_eq {s : State} {t : Trav} {rest : List Trav} (hj : s.trv.journal = t :: rest) (k e : Nat) : s.stageDone k e =
    ((((s.setHead (t.stageDone k e)).count (whole (R.TRV_CNT 3))).tellStage (t.stageDone k e) k e).goOn (t.stageDone k e)) := by
  unfold State.stageDone
  rw [hj]
  rfl

theorem State.goOn_advances (s : State) {t : Trav} (hn : t.newCtx = none) : s.Advances (s.goOn t) := by
  unfold State.goOn
  split_ifs
  · exact s.endTrav_advances hn _
  · exact s.endTrav_advances hn _
  · exact s.reverse_advances hn _ _
  · exact .setHead s _
  · exact .refl s

theorem State.tellStage_advances (s : State) (t : Trav) (k e : Nat) : s.Advances (s.tellStage t k e) :=
  (State.Advances.raise s _ (show Ev.stageCommitted < 1536 by decide)).comp (.completeOpt _ _ _ _ _)

/-- A stage that commits is counted once. -/
theorem State.stageDone_counts {s : State} {t : Trav} {rest : List Trav} (hj : s.trv.journal = t :: rest) (hn : t.newCtx = none) (k e : Nat) :
    ∃ x, s.Advances x ∧ (x.count (whole (R.TRV_CNT 3))).Advances (s.stageDone k e) := by
  rw [State.stageDone_eq hj]
  exact ⟨s.setHead (t.stageDone k e), .setHead s _,
    (State.tellStage_advances _ _ k e).comp (State.goOn_advances _ (Trav.stageDone_newCtx hn k e))⟩

theorem State.stageDone_reads {s : State} {t : Trav} {rest : List Trav} (hj : s.trv.journal = t :: rest) (hn : t.newCtx = none) (k e : Nat) :
    s.SameFaces (s.stageDone k e) ∧ (s.stageDone k e).fab = s.fab ∧
    (s.stageDone k e).get (whole (R.TRV_CNT 3)) = satInc 32 (s.get (whole (R.TRV_CNT 3))) := by
  obtain ⟨x, h1, h2⟩ := State.stageDone_counts hj hn k e
  have hx : x.fab = s.fab := h1.touches.same .fab (by decide)
  have hy : (s.stageDone k e).fab = x.fab := h2.touches.same .fab (by decide)
  have hcount : (x.count (whole (R.TRV_CNT 3))).get (whole (R.TRV_CNT 3)) = satInc 32 (x.get (whole (R.TRV_CNT 3))) :=
    State.get_count_self x _ (whole_ok _)
  refine ⟨(h1.faces.comp (.ofSteady (x.count_steady _))).comp h2.faces, hy.trans hx, ?_⟩
  rw [h2.touches.get (by decide) (by decide), hcount, h1.touches.get (by decide) (by decide)]

/-! ## Circuits moved (R206) -/

theorem State.commitMove_advances {s : State} {i : Nat} (h : (s.ctx i).after = none) (dark : Bool) :
    s.Advances (s.commitMove dark i) ∧ (s.commitMove dark i).trv = s.trv := by
  have hstale : s.Advances (if (s.ctx i).scheduled then s else s.stalePath (s.ctx i).hops) ∧
      (if (s.ctx i).scheduled then s else s.stalePath (s.ctx i).hops).trv = s.trv := by
    split
    · exact ⟨.refl s, rfl⟩
    · exact ⟨⟨.with_sch s _ (by decide), .ofCir rfl⟩, rfl⟩
  obtain ⟨hadv, htrv⟩ := hstale
  have hcommit := State.committed_commits ((hadv.faces.after i).trans h) dark
  have htrv' : (s.commitMove dark i).trv = _ := hcommit.touches.same .trv (by decide)
  exact ⟨hadv.comp (.ofCommits hcommit), htrv'.trans htrv⟩

theorem State.commitMoves_advances {s : State} (dark : Bool) {l : List Nat} (h : ∀ i, i ∈ l → (s.ctx i).after = none) :
    s.Advances (s.commitMoves dark l) ∧ (s.commitMoves dark l).trv = s.trv :=
  List.foldlRecOn l _ (motive := fun t : State => s.Advances t ∧ t.trv = s.trv) ⟨.refl s, rfl⟩ fun _ ⟨ht, hv⟩ i hi => by
    obtain ⟨hadv, htrv⟩ := State.commitMove_advances ((ht.faces.after i).trans (h i hi)) dark
    exact ⟨ht.comp hadv, htrv.trans hv⟩

/-- A moved circuit as the table holds it from its stage's commit. -/
def Ctx.movedAt (c : Ctx) (r e : Nat) : Ctx := { c.moveTo r e with gen := (c.gen + 1) % 65_536 }

theorem State.ctxsAfter_stage {s : State} {tr : Trans} {k : Nat} {t : Trav} {rest : List Trav} (hw : tr.swap = false) (hs : tr.stage = some k)
    (hl : tr.lights = []) (hj : s.trv.journal = t :: rest) : s.ctxsAfter tr =
      (t.stage k).moved.foldl (fun m x => Tbl.put m x.ctx ((Tbl.getD m x.ctx Ctx.idle).movedAt (t.to x) tr.e)) s.cir.ctxs := by
  unfold State.ctxsAfter
  rw [hw, hs, hl, hj]
  rfl

/-- A moved circuit takes its new route, once. -/
theorem State.after_ctx_moved {s : State} {tr : Trans} {k : Nat} {t : Trav} {rest : List Trav} (hw : tr.swap = false) (hs : tr.stage = some k)
    (hl : tr.lights = []) (hj : s.trv.journal = t :: rest) (hn : ((t.stage k).moved.map (·.ctx)).Nodup) {m : Move}
    (hm : m ∈ (t.stage k).moved) : (s.after tr).ctx m.ctx = (s.ctx m.ctx).movedAt (t.to m) tr.e := by
  rw [State.ctx, State.after, State.ctxsAfter_stage hw hs hl hj]
  exact Tbl.getD_foldl_put (key := Move.ctx) (v := fun x c => c.movedAt (t.to x) tr.e) s.cir.ctxs hn hm

/-! ## A freeze that waited (R161, R185) -/

/-- What a freeze keeps: the circuits stand, and no transition is added. -/
structure State.Freezes (s t : State) : Prop where
  touches : s.Touches t [.fab, .sch, .trv, .recorder, .frames] []
  cir : t.cir = s.cir
  trans : ∀ x, x ∈ t.fab.trans → x ∈ s.fab.trans

theorem State.Freezes.refl (s : State) : s.Freezes s := ⟨.refl s _ _, rfl, fun _ h => h⟩

/-- The active schedule stands at its slot, and the slot epochs under way are given up. -/
def State.stopSchedule (s : State) (a : Active) : State :=
  { s with sch.active := some { a with frozen := some a.slot, freezeDue := false, resumeAt := none },
           fab.trans := s.fab.trans.filter (fun t => !t.slotClass),
           trv.journal := s.trv.journal.map fun (t : Trav) => if t.slotScope then
             { t with stages := t.stages.map fun (g : Stage) => if g.sstate = Ss.inFlight then { g with sstate := if t.back then Ss.committed else Ss.planned } else g }
             else t }

theorem State.stopSchedule_touches (s : State) (a : Active) : s.Touches (s.stopSchedule a) [.fab, .sch, .trv, .recorder, .frames] [] := by
  have hsch : s.Touches { s with sch.active := some { a with frozen := some a.slot, freezeDue := false, resumeAt := none } }
      [.fab, .sch, .trv, .recorder, .frames] [] := .with_sch s _ (by decide)
  exact (hsch.trans (.with_fab _ _ (.head _))).trans (.with_trv _ _ (.tail _ (.tail _ (.head _))))

theorem State.freeze_freezes (s : State) : s.Freezes s.freeze := by
  have hact (a : Active) : s.Freezes { s with sch.active := some a } := ⟨.with_sch s _ (by decide), rfl, fun _ h => h⟩
  unfold State.freeze
  split
  · exact .refl s
  · rename_i a _
    split
    · exact hact _
    · split
      · exact hact _
      · have hr : (s.stopSchedule a).Closes [] ((s.stopSchedule a).rehome.ev Ev.freeze) :=
          (s.stopSchedule a).rehome_closes.comp (.ev _ _ _ _ (by decide))
        exact ⟨(s.stopSchedule_touches a).trans (hr.touches.mono (by decide) (by simp)), hr.steady.cir,
          fun x hx => List.mem_of_mem_filter (hr.steady.trans ▸ hx)⟩

theorem State.freezeIf_freezes (s : State) (cls : Bool) : s.Freezes (s.freezeIf cls) := by
  unfold State.freezeIf
  split
  · exact s.freeze_freezes
  · exact .refl s

theorem State.Freezes.trans_none {s t : State} (h : s.Freezes t) {cls : Bool} {e : Nat} (hn : s.trans cls e = none) : t.trans cls e = none :=
  List.find?_eq_none.2 fun x hx => List.find?_eq_none.1 hn x (h.trans x hx)

/-! ## An epoch that carries a stage -/

/-- An epoch that carries a stage: begun, its moved circuits committed, its stage told, and closed. -/
theorem doEpochCommit_stage {s : State} {cls : Bool} {e k : Nat} {tr : Trans} (ht : s.trans cls e = some tr) (hp : tr.phase = 4)
    (hs : tr.stage = some k) (hl : tr.lights = []) : ∃ bound mark frozen,
      doEpochCommit cls e s = (((((s.advanceTo e).openEpoch tr cls e).commitMoves tr.dark (s.movedBy tr)).stageDone k e).closeEpoch tr cls
        bound mark frozen e).freezeIf cls := by
  set u := s.advanceTo e with hu
  have hlights (o : State) : o.commitLights tr = o := by
    rw [State.commitLights, hl, List.foldl_nil, ite_self]
  have hstage (x : State) : x.commitStage tr e = x.stageDone k e := by rw [State.commitStage, hs]
  refine ⟨tr.swap || (cls && u.slotEpoch e == some 0), u.marks tr, u.isFrozen, ?_⟩
  rw [doEpochCommit_eq ht hp, ← hu, hlights, hstage]
  rfl

/-- The circuits of a stage once its epoch has begun: each on the route it moves to. -/
theorem State.openEpoch_moved {s : State} {cls : Bool} {e k : Nat} {tr : Trans} {h : Trav} {rest : List Trav} (hw : tr.swap = false)
    (hs : tr.stage = some k) (hl : tr.lights = []) (hj : s.trv.journal = h :: rest) (hn : ((h.stage k).moved.map (·.ctx)).Nodup) {m : Move}
    (hm : m ∈ (h.stage k).moved) : (s.openEpoch tr cls e).ctx m.ctx = (s.ctx m.ctx).movedAt (h.to m) tr.e := by
  have hopen := s.openEpoch_opened tr cls e
  rw [State.takeEffect_plain hw] at hopen
  have hafter := State.after_ctx_moved hw hs hl hj hn hm
  have hnot : ((s.after tr).ctx m.ctx).state ≠ Cs.lit := by
    rw [hafter]
    show (if (s.ctx m.ctx).scheduled then Cs.held else Cs.belay) ≠ Cs.lit
    split <;> decide
  rw [hopen.ctx, State.holdPrevious_other _ (.inl hnot), hafter]

theorem stageCommit_leaves (s : State) (cls : Bool) (e k : Nat) (tr : Trans) (h : Trav) (rest : List Trav) (hl : s.Live)
    (ht : s.trans cls e = some tr) (hp : tr.phase = 4) (hw : tr.swap = false) (hs : tr.stage = some k) (hlights : tr.lights = [])
    (hj : s.trv.journal = h :: rest) (hnew : h.newCtx = none) (hn : ((h.stage k).moved.map (·.ctx)).Nodup)
    (ha : ∀ m, m ∈ (h.stage k).moved → (s.ctx m.ctx).after = none) : Leaves (.epochCommit cls e) s fun t =>
      t.trans cls e = none ∧
      (∀ m, m ∈ (h.stage k).moved → (t.ctx m.ctx).route = some (h.to m) ∧
        (t.ctx m.ctx).state = (if (s.ctx m.ctx).scheduled then Cs.held else Cs.belay) ∧ (t.ctx m.ctx).moves = satInc 16 (s.ctx m.ctx).moves) ∧
      t.get (whole (R.TRV_CNT 3)) = satInc 32 (s.get (whole (R.TRV_CNT 3))) := by
  obtain ⟨bound, mark, frozen, hstep⟩ := doEpochCommit_stage ht hp hs hlights
  refine leaves_live (doEpochCommit cls e) rfl hl ?_
  rw [hstep]
  set u := s.advanceTo e with hu
  set o := u.openEpoch tr cls e with ho
  have hopen := u.openEpoch_opened tr cls e
  rw [State.takeEffect_plain hw, ← ho] at hopen
  have hctx (m : Move) (hm : m ∈ (h.stage k).moved) : o.ctx m.ctx = (s.ctx m.ctx).movedAt (h.to m) tr.e :=
    State.openEpoch_moved (s := u) hw hs hlights hj hn hm
  have hmoved : s.movedBy tr = (h.stage k).moved.map Move.ctx := by rw [State.movedBy, hs, hj]
  -- the moved circuits commit
  set d := o.commitMoves tr.dark (s.movedBy tr) with hd
  obtain ⟨hod, hdtrv⟩ : o.Advances d ∧ d.trv = o.trv := State.commitMoves_advances tr.dark fun i hi => by
    rw [hmoved] at hi
    obtain ⟨m, hm, rfl⟩ := List.mem_map.1 hi
    rw [hctx m hm]
    exact ha m hm
  have hafter : u.Touches (u.after tr) [.cir, .sch] [] := u.after_touches tr
  have huo : u.Touches o [.fab, .cir, .sch, .recorder, .frames] [] :=
    (hafter.mono (by decide) (by simp)).trans (hopen.touches.mono (by decide) (by simp))
  have hdj : d.trv.journal = h :: rest := by
    have hotrv : o.trv = u.trv := huo.same .trv (by decide)
    rw [hdtrv, hotrv]
    exact hj
  -- the stage is told, the epoch closed, and a freeze may begin
  obtain ⟨hdx, hxfab, hcount⟩ := State.stageDone_reads hdj hnew k e
  set x := d.stageDone k e with hx
  have hxy := x.closeEpoch_closes tr cls bound mark frozen e
  set y := x.closeEpoch tr cls bound mark frozen e with hy
  have hyt := y.freezeIf_freezes cls
  set t := y.freezeIf cls with htd
  have hface : o.SameFaces t := ((hod.faces.comp hdx).comp (.ofSteady hxy.steady)).comp (.ofCir hyt.cir)
  have hdfab : d.fab = o.fab := hod.touches.same .fab (by decide)
  refine ⟨hyt.trans_none ?_, fun m hm => ⟨?_, ?_, ?_⟩, ?_⟩
  · rw [State.trans_congr hxy.steady.trans, State.trans_congr (s := o) (by rw [hxfab, hdfab]), hopen.trans]
  · rw [hface.route, hctx m hm]
    rfl
  · rw [hface.state, hctx m hm]
    rfl
  · rw [hface.moves, hctx m hm]
    rfl
  · have hpulse : R.TRV_CNT 3 ∉ pulseRegs := pulseRegs_not_mem (.inl (by decide))
    have hregs : R.TRV_CNT 3 ∉ (epochCnt cls).addr :: epochRegs := by
      simp only [epochRegs, List.mem_cons, not_or]
      exact ⟨by cases cls <;> decide, by decide, by decide, hpulse⟩
    have hdo : d.get (whole (R.TRV_CNT 3)) = o.get (whole (R.TRV_CNT 3)) := hod.touches.get (by decide) (by decide)
    have hou : o.get (whole (R.TRV_CNT 3)) = u.get (whole (R.TRV_CNT 3)) := huo.get (by simp) (by decide)
    have hyx : y.get (whole (R.TRV_CNT 3)) = x.get (whole (R.TRV_CNT 3)) := hxy.touches.get hregs (by decide)
    have hty : t.get (whole (R.TRV_CNT 3)) = y.get (whole (R.TRV_CNT 3)) := hyt.touches.get (by simp) (by decide)
    rw [hty, hyx, hcount, hdo, hou]
    rfl

end Sys2Proof.Machine
end

section
/-!
PROOFS. A swap commits at its epoch (R151, R159), and O26.
-/
namespace Sys2Proof.Machine

/-! ## The commit of a swap in its stages -/

/-- The outgoing entry is kept READY with its circuits (R151). -/
def State.keepActive (s : State) : State := match s.sch.active with
  | none => s
  | some a => s.keepOutgoing a.entry

/-- The circuits of the outgoing schedule. -/
def State.outgoing (s : State) : List (Nat × Ctx) := s.cir.ctxs.filter fun x => x.2.scheduled && x.2.state != Cs.idle

/-- What is told of a circuit swapped out (R159). -/
def State.tellOut (s : State) (x : Nat × Ctx) : State :=
  if x.2.waits then s.endLight x.1 Code.TRV_SWAPPED_OUT else s.evCtx Ev.revocation x.1 x.2.tenant 0

def State.tellAllOut (s : State) (out : List (Nat × Ctx)) : State := out.foldl State.tellOut s

/-- A solver goal that concerns the outgoing schedule. -/
def Goal.leavesWith (out : List (Nat × Ctx)) (g : Goal) : Bool := match g with
  | .request i => out.any (·.1 == i)
  | .repair _ sl => sl.isSome

/-- The incoming entry's circuits and schedule take the place of the outgoing ones. -/
def State.enterSwap (s : State) (tr : Trans) (out : List (Nat × Ctx)) : State :=
  { s with cir.ctxs := s.ctxsAfter { tr with stage := none }, sch.active := s.activeAfter tr, sch.swap := none,
           cir.queue := s.cir.queue.filter (fun i => !out.any (·.1 == i)),
           cir.waitRuns := s.cir.waitRuns.filter (fun g => !g.leavesWith out), cir.noRepair := s.cir.noRepair.filter (fun x => x.2.isNone) }

def State.stopRuns (s : State) (out : List (Nat × Ctx)) : State := if s.cir.run.any (fun r => r.goal.leavesWith out) then s.nextRun else s

def State.activate (s : State) (w : Swap) : State := match w.target with
  | none => s
  | some n => s.setEntry n { s.entry n with lstate := Ls.active, circuits := [] }

/-- The circuits of slot 0 that failed their verification are told. -/
def State.tellFailed (s : State) (tr : Trans) : State :=
  (s.cir.ctxs.filter fun x => x.2.scheduled && x.2.state == Cs.failed && x.2.reason == Code.CIR_VERIFY_FAIL && ctxSlot x.1 == 0).foldl
    (fun s x => if tr.lights.contains x.1 then s else s.evCtx Ev.circuitFailed x.1 x.2.tenant Code.CIR_VERIFY_FAIL) s

def State.queuePending (s : State) : State :=
  (s.cir.ctxs.filter fun x => x.2.scheduled && x.2.state == Cs.pending).foldl (fun s x => s.queueUp x.1) s

/-- The swap's registers and its event (R159). -/
def State.countSwap (s : State) : State :=
  (((s.put R.SCHD_SWAP_ARMED 0).put R.SCHD_SWAP_REASON 0).count (whole (R.EPO_CNT 2))).ev Ev.swapCommitted

/-- Latches that no circuit needs are closed, and the swap's request completes. -/
def State.endSwap (s : State) (w : Swap) (ports : List Nat) : State :=
  (s.close (ports.filter fun k => !s.portNeeded 262_144 k)).complete w.req true Code.DONE []

theorem State.commitSwap_eq {s : State} (hj : s.trv.journal = []) (tr : Trans) (w : Swap) : s.commitSwap tr w =
    (((((((s.keepActive.tellAllOut s.outgoing).enterSwap tr s.outgoing).stopRuns s.outgoing).activate w).tellFailed tr).queuePending).countSwap).endSwap
      w (s.outgoing.flatMap fun x => ctxPorts x.1 x.2) := by
  unfold State.commitSwap
  rw [hj]
  rfl

/-! ## What the stages keep -/

/-- Device time, the circuits and the schedule stand. -/
structure State.Rests (s t : State) : Prop where
  time : t.t = s.t
  ctxs : t.cir.ctxs = s.cir.ctxs
  sched : s.KeepsSched t

namespace State.Rests

theorem refl (s : State) : s.Rests s := ⟨rfl, rfl, .refl s⟩

theorem comp {a b c : State} (h : a.Rests b) (g : b.Rests c) : a.Rests c := ⟨g.time.trans h.time, g.ctxs.trans h.ctxs, h.sched.comp g.sched⟩

theorem foldl {α : Type} {f : State → α → State} (h : ∀ (s : State) a, s.Rests (f s a)) (l : List α) (s : State) : s.Rests (l.foldl f s) :=
  List.foldlRecOn l f (motive := s.Rests) (refl s) fun t ht a _ => ht.comp (h t a)

theorem ofTouches {s t : State} {ps : List Part} {rs : List Nat} (h : s.Touches t ps rs) (ht : Part.time ∉ ps) (hc : Part.cir ∉ ps)
    (hs : Part.sch ∉ ps) : s.Rests t := by
  have hcir : t.cir = s.cir := h.same .cir hc
  exact ⟨h.same .time ht, by rw [hcir], .ofEq (h.same .sch hs)⟩

theorem raise (s : State) (o : Occ) (h : o.src < 1536) : s.Rests (s.raise o) :=
  ofTouches (.raise s o (ps := Part.occ) (rs := []) h (by decide) (by decide)) (by decide) (by decide) (by decide)

theorem ofCloses {rs : List Nat} {s t : State} (h : s.Closes rs t) : s.Rests t := ⟨h.steady.time, by rw [h.steady.cir], h.sched⟩

theorem ctx {s t : State} (h : s.Rests t) (i : Nat) : t.ctx i = s.ctx i := by rw [State.ctx, State.ctx, h.ctxs]

end State.Rests

theorem State.startRun_rests (s : State) (g : Goal) : s.Rests (s.startRun g) := by
  unfold State.startRun
  split
  · exact ⟨rfl, rfl, .ofEq rfl⟩
  · exact ⟨rfl, rfl, .ofEq rfl⟩

theorem State.nextRun_rests (s : State) : s.Rests s.nextRun := by
  have hruns (l : List Goal) : s.Rests { s with cir.run := none, cir.waitRuns := l } := ⟨rfl, rfl, .ofEq rfl⟩
  unfold State.nextRun
  dsimp only
  split
  · exact hruns s.cir.waitRuns
  · exact (hruns _).comp (State.startRun_rests _ _)

theorem State.stopRuns_rests (s : State) (out : List (Nat × Ctx)) : s.Rests (s.stopRuns out) := by
  unfold State.stopRuns
  split
  · exact s.nextRun_rests
  · exact .refl s

theorem State.tellFailed_rests (s : State) (tr : Trans) : s.Rests (s.tellFailed tr) := by
  refine .foldl (fun t x => ?_) _ s
  split
  · exact .refl t
  · exact .raise t _ (show Ev.circuitFailed < 1536 by decide)

theorem State.queueUp_rests (s : State) (i : Nat) : s.Rests (s.queueUp i) := ⟨rfl, rfl, .ofEq rfl⟩

theorem State.queuePending_rests (s : State) : s.Rests s.queuePending := .foldl (fun t (x : Nat × Ctx) => t.queueUp_rests x.1) _ s

theorem State.put_rests (s : State) (f : Fld) (v : Nat) : s.Rests (s.put f v) := ⟨rfl, rfl, .ofEq rfl⟩

theorem State.countSwap_rests (s : State) : s.Rests s.countSwap :=
  (((s.put_rests _ _).comp (State.put_rests _ _ _)).comp (State.put_rests _ _ _)).comp
    (.raise _ _ (show Ev.swapCommitted < 1536 by decide))

theorem State.countSwap_reads (s : State) : s.countSwap.flag R.SCHD_SWAP_ARMED = false ∧ s.countSwap.get R.SCHD_SWAP_REASON = 0 := by
  set x := (s.put R.SCHD_SWAP_ARMED 0).put R.SCHD_SWAP_REASON 0 with hx
  have hcount : x.Touches (x.count (whole (R.EPO_CNT 2))) Part.occ [R.EPO_CNT 2] := .count x _ (.head _)
  have h : x.Touches s.countSwap Part.occ [R.EPO_CNT 2] := hcount.trans (.ev _ Ev.swapCommitted _ (by decide) (by decide) (by decide))
  rw [h.flag (by decide) (by decide), h.get (by decide) (by decide), hx, State.flag_put_apart _ _ _ _ (by decide) (by decide) (by decide),
    State.get_put_self _ _ _ (by decide)]
  exact ⟨State.flag_put_zero _ _ (by decide) rfl, rfl⟩

/-- The latches closed and the completion leave circuits, schedule and the swap's registers. -/
theorem State.endSwap_keeps (s : State) (w : Swap) (ports : List Nat) : s.Rests (s.endSwap w ports) ∧
    s.Touches (s.endSwap w ports) [.fab, .cir, .sch, .trv, .cmd, .frames, .recorder] (R.CMD_CNT 5 :: pulseRegs) := by
  have hclose := s.close_closes (ports.filter fun k => !s.portNeeded 262_144 k)
  have hcomp := State.complete_touches (s.close (ports.filter fun k => !s.portNeeded 262_144 k)) w.req true Code.DONE []
  exact ⟨(State.Rests.ofCloses hclose).comp (.ofTouches hcomp (by decide) (by decide) (by decide)),
    (hclose.touches.mono (by decide) fun _ hr => .tail _ hr).trans (hcomp.mono (by decide) (by simp))⟩

/-! ## The outgoing schedule -/

theorem State.keepActive_touches (s : State) : s.Touches s.keepActive [.sch] [] := by
  unfold State.keepActive
  split
  · exact .refl s _ _
  · exact .with_sch s _ (.head _)

theorem State.keepActive_sched (s : State) : s.keepActive.sch.active = s.sch.active ∧ s.keepActive.sch.swap = s.sch.swap := by
  unfold State.keepActive
  split <;> exact ⟨rfl, rfl⟩

theorem State.entry_setEntry_other (s : State) {k j : Nat} (x : LibEntry) (h : j ≠ k) : (s.setEntry k x).entry j = s.entry j :=
  Tbl.getD_set_other _ _ h _

theorem State.keepOutgoing_entry (s : State) (n : Nat) :
    ((s.keepOutgoing n).entry n).lstate = Ls.ready ∧ ((s.keepOutgoing n).entry n).durs = (s.entry n).durs := by
  unfold State.keepOutgoing
  rw [State.entry_setEntry_self]
  exact ⟨rfl, rfl⟩

theorem State.keepOutgoing_entry_other (s : State) {n j : Nat} (h : j ≠ n) : (s.keepOutgoing n).entry j = s.entry j :=
  State.entry_setEntry_other s _ h

/-- The outgoing entry is READY (R151). -/
theorem State.keepActive_ready {s : State} {a : Active} (h : s.sch.active = some a) : (s.keepActive.entry a.entry).lstate = Ls.ready := by
  obtain ⟨hready, -⟩ := s.keepOutgoing_entry a.entry
  rw [State.keepActive, h]
  exact hready

/-- Keeping the outgoing entry changes no entry's durations. -/
theorem State.keepActive_durs (s : State) (n : Nat) : (s.keepActive.entry n).durs = (s.entry n).durs := by
  unfold State.keepActive
  split
  · rfl
  · rename_i a _
    by_cases hn : n = a.entry
    · subst hn
      obtain ⟨-, hdurs⟩ := s.keepOutgoing_entry a.entry
      exact hdurs
    · rw [s.keepOutgoing_entry_other hn]

theorem State.tellOut_touches (s : State) (x : Nat × Ctx) : s.Touches (s.tellOut x) [.cir, .cmd, .frames, .recorder] [R.CMD_CNT 5] := by
  unfold State.tellOut
  split
  · exact (State.Commits.endLight s _ _).touches
  · exact .raise s _ (show Ev.revocation < 1536 by decide) (by decide) (by decide)

theorem State.tellOut_other (s : State) {x : Nat × Ctx} {i : Nat} (h : i ≠ x.1) : (s.tellOut x).ctx i = s.ctx i := by
  unfold State.tellOut
  split
  · exact s.endLight_ctx_other _ h
  · exact (s.raise_steady _).ctx i

theorem State.tellAllOut_touches (s : State) (out : List (Nat × Ctx)) :
    s.Touches (s.tellAllOut out) [.cir, .cmd, .frames, .recorder] [R.CMD_CNT 5] := .foldl (fun t x _ => t.tellOut_touches x) s

theorem State.tellAllOut_other (s : State) {out : List (Nat × Ctx)} {i : Nat} (h : ∀ x, x ∈ out → i ≠ x.1) :
    (s.tellAllOut out).ctx i = s.ctx i :=
  List.foldlRecOn out _ (motive := fun t : State => t.ctx i = s.ctx i) rfl fun t ht x hx => (t.tellOut_other (h x hx)).trans ht

/-- In a canonical table only scheduled circuits are listed as outgoing. -/
theorem State.outgoing_other {s : State} (hwf : Tbl.wf s.cir.ctxs = true) {i : Nat} (h : (s.ctx i).scheduled = false) {x : Nat × Ctx}
    (hx : x ∈ s.outgoing) : i ≠ x.1 := by
  rintro rfl
  obtain ⟨hmem, hx⟩ := List.mem_filter.1 hx
  rw [State.ctx_of_mem hwf hmem] at h
  simp [h] at hx

/-! ## The incoming schedule -/

theorem SchCir.enter_scheduled (x : SchCir) (entry e : Nat) (durs : List Nat) (lights : List Nat) (old : Ctx) :
    (x.enter entry e durs lights old).scheduled = true := by
  unfold SchCir.enter
  extract_lets i base
  split
  · rfl
  · split
    · rfl
    · split
      · rfl
      · split <;> rfl

/-- A circuit of the outgoing schedule reads IDLE (R51). -/
def Ctx.swappedOut (c : Ctx) : Ctx := if c.scheduled then { Ctx.idle with gen := (c.gen + 1) % 65_536 } else c

theorem Tbl.look_swappedOut (m : Tbl Ctx) (i : Nat) :
    Tbl.look (m.map fun x => (x.1, x.2.swappedOut)) i = (Tbl.look m i).map Ctx.swappedOut := by
  induction m with
  | nil => rfl
  | cons a m ih =>
    obtain ⟨j, c⟩ := a
    simp only [List.map_cons, Tbl.look]
    split
    · rfl
    · exact ih

/-- A circuit outside the schedule stands, unless the incoming entry has one of its index. -/
theorem State.swapCtxs_unscheduled {s : State} {i : Nat} (h : (s.ctx i).scheduled = false) (w : Swap) (lights : List Nat) :
    Tbl.getD (s.swapCtxs w lights) i Ctx.idle = s.ctx i ∨ (Tbl.getD (s.swapCtxs w lights) i Ctx.idle).scheduled = true := by
  set kept := s.cir.ctxs.map fun x => (x.1, x.2.swappedOut) with hk
  have hkept : Tbl.getD kept i Ctx.idle = s.ctx i := by
    rw [Tbl.getD, hk, Tbl.look_swappedOut, State.ctx, Tbl.getD]
    cases hi : Tbl.look s.cir.ctxs i with
    | none => rfl
    | some c =>
      have hc : c.scheduled = false := by
        rw [State.ctx, Tbl.getD, hi] at h
        exact h
      simp [Ctx.swappedOut, hc]
  have hmap : (s.cir.ctxs.map fun x => if x.2.scheduled then (x.1, { Ctx.idle with gen := (x.2.gen + 1) % 65_536 }) else x) = kept := by
    refine List.map_congr_left fun x _ => ?_
    unfold Ctx.swappedOut
    split <;> rfl
  unfold State.swapCtxs
  rw [hmap]
  dsimp only
  split
  · exact .inl hkept
  · refine List.foldlRecOn _ _ (motive := fun m : Tbl Ctx => Tbl.getD m i Ctx.idle = s.ctx i ∨ (Tbl.getD m i Ctx.idle).scheduled = true)
      (.inl hkept) fun m hm c _ => ?_
    by_cases hi : i = c.rec_.output * 256 + c.slot
    · rw [← hi, Tbl.getD, Tbl.look_put_self]
      exact .inr (c.enter_scheduled ..)
    · rw [Tbl.getD, Tbl.look_put_other _ hi]
      exact hm

theorem State.ctxsAfter_swap {s : State} {tr : Trans} {w : Swap} (ht : tr.swap = true) (hw : s.sch.swap = some w) :
    s.ctxsAfter { tr with stage := none } = s.swapCtxs w tr.lights := by
  unfold State.ctxsAfter
  simp only [ht, hw]

theorem State.activeAfter_swap {s : State} {tr : Trans} {w : Swap} {n : Nat} (ht : tr.swap = true) (hw : s.sch.swap = some w)
    (hn : w.target = some n) : s.activeAfter tr = some
      { entry := n, durs := (s.entry n).durs, start := w.esw, slot := 0, lastE := w.esw, first := false, frozen := none,
        freezeDue := s.freezeIsDue, resumeAt := none } := by
  unfold State.activeAfter
  rw [ht, hw]
  dsimp only
  rw [hn]
  rfl

/-! ## The commit of a swap as a whole -/

/-- The schedule that a swap makes active from its start (R159). -/
def Swap.activates (w : Swap) (n : Nat) (durs : List Nat) : Active :=
  { entry := n, durs := durs, start := w.esw, slot := 0, lastE := w.esw, first := false, frozen := none, freezeDue := false, resumeAt := none }

/-- What a swap leaves from its commit (R151, R159). -/
structure State.SwapCommitted (s t : State) (w : Swap) (n : Nat) : Prop where
  time : t.t = s.t
  swap : t.sch.swap = none
  armed : t.flag R.SCHD_SWAP_ARMED = false
  reason : t.get R.SCHD_SWAP_REASON = 0
  entry : (t.entry n).lstate = Ls.active
  active : t.sch.active = some (w.activates n (s.entry n).durs)
  ready : ∀ a, s.sch.active = some a → a.entry ≠ n → (t.entry a.entry).lstate = Ls.ready
  ctx : ∀ i, (s.ctx i).scheduled = false → t.ctx i = s.ctx i ∨ (t.ctx i).scheduled = true

theorem State.commitSwap_committed {s : State} {tr : Trans} {w : Swap} {n : Nat} (hj : s.trv.journal = []) (hw : s.sch.swap = some w)
    (htr : tr.swap = true) (hn : w.target = some n) (hwf : Tbl.wf s.cir.ctxs = true)
    (hf : ∀ a, s.sch.active = some a → a.freezeDue = false) : s.SwapCommitted (s.commitSwap tr w) w n := by
  rw [State.commitSwap_eq hj]
  -- the outgoing schedule is kept and told
  set a := s.keepActive with ha
  set b := a.tellAllOut s.outgoing with hb
  have hsa : s.Touches a [.sch] [] := s.keepActive_touches
  have hab : a.Touches b [.cir, .cmd, .frames, .recorder] [R.CMD_CNT 5] := a.tellAllOut_touches s.outgoing
  have hbsch : b.sch = a.sch := hab.same .sch (by decide)
  obtain ⟨haact, haswap⟩ := s.keepActive_sched
  have hbw : b.sch.swap = some w := by rw [hbsch, haswap, hw]
  have hbtime : b.t = s.t := by
    have h1 : b.t = a.t := hab.same .time (by decide)
    have h2 : a.t = s.t := hsa.same .time (by decide)
    rw [h1, h2]
  have hbentry (j : Nat) : b.entry j = a.entry j := by rw [State.entry, State.entry, hbsch]
  have hbctx (i : Nat) (hi : (s.ctx i).scheduled = false) : b.ctx i = s.ctx i := by
    have hcir : a.cir = s.cir := hsa.same .cir (by decide)
    rw [a.tellAllOut_other fun x hx => State.outgoing_other hwf hi hx, State.ctx, hcir]
    rfl
  have hbfreeze : b.freezeIsDue = false := by
    unfold State.freezeIsDue
    rw [hbsch, haact]
    cases hact : s.sch.active with
    | none => rfl
    | some x => exact hf x hact
  -- the incoming one takes its place
  set c := b.enterSwap tr s.outgoing with hc
  have hcact : c.sch.active = some (w.activates n (s.entry n).durs) := by
    have h : c.sch.active = b.activeAfter tr := rfl
    rw [h, State.activeAfter_swap htr hbw hn, hbfreeze, hbentry, s.keepActive_durs]
    rfl
  have hcctx (i : Nat) (hi : (s.ctx i).scheduled = false) : c.ctx i = s.ctx i ∨ (c.ctx i).scheduled = true := by
    have h : c.ctx i = Tbl.getD (b.swapCtxs w tr.lights) i Ctx.idle := by
      rw [State.ctx, hc, State.enterSwap, State.ctxsAfter_swap htr hbw]
    rw [h, ← hbctx i hi]
    exact State.swapCtxs_unscheduled (by rw [hbctx i hi, hi]) w tr.lights
  set d := c.stopRuns s.outgoing with hd
  have hcd : c.Rests d := c.stopRuns_rests s.outgoing
  have hdentry (j : Nat) : d.entry j = a.entry j := (hcd.sched.entry j).trans (hbentry j)
  set f := d.activate w with hfdef
  have hfeq : f = d.setEntry n { d.entry n with lstate := Ls.active, circuits := [] } := by rw [hfdef, State.activate, hn]
  -- what follows leaves the schedule and the circuits
  set g := (f.tellFailed tr).queuePending with hg
  have hfg : f.Rests g := (f.tellFailed_rests tr).comp (State.queuePending_rests _)
  obtain ⟨hrest, hregs⟩ := g.countSwap.endSwap_keeps w (s.outgoing.flatMap fun x => ctxPorts x.1 x.2)
  obtain ⟨harmed, hreason⟩ := g.countSwap_reads
  have hft := (hfg.comp g.countSwap_rests).comp hrest
  set t := g.countSwap.endSwap w (s.outgoing.flatMap fun x => ctxPorts x.1 x.2) with ht
  have hfctx (i : Nat) : f.ctx i = c.ctx i := by
    rw [hfeq, ← hcd.ctx]
    rfl
  refine ⟨?_, ?_, ?_, ?_, ?_, ?_, fun x hx hne => ?_, fun i hi => ?_⟩
  · rw [hft.time, hfeq]
    exact hcd.time.trans hbtime
  · rw [hft.sched.swap, hfeq]
    exact hcd.sched.swap
  · rw [State.flag, schdSwap_kept hregs rfl]
    exact harmed
  · rw [schdSwap_kept hregs rfl, hreason]
  · rw [hft.sched.entry, hfeq, State.entry_setEntry_self]
  · rw [hft.sched.active, hfeq]
    exact hcd.sched.active.trans hcact
  · rw [hft.sched.entry, hfeq, State.entry_setEntry_other _ _ hne, hdentry]
    exact State.keepActive_ready hx
  · rw [hft.ctx, hfctx]
    exact hcctx i hi

/-! ## The epoch of a swap -/

/-- An epoch that carries a swap: begun and closed. -/
theorem doEpochCommit_swap {s : State} {cls : Bool} {e : Nat} {tr : Trans} (ht : s.trans cls e = some tr) (hp : tr.phase = 4)
    (hw : tr.swap = true) (hs : tr.stage = none) : ∃ bound mark frozen,
      doEpochCommit cls e s = (((s.advanceTo e).openEpoch tr cls e).closeEpoch tr cls bound mark frozen e).freezeIf cls := by
  set u := s.advanceTo e with hu
  have hlights (o : State) : o.commitLights tr = o := if_pos hw
  have hmoved : u.movedBy tr = [] := by rw [State.movedBy, hs]
  have hstage (x : State) : x.commitStage tr e = x := by rw [State.commitStage, hs]
  refine ⟨tr.swap || (cls && u.slotEpoch e == some 0), u.marks tr, u.isFrozen, ?_⟩
  rw [doEpochCommit_eq ht hp, ← hu, hlights, hmoved, State.commitMoves, List.foldl_nil, hstage]

theorem swapCommit_leaves (s : State) (w : Swap) (n : Nat) (tr : Trans) (hl : s.Live) (hw : s.sch.swap = some w)
    (ht : s.trans true w.esw = some tr) (hp : tr.phase = 4) (htr : tr.swap = true) (hs : tr.stage = none) (hn : w.target = some n)
    (hj : s.trv.journal = []) (hwf : Tbl.wf s.cir.ctxs = true) (hf : ∀ a, s.sch.active = some a → a.freezeDue = false) :
    Leaves (.epochCommit true w.esw) s fun t =>
      t.t = max s.t (w.esw * 2 ^ 32) ∧ t.sch.swap = none ∧ t.flag R.SCHD_SWAP_ARMED = false ∧ t.get R.SCHD_SWAP_REASON = 0 ∧
      (t.entry n).lstate = Ls.active ∧
      (∃ b, t.sch.active = some b ∧ b.entry = n ∧ b.durs = (s.entry n).durs ∧ b.start = w.esw ∧ b.slot = 0 ∧ b.frozen = none) ∧
      (∀ a, s.sch.active = some a → a.entry ≠ n → (t.entry a.entry).lstate = Ls.ready) ∧
      ∀ i, (s.ctx i).scheduled = false → t.ctx i = s.ctx i ∨ (t.ctx i).scheduled = true := by
  obtain ⟨bound, mark, frozen, hstep⟩ := doEpochCommit_swap ht hp htr hs
  refine leaves_live (doEpochCommit true w.esw) rfl hl ?_
  rw [hstep]
  set u := s.advanceTo w.esw with hu
  have hcommit : u.SwapCommitted (u.commitSwap tr w) w n := State.commitSwap_committed (s := u) hj hw htr hn hwf hf
  have hopen := u.openEpoch_opened tr true w.esw
  have heffect : u.takeEffect tr = u.commitSwap tr w := by
    have huw : u.sch.swap = some w := hw
    rw [State.takeEffect, htr, huw]
  rw [heffect] at hopen
  set a := u.commitSwap tr w with ha
  set o := u.openEpoch tr true w.esw with ho
  have hclose := o.closeEpoch_closes tr true bound mark frozen w.esw
  set t := o.closeEpoch tr true bound mark frozen w.esw with htd
  have hactive : t.sch.active = some (w.activates n (s.entry n).durs) := by
    rw [hclose.sched.active, hopen.active, hcommit.active]
    rfl
  have hentry (j : Nat) : t.entry j = a.entry j := by
    rw [hclose.sched.entry, State.entry, State.entry, hopen.lib]
  have hreg {f : Fld} (hfr : f.addr = R.SCHD_SWAP) : t.get f = a.get f := by
    have hp : R.SCHD_SWAP ∉ pulseRegs := pulseRegs_not_mem (.inl (by decide))
    have hregs : R.SCHD_SWAP ∉ (epochCnt true).addr :: epochRegs := by
      simp only [epochRegs, List.mem_cons, not_or]
      exact ⟨by decide, by decide, by decide, hp⟩
    rw [hclose.touches.get (by rw [hfr]; exact hregs) (by rw [hfr]; decide), hopen.touches.get (by simp) (by rw [hfr]; decide)]
  have hnofreeze : t.freezeIf true = t := State.freezeIf_none (fun x hx => by
    rw [hactive] at hx
    cases hx
    rfl) true
  rw [hnofreeze]
  refine ⟨?_, ?_, ?_, ?_, ?_, ⟨w.activates n (s.entry n).durs, hactive, rfl, rfl, rfl, rfl, rfl⟩, fun x hx hne => ?_, fun i hi => ?_⟩
  · have hoa : o.t = a.t := hopen.touches.same .time (by decide)
    rw [hclose.steady.time, hoa, hcommit.time]
    rfl
  · rw [hclose.sched.swap, hopen.swap, hcommit.swap]
  · rw [State.flag, hreg rfl]
    exact hcommit.armed
  · rw [hreg rfl, hcommit.reason]
  · rw [hentry, hcommit.entry]
  · rw [hentry]
    exact hcommit.ready x hx hne
  · have hnot (x : Nat × Ctx) (hx : x ∈ u.closing true) : x.1 ≠ i := by
      rintro rfl
      obtain ⟨hmem, hx⟩ := List.mem_filter.1 hx
      rw [State.ctx_of_mem hwf hmem] at hi
      simp [hi] at hx
    have hti : t.ctx i = a.ctx i := by
      rw [hclose.steady.ctx, hopen.ctx, State.holdPrevious_other _ (.inr (.inr hnot))]
    rw [hti]
    exact hcommit.ctx i hi

/-- Settles O26: a plain epoch, one that carries a stage, and one that carries a swap. -/
theorem circuitsStagesAndSwapsCommitAtTheEpoch : Obligations.CircuitsStagesAndSwapsCommitAtTheEpoch :=
  ⟨plainEpochCommit_leaves, stageCommit_leaves, swapCommit_leaves⟩

end Sys2Proof.Machine
end

section
/-!
PROOFS. Status bits and pins after every step (R122, R132, R168, R216, R352, R453, R486), and O60.
-/
namespace Sys2Proof.Machine

/-! ## What the outputs show -/

theorem State.showGlb_reads (s : State) : s.showGlb.flag R.GLB_STS_BIVOUAC = (!s.svc.causes.isEmpty) ∧
    s.showGlb.get R.GLB_STS_CAUSE = s.svc.causes.headD 0 % 8 ∧ s.showGlb.flag R.GLB_STS_HOLDOVER = !s.svc.holdover.isEmpty := by
  unfold State.showGlb
  refine ⟨?_, ?_, State.flag_put_self _ _ _ (by decide) rfl⟩
  · rw [State.flag_put_apart _ _ _ _ (by decide) (by decide) (by decide), State.flag_put_apart _ _ _ _ (by decide) (by decide) (by decide),
      State.flag_put_self _ _ _ (by decide) rfl]
  · rw [State.get_put_apart _ _ _ _ (by decide) (by decide) (by decide), State.get_put_self _ _ _ (by decide)]
    rfl

theorem State.showGlb_touches (s : State) : s.Touches s.showGlb [] [R.GLB_STS] :=
  .trans (.put _ _ _ (by decide)) (.trans (.put _ _ _ (by decide)) (.put _ _ _ (by decide)))

/-- The pulses that have ended, the bits of `GLB_STS`, and RUNNING: all that is shown before ALERT. -/
def State.showStatus (s : State) : State := s.showPulses.showGlb.put R.TIME_STS_RUNNING (b2n s.engineRuns)

theorem State.showStatus_touches (s : State) : s.showPulses.Touches s.showStatus [] [R.GLB_STS, R.TIME_STS] :=
  (s.showPulses.showGlb_touches.mono (by simp) (by decide)).trans (.put _ _ _ (by decide))

theorem State.showStatus_glb (s : State) {f : Fld} (h : f.addr = R.GLB_STS) : s.showStatus.get f = s.showPulses.showGlb.get f := by
  rw [State.get, State.get, State.showStatus, State.rd_put_other _ _ _ (by rw [h]; decide)]

theorem State.showAlert_eq (s : State) :
    ∃ l : List Nat, s.showAlert = { s with cmd.msixAlert := l }.put R.EVT_STS_ALERT (b2n s.alertDue) := by
  unfold State.showAlert
  split
  case isTrue h =>
    rw [Bool.and_eq_true] at h
    exact ⟨_, by rw [h.1]; rfl⟩
  case isFalse => exact ⟨s.cmd.msixAlert, rfl⟩

theorem State.showAlert_touches (s : State) : s.Touches s.showAlert [.cmd, .frames] [R.EVT_STS] := by
  obtain ⟨l, hl⟩ := s.showAlert_eq
  rw [hl]
  exact .trans (.with_cmd s _ (by decide) (by decide)) (.put _ _ _ (by decide))

theorem State.showAlert_get (s : State) {f : Fld} (h : f.addr = R.GLB_STS ∨ f.addr = R.TIME_STS) : s.showAlert.get f = s.get f :=
  s.showAlert_touches.get (by rcases h with h | h <;> rw [h] <;> decide) (by rcases h with h | h <;> rw [h] <;> decide)

theorem State.showAlert_alert (s : State) : s.showAlert.flag R.EVT_STS_ALERT = s.showAlert.alertDue := by
  obtain ⟨l, hl⟩ := s.showAlert_eq
  rw [hl, State.flag_put_self _ _ _ (by decide) rfl, State.alertDue_put _ _ _ (by decide)]
  rfl

theorem State.showPulses_get (s : State) (f : Fld) : s.showPulses.get f = s.get f := rfl

theorem State.show_touches (s : State) : s.showPulses.Touches s.show [.cmd, .frames] [R.GLB_STS, R.TIME_STS, R.EVT_STS] :=
  (s.showStatus_touches.mono (by simp) (by decide)).trans (s.showStatus.showAlert_touches.mono (by simp) (by decide))

theorem State.show_svc (s : State) : s.show.svc = s.svc := s.show_touches.same .svc (by decide)

theorem State.show_now (s : State) : s.show.now = s.now := congrArg (· / 2 ^ 32) (s.show_touches.same .time (by decide))

theorem State.show_engineRuns (s : State) : s.show.engineRuns = s.engineRuns := by
  have hsch : s.show.sch = s.sch := s.show_touches.same .sch (by decide)
  have hcir : s.show.cir = s.cir := s.show_touches.same .cir (by decide)
  have htrv : s.show.trv = s.trv := s.show_touches.same .trv (by decide)
  simp only [State.engineRuns, State.persWaits, hsch, hcir, htrv]

theorem State.show_glb (s : State) {f : Fld} (h : f.addr = R.GLB_STS) : s.show.get f = s.showPulses.showGlb.get f :=
  (s.showStatus.showAlert_get (.inl h)).trans (s.showStatus_glb h)

theorem State.show_running (s : State) : s.show.flag R.TIME_STS_RUNNING = s.engineRuns := by
  rw [State.flag, State.show, State.showAlert_get _ (.inr rfl)]
  exact State.flag_put_self _ _ _ (by decide) rfl

theorem State.show_valid (s : State) : s.show.flag R.TIME_STS_VALID = s.flag R.TIME_STS_VALID := by
  rw [State.flag, State.show, State.showAlert_get _ (.inr rfl), State.get_put_apart _ _ _ _ (by decide) (by decide) (by decide),
    s.showPulses.showGlb_touches.get (by decide) (by decide)]
  rfl

/-! ## Agreement -/

theorem State.show_pps (s : State) (n : Nat) (h : s.show.tm.ppsHighUntil = some n) :
    s.now < n ∧ s.ctrlUp = true ∧ s.flag R.TIME_PPS_CFG_OUT_EN = true ∧ s.flag R.TIME_STS_VALID = true := by
  have htm : s.show.tm = s.showPulses.tm := s.show_touches.same .tm (by decide)
  rw [htm, State.showPulses, Option.filter_eq_some_iff] at h
  obtain ⟨-, h⟩ := h
  simp only [Bool.and_eq_true, decide_eq_true_eq] at h
  obtain ⟨⟨⟨hup, hen⟩, hvalid⟩, hnow⟩ := h
  exact ⟨hnow, hup, hen, hvalid⟩

theorem State.show_fab (s : State) : s.show.fab = s.showPulses.fab := s.show_touches.same .fab (by decide)

/-- The outputs follow the state, whatever it is. -/
theorem State.show_pinsAgree (s : State) : s.show.PinsAgree := by
  obtain ⟨hbiv, hcause, hhold⟩ := s.showPulses.showGlb_reads
  refine ⟨?bivouac, ?cause, ?holdover, ?running, s.showStatus.showAlert_alert, fun n hn => ?pps, fun x hx => ?epochOut, fun x hx => ?syncOut⟩
  case bivouac => rw [State.flag, s.show_glb rfl, s.show_svc]; exact hbiv
  case cause => rw [s.show_glb rfl, s.show_svc]; exact hcause
  case holdover => rw [State.flag, s.show_glb rfl, s.show_svc]; exact hhold
  case running => rw [s.show_running, s.show_engineRuns]
  case pps =>
    obtain ⟨hnow, hup, hen, hvalid⟩ := s.show_pps n hn
    refine ⟨by rwa [s.show_now], by rwa [State.ctrlUp, s.show_svc], ?_, by rwa [s.show_valid]⟩
    rw [s.show_touches.flag (by decide) (by decide)]
    exact hen
  case epochOut =>
    rw [s.show_fab] at hx
    rw [s.show_now]
    exact of_decide_eq_true (Option.filter_eq_some_iff.1 hx).2
  case syncOut =>
    rw [s.show_fab] at hx
    rw [s.show_now]
    exact of_decide_eq_true (Option.filter_eq_some_iff.1 hx).2

/-! ## Every step -/

/-- Every command runs an effect, which `State.settle` follows. -/
theorem exec_run (i : Instr) : ∃ f : State → State, ∀ s, exec i s = run f s := by
  cases i <;> exact ⟨_, fun _ => rfl⟩

/-- A step ends by showing the state that it leaves. -/
theorem step_shows {s t : State} (h : step s = .next t) : ∃ u : State, t = u.show := by
  have hrun : ∃ (f : State → State) (u : State), step s = run f u := by
    unfold step
    split
    case h_1 => exact ⟨_, _, rfl⟩
    case h_2 c rest _ =>
      obtain ⟨f, hf⟩ := exec_run c
      exact ⟨f, _, hf _⟩
  obtain ⟨f, u, hfu⟩ := hrun
  rw [hfu, run] at h
  cases h
  exact ⟨_, rfl⟩

/-- Settles O60: every step ends in `State.show`, and what that leaves agrees. -/
theorem statusBitsAndPinsAlwaysAgree : Obligations.StatusBitsAndPinsAlwaysAgree := by
  intro s t h
  obtain ⟨u, rfl⟩ := step_shows h
  exact u.show_pinsAgree

end Sys2Proof.Machine
end

section
/-!
PROOFS. TIME writes and the increment in force (R117, R121), phase steps armed and discarded (R122, R123), and O1.
-/
namespace Sys2Proof.Machine

/-! ## Accepted and refused TIME writes -/

theorem State.timeTaken_refuse (s : State) : s.timeTaken.get R.TIME_STS_REFUSE = 0 := State.get_put_self _ _ _ (by decide)

theorem State.timeTaken_touches (s : State) {ps : List Part} {rs : List Nat} (h : R.TIME_STS ∈ rs) : s.Touches s.timeTaken ps rs :=
  .put _ _ _ h

theorem State.timeTaken_flag (s : State) {f : Fld} (h : f.ok) (hf : f.addr ≠ R.TIME_STS ∨ f.hi < 16) : s.timeTaken.flag f = s.flag f := by
  refine State.flag_put_apart _ _ _ _ (by decide) h ?_
  rcases hf with hf | hf
  · exact .inl hf
  · exact .inr (.inr hf)

theorem State.timeRefuse_refuse (s : State) {code : Nat} (h : code < 2 ^ 16) : (s.timeRefuse code).get R.TIME_STS_REFUSE = code := by
  rw [State.timeRefuse, State.get_refuse _ _ _ _ (by decide) (by decide) (by decide)]
  exact Nat.mod_eq_of_lt h

theorem State.timeRefuse_touches (s : State) (code : Nat) {ps : List Part} {rs : List Nat} (h1 : Part.recorder ∈ ps) (h2 : Part.frames ∈ ps)
    (h : R.TIME_STS ∈ rs) : s.Touches (s.timeRefuse code) ps rs := .refuse _ _ _ _ (by decide) h1 h2 h

theorem State.timeRefuse_tm (s : State) (code : Nat) : (s.timeRefuse code).tm = s.tm :=
  (s.timeRefuse_touches code (ps := Part.occ) (rs := [R.TIME_STS]) (by decide) (by decide) (by decide)).same .tm (by decide)

/-! ## The increment (R117) -/

theorem State.setInc_touches (s : State) (v : Nat) : s.Touches (s.setInc v) [.tm] [R.TIME_INC_HI, R.TIME_INC_LO] :=
  .trans (.with_tm s _ (by decide)) (.trans (.put _ _ _ (by decide)) (.put _ _ _ (by decide)))

theorem State.setInc_tm (s : State) (v : Nat) : (s.setInc v).tm = { s.tm with inc := v } := rfl

theorem State.setInc_words (s : State) (v : Nat) : (s.setInc v).rd R.TIME_INC_HI = BitVec.ofNat 32 (v / 2 ^ 32) ∧
    (s.setInc v).rd R.TIME_INC_LO = BitVec.ofNat 32 (v % 2 ^ 32) := by
  unfold State.setInc
  exact ⟨by rw [State.rd_put_other _ _ _ (by decide), State.rd_put_whole], State.rd_put_whole _ _ _⟩

/-- The increment that a write of `TIME_INC_LO` asks for: the high word held, or the one in force, with the word written. -/
def State.incAsked (s : State) (v : Word) : Nat := (s.tm.heldHi.map BitVec.toNat).getD (s.tm.inc / 2 ^ 32) * 2 ^ 32 + v.toNat

theorem State.incAsked_low (s : State) (v : Word) : BitVec.ofNat 32 (s.incAsked v % 2 ^ 32) = v := by
  apply BitVec.eq_of_toNat_eq
  have hv := v.isLt
  rw [BitVec.toNat_ofNat, Nat.mod_mod, State.incAsked]
  omega

theorem doTimeIncCommit_eq (v : Word) (s : State) : doTimeIncCommit v s =
    if incMin ≤ s.incAsked v ∧ s.incAsked v ≤ incMax then ({ s with tm.heldHi := none }.setInc (s.incAsked v)).timeTaken
    else { s with tm.heldHi := none }.timeRefuse Code.TIM_INC_RANGE := rfl

theorem timeIncCommit_leaves (s : State) (v : Word) (hs : s.Served) : Leaves (.timeIncCommit v) s fun t =>
    let hi := (s.tm.heldHi.map BitVec.toNat).getD (s.tm.inc / 2 ^ 32)
    let inc := hi * 2 ^ 32 + v.toNat
    let ok : Bool := decide (0xFFBE76C9 ≤ inc ∧ inc ≤ 0x100418937)
    t.tm = { s.tm with heldHi := none, inc := if ok then inc else s.tm.inc } ∧
    t.get R.TIME_STS_REFUSE = (if ok then 0 else Code.TIM_INC_RANGE) ∧
    (ok → t.rd R.TIME_INC_HI = BitVec.ofNat 32 (inc / 2 ^ 32) ∧ t.rd R.TIME_INC_LO = v ∧
      s.Touches t [.tm] [R.TIME_INC_HI, R.TIME_INC_LO, R.TIME_STS]) ∧
    (¬ ok → s.Touches t [.tm, .recorder, .frames] [R.TIME_STS]) := by
  refine leaves_bar _ rfl hs ?_
  rw [doTimeIncCommit_eq]
  set u : State := { s with tm.heldHi := none } with hu
  have htu {rs : List Nat} {ps : List Part} (h : Part.tm ∈ ps) : s.Touches u ps rs := .with_tm s _ h
  have htm {n m : Nat} (h : n = m) : { u.tm with inc := n } = { s.tm with heldHi := none, inc := m } := h ▸ rfl
  by_cases hok : incMin ≤ s.incAsked v ∧ s.incAsked v ≤ incMax
  · have hb := decide_eq_true hok
    obtain ⟨hhi, hlo⟩ := u.setInc_words (s.incAsked v)
    set w := u.setInc (s.incAsked v) with hw
    have hrd {a : Nat} (h : a ≠ R.TIME_STS) : w.timeTaken.rd a = w.rd a := State.rd_put_other _ _ _ h
    rw [if_pos hok]
    refine ⟨htm (if_pos hb).symm, w.timeTaken_refuse.trans (if_pos hb).symm, fun _ => ⟨?_, ?_, ?_⟩, fun h => absurd hb h⟩
    · exact (hrd (by decide)).trans hhi
    · exact (hrd (by decide)).trans (hlo.trans (s.incAsked_low v))
    · exact (htu (by decide)).trans (((u.setInc_touches _).mono (by simp) (by decide)).trans (w.timeTaken_touches (by decide)))
  · have hb : ¬ decide (incMin ≤ s.incAsked v ∧ s.incAsked v ≤ incMax) = true := by simpa using hok
    rw [if_neg hok]
    refine ⟨?_, (u.timeRefuse_refuse (by decide)).trans (if_neg hb).symm, fun h => absurd h hb, fun _ => ?_⟩
    · exact (u.timeRefuse_tm _).trans (htm (if_neg hb).symm)
    · exact (htu (by decide)).trans (u.timeRefuse_touches _ (by decide) (by decide) (by decide))

/-! ## VALID (R121, R538) -/

theorem timeCtlWrite_set {v : Word} (hon : asks R.TIME_CTL_VALID_SET v = true) (hoff : asks R.TIME_CTL_VALID_CLR v = false) (s : State) :
    timeCtlWrite v s = (s.put R.TIME_STS_VALID 1).timeTaken := by simp [timeCtlWrite, hon, hoff]

theorem timeCtlWrite_clr {v : Word} (hon : asks R.TIME_CTL_VALID_SET v = false) (hoff : asks R.TIME_CTL_VALID_CLR v = true) (s : State) :
    timeCtlWrite v s = (s.put R.TIME_STS_VALID 0).timeTaken := by simp [timeCtlWrite, hon, hoff]

theorem timeCtlWrite_both {v : Word} (hon : asks R.TIME_CTL_VALID_SET v = true) (hoff : asks R.TIME_CTL_VALID_CLR v = true) (s : State) :
    timeCtlWrite v s = s := by simp [timeCtlWrite, hon, hoff]

theorem State.putValid_reads (s : State) (b : Bool) : let t := (s.put R.TIME_STS_VALID (b2n b)).timeTaken
    t.flag R.TIME_STS_VALID = b ∧ t.get R.TIME_STS_REFUSE = 0 ∧ s.Touches t [] [R.TIME_STS] :=
  ⟨by rw [State.timeTaken_flag _ (by decide) (by decide), State.flag_put_self _ _ _ (by decide) rfl], State.timeTaken_refuse _,
    .trans (.put _ _ _ (by decide)) (State.timeTaken_touches _ (by decide))⟩

theorem timeValidSet_leaves (s : State) (v : Word) (hs : s.Served) : Leaves (.timeValidSet v) s fun t =>
    let on := asks R.TIME_CTL_VALID_SET v
    let off := asks R.TIME_CTL_VALID_CLR v
    if on && !off then t.flag R.TIME_STS_VALID = true ∧ t.get R.TIME_STS_REFUSE = 0 ∧ s.Touches t [] [R.TIME_STS] else t = s := by
  refine leaves_bar _ rfl hs ?_
  simp only [doTimeValidSet]
  cases hon : asks R.TIME_CTL_VALID_SET v
  case false => rfl
  case true =>
    cases hoff : asks R.TIME_CTL_VALID_CLR v
    case false => exact timeCtlWrite_set hon hoff s ▸ s.putValid_reads true
    case true => exact timeCtlWrite_both hon hoff s

theorem timeValidClr_leaves (s : State) (v : Word) (hs : s.Served) : Leaves (.timeValidClr v) s fun t =>
    let on := asks R.TIME_CTL_VALID_SET v
    let off := asks R.TIME_CTL_VALID_CLR v
    if off && !on then t.flag R.TIME_STS_VALID = false ∧ t.get R.TIME_STS_REFUSE = 0 ∧ s.Touches t [] [R.TIME_STS] else t = s := by
  refine leaves_bar _ rfl hs ?_
  simp only [doTimeValidClr]
  cases hoff : asks R.TIME_CTL_VALID_CLR v
  case false => rfl
  case true =>
    cases hon : asks R.TIME_CTL_VALID_SET v
    case false => exact timeCtlWrite_clr hon hoff s ▸ s.putValid_reads false
    case true => exact timeCtlWrite_both hon hoff s

/-! ## Phase steps (R122, R123) -/

/-- The step written in `TIME_ADJ_S` and `TIME_ADJ_NS`, in ns. -/
def State.adjStep (s : State) : Int := (s.rd R.TIME_ADJ_S).toInt * 1_000_000_000 + (s.rd R.TIME_ADJ_NS).toInt

/-- The code with which GO = 1 refuses the step written, where it does (R122). -/
def State.stepRefusal (s : State) : Option Nat :=
  let sec := (s.rd R.TIME_ADJ_S).toInt
  let ns := (s.rd R.TIME_ADJ_NS).toInt
  if s.tm.step.isSome then some Code.TIM_ADJ_BUSY
  else if 999_999_999 < ns.natAbs ∨ (0 < sec ∧ ns < 0) ∨ (sec < 0 ∧ 0 < ns) then some Code.TIM_ADJ_RANGE
  else if s.flag R.TIME_STS_RUNNING = true ∧ 1_000 < (sec * 1_000_000_000 + ns).natAbs then some Code.TIM_STEP_RUNNING
  else none

theorem sx_whole (s : State) (a : Nat) : sx 32 (s.get (whole a)) = (s.rd a).toInt := by
  have hlt := (s.rd a).isLt
  have hget : s.get (whole a) = (s.rd a).toNat := by
    simp only [State.get, whole, bits, pow_zero, Nat.div_one]
    exact Nat.mod_eq_of_lt hlt
  simp only [sx, hget, BitVec.toInt_eq_toNat_cond, Nat.mod_eq_of_lt hlt]
  split <;> split <;> omega

theorem timeAdjCtlWrite_go {v : Word} (h : asks R.TIME_ADJ_CTL_GO v = true) (s : State) : timeAdjCtlWrite v s = match s.stepRefusal with
    | none => ({ s with tm.step := some (s.adjStep, s.now) }.put R.TIME_ADJ_CTL_ARMED 1).timeTaken
    | some c => s.timeRefuse c := by
  rw [timeAdjCtlWrite, if_pos h]
  simp only [sx_whole, State.stepRefusal, Bool.and_eq_true, decide_eq_true_eq]
  by_cases hbusy : s.tm.step.isSome = true
  · simp only [if_pos hbusy]
  simp only [if_neg hbusy]
  split
  case isTrue => rfl
  case isFalse => split <;> rfl

theorem State.stepRefusal_lt {s : State} {c : Nat} (h : s.stepRefusal = some c) : c < 2 ^ 16 := by
  simp only [State.stepRefusal] at h
  split_ifs at h <;> cases h <;> decide

theorem timeStepArm_leaves (s : State) (v : Word) (hs : s.Served) (hgo : asks R.TIME_ADJ_CTL_GO v = true) : Leaves (.timeStepArm v) s fun t =>
    match s.stepRefusal with
    | none =>
      t.tm = { s.tm with step := some (s.adjStep, s.now) } ∧ t.flag R.TIME_ADJ_CTL_ARMED = true ∧ t.get R.TIME_STS_REFUSE = 0 ∧
        s.Touches t [.tm] [R.TIME_ADJ_CTL, R.TIME_STS]
    | some c => t.get R.TIME_STS_REFUSE = c ∧ s.Touches t [.recorder, .frames] [R.TIME_STS] := by
  refine leaves_bar _ rfl hs ?_
  rw [doTimeStepArm, if_pos hgo, timeAdjCtlWrite_go hgo]
  cases hc : s.stepRefusal with
  | none =>
    refine ⟨rfl, ?_, State.timeTaken_refuse _, ?_⟩
    · rw [State.timeTaken_flag _ (by decide) (by decide), State.flag_put_one _ _ (by decide) rfl]
    · exact .trans (.with_tm s _ (by decide)) (.trans (.put _ _ _ (by decide)) (State.timeTaken_touches _ (by decide)))
  | some c => exact ⟨s.timeRefuse_refuse (s.stepRefusal_lt hc), s.timeRefuse_touches _ (by decide) (by decide) (by decide)⟩

/-- The step armed is dropped, 1 ms after its arming. -/
def State.dropStep (s : State) (armed : Nat) : State :=
  ({ s with tm.step := none }.advanceTo (armed + 1_000_000)).put R.TIME_ADJ_CTL_ARMED 0

theorem State.dropStep_touches (s : State) (armed : Nat) : s.Touches (s.dropStep armed) [.tm, .time] [R.TIME_ADJ_CTL] :=
  .trans (.with_tm s _ (by decide)) (.trans (.advanceTo _ _ (by decide)) (.put _ _ _ (by decide)))

theorem doTimeStepNoWindow_running {s : State} {step : Int} {armed : Nat} (hstep : s.tm.step = some (step, armed))
    (hrun : s.flag R.TIME_STS_RUNNING = true) : doTimeStepNoWindow s = (s.dropStep armed).timeRefuse Code.TIM_ADJ_NO_WINDOW := by
  rw [doTimeStepNoWindow, hstep]
  exact if_pos hrun

theorem timeStepNoWindow_leaves (s : State) (step : Int) (armed : Nat) (hs : s.Live) (hstep : s.tm.step = some (step, armed))
    (hrun : s.flag R.TIME_STS_RUNNING = true) : Leaves .timeStepNoWindow s fun t =>
    t.tm = { s.tm with step := none } ∧ t.flag R.TIME_ADJ_CTL_ARMED = false ∧ t.get R.TIME_STS_REFUSE = Code.TIM_ADJ_NO_WINDOW ∧
    t.t = max s.t ((armed + 1_000_000) * 2 ^ 32) ∧
    s.Touches t [.tm, .time, .recorder, .frames] [R.TIME_ADJ_CTL, R.TIME_STS] := by
  refine leaves_live _ rfl hs ?_
  rw [doTimeStepNoWindow_running hstep hrun]
  set u := s.dropStep armed with hu
  have ht := u.timeRefuse_touches Code.TIM_ADJ_NO_WINDOW (ps := Part.occ) (rs := [R.TIME_STS]) (by decide) (by decide) (by decide)
  refine ⟨State.timeRefuse_tm _ _, ?_, State.timeRefuse_refuse _ (by decide), ht.same .time (by decide), ?_⟩
  · rw [ht.flag (by decide) (by decide)]
    exact State.flag_put_zero _ _ (by decide) rfl
  · exact ((s.dropStep_touches armed).mono (by simp) (by decide)).trans (ht.mono (by decide) (by decide))

/-- Settles O1: each of its writes by its own lemma; the step armed or refused by `timeStepArm_leaves`. -/
theorem timeIncrementValidityAndSteps : Obligations.TimeIncrementValidityAndSteps :=
  ⟨fun s v hs => ⟨timeIncCommit_leaves s v hs, timeValidSet_leaves s v hs, timeValidClr_leaves s v hs⟩, timeStepArm_leaves,
    timeStepNoWindow_leaves⟩

end Sys2Proof.Machine
end

section
/-!
PROOFS. The pins of the time unit, its snapshots and sync marks (R116, R131 to R133, R135, R140), and O3.
-/
namespace Sys2Proof.Machine

/-! ## A value of device time in four words (R116) -/

/-- A value of device time put into the field `f` for the high seconds and the three words that follow. -/
def State.putTime (s : State) (f : Fld) (a1 a2 a3 : Nat) (t : Nat) : State :=
  (((s.put f (tai (t / 2 ^ 32) / 2 ^ 32 % 2 ^ 16)).put (whole a1) (tai (t / 2 ^ 32) % 2 ^ 32)).put (whole a2)
    (t / 2 ^ 32 % 1_000_000_000)).put (whole a3) (t % 2 ^ 32)

theorem ofNat_mod_word (n : Nat) : BitVec.ofNat 32 (n % 2 ^ 32) = BitVec.ofNat 32 n :=
  BitVec.eq_of_toNat_eq (by rw [BitVec.toNat_ofNat, BitVec.toNat_ofNat, Nat.mod_mod])

theorem State.putTime_touches (s : State) (f : Fld) (a1 a2 a3 t : Nat) (ps : List Part) : s.Touches (s.putTime f a1 a2 a3 t) ps [f.addr, a1, a2, a3] :=
  .trans (.put _ _ _ (by simp)) (.trans (.put _ _ _ (by simp [whole])) (.trans (.put _ _ _ (by simp [whole])) (.put _ _ _ (by simp [whole]))))

theorem State.putTime_reads (s : State) {f : Fld} {a1 a2 a3 : Nat} (t : Nat) (hf : f.hi = 15 ∧ f.lo = 0) (h : [f.addr, a1, a2, a3].Nodup) :
    let u := s.putTime f a1 a2 a3 t
    u.get f = t / 2 ^ 32 / 1_000_000_000 / 2 ^ 32 % 2 ^ 16 ∧ u.rd a1 = BitVec.ofNat 32 (t / 2 ^ 32 / 1_000_000_000) ∧
      u.rd a2 = BitVec.ofNat 32 (t / 2 ^ 32 % 1_000_000_000) ∧ u.rd a3 = BitVec.ofNat 32 t := by
  obtain ⟨hhi, hlo⟩ := hf
  have hok : f.ok := by rw [Fld.ok, hhi, hlo]; decide
  simp only [List.nodup_cons, List.mem_cons, List.not_mem_nil, or_false, not_or, not_false_eq_true, List.nodup_nil, and_true] at h
  obtain ⟨⟨h1, h2, h3⟩, ⟨h12, h13⟩, h23⟩ := h
  refine ⟨?_, ?_, ?_, ?_⟩ <;> unfold State.putTime
  · rw [State.get_put_apart _ _ _ _ (whole_ok _) hok (.inl h3), State.get_put_apart _ _ _ _ (whole_ok _) hok (.inl h2),
      State.get_put_apart _ _ _ _ (whole_ok _) hok (.inl h1), State.get_put_self _ _ _ hok, hhi, hlo]
    exact Nat.mod_mod _ _
  · rw [State.rd_put_other _ _ _ h13, State.rd_put_other _ _ _ h12, State.rd_put_whole, ofNat_mod_word]
    rfl
  · rw [State.rd_put_other _ _ _ h23, State.rd_put_whole]
  · rw [State.rd_put_whole, ofNat_mod_word]

/-! ## PPS_IN (R131) -/

/-- A PPS_IN edge seen. -/
def State.seePps (s : State) : State := { s with tm.lastPps := some s.now }.put R.TIME_STS_PPS_OK 1

/-- The instant captured for an edge seen at `s.t`, within ±2 ns. -/
def State.captured (s : State) (err : Int) : Nat := ((s.t : Int) + max (-2) (min 2 err) * 2 ^ 32).toNat

/-- The capture of instant `t`, and OVW. -/
def State.putPps (s : State) (t : Nat) : State :=
  (s.putTime R.TIME_PPS_CAP_0_SEC R.TIME_PPS_CAP_1 R.TIME_PPS_CAP_2 R.TIME_PPS_CAP_3 t).put R.TIME_PPS_CAP_0_OVW (b2n s.tm.ppsUnread)

/-- The capture waits to be read. -/
def State.notePps (s : State) : State := { s with tm.ppsUnread := true }

theorem State.notePps_rd (s : State) (a : Nat) : s.notePps.rd a = s.rd a := rfl

theorem State.notePps_touches (s : State) {ps : List Part} (rs : List Nat) (h : Part.tm ∈ ps) : s.Touches s.notePps ps rs := .with_tm s _ h

theorem doPpsCapture_selected {falling : Bool} {s : State} (hu : s.ctrlUp = true) (he : s.flag R.TIME_PPS_CFG_IN_EDGE = falling) (err : Int) :
    doPpsCapture falling err s = if s.seePps.flag R.TIME_PPS_CFG_IN_EN then
      (s.seePps.putPps (s.captured err)).notePps.ev Ev.ppsCapture else s.seePps := by
  rw [doPpsCapture, hu, he, Bool.true_and, if_pos (beq_self_eq_true falling)]
  rfl

theorem State.seePps_touches (s : State) {ps : List Part} (h : Part.tm ∈ ps) : s.Touches s.seePps ps [R.TIME_STS] :=
  .trans (.with_tm s _ h) (.put _ _ _ (by decide))

/-- The registers of a PPS capture. -/
abbrev ppsCapRegs : List Nat := [R.TIME_PPS_CAP_0, R.TIME_PPS_CAP_1, R.TIME_PPS_CAP_2, R.TIME_PPS_CAP_3]

theorem State.putPps_touches (s : State) (t : Nat) (ps : List Part) : s.Touches (s.putPps t) ps ppsCapRegs :=
  (s.putTime_touches _ _ _ _ t ps).trans (.put _ _ _ (by decide))

theorem State.putPps_reads (s : State) (t : Nat) : let u := s.putPps t
    u.get R.TIME_PPS_CAP_0_SEC = t / 2 ^ 32 / 1_000_000_000 / 2 ^ 32 % 2 ^ 16 ∧
      u.rd R.TIME_PPS_CAP_1 = BitVec.ofNat 32 (t / 2 ^ 32 / 1_000_000_000) ∧
      u.rd R.TIME_PPS_CAP_2 = BitVec.ofNat 32 (t / 2 ^ 32 % 1_000_000_000) ∧ u.rd R.TIME_PPS_CAP_3 = BitVec.ofNat 32 t ∧
      u.flag R.TIME_PPS_CAP_0_OVW = s.tm.ppsUnread := by
  obtain ⟨h0, h1, h2, h3⟩ := s.putTime_reads (f := R.TIME_PPS_CAP_0_SEC) (a1 := R.TIME_PPS_CAP_1) (a2 := R.TIME_PPS_CAP_2)
    (a3 := R.TIME_PPS_CAP_3) t (by decide) (by decide)
  refine ⟨?_, ?_, ?_, ?_, State.flag_put_self _ _ _ (by decide) rfl⟩ <;> unfold State.putPps
  · rw [State.get_put_apart _ _ _ _ (by decide) (by decide) (by decide), h0]
  · rw [State.rd_put_other _ _ _ (by decide), h1]
  · rw [State.rd_put_other _ _ _ (by decide), h2]
  · rw [State.rd_put_other _ _ _ (by decide), h3]

theorem ppsCapture_leaves (s : State) (falling : Bool) (err : Int) (hs : s.Live) (hu : s.ctrlUp = true)
    (he : s.flag R.TIME_PPS_CFG_IN_EDGE = falling) : Leaves (.ppsCapture falling err) s fun t =>
      t.flag R.TIME_STS_PPS_OK = true ∧ t.tm.lastPps = some s.now ∧
      (s.flag R.TIME_PPS_CFG_IN_EN = true →
        let at_ := ((s.t : Int) + max (-2) (min 2 err) * 2 ^ 32).toNat
        t.get R.TIME_PPS_CAP_0_SEC = at_ / 2 ^ 32 / 1_000_000_000 / 2 ^ 32 % 2 ^ 16 ∧
        t.rd R.TIME_PPS_CAP_1 = BitVec.ofNat 32 (at_ / 2 ^ 32 / 1_000_000_000) ∧
        t.rd R.TIME_PPS_CAP_2 = BitVec.ofNat 32 (at_ / 2 ^ 32 % 1_000_000_000) ∧
        t.rd R.TIME_PPS_CAP_3 = BitVec.ofNat 32 at_ ∧
        t.flag R.TIME_PPS_CAP_0_OVW = s.tm.ppsUnread ∧ t.tm.ppsUnread = true ∧
        s.Touches t [.tm, .recorder, .frames]
          [R.TIME_STS, R.TIME_PPS_CAP_0, R.TIME_PPS_CAP_1, R.TIME_PPS_CAP_2, R.TIME_PPS_CAP_3]) ∧
      (s.flag R.TIME_PPS_CFG_IN_EN = false → s.Touches t [.tm] [R.TIME_STS]) := by
  refine leaves_live _ rfl hs ?_
  rw [doPpsCapture_selected hu he, (s.seePps_touches (List.mem_singleton.2 rfl)).flag (by decide) (by decide)]
  have hpps : s.seePps.flag R.TIME_STS_PPS_OK = true := State.flag_put_one _ _ (by decide) rfl
  cases hen : s.flag R.TIME_PPS_CFG_IN_EN
  case false => exact ⟨hpps, rfl, fun h => (by cases h), fun _ => s.seePps_touches (by decide)⟩
  case true =>
    obtain ⟨h0, h1, h2, h3, hovw⟩ := s.seePps.putPps_reads (s.captured err)
    have hput := s.seePps.putPps_touches (s.captured err) []
    set u := s.seePps.putPps (s.captured err) with hu
    have hnote : u.Touches (u.notePps.ev Ev.ppsCapture) [.tm, .recorder, .frames] [] :=
      (u.notePps_touches [] (by decide)).trans (.ev _ _ _ (by decide) (by decide) (by decide))
    have htm : (u.notePps.ev Ev.ppsCapture).tm = { u.tm with ppsUnread := true } := State.ev_tm _ _ _ (by decide)
    have hrd {a : Nat} (h : ¬ evtReg a) : (u.notePps.ev Ev.ppsCapture).rd a = u.rd a := (State.ev_rd _ _ _ (by decide) h).trans (u.notePps_rd a)
    have hget {f : Fld} (h : ¬ evtReg f.addr) : (u.notePps.ev Ev.ppsCapture).get f = u.get f := hnote.get (by simp) h
    rw [if_pos rfl]
    refine ⟨?_, ?_, fun _ => ⟨?_, ?_, ?_, ?_, ?_, by rw [htm], ?_⟩, fun h => (by cases h)⟩
    · rw [State.flag, hget (by decide), hput.get (by decide) (by decide)]
      exact hpps
    · rw [htm]
      exact congrArg TimeSt.lastPps (hput.same .tm (by decide))
    · exact (hget (by decide)).trans h0
    · exact (hrd (by decide)).trans h1
    · exact (hrd (by decide)).trans h2
    · exact (hrd (by decide)).trans h3
    · rw [State.flag, hget (by decide)]
      exact hovw
    · exact ((s.seePps_touches (by decide)).mono (fun _ h => h) (by decide)).trans ((hput.mono (by simp) (by decide)).trans (hnote.mono (by simp) (by simp)))

/-- The capture read. -/
def State.takePps (s : State) : State := { s with bus := s.rd R.TIME_PPS_CAP_0, tm.ppsUnread := false }

theorem State.takePps_touches (s : State) (rs : List Nat) : s.Touches s.takePps [.tm, .bus] rs :=
  (State.Touches.with_bus s (s.rd R.TIME_PPS_CAP_0) (by decide)).trans (.with_tm _ { s.tm with ppsUnread := false } (by decide))

theorem doPpsCapRead_eq (s : State) : doPpsCapRead s = s.takePps.put R.TIME_PPS_CAP_0_OVW 0 := rfl

theorem ppsCapRead_leaves (s : State) (hs : s.Served) : Leaves .ppsCapRead s fun t =>
    t.bus = s.rd R.TIME_PPS_CAP_0 ∧ t.flag R.TIME_PPS_CAP_0_OVW = false ∧ t.tm = { s.tm with ppsUnread := false } ∧
    t.get R.TIME_PPS_CAP_0_SEC = s.get R.TIME_PPS_CAP_0_SEC ∧ s.Touches t [.tm, .bus] [R.TIME_PPS_CAP_0] := by
  refine leaves_bar _ rfl hs ?_
  rw [doPpsCapRead_eq]
  refine ⟨rfl, State.flag_put_zero _ _ (by decide) rfl, rfl, ?_, (s.takePps_touches _).trans (.put _ _ _ (by decide))⟩
  exact State.get_put_apart s.takePps _ _ _ (by decide) (by decide) (by decide)

theorem ppsOkTimeout_leaves (s : State) (n : Nat) (hs : s.Live) (hu : s.ctrlUp = true) (hn : s.tm.lastPps = some n) : Leaves .ppsOkTimeout s fun t =>
    t.flag R.TIME_STS_PPS_OK = false ∧ t.tm = { s.tm with lastPps := none } ∧ t.t = max s.t ((n + 1_100_000_000) * 2 ^ 32) ∧
    s.Touches t [.tm, .time] [R.TIME_STS] := by
  refine leaves_live _ rfl hs ?_
  have heq : doPpsOkTimeout s = { (s.advanceTo (n + 1_100_000_000)).put R.TIME_STS_PPS_OK 0 with tm.lastPps := none } := by
    rw [doPpsOkTimeout, hn]
    exact if_pos hu
  rw [heq]
  refine ⟨?_, rfl, rfl, .trans (.advanceTo _ _ (by decide)) (.trans (.put _ _ _ (by decide)) (.with_tm _ _ (by decide)))⟩
  exact State.flag_put_zero (s.advanceTo (n + 1_100_000_000)) _ (by decide) rfl

/-! ## PPS_OUT (R132) -/

/-- The first instant from now on whose NS is OUT_OFS · 1,000. -/
def State.ppsRise (s : State) : Nat :=
  let ofs := s.get R.TIME_PPS_CFG_OUT_OFS * 1_000
  let sec := s.now / 1_000_000_000
  if s.now ≤ sec * 1_000_000_000 + ofs then sec * 1_000_000_000 + ofs else (sec + 1) * 1_000_000_000 + ofs

theorem doPpsOutPulse_eq {s : State} (hu : s.ctrlUp = true) (hen : s.flag R.TIME_PPS_CFG_OUT_EN = true) (hv : s.flag R.TIME_STS_VALID = true) :
    doPpsOutPulse s = { s.advanceTo s.ppsRise with
      tm.ppsHighUntil := some ((s.advanceTo s.ppsRise).now + s.get R.TIME_PPS_CFG_OUT_WIDTH * 1_000_000) } := by
  rw [doPpsOutPulse, hu, hen, hv]
  rfl

theorem State.ppsRise_reads (s : State) : s.now ≤ s.ppsRise ∧ s.ppsRise % 1_000_000_000 = s.get R.TIME_PPS_CFG_OUT_OFS * 1_000 % 1_000_000_000 := by
  simp only [State.ppsRise]
  split <;> omega

theorem State.now_advanceTo {s : State} {n : Nat} (h : s.now ≤ n) : (s.advanceTo n).now = n := by
  simp only [State.now, State.advanceTo] at h ⊢
  omega

theorem ppsOutPulse_leaves (s : State) (hs : s.Live) (hu : s.ctrlUp = true) (hen : s.flag R.TIME_PPS_CFG_OUT_EN = true)
    (hv : s.flag R.TIME_STS_VALID = true) : Leaves .ppsOutPulse s fun t =>
      t.now % 1_000_000_000 = s.get R.TIME_PPS_CFG_OUT_OFS * 1_000 % 1_000_000_000 ∧ s.now ≤ t.now ∧
      t.tm = { s.tm with ppsHighUntil := some (t.now + s.get R.TIME_PPS_CFG_OUT_WIDTH * 1_000_000) } ∧
      s.Touches t [.tm, .time] [] := by
  refine leaves_live _ rfl hs ?_
  rw [doPpsOutPulse_eq hu hen hv]
  obtain ⟨hle, hmod⟩ := s.ppsRise_reads
  have hnow := State.now_advanceTo hle
  refine ⟨?_, ?_, rfl, .trans (.advanceTo _ _ (by decide)) (.with_tm _ _ (by decide))⟩
  · change (s.advanceTo s.ppsRise).now % _ = _
    rw [hnow, hmod]
  · exact hle.trans_eq hnow.symm

/-! ## The reference and the snapshot (R116, R133, R140) -/

theorem trefGate_leaves (s : State) (ppb : Int) (hs : s.Live) (hu : s.ctrlUp = true) (hen : s.flag R.TIME_CLK_CFG_TREF_EN = true) :
    Leaves (.trefGate ppb) s fun t =>
      if ppb.natAbs ≤ 2_000_000 then
        t.flag R.TIME_STS_TREF_OK = true ∧ t.get R.TIME_CLK_CFG_TREF_PPB = (BitVec.ofInt 24 ppb).toNat ∧
        s.Touches t [] [R.TIME_STS, R.TIME_CLK_CFG]
      else t = (s.put R.TIME_STS_TREF_OK 0).ev Ev.referenceFault := by
  refine leaves_live _ rfl hs ?_
  rw [doTrefGate, hu, hen, Bool.and_self, if_pos rfl]
  by_cases hp : ppb.natAbs ≤ 2_000_000
  case neg => rw [if_neg hp, if_pos (not_le.1 hp)]
  case pos =>
    rw [if_pos hp, if_neg (not_lt.2 hp)]
    refine ⟨?_, ?_, .trans (.put _ _ _ (by decide)) (.put _ _ _ (by decide))⟩
    · rw [State.flag_put_apart _ _ _ _ (by decide) (by decide) (by decide), State.flag_put_one _ _ (by decide) rfl]
    · rw [State.get_put_self _ _ _ (by decide), BitVec.toNat_ofInt]
      change (ppb % 2 ^ 24).toNat % 2 ^ 24 = (ppb % 2 ^ 24).toNat
      omega

theorem trefLoss_leaves (s : State) (hs : s.Live) (hu : s.ctrlUp = true) (hen : s.flag R.TIME_CLK_CFG_TREF_EN = true) :
    Leaves .trefLoss s fun t => t = (s.put R.TIME_STS_TREF_OK 0).ev Ev.referenceFault := by
  refine leaves_live _ rfl hs ?_
  rw [doTrefLoss, hu, hen]
  rfl

theorem timeNowSnapshot_leaves (s : State) (hs : s.Served) : Leaves .timeNowSnapshot s fun t =>
    t.get R.TIME_NOW_0_SEC = s.now / 1_000_000_000 / 2 ^ 32 % 2 ^ 16 ∧ t.rd R.TIME_NOW_1 = BitVec.ofNat 32 (s.now / 1_000_000_000) ∧
    t.rd R.TIME_NOW_2 = BitVec.ofNat 32 (s.now % 1_000_000_000) ∧ t.rd R.TIME_NOW_3 = BitVec.ofNat 32 s.t ∧
    t.bus = t.rd R.TIME_NOW_0 ∧ s.Touches t [.bus] [R.TIME_NOW_0, R.TIME_NOW_1, R.TIME_NOW_2, R.TIME_NOW_3] := by
  refine leaves_bar _ rfl hs ?_
  obtain ⟨h0, h1, h2, h3⟩ := s.putTime_reads (f := R.TIME_NOW_0_SEC) (a1 := R.TIME_NOW_1) (a2 := R.TIME_NOW_2) (a3 := R.TIME_NOW_3) s.t
    (by decide) (by decide)
  exact ⟨h0, h1, h2, h3, rfl, (s.putTime_touches _ _ _ _ s.t _).trans (.with_bus _ _ (by decide))⟩

/-! ## Sync marks (R135) -/

/-- The bit of a tile in `TIME_TILE_STS`. -/
def tileStsBit (n : Nat) : Fld := ⟨R.TIME_TILE_STS, n, n⟩

theorem tileStsBit_ok {n : Nat} (h : n < 32) : (tileStsBit n).ok := ⟨Nat.le_refl n, h⟩

theorem tileStsBit_not_evtReg (n : Nat) : ¬ evtReg (tileStsBit n).addr := by
  change ¬ evtReg R.TIME_TILE_STS
  decide

theorem State.flag_tileStsBit (s : State) (n : Nat) : s.flag (tileStsBit n) = (s.rd R.TIME_TILE_STS).getLsbD n := by
  simp only [State.flag, State.get, tileStsBit, bits, BitVec.getLsbD, Nat.testBit_eq_decide_div_mod_eq, Nat.add_sub_cancel_left, pow_one]
  rfl

/-- A tile reloaded with the time sent. -/
def State.resync (s : State) (n : Nat) : State := (s.put (tileStsBit n) 1).ev Ev.tileResync

/-- Tiles reloaded one after the other. -/
def State.resyncAll (s : State) (l : List Nat) : State := l.foldl State.resync s

theorem State.resync_flag (s : State) {m n : Nat} (hm : m < 32) (hn : n < 32) :
    (s.resync m).flag (tileStsBit n) = (decide (n = m) || s.flag (tileStsBit n)) := by
  rw [State.resync, State.ev_flag _ _ _ (by decide) (tileStsBit_not_evtReg n)]
  by_cases h : n = m
  case pos => rw [h, State.flag_put_one _ _ (tileStsBit_ok hm) rfl, decide_eq_true rfl, Bool.true_or]
  case neg =>
    rw [State.flag_put_apart _ _ _ _ (tileStsBit_ok hm) (tileStsBit_ok hn) (.inr (Nat.lt_or_gt_of_ne (Ne.symm h))), decide_eq_false h, Bool.false_or]

theorem State.resyncAll_touches (s : State) (l : List Nat) : s.Touches (s.resyncAll l) Part.occ [R.TIME_TILE_STS] :=
  .foldl (fun t n _ => .trans (.put t (tileStsBit n) 1 (List.mem_singleton.2 rfl)) (.ev _ _ _ (by decide) (by decide) (by decide))) s

theorem State.resyncAll_flag (s : State) {l : List Nat} (hl : ∀ m, m ∈ l → m < 32) {n : Nat} (hn : n < 32) :
    (s.resyncAll l).flag (tileStsBit n) = (decide (n ∈ l) || s.flag (tileStsBit n)) := by
  induction l generalizing s with
  | nil => simp [State.resyncAll]
  | cons m r ih =>
    have hr := ih (s.resync m) fun k hk => hl k (List.mem_cons_of_mem m hk)
    rw [State.resyncAll] at hr ⊢
    rw [List.foldl_cons, hr, s.resync_flag (hl m List.mem_cons_self) hn]
    rw [Bool.or_left_comm, ← Bool.or_assoc, ← Bool.decide_or]
    simp only [List.mem_cons]

/-- The tiles found more than 1 ns off. -/
def farTiles (off : List (Fin 20 × Int)) : List Nat := (off.filter fun e => decide (1_000 < e.2.natAbs)).map (·.1.val)

theorem mem_farTiles {off : List (Fin 20 × Int)} {n : Nat} : n ∈ farTiles off ↔ ∃ e, e ∈ off ∧ 1_000 < e.2.natAbs ∧ e.1.val = n := by
  simp only [farTiles, List.mem_map, List.mem_filter, decide_eq_true_eq, and_assoc]

/-- A sync mark taken: the tiles that receive it leave holdover unless REFCLK is lost. -/
def State.mark (s : State) : State :=
  { s with svc.lastMark := s.now, svc.holdover := if s.svc.refLost then s.svc.holdover else [] }

theorem State.mark_touches (s : State) (rs : List Nat) {ps : List Part} (h : Part.svc ∈ ps) : s.Touches s.mark ps rs := .with_svc s _ h

theorem doSyncMark_eq (off : List (Fin 20 × Int)) {s : State} (h : s.hubIn = true) :
    doSyncMark off s = (s.advanceTo (s.svc.lastMark + 1_000)).mark.resyncAll (farTiles off) := by
  rw [doSyncMark, if_pos h, State.resyncAll, farTiles, List.foldl_map, List.foldl_filter]
  simp only [decide_eq_true_eq]
  rfl

theorem syncMark_leaves (s : State) (off : List (Fin 20 × Int)) (hs : s.Live) (hh : s.hubIn = true) : Leaves (.syncMark off) s fun t =>
    t.t = max s.t ((s.svc.lastMark + 1_000) * 2 ^ 32) ∧
    t.svc = { s.svc with lastMark := t.now, holdover := if s.svc.refLost then s.svc.holdover else [] } ∧
    (∀ e, e ∈ off → 1_000 < e.2.natAbs → (t.rd R.TIME_TILE_STS).getLsbD e.1.val = true) ∧
    (∀ n : Nat, n < 32 → (∀ e, e ∈ off → 1_000 < e.2.natAbs → e.1.val ≠ n) →
      (t.rd R.TIME_TILE_STS).getLsbD n = (s.rd R.TIME_TILE_STS).getLsbD n) ∧
    s.Touches t [.time, .svc, .recorder, .frames] [R.TIME_TILE_STS] := by
  refine leaves_live _ rfl hs ?_
  rw [doSyncMark_eq off hh]
  set u := (s.advanceTo (s.svc.lastMark + 1_000)).mark with hu
  have hsu : s.Touches u [.time, .svc] [] := .trans (.advanceTo s _ (by decide)) (State.mark_touches _ _ (by decide))
  have hall := u.resyncAll_touches (farTiles off)
  have htime : (u.resyncAll (farTiles off)).t = u.t := hall.same .time (by decide)
  have hflag {n : Nat} (hn : n < 32) : (u.resyncAll (farTiles off)).flag (tileStsBit n) = (decide (n ∈ farTiles off) || s.flag (tileStsBit n)) := by
    rw [u.resyncAll_flag (fun m hm => ?_) hn, hsu.flag (by simp) (tileStsBit_not_evtReg n)]
    obtain ⟨e, -, -, rfl⟩ := mem_farTiles.1 hm
    omega
  refine ⟨htime, ?_, fun e he hfar => ?_, fun n hn hnear => ?_, (hsu.mono (by decide) (by simp)).trans (hall.mono (by decide) (by simp))⟩
  · have hnow : (u.resyncAll (farTiles off)).now = u.now := congrArg (· / 2 ^ 32) htime
    have hsvc : (u.resyncAll (farTiles off)).svc = u.svc := hall.same .svc (by decide)
    rw [hsvc, hnow]
    rfl
  · rw [← State.flag_tileStsBit, hflag (by omega), decide_eq_true (mem_farTiles.2 ⟨e, he, hfar, rfl⟩), Bool.true_or]
  · have hnot : n ∉ farTiles off := fun hm => by
      obtain ⟨e, he, hfar, heq⟩ := mem_farTiles.1 hm
      exact hnear e he hfar heq
    rw [← State.flag_tileStsBit, hflag hn, decide_eq_false hnot, Bool.false_or, State.flag_tileStsBit]

/-- Settles O3: the pins by their edges, and each of the other commands by its own lemma. -/
theorem timePinsSnapshotsAndSyncMarks : Obligations.TimePinsSnapshotsAndSyncMarks :=
  ⟨⟨ppsCapture_leaves, ppsCapRead_leaves, ppsOkTimeout_leaves, ppsOutPulse_leaves⟩, trefGate_leaves, trefLoss_leaves,
    timeNowSnapshot_leaves, syncMark_leaves⟩

end Sys2Proof.Machine
end

section
/-!
PROOFS. Holdover, its freeze and its end, and the end of a failover freeze (R134, R472, R486 to R489), and O53.
-/
namespace Sys2Proof.Machine

/-! ## Entering holdover (R486) -/

/-- The state with other tiles in holdover. -/
def State.withHoldover (s : State) (h : Tbl Nat) : State := { s with svc.holdover := h }

theorem State.withHoldover_touches (s : State) (h : Tbl Nat) (rs : List Nat) {ps : List Part} (hp : Part.svc ∈ ps) :
    s.Touches (s.withHoldover h) ps rs := .with_svc s _ hp

theorem State.enterHoldover_eq (s : State) (n : Nat) : ∃ h, s.enterHoldover n = s.withHoldover h := by
  unfold State.enterHoldover
  split
  · exact ⟨s.svc.holdover, rfl⟩
  · exact ⟨_, rfl⟩

theorem State.enterHoldover_look (s : State) (n m : Nat) : Tbl.look (s.enterHoldover n).svc.holdover m =
    if m = n then some ((Tbl.look s.svc.holdover n).getD s.now) else Tbl.look s.svc.holdover m := by
  unfold State.enterHoldover
  by_cases hin : s.inHoldover n = true
  case pos =>
    obtain ⟨x, hx⟩ := Option.isSome_iff_exists.1 hin
    rw [if_pos hin]
    split
    case isTrue h => rw [h, hx]; rfl
    case isFalse => rfl
  case neg =>
    rw [if_neg hin]
    split
    case isTrue h =>
      rw [h, Option.not_isSome_iff_eq_none.1 hin]
      exact Tbl.look_put_self _ _ _
    case isFalse h => exact Tbl.look_put_other _ h _

/-- Every tile of the list in holdover. -/
def State.enterAll (s : State) (l : List Nat) : State := l.foldl State.enterHoldover s

theorem State.enterAll_eq (s : State) (l : List Nat) : ∃ h, s.enterAll l = s.withHoldover h := by
  refine List.foldlRecOn l State.enterHoldover (motive := fun t => ∃ h, t = s.withHoldover h) ⟨s.svc.holdover, rfl⟩ ?_
  rintro t ⟨h, rfl⟩ n -
  exact (s.withHoldover h).enterHoldover_eq n

theorem State.enterAll_look (s : State) (l : List Nat) (m : Nat) : Tbl.look (s.enterAll l).svc.holdover m =
    if m ∈ l then some ((Tbl.look s.svc.holdover m).getD s.now) else Tbl.look s.svc.holdover m := by
  induction l generalizing s with
  | nil => rfl
  | cons n r ih =>
    have hnow : (s.enterHoldover n).now = s.now := by
      obtain ⟨h, hh⟩ := s.enterHoldover_eq n
      rw [hh]
      rfl
    have hstep : s.enterAll (n :: r) = (s.enterHoldover n).enterAll r := rfl
    rw [hstep, ih, s.enterHoldover_look, hnow]
    by_cases hn : m = n <;> by_cases hr : m ∈ r <;> simp [hn, hr]

/-! ## The loss and the return of REFCLK (R134, R486, R488) -/

/-- REFCLK leaves its limits: the state before the tiles enter holdover. -/
def State.loseRef (s : State) : State :=
  (({ s with svc.refLost := true, svc.refGoodSince := none }.put R.TIME_STS_REF_OK 0).put R.TIME_STS_VALID 0).ev Ev.referenceFault

theorem doRefclkLoss_eq {s : State} (hp : s.svc.por = true) (h : s.svc.refLost = false) :
    doRefclkLoss s = (s.loseRef.enterAll (List.range 20)).dualLoss := by
  rw [doRefclkLoss, hp, h, Bool.not_false, Bool.and_self, if_pos rfl]
  rfl

theorem State.loseRef_touches (s : State) : s.Touches s.loseRef [.svc, .recorder, .frames] [R.TIME_STS] :=
  .trans (.with_svc s { s.svc with refLost := true, refGoodSince := none } (by decide))
    (.trans (.put _ _ _ (by decide)) (.trans (.put _ _ _ (by decide)) (.ev _ _ _ (by decide) (by decide) (by decide))))

theorem State.loseRef_svc (s : State) : s.loseRef.svc = { s.svc with refLost := true, refGoodSince := none } := State.ev_svc _ _ _ (by decide)

theorem State.loseRef_flags (s : State) : s.loseRef.flag R.TIME_STS_REF_OK = false ∧ s.loseRef.flag R.TIME_STS_VALID = false := by
  constructor <;> unfold State.loseRef <;> rw [State.ev_flag _ _ _ (by decide) (by decide)]
  · rw [State.flag_put_apart _ _ _ _ (by decide) (by decide) (by decide), State.flag_put_zero _ _ (by decide) rfl]
  · exact State.flag_put_zero _ _ (by decide) rfl

theorem State.loseRef_now (s : State) : s.loseRef.now = s.now := congrArg (· / 2 ^ 32) (s.loseRef_touches.same .time (by decide))

theorem State.dualLoss_eq (s : State) : s.dualLoss = if s.svc.refLost = true ∧ s.hubIn = false then s.holdoverFreeze (List.range 20) else s := by
  simp only [State.dualLoss, Bool.and_eq_true, Bool.not_eq_true']

theorem refclkLoss_leaves (s : State) (hs : s.Live) (h : s.svc.refLost = false) : Leaves .refclkLoss s fun t => ∃ v : State,
    t = (if s.hubIn then v else v.holdoverFreeze (List.range 20)) ∧ v.flag R.TIME_STS_REF_OK = false ∧ v.flag R.TIME_STS_VALID = false ∧
    v.svc.refLost = true ∧ v.svc.refGoodSince = none ∧ (∀ n, n < 20 → Tbl.look v.svc.holdover n = some ((Tbl.look s.svc.holdover n).getD s.now)) ∧
    s.Touches v [.svc, .recorder, .frames] [R.TIME_STS] := by
  refine leaves_live _ rfl hs ?_
  rw [doRefclkLoss_eq hs.1 h]
  set u := s.loseRef with hu
  obtain ⟨hold, hv⟩ := u.enterAll_eq (List.range 20)
  have hlook := u.enterAll_look (List.range 20)
  rw [hv] at hlook ⊢
  obtain ⟨hok, hvalid⟩ := s.loseRef_flags
  have hsvc : u.svc = { s.svc with refLost := true, refGoodSince := none } := s.loseRef_svc
  have hlost : (u.withHoldover hold).svc.refLost = true := congrArg SvcSt.refLost hsvc
  have hin : (u.withHoldover hold).hubIn = s.hubIn := by
    rw [State.hubIn, State.hubIn, State.withHoldover, hsvc]
  refine ⟨u.withHoldover hold, ?_, hok, hvalid, hlost, congrArg SvcSt.refGoodSince hsvc, fun n hn => ?_,
    s.loseRef_touches.trans (u.withHoldover_touches hold _ (by decide))⟩
  · rw [State.dualLoss_eq, hlost, hin]
    cases s.hubIn <;> rfl
  · rw [hlook, if_pos (List.mem_range.2 hn), hsvc, s.loseRef_now]

theorem refclkReturn_leaves (s : State) (hs : s.Live) (h : s.svc.refLost = true) : Leaves .refclkReturn s fun t =>
    t.flag R.TIME_STS_REF_OK = true ∧ t.svc.refLost = false ∧
    t.svc.refGoodSince = (if s.hubIn then some s.now else none) ∧ t.svc.holdover = (if s.hubIn then [] else s.svc.holdover) ∧
    s.Touches t [.svc] [R.TIME_STS] := by
  refine leaves_live _ rfl hs ?_
  rw [doRefclkReturn, hs.1, h, Bool.and_self, if_pos rfl]
  exact ⟨State.flag_put_one _ _ (by decide) rfl, rfl, rfl, rfl, .trans (.with_svc s _ (by decide)) (.put _ _ _ (by decide))⟩

/-! ## A tile without sync marks (R136, R380, R486) -/

theorem State.recalReleased_reads (s : State) (t : Nat) (r : Recal) (h : (s.recalReleased t).recalOf t = some r) : r.started = none ∧ r.held = none := by
  unfold State.recalReleased at h
  cases hr : s.recalOf t with
  | none => simp [hr] at h
  | some x =>
    rw [hr] at h
    dsimp only at h
    split at h
    case isTrue =>
      have hput : (s.setRecal t { x with started := none, held := none, since := s.now }).recalOf t = _ := Tbl.look_put_self _ _ _
      rw [hput] at h
      cases h
      exact ⟨rfl, rfl⟩
    case isFalse hno =>
      rw [hr] at h
      cases h
      simpa using hno

theorem State.holdsEnd_recalOf (s : State) (t : Nat) : (s.holdsEnd t).recalOf t = (s.recalReleased t).recalOf t := by
  rw [State.holdsEnd_eq, State.recalOf, State.put_cal, State.setTile_cal]
  rcases (s.recalReleased t).dropHold_cases t with h | ⟨x, h⟩ <;> rw [h]
  · rw [State.put_cal, State.recalOf]
  · rw [State.setTile_cal, State.put_cal, State.put_cal, State.recalOf]

theorem State.holdsEnd_anchor (s : State) (t : Nat) : ((s.holdsEnd t).tile t).anchor = none ∧ (s.holdsEnd t).flag (R.TILE_MC_ANC_CTL_BUSY t) = false := by
  rw [State.holdsEnd_eq]
  refine ⟨?_, State.flag_put_zero _ _ ?_ rfl⟩
  · rw [State.put_tile, State.tile_setTile_self]
  · exact ⟨Nat.le_refl 31, show 31 < 32 by decide⟩

theorem tileHoldoverEntry_leaves (s : State) (n : Fin 20) (hs : s.Live) : Leaves (.tileHoldoverEntry n) s fun t => ∃ v : State,
    t = (if s.svc.refLost = true ∧ s.hubIn = false then v.holdoverFreeze (List.range 20) else v) ∧
    v.t = max s.t ((s.svc.lastMark + 10_000) * 2 ^ 32) ∧ Tbl.look v.svc.holdover n = some ((Tbl.look s.svc.holdover n).getD v.now) ∧
    (∀ m, m ≠ n.val → Tbl.look v.svc.holdover m = Tbl.look s.svc.holdover m) ∧ (v.tile n).anchor = none ∧ v.flag (R.TILE_MC_ANC_CTL_BUSY n) = false ∧
    (∀ r, v.recalOf n = some r → r.started = none ∧ r.held = none) ∧ v.sch = s.sch ∧ v.cir = s.cir ∧ v.fab = s.fab := by
  refine leaves_live _ rfl hs ?_
  rw [doTileHoldoverEntry, if_pos hs.1]
  set w := s.advanceTo (s.svc.lastMark + 10_000) with hw
  obtain ⟨hold, hx⟩ := w.enterHoldover_eq n
  have hlook := w.enterHoldover_look n
  rw [hx] at hlook ⊢
  set x := w.withHoldover hold with hxd
  have hend := x.holdsEnd_touches n
  have hsvc : (x.holdsEnd n).svc = x.svc := hend.same .svc (by decide)
  have htime : (x.holdsEnd n).t = w.t := hend.same .time (by decide)
  have hnow : (x.holdsEnd n).now = w.now := congrArg (· / 2 ^ 32) htime
  have hin : (x.holdsEnd n).hubIn = s.hubIn := by rw [State.hubIn, hsvc]; rfl
  have hlost : (x.holdsEnd n).svc.refLost = s.svc.refLost := by rw [hsvc]; rfl
  obtain ⟨hanchor, hbusy⟩ := x.holdsEnd_anchor n
  refine ⟨x.holdsEnd n, ?_, htime, ?_, fun m hm => ?_, hanchor, hbusy, fun r hr => ?_, hend.same .sch (by decide), hend.same .cir (by decide),
    hend.same .fab (by decide)⟩
  · rw [State.dualLoss_eq, hlost, hin]
  · rw [hsvc, hlook, if_pos rfl, hnow]
    rfl
  · rw [hsvc, hlook, if_neg hm]
    rfl
  · rw [State.holdsEnd_recalOf] at hr
    exact State.recalReleased_reads _ _ _ hr

/-! ## The freeze 10 s after holdover (R487, R489) -/

theorem foldl_min_le (f : Nat × Nat → Nat) (l : List (Nat × Nat)) (a : Nat) :
    l.foldl (fun m y => min m (f y)) a ≤ a ∧ ∀ y, y ∈ l → l.foldl (fun m y => min m (f y)) a ≤ f y := by
  induction l generalizing a with
  | nil => exact ⟨Nat.le_refl a, fun _ h => absurd h List.not_mem_nil⟩
  | cons x r ih =>
    obtain ⟨hacc, hmem⟩ := ih (min a (f x))
    refine ⟨Nat.le_trans hacc (Nat.min_le_left ..), fun y hy => ?_⟩
    rcases List.mem_cons.1 hy with rfl | hy
    · exact Nat.le_trans hacc (Nat.min_le_right ..)
    · exact hmem y hy

theorem le_foldl_min (f : Nat × Nat → Nat) (b : Nat) (l : List (Nat × Nat)) (a : Nat) (ha : b ≤ a) (h : ∀ y, y ∈ l → b ≤ f y) :
    b ≤ l.foldl (fun m y => min m (f y)) a :=
  List.foldlRecOn l _ (motive := fun m => b ≤ m) ha fun _ hm y hy => Nat.le_min.2 ⟨hm, h y hy⟩

/-- The earliest entry of a holdover table is the one the freeze is counted from. -/
theorem first_holdover {x z : Nat × Nat} {r : List (Nat × Nat)} (hx : x ∈ z :: r) (hmin : ∀ y, y ∈ z :: r → x.2 ≤ y.2) :
    r.foldl (fun m y => min m y.2) z.2 = x.2 := by
  obtain ⟨hz, hr⟩ := foldl_min_le (·.2) r z.2
  refine Nat.le_antisymm ?_ (le_foldl_min (·.2) x.2 r z.2 (hmin z (.head _)) fun y hy => hmin y (.tail _ hy))
  rcases List.mem_cons.1 hx with rfl | hx
  · exact hz
  · exact hr x hx

theorem holdoverFreeze_leaves (s : State) (x : Nat × Nat) (hs : s.Live) (hx : x ∈ s.svc.holdover) (hmin : ∀ y, y ∈ s.svc.holdover → x.2 ≤ y.2) :
    Leaves .holdoverFreeze s fun t => ∃ ts v, t = State.holdoverFreeze v ts ∧ v = { s with t := max s.t ((x.2 + 10_000_000_000) * 2 ^ 32) } ∧
      ∀ m, m ∈ ts ↔ ∃ y, y ∈ s.svc.holdover ∧ y.1 = m ∧ y.2 + 10_000_000_000 ≤ v.now := by
  refine leaves_live _ rfl hs ?_
  cases hh : s.svc.holdover with
  | nil => rw [hh] at hx; exact absurd hx List.not_mem_nil
  | cons z r =>
    rw [hh] at hx hmin
    have hdo : doHoldoverFreeze s = (s.advanceTo (x.2 + 10_000_000_000)).holdoverFreeze ((s.svc.holdover.filter fun y =>
        decide (y.2 + 10_000_000_000 ≤ (s.advanceTo (x.2 + 10_000_000_000)).now)).map (·.1)) := by
      rw [doHoldoverFreeze, hh]
      dsimp only
      rw [first_holdover hx hmin, ← hh]
      rfl
    refine ⟨_, _, hdo, rfl, fun m => ?_⟩
    rw [← hh]
    simp only [List.mem_map, List.mem_filter, decide_eq_true_eq]
    constructor
    · rintro ⟨y, ⟨hy, hle⟩, hm⟩
      exact ⟨y, hy, hm, hle⟩
    · rintro ⟨y, hy, hm, hle⟩
      exact ⟨y, ⟨hy, hle⟩, hm⟩

/-- The tiles whose holdover froze the schedule, with HO_FROZEN raised. -/
def State.markFrozen (s : State) (ts : List Nat) : State := { s with svc.frozenTiles := ts }.put R.GLB_STS_HO_FROZEN 1

theorem State.markFrozen_cir (s : State) (ts : List Nat) : (s.markFrozen ts).cir = s.cir := by
  rw [State.markFrozen, State.put_cir]

theorem State.markFrozen_trans (s : State) (ts : List Nat) : (s.markFrozen ts).fab.trans = s.fab.trans := by
  rw [State.markFrozen, State.put_fab]

theorem State.markFrozen_active (s : State) (ts : List Nat) (a : Active) (h : s.sch.active = some a) : (s.markFrozen ts).sch.active = some a := by
  rw [State.markFrozen, State.put_sch]
  exact h

theorem State.stopSchedule_cir (s : State) (a : Active) : (s.stopSchedule a).cir = s.cir := rfl

theorem State.stopSchedule_active (s : State) (a : Active) : (s.stopSchedule a).sch.active =
    some { a with frozen := some a.slot, freezeDue := false, resumeAt := none } := rfl

theorem State.holdoverFreeze_frozen (s : State) (ts : List Nat) (h : s.flag R.GLB_STS_HO_FROZEN = true) : s.holdoverFreeze ts = s := by
  rw [State.holdoverFreeze, if_pos h]

theorem State.holdoverFreeze_eq (s : State) (ts : List Nat) (h : s.flag R.GLB_STS_HO_FROZEN = false) :
    s.holdoverFreeze ts = (s.markFrozen ts).freeze.ev Ev.holdoverFreeze := by
  rw [State.holdoverFreeze, h, if_neg Bool.false_ne_true]
  rfl

/-- A freeze with no slot epoch past its point of no return stops the schedule at its slot. -/
theorem State.freeze_stops (s : State) (a : Active) (ha : s.sch.active = some a) (hf : a.frozen = none)
    (htr : ∀ tr, tr ∈ s.fab.trans → tr.slotClass = true → tr.phase = 0 ∧ tr.swap = false) :
    s.freeze = (s.stopSchedule a).rehome.ev Ev.freeze := by
  have hnone : (s.fab.trans.any fun t => t.slotClass && (decide (1 ≤ t.phase) || t.swap)) = false := by
    rw [List.any_eq_false]
    intro tr hm hp
    rw [Bool.and_eq_true, Bool.or_eq_true, decide_eq_true_eq] at hp
    obtain ⟨hcls, hpast⟩ := hp
    obtain ⟨hph, hsw⟩ := htr tr hm hcls
    rw [hph, hsw] at hpast
    rcases hpast with h | h
    · exact absurd h (by decide)
    · exact absurd h (by decide)
  rw [State.freeze, ha]
  dsimp only
  rw [hf, Option.isSome_none, if_neg Bool.false_ne_true, hnone, if_neg Bool.false_ne_true]
  rfl

theorem holdoverFreeze_marks (s : State) (ts : List Nat) (h : s.flag R.GLB_STS_HO_FROZEN = false) :
    (s.holdoverFreeze ts).flag R.GLB_STS_HO_FROZEN = true ∧ (s.holdoverFreeze ts).svc.frozenTiles = ts := by
  have ht : (s.markFrozen ts).Touches (s.holdoverFreeze ts) [.fab, .sch, .trv, .recorder, .frames] [] := by
    rw [s.holdoverFreeze_eq ts h]
    exact (s.markFrozen ts).freeze_freezes.touches.trans (.ev _ _ _ (by decide) (by decide) (by decide))
  refine ⟨?_, ?_⟩
  · rw [ht.flag (by decide) (by decide)]
    exact State.flag_put_one _ _ (by decide) rfl
  · rw [ht.same .svc (by decide)]
    rfl

theorem holdoverFreeze_closes (s : State) (ts : List Nat) (h : s.flag R.GLB_STS_HO_FROZEN = false) (a : Active) (ha : s.sch.active = some a)
    (hf : a.frozen = none) (htr : ∀ tr, tr ∈ s.fab.trans → tr.slotClass = true → tr.phase = 0 ∧ tr.swap = false) :
    ((s.markFrozen ts).stopSchedule a).Closes [] (s.holdoverFreeze ts) := by
  rw [s.holdoverFreeze_eq ts h, (s.markFrozen ts).freeze_stops a (s.markFrozen_active ts a ha) hf (by rw [s.markFrozen_trans ts]; exact htr)]
  exact ((State.rehome_closes _).comp (.ev _ _ _ _ (by decide))).comp (.ev _ _ _ _ (by decide))

theorem holdoverFreeze_stops (s : State) (ts : List Nat) (h : s.flag R.GLB_STS_HO_FROZEN = false) (a : Active) (ha : s.sch.active = some a)
    (hf : a.frozen = none) (htr : ∀ tr, tr ∈ s.fab.trans → tr.slotClass = true → tr.phase = 0 ∧ tr.swap = false) :
    ∃ b, (s.holdoverFreeze ts).sch.active = some b ∧ b.frozen = some a.slot ∧ b.slot = a.slot ∧ b.resumeAt = none ∧
      (s.holdoverFreeze ts).cir = s.cir := by
  have hc := holdoverFreeze_closes s ts h a ha hf htr
  have hcir : (s.holdoverFreeze ts).cir = s.cir := (hc.steady.cir.trans (State.stopSchedule_cir _ a)).trans (s.markFrozen_cir ts)
  have hact := hc.sched.active.trans (State.stopSchedule_active _ a)
  exact ⟨{ a with frozen := some a.slot, freezeDue := false, resumeAt := none }, hact, rfl, rfl, rfl, hcir⟩

/-- The state with the tiles of a holdover freeze forgotten and HO_FROZEN clear, at the end of the freeze. -/
def State.thaw (s : State) (n : Nat) : State := { s.advanceTo n with svc.frozenTiles := [] }.put R.GLB_STS_HO_FROZEN 0

theorem State.unfreeze_touches (s : State) (rs : List Nat) {ps : List Part} (h : Part.sch ∈ ps) : s.Touches s.unfreeze ps rs := by
  unfold State.unfreeze
  split
  · exact .refl ..
  · exact .with_sch s _ h

theorem State.unfreeze_active (s : State) (a : Active) (h : s.sch.active = some a) :
    s.unfreeze.sch.active = some { a with freezeDue := false, resumeAt := if a.frozen.isSome then some s.now else none } := by
  rw [State.unfreeze, h]

theorem all_cool_iff (s : State) : ((List.range 20).all fun t => decide ((s.tile t).level < 3)) = true ↔ ∀ m, m < 20 → (s.tile m).level < 3 := by
  simp only [List.all_eq_true, List.mem_range, decide_eq_true_eq]

theorem holdoverFreezeEnd_leaves (s : State) (n : Nat) (hs : s.Live) (hn : s.svc.refGoodSince = some n) (hf : s.flag R.GLB_STS_HO_FROZEN = true)
    (hin : s.hubIn = true) (hok : s.flag R.TIME_STS_REF_OK = true) : Leaves .holdoverFreezeEnd s fun t =>
      let cool : Prop := ∀ m, m < 20 → (s.tile m).level < 3
      t.t = max s.t ((n + 1_000_000_000) * 2 ^ 32) ∧ t.flag R.GLB_STS_HO_FROZEN = false ∧ t.svc.frozenTiles = [] ∧
      (cool → ∀ a, s.sch.active = some a → t.sch.active = some { a with freezeDue := false, resumeAt := if a.frozen.isSome then some t.now else none }) ∧
      (¬ cool → t.sch = s.sch) ∧ s.Touches t [.time, .svc, .sch] [R.GLB_STS] := by
  refine leaves_live _ rfl hs ?_
  set v := s.thaw (n + 1_000_000_000) with hv
  have hdo : doHoldoverFreezeEnd s = if ((List.range 20).all fun t => decide ((s.tile t).level < 3)) = true then v.unfreeze else v := by
    rw [doHoldoverFreezeEnd, hn]
    dsimp only
    rw [hf, hin, hok, Bool.and_self, Bool.and_self, if_pos rfl]
    rfl
  have htv : s.Touches v [.time, .svc, .sch] [R.GLB_STS] :=
    ((State.Touches.advanceTo s _ (by decide)).trans (.with_svc _ _ (by decide))).trans (.put _ _ _ (by decide))
  have hflag : (s.thaw (n + 1_000_000_000)).flag R.GLB_STS_HO_FROZEN = false := State.flag_put_zero _ _ (by decide) rfl
  rw [hdo]
  by_cases hc : ((List.range 20).all fun t => decide ((s.tile t).level < 3)) = true
  case pos =>
    rw [if_pos hc]
    have ht := v.unfreeze_touches [] (ps := [.sch]) (by decide)
    have htime : v.unfreeze.t = v.t := ht.same .time (by decide)
    refine ⟨htime, ?_, ?_, fun _ a ha => ?_, fun hnot => absurd ((all_cool_iff s).1 hc) hnot, htv.trans (v.unfreeze_touches _ (by decide))⟩
    · rw [ht.flag (by decide) (by decide), hflag]
    · rw [ht.same .svc (by decide)]
      rfl
    · have hnow : v.unfreeze.now = v.now := congrArg (· / 2 ^ 32) htime
      rw [v.unfreeze_active a ha, hnow]
  case neg =>
    rw [if_neg hc]
    exact ⟨rfl, hflag, rfl, fun hcool => absurd ((all_cool_iff s).2 hcool) hc, fun _ => rfl, htv⟩

/-! ## The end of a failover freeze (R472) -/

/-- The images of the two groups exchanged. -/
def State.exchangeImages (s : State) : State :=
  { s with svc.freezeEnd := none, svc.active := s.svc.standby, svc.standby := s.svc.active,
           svc.refGoodSince := if s.svc.refLost then none else some s.now }

/-- The group in standby takes over. -/
def State.exchangeGroups (s : State) (f : Nat) : State :=
  let s := (s.advanceTo f).exchangeImages
  (s.put R.GLB_FW_0_ACT_GRP (1 - s.get R.GLB_FW_0_ACT_GRP)).put R.GLB_FW_0_STBY_READY 0

theorem State.exchangeImages_touches (s : State) (f : Nat) : s.Touches (s.advanceTo f).exchangeImages [.time, .svc, .recorder, .frames] [] :=
  (State.Touches.advanceTo s f (by decide)).trans (.with_svc _ _ (by decide))

theorem State.exchangeGroups_evt (s : State) (f : Nat) : (s.exchangeGroups f).evt = s.evt := by
  have hx : ∀ v : State, v.exchangeImages.evt = v.evt := fun _ => rfl
  rw [State.exchangeGroups, State.put_evt, State.put_evt, hx]
  rfl

theorem State.exchangeGroups_actGrp (s : State) (f : Nat) : (s.exchangeGroups f).get R.GLB_FW_0_ACT_GRP = 1 - s.get R.GLB_FW_0_ACT_GRP := by
  have hx : (s.advanceTo f).exchangeImages.get R.GLB_FW_0_ACT_GRP = s.get R.GLB_FW_0_ACT_GRP :=
    (s.exchangeImages_touches f).get (by decide) (by decide)
  rw [State.exchangeGroups, State.get_put_apart _ _ _ _ (by decide) (by decide) (by decide), State.get_put_self _ _ _ (by decide), hx]
  exact Nat.mod_eq_of_lt (Nat.lt_of_le_of_lt (Nat.sub_le ..) (by decide))

theorem State.exchangeGroups_stbyReady (s : State) (f : Nat) : (s.exchangeGroups f).get R.GLB_FW_0_STBY_READY = 0 := by
  rw [State.exchangeGroups, State.get_put_self _ _ _ (by decide)]
  rfl

theorem State.exchangeGroups_svc (s : State) (f : Nat) : (s.exchangeGroups f).svc = (s.advanceTo f).exchangeImages.svc := by
  rw [State.exchangeGroups, State.put_svc, State.put_svc]

theorem State.exchangeGroups_t (s : State) (f : Nat) : (s.exchangeGroups f).t = max s.t (f * 2 ^ 32) := by
  have hx : ∀ v : State, v.exchangeImages.t = v.t := fun _ => rfl
  rw [State.exchangeGroups, State.put_t, State.put_t, hx]
  rfl

theorem State.hubBack_touches (s : State) (h : ∀ q, q ∈ s.evt.tileQ → q.1.src < 1_536) : s.Touches s.hubBack Part.occ [] := by
  have hclear : s.Touches { s with evt.tileQ := [] } Part.occ [] := .with_evt s _ (by decide)
  have hrec := List.foldlRecOn s.evt.tileQ (fun (s : State) x => s.record x.1 x.2) (motive := fun t => s.Touches t Part.occ []) hclear
    fun t ht q hq => ht.trans (.ofRecorded (t.record_recorded q.1 q.2 (h q hq)) (by decide) (by decide))
  unfold State.hubBack
  dsimp only
  split
  · exact hrec.trans (.ev _ _ _ (by decide) (by decide) (by decide))
  · exact hrec

/-- The epochs whose verification fell into the freeze are verified late, then the frames the hub kept are processed. -/
def State.catchUp (v : State) (env : WriteEnv) (began : Nat) : State :=
  let fell (cls : Bool) (x : State) : List Nat :=
    (x.waitingEpochs cls).filter fun e => decide (began ≤ e - 5_000) && decide (e - 5_000 ≤ v.now)
  let a := (fell true v).foldl (fun x e => x.lateEpoch true e) v
  let b := (fell false a).foldl (fun x e => x.lateEpoch false e) a
  b.cmd.ingress.foldl (fun x q => x.processQueued env q.1 q.2) { b with cmd.ingress := [] }

theorem doFailoverFreezeEnd_eq (s : State) (env : WriteEnv) (f : Nat) (hf : s.svc.freezeEnd = some f) :
    doFailoverFreezeEnd env s = ((s.exchangeGroups f).hubBack.ev Ev.failover).catchUp env s.svc.outAt := by
  have houtAt : s.svc.outAt = (s.advanceTo f).svc.outAt := rfl
  unfold doFailoverFreezeEnd State.exchangeGroups State.exchangeImages State.catchUp
  rw [hf, houtAt]

theorem failoverFreezeEnd_leaves (s : State) (env : WriteEnv) (f : Nat) (hs : s.Live) (hf : s.svc.freezeEnd = some f)
    (hq : ∀ q, q ∈ s.evt.tileQ → q.1.src < 1_536) : Leaves (.failoverFreezeEnd env) s fun t => ∃ v : State,
    v.t = max s.t (f * 2 ^ 32) ∧ v.svc.freezeEnd = none ∧ v.svc.active = s.svc.standby ∧ v.svc.standby = s.svc.active ∧
    v.svc.refGoodSince = (if s.svc.refLost then none else some v.now) ∧ v.get R.GLB_FW_0_ACT_GRP = 1 - s.get R.GLB_FW_0_ACT_GRP ∧
    v.get R.GLB_FW_0_STBY_READY = 0 ∧ s.Touches v [.time, .svc, .recorder, .frames] [R.GLB_FW_0] ∧
    (let fell (cls : Bool) (x : State) : List Nat :=
      (x.waitingEpochs cls).filter fun e => decide (s.svc.outAt ≤ e - 5_000) && decide (e - 5_000 ≤ v.now)
     let a := (fell true v).foldl (fun x e => x.lateEpoch true e) v
     let b := (fell false a).foldl (fun x e => x.lateEpoch false e) a
     t = b.cmd.ingress.foldl (fun x q => x.processQueued env q.1 q.2) { b with cmd.ingress := [] }) := by
  refine leaves_live _ rfl hs ?_
  set u := s.exchangeGroups f with hu
  have hq' : ∀ q, q ∈ u.evt.tileQ → q.1.src < 1_536 := by
    rw [hu, s.exchangeGroups_evt]
    exact hq
  have hub : u.Touches (u.hubBack.ev Ev.failover) Part.occ [] := (u.hubBack_touches hq').trans (.ev _ _ _ (by decide) (by decide) (by decide))
  have hxch : s.Touches u [.time, .svc, .recorder, .frames] [R.GLB_FW_0] :=
    (((s.exchangeImages_touches f).mono (by decide) (by simp)).trans (.put _ R.GLB_FW_0_ACT_GRP _ (by decide))).trans
      (.put _ R.GLB_FW_0_STBY_READY _ (by decide))
  have hsvc : (u.hubBack.ev Ev.failover).svc = (s.advanceTo f).exchangeImages.svc := (hub.same .svc (by decide)).trans (s.exchangeGroups_svc f)
  have htime : (u.hubBack.ev Ev.failover).t = u.t := hub.same .time (by decide)
  have hnow : (u.hubBack.ev Ev.failover).now = u.now := congrArg (· / 2 ^ 32) htime
  have hunow : u.now = (s.advanceTo f).now := congrArg (· / 2 ^ 32) (s.exchangeGroups_t f)
  refine ⟨u.hubBack.ev Ev.failover, htime.trans (s.exchangeGroups_t f), ?_, ?_, ?_, ?_, ?_, ?_, hxch.trans (hub.mono (by decide) (by simp)), ?_⟩
  · rw [hsvc]; rfl
  · rw [hsvc]; rfl
  · rw [hsvc]; rfl
  · rw [hsvc, hnow, hunow]; rfl
  · rw [hub.get (by decide) (by decide), hu, s.exchangeGroups_actGrp]
  · rw [hub.get (by decide) (by decide), hu, s.exchangeGroups_stbyReady]
  · rw [doFailoverFreezeEnd_eq s env f hf, State.catchUp, hnow]

/-- Settles O53. -/
theorem holdoverAndFailoverFreezes : Obligations.HoldoverAndFailoverFreezes := by
  unfold Obligations.HoldoverAndFailoverFreezes
  exact ⟨refclkLoss_leaves, refclkReturn_leaves, tileHoldoverEntry_leaves, holdoverFreeze_leaves,
    fun s ts => ⟨s.holdoverFreeze_frozen ts, fun h => ⟨(holdoverFreeze_marks s ts h).1, (holdoverFreeze_marks s ts h).2, holdoverFreeze_stops s ts h⟩⟩,
    holdoverFreezeEnd_leaves, failoverFreezeEnd_leaves⟩

end Sys2Proof.Machine
end

section
/-!
PROOFS. The PTP servo: a usable Sync, the holdover after 3 s, and writes of `TIME_PTP_CFG` (R121, R139), and O2.
-/
namespace Sys2Proof.Machine

/-! ## Changes of the servo's state -/

theorem State.setServo_touches (s : State) (st : Nat) : s.Touches (s.setServo st) [.tm, .recorder, .frames] [R.TIME_STS] := by
  unfold State.setServo
  split
  · exact .refl ..
  · exact .trans (.put s R.TIME_STS_SRV_STATE st (by decide)) (.trans (.with_tm _ _ (by decide)) (.ev _ _ _ (by decide) (by decide) (by decide)))

theorem State.setServo_state (s : State) {st : Nat} (h : st < 4) : (s.setServo st).get R.TIME_STS_SRV_STATE = st := by
  unfold State.setServo
  split
  case isTrue he => exact he
  case isFalse =>
    rw [State.ev_get _ _ _ (by decide) (by decide)]
    exact (State.get_put_self s _ _ (by decide)).trans (Nat.mod_eq_of_lt h)

theorem State.setServo_get (s : State) (st : Nat) {f : Fld} (hf : f.ok) (ha : R.TIME_STS_SRV_STATE.apart f) (he : ¬ evtReg f.addr) :
    (s.setServo st).get f = s.get f := by
  unfold State.setServo
  split
  · rfl
  · rw [State.ev_get _ _ _ (by decide) he]
    exact State.get_put_apart s _ _ _ (by decide) hf ha

theorem State.setServo_tm (s : State) {st : Nat} (h : s.get R.TIME_STS_SRV_STATE ≠ st) : (s.setServo st).tm = { s.tm with lockRun := 0 } := by
  rw [State.setServo, if_neg h, State.ev_tm _ _ _ (by decide)]
  rfl

theorem servoHoldover_leaves (s : State) (hs : s.Live) (hup : s.ctrlUp = true) (hst : s.get R.TIME_STS_SRV_STATE = srvLocked) :
    Leaves .servoHoldover s fun t =>
      t.get R.TIME_STS_SRV_STATE = srvHoldover ∧ t.t = max s.t ((s.tm.lastSync + 3_000_000_000) * 2 ^ 32) ∧ t.tm = { s.tm with lockRun := 0 } ∧
      s.Touches t [.tm, .time, .recorder, .frames] [R.TIME_STS] := by
  refine leaves_live _ rfl hs ?_
  set u := s.advanceTo (s.tm.lastSync + 3_000_000_000) with hu
  have hdo : doServoHoldover s = u.setServo srvHoldover := by
    rw [doServoHoldover, hup, hst, if_pos (by decide)]
  have hne : u.get R.TIME_STS_SRV_STATE ≠ srvHoldover := by
    rw [show u.get R.TIME_STS_SRV_STATE = srvLocked from hst]
    decide
  have ht := u.setServo_touches srvHoldover
  rw [hdo]
  exact ⟨u.setServo_state (by decide), ht.same .time (by decide), u.setServo_tm hne,
    (State.Touches.advanceTo s _ (by decide)).trans (ht.mono (by decide) (by decide))⟩

/-! ## Writes of `TIME_PTP_CFG` -/

theorem State.take_ptpEnable (s : State) (v : Word) (h : bits v 0 0 = 0) : (s.take R.TIME_PTP_CFG v).flag R.TIME_PTP_CFG_ENABLE = false := by
  have hf : fieldsAt R.TIME_PTP_CFG = [⟨31, 24, .rwc, 0⟩, ⟨23, 12, .rwc, 100⟩, ⟨6, 6, .rwc, 0⟩, ⟨5, 4, .rwc, 0⟩, ⟨3, 2, .rwc, 0⟩, ⟨0, 0, .rw, 0⟩] := by
    decide
  rw [State.flag, State.get, show R.TIME_PTP_CFG_ENABLE = ⟨R.TIME_PTP_CFG, 0, 0⟩ from rfl, State.rd_take_self, hf]
  simp only [writeFields, List.foldl_cons, List.foldl_nil]
  rw [bits_setBits_self _ _ _ _ (by decide) (by decide), h]
  rfl

theorem timePtpCfgWrite_locked (s : State) (v : Word) (hs : s.Served) (hen : s.flag R.TIME_PTP_CFG_ENABLE = true)
    (hhit : s.rwcHit R.TIME_PTP_CFG v = true) : Leaves (.timePtpCfgWrite v) s fun t =>
      t.get R.TIME_STS_REFUSE = Code.TIM_PTP_CONFIG ∧ s.Touches t [.recorder, .frames] [R.TIME_STS] := by
  refine leaves_bar _ rfl hs ?_
  have hdo : doTimePtpCfgWrite v s = s.timeRefuse Code.TIM_PTP_CONFIG := by
    simp only [doTimePtpCfgWrite, State.ctlWrite, hen, hhit, Bool.and_self, if_true]
    rfl
  rw [hdo]
  exact ⟨s.timeRefuse_refuse (by decide), s.timeRefuse_touches _ (by decide) (by decide) (by decide)⟩

theorem timePtpCfgWrite_off (s : State) (v : Word) (hs : s.Served) (hv : bits v 0 0 = 0)
    (hno : ¬ (s.flag R.TIME_PTP_CFG_ENABLE = true ∧ s.rwcHit R.TIME_PTP_CFG v = true)) : Leaves (.timePtpCfgWrite v) s fun t =>
      t.get R.TIME_STS_SRV_STATE = srvFreerun ∧ t.flag R.TIME_PTP_CFG_ENABLE = false ∧ t.get R.TIME_STS_REFUSE = 0 ∧
      s.Touches t [.tm, .recorder, .frames] [R.TIME_STS, R.TIME_PTP_CFG] := by
  refine leaves_bar _ rfl hs ?_
  set u := s.take R.TIME_PTP_CFG v with hu
  have hoff : u.flag R.TIME_PTP_CFG_ENABLE = false := s.take_ptpEnable v hv
  have hoff' : u.timeTaken.flag R.TIME_PTP_CFG_ENABLE = false := (u.timeTaken_flag (by decide) (by decide)).trans hoff
  have hdo : doTimePtpCfgWrite v s = u.timeTaken.setServo srvFreerun := by
    have hlock : (s.flag R.TIME_PTP_CFG_ENABLE && s.rwcHit R.TIME_PTP_CFG v) = false := by
      rw [Bool.eq_false_iff, ne_eq, Bool.and_eq_true]
      exact hno
    simp [doTimePtpCfgWrite, State.ctlWrite, hlock, ← hu, hoff, hoff', hv]
  have ht := u.timeTaken.setServo_touches srvFreerun
  rw [hdo]
  refine ⟨State.setServo_state _ (by decide), ?_, ?_, ?_⟩
  · rw [ht.flag (by decide) (by decide), hoff']
  · rw [State.setServo_get _ _ (by decide) (by decide) (by decide), u.timeTaken_refuse]
  · exact ((State.Touches.take s _ v (by decide)).trans (u.timeTaken_touches (by decide))).trans (ht.mono (by decide) (by decide))

/-! ## A usable Sync -/

/-- The consecutive Sync intervals below LOCK_THR, with one of offset `ofs` counted. -/
def State.syncRun (s : State) (ofs : Int) : Nat := if ofs.natAbs < s.get R.TIME_PTP_CFG_LOCK_THR then s.tm.lockRun + 1 else 0

/-- The master and the offset that a usable Sync tells. -/
def State.noteSync (s : State) (master : Bool) (ofs : Int) : State :=
  { s with tm.master := master }.put (whole R.TIME_SRV_OFS) (tc 32 (satInt 32 ofs))

/-- The state with a run and the instant of the last Sync. -/
def State.withRun (s : State) (run : Nat) : State := { s with tm.lockRun := run, tm.lastSync := s.now }

/-- What every usable Sync leaves: the offset measured, the run and the instant. -/
def State.takeSync (s : State) (master : Bool) (ofs : Int) : State := (s.noteSync master ofs).withRun (s.syncRun ofs)

theorem State.noteSync_touches (s : State) (master : Bool) (ofs : Int) : s.Touches (s.noteSync master ofs) [.tm] [R.TIME_SRV_OFS] :=
  .trans (.with_tm s _ (by decide)) (.put _ (whole R.TIME_SRV_OFS) _ (by decide))

theorem State.noteSync_tm (s : State) (master : Bool) (ofs : Int) : (s.noteSync master ofs).tm = { s.tm with master := master } := by
  rw [State.noteSync, State.put_tm]

theorem State.takeSync_touches (s : State) (master : Bool) (ofs : Int) : s.Touches (s.takeSync master ofs) [.tm] [R.TIME_SRV_OFS] :=
  (s.noteSync_touches master ofs).trans (.with_tm _ _ (by decide))

theorem State.takeSync_tm (s : State) (master : Bool) (ofs : Int) :
    (s.takeSync master ofs).tm = { s.tm with master := master, lockRun := s.syncRun ofs, lastSync := s.now } := by
  rw [State.takeSync, State.withRun, s.noteSync_tm]
  rfl

theorem ofNat_tc (v : Int) : BitVec.ofNat 32 (tc 32 v) = BitVec.ofInt 32 v := by
  apply BitVec.eq_of_toNat_eq
  rw [BitVec.toNat_ofNat, BitVec.toNat_ofInt, tc]
  omega

theorem State.takeSync_offset (s : State) (master : Bool) (ofs : Int) :
    (s.takeSync master ofs).rd R.TIME_SRV_OFS = BitVec.ofInt 32 (max (-2 ^ 31) (min (2 ^ 31 - 1) ofs)) := by
  have hrd : (s.takeSync master ofs).rd R.TIME_SRV_OFS = BitVec.ofNat 32 (tc 32 (satInt 32 ofs)) :=
    State.rd_put_whole { s with tm.master := master } _ _
  rw [hrd, ofNat_tc, satInt, min_comm]

/-- The servo of a LOCKING or held-over state: 16 intervals in a row below LOCK_THR lock it and set VALID (R121, R139). -/
theorem State.servo_sync (s : State) (master : Bool) (ofs : Int) (hen : s.flag R.TIME_PTP_CFG_ENABLE = true)
    (hst : s.get R.TIME_STS_SRV_STATE = srvLocking ∨ s.get R.TIME_STS_SRV_STATE = srvHoldover) :
    s.servo master (some ofs) = if 16 ≤ s.syncRun ofs then ((s.takeSync master ofs).setServo srvLocked).put R.TIME_STS_VALID 1
      else s.takeSync master ofs := by
  have hmaster : { s with tm.master := master }.get R.TIME_STS_SRV_STATE = s.get R.TIME_STS_SRV_STATE := rfl
  have hfree : (master && s.get R.TIME_STS_SRV_STATE == srvFreerun) = false := by
    rcases hst with h | h <;> rw [h] <;> exact Bool.and_false _
  have hnote : (s.noteSync master ofs).get R.TIME_PTP_CFG_LOCK_THR = s.get R.TIME_PTP_CFG_LOCK_THR :=
    (s.noteSync_touches master ofs).get (by decide) (by decide)
  have hrun : (if ofs.natAbs < (s.noteSync master ofs).get R.TIME_PTP_CFG_LOCK_THR then (s.noteSync master ofs).tm.lockRun + 1 else 0) =
      s.syncRun ofs := by
    rw [hnote, s.noteSync_tm, State.syncRun]
  have hsync : (s.takeSync master ofs).get R.TIME_STS_SRV_STATE = s.get R.TIME_STS_SRV_STATE :=
    (s.takeSync_touches master ofs).get (by decide) (by decide)
  have hfold : { s with tm.master := master }.put (whole R.TIME_SRV_OFS) (tc 32 (satInt 32 ofs)) = s.noteSync master ofs := rfl
  rw [State.takeSync, State.withRun] at hsync ⊢
  simp only [State.servo, hen, hmaster, hfree, if_true, Bool.false_eq_true, if_false, hfold, hrun, hsync, hst, and_true]

theorem ptpFrame_leaves (s u w : State) (rx : EthRx) (udp master : Bool) (domain : Nat) (ofs : Int) (inc : Nat)
    (hs : s.Live) (hport : rx.port < 4) (hrx : s.receive rx true = (u, true)) (hptp : rx.port = u.get R.TIME_PTP_CFG_PORT)
    (hpol : u.police rx 65 = (w, true)) (hdom : domain = w.get R.TIME_PTP_CFG_DOMAIN) (hudp : udp = true ↔ w.get R.TIME_PTP_CFG_TRANSPORT ≠ 0)
    (hen : w.flag R.TIME_PTP_CFG_ENABLE = true) (hst : w.get R.TIME_STS_SRV_STATE = srvLocking ∨ w.get R.TIME_STS_SRV_STATE = srvHoldover)
    (hlo : incMin ≤ inc) (hhi : inc ≤ incMax) : Leaves (.ptpFrame rx udp domain master (some ofs) (some inc)) s fun t =>
    let run := if ofs.natAbs < w.get R.TIME_PTP_CFG_LOCK_THR then w.tm.lockRun + 1 else 0
    t.tm.master = master ∧ t.tm.lastSync = w.now ∧ t.tm.inc = inc ∧
    t.rd R.TIME_SRV_OFS = BitVec.ofInt 32 (max (-2 ^ 31) (min (2 ^ 31 - 1) ofs)) ∧
    (if 16 ≤ run then t.get R.TIME_STS_SRV_STATE = srvLocked ∧ t.flag R.TIME_STS_VALID = true ∧ t.tm.lockRun = 0
      else t.get R.TIME_STS_SRV_STATE = w.get R.TIME_STS_SRV_STATE ∧ t.flag R.TIME_STS_VALID = w.flag R.TIME_STS_VALID ∧
        t.tm.lockRun = run) := by
  refine leaves_live _ rfl hs ?_
  set x := w.takeSync master ofs with hx
  have hxw := w.takeSync_touches master ofs
  have hxst : x.get R.TIME_STS_SRV_STATE = w.get R.TIME_STS_SRV_STATE := hxw.get (by decide) (by decide)
  have hne : x.get R.TIME_STS_SRV_STATE ≠ srvLocked := by
    rw [hxst]
    rcases hst with h | h <;> rw [h] <;> decide
  have hxt := w.takeSync_tm master ofs
  have hxo := w.takeSync_offset master ofs
  set y := if 16 ≤ w.syncRun ofs then (x.setServo srvLocked).put R.TIME_STS_VALID 1 else x with hy
  have hxy : x.Touches y [.tm, .recorder, .frames] [R.TIME_STS] := by
    rw [hy]
    split
    · exact (x.setServo_touches srvLocked).trans (.put _ R.TIME_STS_VALID _ (by decide))
    · exact .refl ..
  have hytm : y.tm = { x.tm with lockRun := if 16 ≤ w.syncRun ofs then 0 else w.syncRun ofs } := by
    rw [hy]
    split
    · rw [State.put_tm, x.setServo_tm hne]
    · rw [hxt]
  have hyen : y.flag R.TIME_PTP_CFG_ENABLE = true := by
    rw [hxy.flag (by decide) (by decide), hxw.flag (by decide) (by decide), hen]
  have hdo : doPtpFrame rx udp domain master (some ofs) (some inc) s = y.setInc inc := by
    have hfit : (domain == w.get R.TIME_PTP_CFG_DOMAIN && (udp == (w.get R.TIME_PTP_CFG_TRANSPORT != 0))) = true := by
      rw [← hdom, beq_self_eq_true, Bool.true_and, beq_iff_eq, Bool.eq_iff_iff, hudp, bne_iff_ne]
    have hin : (y.flag R.TIME_PTP_CFG_ENABLE && decide (incMin ≤ inc) && decide (inc ≤ incMax)) = true := by
      rw [hyen, decide_eq_true hlo, decide_eq_true hhi]
      rfl
    have hservo : w.servo master (some ofs) = y := w.servo_sync master ofs hen hst
    simp only [doPtpFrame, if_neg (Nat.not_le.2 hport), hrx, if_pos hptp, hpol, hfit, if_true, hservo, hin]
  have hinc := y.setInc_touches inc
  rw [hdo]
  refine ⟨?_, ?_, rfl, ?_, ?_⟩
  · rw [y.setInc_tm, hytm, hxt]
  · rw [y.setInc_tm, hytm, hxt]
  · rw [hinc.2.2 _ (by decide) (by decide), hxy.2.2 _ (by decide) (by decide), hxo]
  · change if 16 ≤ w.syncRun ofs then _ else _
    rw [hinc.get (by decide) (by decide), hinc.flag (by decide) (by decide), y.setInc_tm, hytm, hy]
    split
    case isTrue =>
      refine ⟨?_, State.flag_put_one _ _ (by decide) rfl, rfl⟩
      rw [State.get_put_apart _ _ _ _ (by decide) (by decide) (by decide), x.setServo_state (by decide)]
    case isFalse => exact ⟨hxst, hxw.flag (by decide) (by decide), rfl⟩

/-- Settles O2. -/
theorem servoFollowsSyncAndEnable : Obligations.ServoFollowsSyncAndEnable :=
  ⟨⟨servoHoldover_leaves, timePtpCfgWrite_locked, timePtpCfgWrite_off⟩, ptpFrame_leaves⟩

end Sys2Proof.Machine
end

section
/-!
PROOFS. Device time loaded from the tiles (R138), and the power-fail sequence (R328, R465, R512).
-/
namespace Sys2Proof.Machine

/-! ## The median of the tiles (R138) -/

theorem insertRising_eq (x : Int) (l : List Int) : insertRising x l = l.orderedInsert (· ≤ ·) x := by
  induction l with
  | nil => rfl
  | cons y l ih => rw [insertRising, List.orderedInsert_cons, ih]

/-- The offsets of the tiles in rising order. -/
def risingOffsets (off : List (Fin 20 × Int)) : List Int := ((List.range 20).map (tileOffset off)).reverse.insertionSort (· ≤ ·)

theorem medianOffset_eq (off : List (Fin 20 × Int)) :
    medianOffset off = ((risingOffsets off).getD 9 0 + (risingOffsets off).getD 10 0) / 2 := by
  have hsort : (List.range 20).foldl (fun l t => insertRising (tileOffset off t) l) [] = risingOffsets off := by
    rw [risingOffsets, List.insertionSort, List.foldr_reverse, List.foldl_map]
    simp only [insertRising_eq]
  rw [medianOffset, hsort]

theorem risingOffsets_perm (off : List (Fin 20 × Int)) : (risingOffsets off).Perm ((List.range 20).map (tileOffset off)) :=
  (List.perm_insertionSort _ _).trans (List.reverse_perm _)

theorem risingOffsets_pairwise (off : List (Fin 20 × Int)) : (risingOffsets off).Pairwise (· ≤ ·) := List.pairwise_insertionSort _ _

/-! ## Device time loaded from the tiles (R135, R138) -/

/-- The tiles more than 1 ns from the median. -/
def strayTiles (off : List (Fin 20 × Int)) : List Nat :=
  (List.range 20).filter fun t => decide (1_000 < (tileOffset off t - medianOffset off).natAbs)

/-- Device time moved to the median of the tiles. -/
def State.toMedian (s : State) (off : List (Fin 20 × Int)) : State := { s with t := ((s.t : Int) + medianOffset off * 2 ^ 32 / 1_000).toNat }

theorem State.loadTime_eq (s : State) (off : List (Fin 20 × Int)) : s.loadTime off = ((s.toMedian off).setInc s.tm.inc).resyncAll (strayTiles off) := by
  rw [State.resyncAll, strayTiles, List.foldl_filter, State.loadTime]
  simp only [decide_eq_true_eq]
  rfl

theorem State.toMedian_t (s : State) (off : List (Fin 20 × Int)) : (s.toMedian off).t = ((s.t : Int) + medianOffset off * 2 ^ 32 / 1_000).toNat := by
  rw [State.toMedian]

theorem State.toMedian_touches (s : State) (off : List (Fin 20 × Int)) {ps : List Part} (rs : List Nat) (h : Part.time ∈ ps) :
    s.Touches (s.toMedian off) ps rs := .with_t s _ h

theorem State.loadTime_touches (s : State) (off : List (Fin 20 × Int)) :
    s.Touches (s.loadTime off) [.time, .tm, .recorder, .frames] [R.TIME_TILE_STS, R.TIME_INC_HI, R.TIME_INC_LO] := by
  rw [s.loadTime_eq off]
  exact ((s.toMedian_touches off _ (by decide)).trans ((State.setInc_touches _ _).mono (by decide) (by decide))).trans
    ((State.resyncAll_touches _ _).mono (by decide) (by decide))

theorem State.loadTime_t (s : State) (off : List (Fin 20 × Int)) : (s.loadTime off).t = ((s.t : Int) + medianOffset off * 2 ^ 32 / 1_000).toNat := by
  rw [s.loadTime_eq off, (State.resyncAll_touches _ _).same .time (by decide), (State.setInc_touches _ _).same .time (by decide), s.toMedian_t]

theorem State.loadTime_flag (s : State) (off : List (Fin 20 × Int)) {n : Nat} (hn : n < 20) : (s.loadTime off).flag (tileStsBit n) =
    (decide (1_000 < (tileOffset off n - medianOffset off).natAbs) || s.flag (tileStsBit n)) := by
  have hstray : ∀ k, k ∈ strayTiles off → k < 32 := fun k hk => by
    have := List.mem_range.1 (List.mem_of_mem_filter hk)
    omega
  have hmem : decide (n ∈ strayTiles off) = decide (1_000 < (tileOffset off n - medianOffset off).natAbs) := by
    rw [decide_eq_decide, strayTiles, List.mem_filter, decide_eq_true_eq]
    exact and_iff_right (List.mem_range.2 hn)
  have haddr : (tileStsBit n).addr ∉ [R.TIME_INC_HI, R.TIME_INC_LO] := show R.TIME_TILE_STS ∉ _ by decide
  rw [s.loadTime_eq off, State.resyncAll_flag _ hstray (by omega), hmem, (State.setInc_touches _ _).flag haddr (tileStsBit_not_evtReg n),
    (s.toMedian_touches off [] (ps := [.time]) (by decide)).flag (by simp) (tileStsBit_not_evtReg n)]

theorem loadTime_facts (s : State) (off : List (Fin 20 × Int)) :
    let m := medianOffset off
    let of (n : Nat) : Int := tileOffset off n
    let t := s.loadTime off
    (∃ l : List Int, l.Perm ((List.range 20).map of) ∧ l.Pairwise (· ≤ ·) ∧ m = (l.getD 9 0 + l.getD 10 0) / 2) ∧
    t.t = ((s.t : Int) + m * 2 ^ 32 / 1_000).toNat ∧ (∀ n, n < 20 → t.flag ⟨R.TIME_TILE_STS, n, n⟩ =
      (decide (1_000 < (of n - m).natAbs) || s.flag ⟨R.TIME_TILE_STS, n, n⟩)) ∧
    s.Touches t [.time, .tm, .recorder, .frames] [R.TIME_TILE_STS, R.TIME_INC_HI, R.TIME_INC_LO] :=
  ⟨⟨risingOffsets off, risingOffsets_perm off, risingOffsets_pairwise off, medianOffset_eq off⟩, s.loadTime_t off, fun _ hn => s.loadTime_flag off hn,
    s.loadTime_touches off⟩

/-! ## The power-fail sequence (R512) -/

/-- The bar against opens is as it was. -/
def State.KeepsNoOpen (s t : State) : Prop := t.fab.noOpen = s.fab.noOpen

theorem State.KeepsNoOpen.comp {a b c : State} (h : a.KeepsNoOpen b) (g : b.KeepsNoOpen c) : a.KeepsNoOpen c := Eq.trans g h

theorem State.closePulse_keepsNoOpen (s : State) (k start st tries : Nat) : s.KeepsNoOpen (s.closePulse k start st tries) := by
  have hset : ∀ (v : State) (x : Port), (v.setPort k x).fab.noOpen = v.fab.noOpen := fun _ _ => rfl
  have hpulse : (s.pulsed k start st tries).fab.noOpen = s.fab.noOpen := by
    rw [State.pulsed, hset, State.count_fab, State.count_fab]
  unfold State.KeepsNoOpen
  rcases s.closePulse_cases k start st tries with h | h <;> rw [h]
  · exact hpulse
  · rw [(State.evPort_recorded _ _ _ _ _ _ (latchWear_lt k)).fab, hset, hpulse]

/-- The state with other opens waiting for their start. -/
def State.withWaits (s : State) (ws : List OpenWait) : State := { s with fab.waits := ws }

theorem State.withWaits_keepsNoOpen (s : State) (ws : List OpenWait) : s.KeepsNoOpen (s.withWaits ws) := rfl

theorem State.closeAll_keepsNoOpen (s : State) (ks : List Nat) (due : Nat) : s.KeepsNoOpen (s.closeAll ks due true) := by
  have hfold (v : State) : v.KeepsNoOpen ((closeOrder ks due).foldl (fun t x => t.closePulse x.1 x.2 3 0) v) :=
    List.foldlRecOn (closeOrder ks due) (fun (t : State) x => t.closePulse x.1 x.2 3 0) (motive := v.KeepsNoOpen) rfl
      fun t ht x _ => ht.comp (t.closePulse_keepsNoOpen x.1 x.2 3 0)
  rw [State.closeAll_every]
  exact (s.withWaits_keepsNoOpen _).comp (hfold _)

/-- No latch opens again until the next start-up. -/
def State.barOpens (s : State) : State := { s with fab.noOpen := true, nv.emergency := true }

theorem State.barOpens_noOpen (s : State) : s.barOpens.fab.noOpen = true := rfl

theorem State.emergencyClose_eq (s : State) : s.emergencyClose = s.barOpens.closeAll (List.range 2048) (s.now + 60) true := rfl

theorem State.emergencyClose_touches (s : State) : s.Touches s.emergencyClose [.fab, .nv, .recorder, .frames] pulseRegs := by
  have hbar : s.Touches s.barOpens [.fab, .nv, .recorder, .frames] pulseRegs :=
    (State.Touches.with_fab s { s.fab with noOpen := true } (by decide)).trans (.with_nv _ _ (by decide))
  exact hbar.trans ((s.barOpens.closeAll_touches _ _ _).mono (by decide) fun _ h => h)

theorem State.emergencyClose_reads (s : State) : s.emergencyClose.fab.noOpen = true ∧ s.emergencyClose.nv.emergency = true ∧
    ∀ k, k < 2_048 → (s.emergencyClose.port k).lstate = 3 := by
  refine ⟨?_, ?_, fun k hk => ?_⟩
  · rw [s.emergencyClose_eq]
    exact (s.barOpens.closeAll_keepsNoOpen (List.range 2048) (s.now + 60)).trans s.barOpens_noOpen
  · rw [s.emergencyClose_eq, (s.barOpens.closeAll_touches _ _ _).same .nv (by decide)]
    rfl
  · rw [s.emergencyClose_eq]
    exact (s.barOpens.closeAll_port _ (List.mem_range.2 hk)).1

/-- The holds of every tile end. -/
def State.holdsEndAll (s : State) : State := (List.range 20).foldl State.holdsEnd s

theorem State.holdsEndAll_touches (s : State) : s.Touches s.holdsEndAll [.tiles, .cal] ((List.range 20).flatMap aloneRegs) :=
  State.Touches.foldl (fun s t ht => (s.holdsEnd_touches t).mono (fun _ h => h) fun _ ha => List.mem_flatMap.2 ⟨t, ht, ha⟩) s

/-- The latches are closed: the sequence from its start to its instant 20 µs after. -/
def State.failLatches (s : State) : State :=
  ((((s.advanceTo (s.now + 1_100)).put R.GLB_BOOT_STAGE 8).ev Ev.powerFailSequence).emergencyClose).advanceTo (s.now + 20_000)

/-- A load of firmware under way shows no more. -/
def State.failLoad (s : State) : State := if s.svc.fw.isSome then s.put R.GLB_FW_0_BUSY 0 else s

/-- Every output stops and every frame is dropped. -/
def State.failOutputs (s : State) (f : Nat) : State :=
  { s with drv.off := true, svc.pfail := true, svc.pfailAt := f, svc.fw := none, svc.resetAt := none, evt.block := none, cmd.posted := [],
           cmd.held := [], cmd.ingress := [], net.queues := [] }

/-- The cairn record that was still being written is torn. -/
def State.tearCairn (s : State) (torn : Bool) (f : Nat) : State :=
  let late := match s.nv.cairn.getLast? with
    | none => false
    | some c => decide (f < c.sec * 1_000_000_000 + c.ns + 1_000_000)
  if torn && late then { s with nv.cairn := s.nv.cairn.dropLast ++ s.nv.cairn.getLast?.toList.map fun c => { c with torn := true } } else s

/-- The open records close and the ring is flushed. -/
def State.failFlush (s : State) : State :=
  let s := (s.evt.opens.map (·.rec_.src)).foldl (fun s src => s.closeRec src s.now) s
  let s := (s.newRecord (occ Ev.powerFailFlush) s.now false true).1
  if s.flag R.EVT_CTL_ENABLE && s.flag R.EVT_CTL_LS_EN then s.nextBlock
  else if s.get R.EVT_STS_LS_STATE = lsFailed then s else s.wearSave

theorem doPowerFail_starts {s : State} {width : Nat} (torn : Bool) (hp : s.svc.por = true) (hw : 1_000 ≤ width) (hf : s.svc.pfail = false) :
    doPowerFail width torn s =
      (let t := ((s.failLatches.holdsEndAll.failLoad).failOutputs s.now).tearCairn torn s.now
       if s.hubIn then t.failFlush else t) := by
  have hgo : ¬ (width < 1_000 ∨ s.svc.por = false ∨ s.svc.pfail = true) := by
    rw [hp, hf]
    simpa using hw
  unfold State.failFlush State.tearCairn State.failOutputs State.failLoad State.holdsEndAll State.failLatches
  rw [doPowerFail, if_neg hgo] <;> rfl

theorem glbBoot_not_alone : R.GLB_BOOT ∉ (List.range 20).flatMap aloneRegs := by decide

theorem State.failLatches_touches (s : State) : s.Touches s.failLatches [.time, .fab, .nv, .recorder, .frames] (R.GLB_BOOT :: pulseRegs) := by
  have hstart : s.Touches (((s.advanceTo (s.now + 1_100)).put R.GLB_BOOT_STAGE 8).ev Ev.powerFailSequence)
      [.time, .fab, .nv, .recorder, .frames] (R.GLB_BOOT :: pulseRegs) :=
    ((State.Touches.advanceTo s _ (.head _)).trans (.put _ R.GLB_BOOT_STAGE _ (.head _))).trans (.ev _ _ _ (by decide) (by decide) (by decide))
  exact (hstart.trans ((State.emergencyClose_touches _).mono (by decide) fun _ h => .tail _ h)).trans (.advanceTo _ _ (.head _))

theorem State.failLatches_t (s : State) : s.failLatches.t = max s.t ((s.now + 20_000) * 2 ^ 32) := by
  have hclose : ∀ v : State, v.emergencyClose.t = v.t := fun v => v.emergencyClose_touches.same .time (by decide)
  have hev : ∀ v : State, (v.ev Ev.powerFailSequence).t = v.t := fun v => (State.ev_recorded v _ _ (by decide)).time
  have hadv : ∀ (v : State) (n : Nat), (v.advanceTo n).t = max v.t (n * 2 ^ 32) := fun _ _ => rfl
  rw [State.failLatches, hadv, hclose, hev, State.put_t, hadv]
  omega

theorem State.failLatches_stage (s : State) : s.failLatches.get R.GLB_BOOT_STAGE = 8 := by
  have hclose : ∀ v : State, v.emergencyClose.get R.GLB_BOOT_STAGE = v.get R.GLB_BOOT_STAGE := fun v =>
    v.emergencyClose_touches.get (pulseRegs_not_mem (.inl (by decide))) (by decide)
  have hadv : ∀ (v : State) (n : Nat), (v.advanceTo n).get R.GLB_BOOT_STAGE = v.get R.GLB_BOOT_STAGE := fun _ _ => rfl
  rw [State.failLatches, hadv, hclose, State.ev_get _ _ _ (by decide) (by decide), State.get_put_self _ _ _ (by decide)]
  rfl

theorem State.failLatches_reads (s : State) : s.failLatches.fab.noOpen = true ∧ s.failLatches.nv.emergency = true ∧
    ∀ k, k < 2_048 → (s.failLatches.port k).lstate = 3 := by
  have hfab : ∀ (v : State) (n : Nat), (v.advanceTo n).fab = v.fab := fun _ _ => rfl
  have hnv : ∀ (v : State) (n : Nat), (v.advanceTo n).nv = v.nv := fun _ _ => rfl
  have hport : ∀ (v : State) (n k : Nat), (v.advanceTo n).port k = v.port k := fun _ _ _ => rfl
  simp only [State.failLatches, hfab, hnv, hport]
  exact State.emergencyClose_reads _

/-- What a state in power failure keeps to the end of the sequence. -/
structure State.KeepsFail (s t : State) : Prop where
  touches : s.Touches t [.nv, .recorder, .frames] []
  emergency : t.nv.emergency = s.nv.emergency

theorem State.KeepsFail.refl (s : State) : s.KeepsFail s := ⟨.refl .., rfl⟩

theorem State.KeepsFail.comp {a b c : State} (h : a.KeepsFail b) (g : b.KeepsFail c) : a.KeepsFail c :=
  ⟨h.touches.trans g.touches, g.emergency.trans h.emergency⟩

theorem State.KeepsFail.ofRecorded {s t : State} (h : s.Recorded t) : s.KeepsFail t := ⟨.ofRecorded h (by decide) (by decide), by rw [h.nv]⟩

theorem State.tearCairn_keepsFail (s : State) (torn : Bool) (f : Nat) : s.KeepsFail (s.tearCairn torn f) := by
  unfold State.tearCairn
  dsimp only
  cases torn && _
  · exact .refl s
  · exact ⟨.with_nv s _ (by decide), rfl⟩

theorem State.wearSave_keepsFail (s : State) : s.KeepsFail s.wearSave := by
  have hevt : s.Touches { s with evt.lastWearSave := s.now } [.nv, .recorder, .frames] [] := .with_evt s _ (by decide)
  unfold State.wearSave
  split
  · exact ⟨hevt.trans (.with_nv _ _ (by decide)), rfl⟩
  · exact ⟨hevt.trans (.with_nv _ _ (by decide)), rfl⟩

theorem State.nextBlock_keepsFail (s : State) : s.KeepsFail s.nextBlock := by
  have hevt (e : EvtSt) : s.KeepsFail { s with evt := e } := ⟨.with_evt s _ (by decide), rfl⟩
  unfold State.nextBlock
  dsimp only
  split
  · split
    · exact (hevt _).comp (State.wearSave_keepsFail _)
    · exact hevt _
  · exact hevt _

theorem State.failFlush_keepsFail (s : State) : s.KeepsFail s.failFlush := by
  have hclose : s.KeepsFail ((s.evt.opens.map (·.rec_.src)).foldl (fun s src => s.closeRec src s.now) s) :=
    List.foldlRecOn _ _ (motive := s.KeepsFail) (.refl s) fun t ht src _ => ht.comp (.ofRecorded (t.closeRec_recorded src t.now))
  unfold State.failFlush
  dsimp only
  refine hclose.comp ?_
  set u := (s.evt.opens.map (·.rec_.src)).foldl (fun s src => s.closeRec src s.now) s
  refine .comp (.ofRecorded (u.newRecord_recorded (occ Ev.powerFailFlush) u.now false true)) ?_
  split
  · exact State.nextBlock_keepsFail _
  · split
    · exact .refl _
    · exact State.wearSave_keepsFail _

theorem State.failLoad_touches (s : State) : s.Touches s.failLoad [] [R.GLB_FW_0] := by
  unfold State.failLoad
  split
  · exact .put s R.GLB_FW_0_BUSY _ (by decide)
  · exact .refl ..

theorem State.failOutputs_reads (s : State) (f : Nat) : (s.failOutputs f).svc = { s.svc with pfail := true, pfailAt := f, fw := none, resetAt := none } ∧
    (s.failOutputs f).drv.off = true ∧ (s.failOutputs f).cmd = { s.cmd with posted := [], held := [], ingress := [] } ∧
    (s.failOutputs f).net.queues = [] := ⟨rfl, rfl, rfl, rfl⟩

theorem State.failOutputs_touches (s : State) (f : Nat) : s.Touches (s.failOutputs f) [.drv, .svc, .recorder, .cmd, .frames, .net] [] :=
  ((((State.Touches.with_drv s _ (by decide)).trans (.with_svc _ _ (by decide))).trans (.with_evt _ { s.evt with block := none } (by decide))).trans
    (.with_cmd _ _ (by decide) (by decide))).trans (.with_net _ _ (by decide))

theorem powerFail_leaves (s : State) (width : Nat) (torn : Bool) (hs : s.Live) : Leaves (.powerFail width torn) s fun t =>
    let starts : Prop := 1_000 ≤ width ∧ s.svc.pfail = false
    (¬ starts → t = s) ∧
    (starts → t.get R.GLB_BOOT_STAGE = 8 ∧ t.svc.pfail = true ∧ t.svc.pfailAt = s.now ∧ t.svc.fw = none ∧ t.drv.off = true ∧ t.fab.noOpen = true ∧
      t.nv.emergency = true ∧ (∀ k, k < 2_048 → (t.port k).lstate = 3) ∧ t.t = max s.t ((s.now + 20_000) * 2 ^ 32) ∧ t.cmd.held = [] ∧
      t.cmd.posted = [] ∧ t.cmd.ingress = [] ∧ t.net.queues = [] ∧ t.cir = s.cir ∧ t.sch = s.sch ∧ t.trv = s.trv) := by
  refine leaves_live (doPowerFail width torn) rfl hs ⟨fun hno => ?_, fun ⟨hw, hf⟩ => ?_⟩
  · rw [doPowerFail, if_pos]
    by_cases hw : width < 1_000
    · exact .inl hw
    · exact .inr (.inr (Bool.not_eq_false _ ▸ fun hf => hno ⟨Nat.not_lt.1 hw, hf⟩))
  · set u := s.failLatches with hu
    set w := u.holdsEndAll.failLoad with hwd
    have hsu := s.failLatches_touches
    have huw : u.Touches w [.tiles, .cal] (R.GLB_FW_0 :: (List.range 20).flatMap aloneRegs) :=
      (u.holdsEndAll_touches.mono (by simp) fun _ h => .tail _ h).trans (u.holdsEndAll.failLoad_touches.mono (by simp) (by simp))
    obtain ⟨hsvc, hoff, hcmd, hq⟩ := w.failOutputs_reads s.now
    have hwx := w.failOutputs_touches s.now
    set x := w.failOutputs s.now with hx
    have hkeep : x.KeepsFail (doPowerFail width torn s) := by
      rw [doPowerFail_starts torn hs.1 hw hf]
      dsimp only
      split
      · exact (x.tearCairn_keepsFail torn s.now).comp (State.failFlush_keepsFail _)
      · exact x.tearCairn_keepsFail torn s.now
    obtain ⟨hopen, hem, hclosed⟩ := s.failLatches_reads
    obtain ⟨hxt, hemt⟩ := hkeep
    set t := doPowerFail width torn s
    have hsvct : t.svc = _ := (hxt.same .svc (by decide)).trans hsvc
    have hcmdt : t.cmd = { x.cmd with outQ := t.cmd.outQ } := hxt.same .cmd (by decide)
    have hfab : t.fab = u.fab := ((hxt.same .fab (by decide)).trans (hwx.same .fab (by decide))).trans (huw.same .fab (by decide))
    have hnv : x.nv = u.nv := (hwx.same .nv (by decide)).trans (huw.same .nv (by decide))
    have htime : t.t = u.t := ((hxt.same .time (by decide)).trans (hwx.same .time (by decide))).trans (huw.same .time (by decide))
    have hstage : t.get R.GLB_BOOT_STAGE = u.get R.GLB_BOOT_STAGE := by
      rw [hxt.get (by decide) (by decide), hwx.get (by decide) (by decide), huw.get (by decide) (by decide)]
    refine ⟨hstage.trans s.failLatches_stage, by rw [hsvct], by rw [hsvct], by rw [hsvct], ?_, by rw [hfab, hopen], by rw [hemt, hnv, hem], fun k hk => ?_,
      htime.trans s.failLatches_t, by rw [hcmdt, hcmd], by rw [hcmdt, hcmd], by rw [hcmdt, hcmd], ?_, ?_, ?_, ?_⟩
    · rw [hxt.same .drv (by decide), hoff]
    · rw [State.port, hfab]
      exact hclosed k hk
    · rw [hxt.same .net (by decide), hq]
    · rw [hxt.same .cir (by decide), hwx.same .cir (by decide), huw.same .cir (by decide), hsu.same .cir (by decide)]
    · rw [hxt.same .sch (by decide), hwx.same .sch (by decide), huw.same .sch (by decide), hsu.same .sch (by decide)]
    · rw [hxt.same .trv (by decide), hwx.same .trv (by decide), huw.same .trv (by decide), hsu.same .trv (by decide)]

end Sys2Proof.Machine
end

section
/-!
PROOFS. The restart of the control domain (R138, R160, R390, R412, R460, R469), and O57.
-/
namespace Sys2Proof.Machine

/-! ## What keeps the hub in service -/

/-- The control domain runs as before, a freeze and the count of a good reference included. -/
def SvcSt.SameService (a b : SvcSt) : Prop :=
  b.por = a.por ∧ b.ctrlReset = a.ctrlReset ∧ b.fwRuns = a.fwRuns ∧ b.freezeEnd = a.freezeEnd ∧ b.refGoodSince = a.refGoodSince

/-- What the acts of the hub keep while it is in service: the service itself, no tile occurrence waits anew, and the schedules and the throttle
stand. -/
structure State.Serves (s t : State) : Prop where
  service : s.svc.SameService t.svc
  queue : s.hubIn = true → t.evt.tileQ = s.evt.tileQ
  sch : t.sch = s.sch
  thm : t.thm = s.thm

theorem SvcSt.SameService.trans {a b c : SvcSt} (h : a.SameService b) (g : b.SameService c) : a.SameService c := by
  obtain ⟨hp, hc, hf, hz, hr⟩ := h
  obtain ⟨gp, gc, gf, gz, gr⟩ := g
  exact ⟨gp.trans hp, gc.trans hc, gf.trans hf, gz.trans hz, gr.trans hr⟩

theorem SvcSt.SameService.refl (a : SvcSt) : a.SameService a := ⟨rfl, rfl, rfl, rfl, rfl⟩

theorem State.hubIn_of_sameService {s t : State} (h : s.svc.SameService t.svc) : t.hubIn = s.hubIn := by
  obtain ⟨hp, hc, hf, hz, -⟩ := h
  rw [State.hubIn, State.hubIn, hp, hc, hf, hz]

namespace State.Serves

theorem hubIn {s t : State} (h : s.Serves t) : t.hubIn = s.hubIn := State.hubIn_of_sameService h.service

theorem refl (s : State) : s.Serves s := ⟨.refl _, fun _ => rfl, rfl, rfl⟩

theorem comp {a b c : State} (h : a.Serves b) (g : b.Serves c) : a.Serves c :=
  ⟨h.service.trans g.service, fun hin => (g.queue (h.hubIn.trans hin)).trans (h.queue hin), g.sch.trans h.sch, g.thm.trans h.thm⟩

theorem foldl {α : Type} {f : State → α → State} (h : ∀ (s : State) a, s.Serves (f s a)) (l : List α) (s : State) : s.Serves (l.foldl f s) :=
  List.foldlRecOn l f (motive := s.Serves) (refl s) fun t ht a _ => ht.comp (h t a)

theorem ofEq {s t : State} (hsvc : t.svc = s.svc) (hevt : t.evt.tileQ = s.evt.tileQ) (hsch : t.sch = s.sch) (hthm : t.thm = s.thm) : s.Serves t :=
  ⟨hsvc ▸ .refl _, fun _ => hevt, hsch, hthm⟩

theorem wr (s : State) (a : Nat) (w : Word) : s.Serves (s.wr a w) := .ofEq rfl rfl rfl rfl

theorem put (s : State) (f : Fld) (v : Nat) : s.Serves (s.put f v) := .ofEq rfl rfl rfl rfl

theorem take (s : State) (a : Nat) (v : Word) : s.Serves (s.take a v) := .ofEq rfl rfl rfl rfl

theorem count (s : State) (f : Fld) : s.Serves (s.count f) := .ofEq rfl rfl rfl rfl

theorem with_cmd (s : State) (x : CmdSt) : s.Serves { s with cmd := x } := .ofEq rfl rfl rfl rfl

theorem with_cir (s : State) (x : CirSt) : s.Serves { s with cir := x } := .ofEq rfl rfl rfl rfl

theorem with_net (s : State) (x : NetSt) : s.Serves { s with net := x } := .ofEq rfl rfl rfl rfl

theorem setPort (s : State) (k : Nat) (x : Port) : s.Serves (s.setPort k x) := .ofEq rfl rfl rfl rfl

theorem with_evt (s : State) (x : EvtSt) (h : x.tileQ = s.evt.tileQ) : s.Serves { s with evt := x } := .ofEq rfl h rfl rfl

theorem with_opens (s : State) (l : List OpenRec) : s.Serves { s with evt.opens := l } := .with_evt s _ rfl

end State.Serves

/-! ## Occurrences -/

theorem State.emit_serves (s : State) (m : OutMsg) : s.Serves (s.emit m) := .with_cmd s _

theorem State.notify_serves (s : State) (r : Rec) (at_ : Nat) (every : Bool) : s.Serves (s.notify r at_ every) := by
  have each (want : List Nat → Nat → Bool) : s.Serves (s.cmd.sessions.foldl (fun s e =>
      if want e.2.subs e.2.tenant then s.emit (noticeTo e.1 e.2 r.code at_ r.bytes) else s) s) :=
    .foldl (fun u e => by
      split
      · exact u.emit_serves _
      · exact .refl u) _ s
  unfold State.notify
  extract_lets want u
  split
  · exact (each want).comp (u.emit_serves _)
  · exact each want

theorem State.draw_serves (s : State) : s.Serves s.draw := .ofEq rfl rfl rfl rfl

theorem State.newRecord_serves (s : State) (o : Occ) (at_ : Nat) (b p : Bool) : s.Serves (s.newRecord o at_ b p).1 := by
  unfold State.newRecord
  dsimp only
  have hslot (r : Rec) : s.Serves (s.draw.writeSlot r).1 := s.draw_serves.comp (.with_evt _ _ rfl)
  split
  · exact (((hslot _).comp (.put _ _ _)).comp (.count _ _)).comp (.put _ _ _)
  · exact (hslot _).comp (.put _ _ _)

theorem State.writeOpen_serves (s : State) (o : OpenRec) (b : Bool) (at_ : Nat) : s.Serves (s.writeOpen o b at_).1 := .with_evt s _ rfl

theorem State.closeRec_serves (s : State) (src at_ : Nat) : s.Serves (s.closeRec src at_) := by
  unfold State.closeRec
  split
  · exact .refl s
  · rename_i o _
    have hopen : s.Serves { (s.writeOpen o true at_).1 with evt.opens := (s.writeOpen o true at_).1.evt.opens.filter (·.rec_.src != src) } :=
      State.Serves.comp (s.writeOpen_serves o true at_) (.with_opens _ _)
    dsimp only
    split
    · exact hopen.comp (State.notify_serves _ _ _ _)
    · exact hopen

theorem State.flushBy_serves (s : State) (n : Nat) : s.Serves (s.flushBy n) := ⟨.refl _, fun _ => rfl, rfl, rfl⟩

theorem State.alertFlush_serves (s : State) (src at_ : Nat) : s.Serves (s.alertFlush src at_) := by
  have alert : s.Serves (if s.flag (R.EVT_SRC_ALERT src) then s.put ⟨R.EVT_PEND (src / 32), src % 32, src % 32⟩ 1 else s) := by
    split
    · exact .put s _ _
    · exact .refl s
  unfold State.alertFlush
  extract_lets f u
  split
  · exact alert.comp (u.flushBy_serves _)
  · exact alert

theorem State.recordOcc_serves (s : State) (o : Occ) (at_ : Nat) : s.Serves (s.recordOcc o at_).1 := by
  have notified (u : State) (r : Rec) (on every : Bool) (h : s.Serves u) : s.Serves (if on then u.notify r at_ every else u) := by
    split
    · exact h.comp (u.notify_serves r at_ every)
    · exact h
  unfold State.recordOcc
  dsimp only
  split
  · exact notified _ _ _ _ ((s.alertFlush_serves o.src at_).comp (State.draw_serves _))
  · split
    · exact notified _ _ _ _ ((s.newRecord_serves o at_ false false).comp (State.alertFlush_serves _ _ _))
    · split
      · exact .with_opens s _
      · refine notified _ _ _ _ (.comp ?_ (State.alertFlush_serves _ _ _))
        exact ((s.closeRec_serves o.src at_).comp (State.newRecord_serves _ o at_ true false)).comp (.with_opens _ _)

theorem State.record_serves (s : State) (o : Occ) (at_ : Nat) : s.Serves (s.record o at_) := by
  have lost (u : State) (b : Bool) : u.Serves { u with evt.lostRun := b } := .with_evt u _ rfl
  have h := s.recordOcc_serves o at_
  unfold State.record
  dsimp only
  split
  · split
    · exact h
    · exact (h.comp (lost _ true)).comp (State.recordOcc_serves _ _ _)
  · exact h.comp (lost _ false)

/-- An occurrence of any source: with the hub in service none waits in its tile. -/
theorem State.raise_serves (s : State) (o : Occ) : s.Serves (s.raise o) := by
  unfold State.raise
  split
  case isTrue => exact s.record_serves o _
  case isFalse hout =>
    split
    · exact .refl s
    · dsimp only
      split
      · exact ⟨.refl _, fun hin => absurd hin hout, rfl, rfl⟩
      · exact .count s _

theorem State.ev_serves (s : State) (src code : Nat) : s.Serves (s.ev src code) := s.raise_serves _

theorem State.refuse_serves (s : State) (f : Fld) (src code : Nat) : s.Serves (s.refuse f src code) := (State.Serves.put s f code).comp (State.ev_serves _ _ _)

/-! ## The restart of the memory, the configuration and the blocks it enables -/

theorem State.showMem_serves (s : State) : s.Serves s.showMem := .comp (.put s _ _) (.put _ _ _)

theorem State.Serves.with_ddrLost (s : State) (a b : Bool) : s.Serves { s with svc.ddrLost0 := a, svc.ddrLost1 := b } :=
  ⟨⟨rfl, rfl, rfl, rfl, rfl⟩, fun _ => rfl, rfl, rfl⟩

theorem memCtlWrite_serves (v : Word) (a b : Bool) (s : State) : s.Serves (memCtlWrite v a b s) := by
  have hlost (u : State) (x y : Bool) : u.Serves { u with svc.ddrLost0 := x, svc.ddrLost1 := y }.showMem :=
    (State.Serves.with_ddrLost u x y).comp (State.showMem_serves _)
  unfold memCtlWrite
  dsimp only
  split
  · exact s.refuse_serves _ _ _
  · refine (State.Serves.take s R.MEM_CTL v).comp ?_
    split
    · split
      · exact hlost _ _ _
      · exact ((State.Serves.put _ _ _).comp (State.showMem_serves _)).comp (State.refuse_serves _ _ _ _)
    · split
      · exact hlost _ _ _
      · exact State.showMem_serves _

theorem State.restoreReg_serves (s : State) (a : Nat) (w : Word) : s.Serves (s.restoreReg a w) := by
  unfold State.restoreReg
  extract_lets v u
  have hu : s.Serves u := .wr s _ _
  split
  · exact hu.comp (.put u _ _)
  · split
    · exact hu.comp (.put u _ _)
    · exact hu

theorem State.restoreGate_serves (s : State) (port : Nat) : s.Serves (s.restoreGate port) := by
  unfold State.restoreGate
  split
  · exact (State.Serves.foldl (fun u k => .wr u _ _) _ s).comp (.with_net _ _)
  · exact .refl s

theorem State.restoreConfig_serves (s : State) (p : Nat → Bool) : s.Serves (s.restoreConfig p) := by
  unfold State.restoreConfig
  split
  · exact s.ev_serves _ _
  · exact (State.Serves.foldl (f := fun u (e : Nat × Word) => u.restoreReg e.1 e.2) (fun u e => u.restoreReg_serves e.1 e.2) _ s).comp
      (.foldl State.restoreGate_serves _ _)

theorem State.ctlWrite_serves (s : State) (a : Nat) (en re : Fld) (src lock : Nat) (check : State → Option Nat) (v : Word) :
    s.Serves (s.ctlWrite a en re src lock check v) := by
  unfold State.ctlWrite
  dsimp only
  split
  · exact s.refuse_serves _ _ _
  · refine (State.Serves.take s a v).comp ?_
    split
    · split
      · exact .refl _
      · exact (State.Serves.put _ en 0).comp (State.refuse_serves _ _ _ _)
    · exact .refl _

theorem State.setServo_serves (s : State) (st : Nat) : s.Serves (s.setServo st) := by
  have hrun (u : State) : u.Serves { u with tm.lockRun := 0 } := .ofEq rfl rfl rfl rfl
  unfold State.setServo
  split
  · exact .refl s
  · exact ((State.Serves.put s _ _).comp (hrun _)).comp (State.ev_serves _ _ _)

theorem doTimePtpCfgWrite_serves (v : Word) (s : State) : s.Serves (doTimePtpCfgWrite v s) := by
  unfold doTimePtpCfgWrite
  extract_lets locked u refused w
  have hu : s.Serves u := s.ctlWrite_serves _ _ _ _ _ _ _
  have hw : s.Serves w := by
    change s.Serves (if refused = true then u else u.timeTaken)
    split
    · exact hu
    · exact hu.comp (.put u _ _)
  split
  · exact hu
  · split
    · split
      · exact hw.comp (w.setServo_serves _)
      · exact hw
    · exact hw.comp (w.setServo_serves _)

theorem State.lsFollow_serves (s : State) : s.Serves s.lsFollow := by
  unfold State.lsFollow
  split <;> split
  · exact .put s _ _
  · exact .refl s
  · exact .put s _ _
  · exact .refl s

theorem doSchdCtlWrite_serves (v : Word) (s : State) : s.Serves (doSchdCtlWrite v s) := by
  unfold doSchdCtlWrite
  dsimp only
  split
  · exact s.refuse_serves _ _ _
  · exact (State.Serves.put s _ _).comp (State.ctlWrite_serves _ _ _ _ _ _ _ _)

theorem State.enableAs_serves (s : State) (a : Nat) {write : Word → State → State} (h : ∀ (v : Word) (u : State), u.Serves (write v u)) :
    s.Serves (s.enableAs a write) := by
  unfold State.enableAs
  split
  · exact h _ s
  · exact .refl s

theorem State.enableSaved_serves (s : State) : s.Serves (s.enableSaved false) := by
  have hports (u : State) : u.Serves ((List.range 4).foldl (fun s n => s.enableAs (R.PORT_CTL n) (doPortCtlWrite (toFin 4 n))) u) :=
    .foldl (fun x n => x.enableAs_serves _ fun v y => y.ctlWrite_serves _ _ _ _ _ _ v) _ u
  unfold State.enableSaved
  extract_lets time net ports cmd evt plc trv schd
  have htime : s.Serves time := s.enableAs_serves _ doTimePtpCfgWrite_serves
  have hnet : s.Serves net := htime.comp (time.enableAs_serves _ fun v y => y.ctlWrite_serves _ _ _ _ _ _ v)
  have hevt : s.Serves evt := (hnet.comp (hports net)).comp
    (ports.enableAs_serves _ fun v y => (y.ctlWrite_serves _ _ _ _ _ _ v).comp (State.lsFollow_serves _))
  have hschd : s.Serves schd := hevt.comp (evt.enableAs_serves _ doSchdCtlWrite_serves)
  exact hschd.comp (schd.enableAs_serves _ fun v y => (State.Serves.put y _ _).comp (State.ctlWrite_serves _ _ _ _ _ _ _ v))

/-! ## Throttle, schedules and circuits after the restart -/

theorem State.calRestart_serves (s : State) : s.Serves s.calRestart := by
  have hset (u : State) (t : Nat) (x : TileSt) : u.Serves (u.setTile t x) := .ofEq rfl rfl rfl rfl
  have hrecal (u : State) (t : Nat) (x : Recal) : u.Serves (u.setRecal t x) := .ofEq rfl rfl rfl rfl
  refine .foldl (fun u x => ?_) s.cal.recal s
  have hdrop : u.Serves (u.dropHold x.1) := by
    rcases u.dropHold_cases x.1 with h | ⟨y, h⟩ <;> rw [h]
    · exact .put u _ _
    · exact ((State.Serves.put u _ _).comp (.put _ _ _)).comp (hset _ _ _)
  exact ((hdrop.comp (hrecal _ _ _)).comp (.put _ _ _)).comp (.put _ _ _)

/-- The state with the count of quiet samples at 0 and another instant of the last failure. -/
def State.withFailure (s : State) (x : Option Nat) : State := { s with thm.quiet := 0, thm.lastFail := x }

theorem State.withFailure_facts (s : State) (x : Option Nat) : (s.withFailure x).svc = s.svc ∧ (s.withFailure x).evt = s.evt ∧
    (s.withFailure x).sch = s.sch ∧ (s.withFailure x).thm.quiet = 0 := ⟨rfl, rfl, rfl, rfl⟩

/-- The throttle as the restart leaves it. -/
def State.throttleBack (s : State) : State :=
  s.withFailure (if (List.range 80).any fun n => s.rd (R.THM_FAIL n) != 0 then some s.now else s.thm.lastFail)

theorem State.thermalBack_eq (s : State) : s.thermalBack = s.throttleBack.calRestart := by
  unfold State.thermalBack State.throttleBack State.withFailure
  rfl

theorem State.thermalBack_serves (s : State) : s.throttleBack.Serves s.thermalBack := s.thermalBack_eq ▸ s.throttleBack.calRestart_serves

/-- The state with another library. -/
def State.withLib (s : State) (l : Tbl LibEntry) : State := { s with sch.lib := l }

/-- What the library and an armed swap that is dropped leave alone. -/
structure State.SchOnly (s t : State) : Prop where
  svc : t.svc = s.svc
  evt : t.evt = s.evt
  thm : t.thm = s.thm

theorem State.withLib_schOnly (s : State) (l : Tbl LibEntry) : s.SchOnly (s.withLib l) := ⟨rfl, rfl, rfl⟩

theorem State.dropSwap_schOnly (s : State) (code : Nat) : s.SchOnly (s.dropSwap code) := by
  constructor <;> rw [State.dropSwap]
  · rw [State.put_svc, State.put_svc]
  · rw [State.put_evt, State.put_evt]
  · rw [State.put_thm, State.put_thm]

theorem State.dropSwap_sch (s : State) (code : Nat) : (s.dropSwap code).sch = { s.sch with swap := none } := by
  rw [State.dropSwap, State.put_sch, State.put_sch]

/-- The library without the entries that were loading. -/
def State.libraryBack (s : State) : State := s.withLib (s.sch.lib.filter fun e => e.2.lstate != Ls.loading)

theorem State.libraryBack_schOnly (s : State) : s.SchOnly s.libraryBack := s.withLib_schOnly _

theorem State.libraryBack_entry (s : State) (n : Nat) : (s.libraryBack.entry n).lstate ≠ Ls.loading := by
  rw [State.entry, Tbl.getD]
  cases h : Tbl.look s.libraryBack.sch.lib n with
  | none => decide
  | some x =>
    have hx := List.of_mem_filter (Tbl.mem_of_look h)
    exact bne_iff_ne.1 hx

theorem State.closePulse_serves (s : State) (k start st tries : Nat) : s.Serves (s.closePulse k start st tries) := by
  have hpulse : s.Serves (s.pulsed k start st tries) := .comp (.count s _) (.comp (.count _ _) (.setPort _ _ _))
  rcases s.closePulse_cases k start st tries with h | h <;> rw [h]
  · exact hpulse
  · exact (hpulse.comp (.setPort _ _ _)).comp (State.raise_serves _ _)

theorem State.close_serves (s : State) (ks : List Nat) : s.Serves (s.close ks) := by
  have hwaits (u : State) (ws : List OpenWait) : u.Serves { u with fab.waits := ws } := .ofEq rfl rfl rfl rfl
  unfold State.close State.closeAll
  extract_lets _ u l group
  exact (hwaits s _).comp (.foldl (f := fun u (x : Nat × Nat) => u.closePulse x.1 x.2 3 0) (fun u x => u.closePulse_serves x.1 x.2 3 0) _ u)

theorem State.complete_serves (s : State) (r : Requester) (final : Bool) (code : Nat) (params : List Byte) : s.Serves (s.complete r final code params) := by
  have hend (u : State) : u.Serves (u.endRequest r) := by
    unfold State.endRequest
    split
    · exact .with_cmd u _
    · split
      · exact .refl u
      · exact .with_cmd u _
  unfold State.complete
  split
  · dsimp only
    split
    · exact (s.emit_serves _).comp (hend _)
    · exact s.emit_serves _
  · exact (State.Serves.count s _).comp (State.ev_serves _ _ _)

theorem State.tellSwapEnd_serves (s : State) (w : Swap) (code : Nat) (event : Bool) : s.Serves (s.tellSwapEnd w code event) := by
  unfold State.tellSwapEnd
  extract_lets x
  have htold : x.Serves (if event then x.ev Ev.swapCancelled code else x) := by
    cases event
    · exact .refl x
    · exact x.ev_serves _ _
  exact ((s.close_serves _).comp htold).comp (State.complete_serves _ _ _ _ _)

theorem State.circuitsBack_serves (s : State) : s.Serves s.circuitsBack := by
  have hretime (u : State) (i x : Nat) : u.Serves (u.retime i x) := .with_cir u _
  have hqueue (u : State) (i : Nat) : u.Serves (u.queueUp i) := .with_cir u _
  unfold State.circuitsBack
  dsimp only
  refine .comp (.comp (.foldl (fun u i => hretime u i s.now) _ s) (.foldl hqueue _ _)) (.comp (.with_cir _ _) (.with_cir _ _))

/-! ## The restart (R469) -/

/-- The control domain out of reset, its firmware running. -/
def State.hubUp (s : State) : State :=
  let s := s.advanceTo s.svc.rstRise
  { s with svc.ctrlReset := false, svc.fwRuns := true, svc.lastMark := s.now, svc.refGoodSince := if s.svc.refLost then none else some s.now }

theorem State.hubUp_svc (s : State) : s.hubUp.svc.por = s.svc.por ∧ s.hubUp.svc.fwRuns = true ∧ s.hubUp.svc.ctrlReset = false ∧
    s.hubUp.svc.freezeEnd = s.svc.freezeEnd ∧ s.hubUp.svc.refGoodSince.isSome = !s.svc.refLost := by
  refine ⟨rfl, rfl, rfl, rfl, ?_⟩
  have hgood (n : Nat) : (if s.svc.refLost then none else some n).isSome = !s.svc.refLost := by cases s.svc.refLost <;> rfl
  exact hgood _

theorem State.hubUp_sch (s : State) : s.hubUp.sch = s.sch := rfl

/-- Device time, the memory and the saved configuration are back, and the records that were open are closed. -/
def State.recorderBack (s : State) (off : List (Fin 20 × Int)) : State :=
  let s := s.loadTime off
  let s := memCtlWrite (setBits (resetWord R.MEM_CTL) 0 0 1) (!s.svc.ddrLost0) (!s.svc.ddrLost1) s
  let s := s.restoreConfig fun a => domAt a == some .control && a != R.EPO_CTL
  let s := (s.evt.opens.map (·.rec_.src)).foldl (fun s src => s.closeRec src s.now) s
  { s with evt.lastFlush := s.now }

/-- The occurrences that waited in the tiles are recorded, the restart is reported, and the blocks saved as enabled are enabled. -/
def State.blocksBack (s : State) : State :=
  let s := s.hubBack
  let s := s.raise { occ Ev.controlDomainRestart with aux := some (s.get R.GLB_RST_CAUSE_CAUSE) }
  s.enableSaved false

/-- The circuits are timed again, and what stays suspended or frozen is told. -/
def State.plansBack (s : State) : State :=
  let s := s.circuitsBack
  let s := if s.suspendedHead.isSome then s.ev Ev.traverseSuspended Code.TRV_BIVOUAC else s
  if s.flag R.GLB_STS_HO_FROZEN then s.ev Ev.holdoverFreeze else s

theorem doControlRestart_eq (s : State) (off : List (Fin 20 × Int)) (hs : s.Live) (hc : s.svc.ctrlReset = true) (hst : s.get R.GLB_BOOT_STAGE = 6) :
    doControlRestart off s = ((s.hubUp.recorderBack off).blocksBack.thermalBack.schedulesBack).plansBack := by
  have hgo : (s.svc.por && s.svc.ctrlReset && s.stage == 6) = true := by
    rw [hs.1, hc, State.stage, hst]
    rfl
  unfold State.plansBack State.blocksBack State.recorderBack State.hubUp doControlRestart
  rw [hs.2]
  exact if_pos hgo

theorem State.recorderBack_keeps (s : State) (off : List (Fin 20 × Int)) : s.svc.SameService (s.recorderBack off).svc ∧
    (s.recorderBack off).sch = s.sch := by
  have hload := s.loadTime_touches off
  have hsvc : (s.loadTime off).svc = s.svc := hload.same .svc (by decide)
  have hsch : (s.loadTime off).sch = s.sch := hload.same .sch (by decide)
  have hrest : (s.loadTime off).Serves (s.recorderBack off) := by
    unfold State.recorderBack
    extract_lets u v w x
    have hv : u.Serves v := memCtlWrite_serves _ _ _ u
    have hw : u.Serves w := hv.comp (v.restoreConfig_serves _)
    have hx : u.Serves x := hw.comp (.foldl (f := fun s src => s.closeRec src s.now) (fun y src => y.closeRec_serves src y.now) _ w)
    exact hx.comp (.with_evt x _ rfl)
  exact ⟨hsvc ▸ hrest.service, hrest.sch.trans hsch⟩

theorem State.blocksBack_keeps (s : State) (hin : s.hubIn = true) : s.svc.SameService s.blocksBack.svc ∧ s.blocksBack.sch = s.sch ∧
    s.blocksBack.evt.tileQ = [] := by
  set u : State := { s with evt.tileQ := [] } with hu
  have hub : u.Serves s.hubBack := by
    have hrec : u.Serves (s.evt.tileQ.foldl (fun (s : State) x => s.record x.1 x.2) u) :=
      .foldl (f := fun (s : State) (x : Occ × Nat) => s.record x.1 x.2) (fun y x => y.record_serves x.1 x.2) _ u
    unfold State.hubBack
    dsimp only
    split
    · exact hrec.comp (State.ev_serves _ _ _)
    · exact hrec
  have hall : u.Serves s.blocksBack := (hub.comp (State.raise_serves _ _)).comp (State.enableSaved_serves _)
  exact ⟨hall.service, hall.sch, hall.queue hin⟩

theorem State.plansBack_serves (s : State) : s.Serves s.plansBack := by
  unfold State.plansBack
  extract_lets u v
  have hv : s.Serves v := s.circuitsBack_serves.comp (by
    change u.Serves (if _ then _ else u)
    split
    · exact u.ev_serves _ _
    · exact .refl u)
  split
  · exact hv.comp (v.ev_serves _ _)
  · exact hv

/-- What the schedules keep of the state before: the service, and the throttle; nothing is loading, and a swap that had not passed is gone. -/
theorem State.schedulesBack_cases (s : State) : (s.schedulesBack = s.libraryBack ∧ ∀ w, s.sch.swap = some w → w.past = true) ∨
    ∃ w, s.schedulesBack = (s.libraryBack.dropSwap Code.SCH_SWAP_LOST).tellSwapEnd w Code.SCH_SWAP_LOST true := by
  have hback : s.schedulesBack = match s.libraryBack.sch.swap with
    | none => s.libraryBack
    | some w => if w.past then s.libraryBack else s.libraryBack.swapEnds Code.SCH_SWAP_LOST true := rfl
  have hswap : s.libraryBack.sch.swap = s.sch.swap := rfl
  rw [hback]
  cases h : s.libraryBack.sch.swap with
  | none => exact .inl ⟨rfl, fun w hw => by rw [← hswap, h] at hw; cases hw⟩
  | some w =>
    dsimp only
    split
    case isTrue hp =>
      refine .inl ⟨rfl, fun x hx => ?_⟩
      rw [← hswap, h] at hx
      cases hx
      exact hp
    case isFalse => exact .inr ⟨w, State.swapEnds_eq h _ _⟩

theorem State.schedulesBack_keeps (s : State) (hin : s.hubIn = true) : s.svc.SameService s.schedulesBack.svc ∧
    s.schedulesBack.evt.tileQ = s.evt.tileQ ∧ s.schedulesBack.thm = s.thm ∧ (∀ n, (s.schedulesBack.entry n).lstate ≠ Ls.loading) ∧
    ∀ w, s.sch.swap = some w → w.past = false → s.schedulesBack.sch.swap = none := by
  obtain ⟨hsvcL, hevtL, hthmL⟩ := s.libraryBack_schOnly
  rcases s.schedulesBack_cases with ⟨h, hpast⟩ | ⟨w, h⟩ <;> rw [h]
  · exact ⟨hsvcL ▸ .refl _, by rw [hevtL], hthmL, s.libraryBack_entry, fun w hw hnot => absurd (hpast w hw) (by rw [hnot]; decide)⟩
  · obtain ⟨hsvcD, hevtD, hthmD⟩ := s.libraryBack.dropSwap_schOnly Code.SCH_SWAP_LOST
    have htell := (s.libraryBack.dropSwap Code.SCH_SWAP_LOST).tellSwapEnd_serves w Code.SCH_SWAP_LOST true
    have hsvc := hsvcD.trans hsvcL
    have hin' : (s.libraryBack.dropSwap Code.SCH_SWAP_LOST).hubIn = true := by
      rw [State.hubIn, hsvc]
      exact hin
    refine ⟨hsvc ▸ htell.service, ?_, ?_, fun n => ?_, fun _ _ _ => ?_⟩
    · rw [htell.queue hin', hevtD, hevtL]
    · rw [htell.thm, hthmD, hthmL]
    · rw [State.entry, htell.sch, State.dropSwap_sch]
      exact s.libraryBack_entry n
    · rw [htell.sch, State.dropSwap_sch]

theorem controlRestart_leaves (s : State) (off : List (Fin 20 × Int)) (hs : s.Live) (hc : s.svc.ctrlReset = true) (hst : s.get R.GLB_BOOT_STAGE = 6)
    (hfz : s.svc.freezeEnd = none) : Leaves (.controlRestart off) s fun t =>
      t.svc.ctrlReset = false ∧ t.svc.fwRuns = true ∧ t.hubIn = true ∧ t.evt.tileQ = [] ∧ t.thm.quiet = 0 ∧
      (∀ n, (t.entry n).lstate ≠ Ls.loading) ∧ (∀ w, s.sch.swap = some w → w.past = false → t.sch.swap = none) ∧
      t.svc.refGoodSince.isSome = !s.svc.refLost := by
  refine leaves_live _ rfl hs ?_
  rw [doControlRestart_eq s off hs hc hst]
  obtain ⟨hpor, hfw, hctrl, hfree, hgood⟩ := s.hubUp_svc
  have hup : s.hubUp.hubIn = true := by
    rw [State.hubIn, hpor, hfw, hctrl, hfree, hs.1, hfz]
    rfl
  obtain ⟨hsvcA, hschA⟩ := s.hubUp.recorderBack_keeps off
  set a := s.hubUp.recorderBack off
  have hinA : a.hubIn = true := (State.hubIn_of_sameService hsvcA).trans hup
  obtain ⟨hsvcB, hschB, hqB⟩ := a.blocksBack_keeps hinA
  set b := a.blocksBack
  obtain ⟨hsvcH, hevtH, hschH, hquietH⟩ : b.throttleBack.svc = b.svc ∧ b.throttleBack.evt = b.evt ∧ b.throttleBack.sch = b.sch ∧
    b.throttleBack.thm.quiet = 0 := b.withFailure_facts _
  have hserviceH : a.svc.SameService b.throttleBack.svc := hsvcH ▸ hsvcB
  have hinB : b.throttleBack.hubIn = true := (State.hubIn_of_sameService hserviceH).trans hinA
  have hC := b.thermalBack_serves
  set c := b.thermalBack
  have hinC : c.hubIn = true := hC.hubIn.trans hinB
  obtain ⟨hsvcD, hqD, hthmD, hentD, hswapD⟩ := c.schedulesBack_keeps hinC
  set d := c.schedulesBack
  have hinD : d.hubIn = true := (State.hubIn_of_sameService hsvcD).trans hinC
  have hT := d.plansBack_serves
  set t := d.plansBack
  have hservice : s.hubUp.svc.SameService t.svc := (((hsvcA.trans hserviceH).trans hC.service).trans hsvcD).trans hT.service
  have hschC : c.sch = s.sch := hC.sch.trans (hschH.trans <| hschB.trans (hschA.trans s.hubUp_sch))
  obtain ⟨-, hctrlT, hfwT, -, hgoodT⟩ := hservice
  refine ⟨hctrlT.trans hctrl, hfwT.trans hfw, hT.hubIn.trans hinD, ?_, ?_, fun n => ?_, fun w hw hnot => ?_, ?_⟩
  · rw [hT.queue hinD, hqD, hC.queue hinB, hevtH, hqB]
  · rw [hT.thm, hthmD, hC.thm, hquietH]
  · rw [State.entry, hT.sch]
    exact hentD n
  · rw [hT.sch]
    exact hswapD w (hschC ▸ hw) hnot
  · rw [hgoodT, hgood]

/-- Settles O57. -/
theorem restartAndPowerFailure : Obligations.RestartAndPowerFailure := by
  unfold Obligations.RestartAndPowerFailure
  exact ⟨controlRestart_leaves, loadTime_facts, powerFail_leaves⟩

end Sys2Proof.Machine
end

section
/-!
PROOFS. What follows a command leaves the frame number of tile 0 (R435, R453), and the refutation of O32: a state whose table of elements
is not canonical.
-/
namespace Sys2Proof.Machine

/-! ## Steps that keep the frame number of tile 0 -/

/-- `TILE_LP_FN` of tile 0 reads the same. -/
def State.KeepsFn (s t : State) : Prop := t.rd (R.TILE_LP_FN 0) = s.rd (R.TILE_LP_FN 0)

namespace State.KeepsFn

theorem refl (s : State) : s.KeepsFn s := rfl

theorem comp {a b c : State} (h : a.KeepsFn b) (g : b.KeepsFn c) : a.KeepsFn c := Eq.trans g h

theorem foldl {α : Type} {f : State → α → State} (h : ∀ (s : State) a, s.KeepsFn (f s a)) (l : List α) (s : State) :
    s.KeepsFn (l.foldl f s) :=
  List.foldlRecOn l f (motive := s.KeepsFn) (refl s) fun t ht a _ => ht.comp (h t a)

theorem ofTouches {s t : State} {ps : List Part} {rs : List Nat} (h : s.Touches t ps rs) (hr : R.TILE_LP_FN 0 ∉ rs) : s.KeepsFn t := by
  obtain ⟨-, -, hrd⟩ := h
  exact hrd _ hr fun c => absurd c.2 (by decide)

theorem raise (s : State) (o : Occ) (h : o.src < 1536) : s.KeepsFn (s.raise o) :=
  ofTouches (.raise s o h (ps := Part.occ) (rs := []) (.head _) (.tail _ (.head _))) (by decide)

theorem count (s : State) {f : Fld} (h : R.TILE_LP_FN 0 ≠ f.addr) : s.KeepsFn (s.count f) :=
  ofTouches (.count s f (ps := []) (.head [])) (by simpa using h)

theorem completeOpt (s : State) (r : Option Requester) (final : Bool) (code : Nat) (params : List Byte) :
    s.KeepsFn (s.completeOpt r final code params) := ofTouches (s.completeOpt_touches r final code params) (by decide)

theorem with_cir (s : State) (x : CirSt) : s.KeepsFn { s with cir := x } := rfl

theorem with_trv (s : State) (x : TrvSt) : s.KeepsFn { s with trv := x } := rfl

theorem ofEnds {s t : State} (h : s.Ends t) : s.KeepsFn t := by
  have hpulse : R.TILE_LP_FN 0 ∉ pulseRegs := by
    simp only [pulseRegs, R.TILE_LP_FN, R.TILE_FD_LAT_CNT, R.TILE_FD_WEAR, tileBase, List.mem_flatMap, List.mem_cons, List.mem_map,
      List.mem_range, List.not_mem_nil, or_false]
    rintro ⟨t, rfl | rfl, h | ⟨p, hp, h⟩⟩ <;> omega
  exact ofTouches h.touches (List.not_mem_cons_of_ne_of_not_mem (by decide) hpulse)

end State.KeepsFn

/-! ## Work that becomes due -/

theorem State.settleRevokes_keepsFn (s : State) : s.KeepsFn s.settleRevokes := by
  rw [State.settleRevokes_eq]
  refine .foldl (fun u x => ?_) _ s
  unfold State.settleRevoke
  split
  · exact (State.KeepsFn.with_cir u _).comp (.completeOpt _ (some x.2) true Code.DONE [])
  · exact .refl u

theorem State.abandon_keepsFn (s : State) (t : Nat) : s.KeepsFn (s.abandon t) := by
  have halone : R.TILE_LP_FN 0 ∉ aloneRegs t := by
    simp only [aloneRegs, R.TILE_LP_FN, R.TILE_LP_STS, R.TILE_MC_HOLD, R.TILE_MC_ANC_CTL, tileBase, List.mem_cons, List.not_mem_nil,
      or_false]
    omega
  have h : s.KeepsFn ((s.dropHold t).count (whole (R.CAL_CNT 2))) :=
    (State.KeepsFn.ofTouches (s.dropHold_touches t) halone).comp (.count _ (by decide))
  unfold State.abandon
  extract_lets u
  split
  · exact h
  · exact h

theorem State.settleHolds_keepsFn (s : State) : s.KeepsFn s.settleHolds := by
  refine .foldl (fun u t => ?_) _ s
  split
  · unfold State.settleHold
    extract_lets bank chan
    split
    · exact u.abandon_keepsFn t
    · exact .refl u
  · exact .refl u

theorem State.endTrav_keepsFn (s : State) (t : Trav) (code : Nat) : s.KeepsFn (s.endTrav t code) := by
  unfold State.endTrav
  extract_lets t' _ s1 s2 s3 s4 _ s5 params s6 s7
  have h2 : s1.KeepsFn s2 := by
    unfold s2
    split_ifs
    · exact .count s1 (by decide)
    · exact .refl s1
    · exact .count s1 (by decide)
  have h3 : s2.KeepsFn s3 := .ofTouches (s2.leaveTrav_advances t.id _).touches (by decide)
  have h4 : s3.KeepsFn s4 := by
    unfold s4
    split
    · exact .refl s3
    · split
      · exact .ofEnds ((s3.endLight_ends _ code).comp (State.leaveWait_ends _ _ _ _))
      · exact .refl s3
  have h5 : s4.KeepsFn s5 := .raise s4 _ (show Ev.traverseEnded < 1536 by decide)
  have h6 : s5.KeepsFn s6 := by
    unfold s6
    split
    · exact .completeOpt s5 _ _ _ _
    · exact .refl s5
  have h7 : s6.KeepsFn s7 := by
    unfold s7
    split
    · exact .refl s6
    · exact .completeOpt s6 _ _ _ _
  have h : s.KeepsFn s7 := (((((State.KeepsFn.with_trv s _).comp h2).comp h3).comp h4).comp h5).comp (h6.comp h7)
  split
  · exact h
  · rename_i r _
    split
    · exact (h.comp (.with_trv s7 _)).comp (.completeOpt _ (some r) true Code.DONE params)
    · exact h

theorem State.dropOrphans_keepsFn (s : State) : s.KeepsFn s.dropOrphans := by
  refine .foldl (fun u t => ?_) _ s
  split
  · exact .refl u
  · split
    · exact u.endTrav_keepsFn _ _
    · exact .refl u

theorem State.settleLibrary_keepsFn (s : State) : s.KeepsFn s.settleLibrary := by
  unfold State.settleLibrary
  split
  · exact .ofTouches (s.purgeLib_touches _ _) (by decide)
  · exact .refl s

theorem State.enterThr4_keepsFn (s : State) : s.KeepsFn s.enterThr4 := by
  unfold State.enterThr4
  split
  · exact .refl s
  · split
    · exact (State.KeepsFn.ofTouches s.suspendHead_touches (by decide)).comp (.raise _ _ (show Ev.traverseSuspended < 1536 by decide))
    · exact .refl s

theorem State.leaveBivouac_keepsFn (s : State) : s.KeepsFn s.leaveBivouac := by
  unfold State.leaveBivouac
  extract_lets x waits u armed
  have h : s.KeepsFn u := .foldl (f := fun s i => s.retime i x) (fun v i => .with_cir v _) waits s
  exact h.comp (.with_cir u _)

theorem State.settleBivouac_keepsFn (s : State) : s.KeepsFn s.settleBivouac := by
  unfold State.settleBivouac
  extract_lets u new old _ v
  have hu : s.KeepsFn u := by
    unfold u
    split
    · exact s.enterThr4_keepsFn
    · exact .refl s
  have hv : u.KeepsFn v := rfl
  split
  · exact hu
  · split
    · exact (hu.comp hv).comp v.leaveBivouac_keepsFn
    · exact hu.comp hv

theorem State.settleWork_keepsFn (s : State) : s.KeepsFn s.settleWork :=
  (((s.settleRevokes_keepsFn.comp (State.settleHolds_keepsFn _)).comp (State.dropOrphans_keepsFn _)).comp
    (State.settleLibrary_keepsFn _)).comp (State.settleBivouac_keepsFn _)

/-! ## Frames that leave -/

theorem State.depart_keepsFn (s : State) (m : OutMsg) : s.KeepsFn (s.depart m) := by
  unfold State.depart
  extract_lets inSession n seq _ u
  have hu : s.KeepsFn u := by
    unfold u
    split
    · exact rfl
    · exact rfl
  exact hu.comp rfl

theorem State.cplWrite_keepsFn (s : State) (m : OutMsg) : s.KeepsFn (s.cplWrite m) := by
  unfold State.cplWrite
  extract_lets u v _ w
  have hv : u.KeepsFn v := .ofTouches (.put u _ _ (ps := []) (.head [])) (by decide)
  have hw : v.KeepsFn w := by
    unfold w
    split
    · exact rfl
    · split
      · exact .refl v
      · exact rfl
  have h : s.KeepsFn w := ((s.depart_keepsFn m).comp hv).comp hw
  split
  · exact h.comp rfl
  · exact h

theorem State.toMailbox_keepsFn (s : State) (m : OutMsg) : s.KeepsFn (s.toMailbox m) := by
  unfold State.toMailbox
  split_ifs
  · exact .refl s
  · exact .count s (by decide)
  · exact rfl
  · exact s.cplWrite_keepsFn m

theorem State.evOncePerSecond_keepsFn (s : State) (src key : Nat) (o : Occ) (h : o.src < 1536) :
    s.KeepsFn (s.evOncePerSecond src key o) := by
  unfold State.evOncePerSecond
  extract_lets k lastAt
  split
  · exact (State.KeepsFn.raise s o h).comp rfl
  · exact .refl s

theorem portCnt_ne_fn (port : Nat) : R.TILE_LP_FN 0 ≠ (whole (R.PORT_CNT port 7)).addr := by
  simp only [whole, R.TILE_LP_FN, R.PORT_CNT, tileBase]
  omega

theorem State.enqueue_keepsFn (s : State) (port q : Nat) (item : EgressItem) (len : Nat) : s.KeepsFn (s.enqueue port q item len) := by
  unfold State.enqueue
  extract_lets x f full stays u y
  have hu : s.KeepsFn u := .count s (portCnt_ne_fn port)
  split_ifs
  · exact rfl
  · split
    · exact hu.comp (u.evOncePerSecond_keepsFn _ _ _ (by decide))
    · exact hu
  · exact rfl

theorem State.flushOut_keepsFn (s : State) : s.KeepsFn s.flushOut := by
  unfold State.flushOut
  split
  · exact .refl s
  · refine State.KeepsFn.comp (b := { s with cmd.outQ := [] }) rfl (.foldl (fun u m => ?_) _ _)
    unfold State.route
    split
    · exact u.toMailbox_keepsFn m
    · exact u.enqueue_keepsFn _ _ _ _

/-- What follows a command leaves the frame number. -/
theorem State.settle_keepsFn (s : State) : s.KeepsFn s.settle := by
  have hpulses (u : State) : u.KeepsFn u.showPulses := rfl
  have hshow (u : State) : u.KeepsFn u.show := (hpulses u).comp (.ofTouches u.show_touches (by decide))
  exact (s.settleWork_keepsFn.comp (State.flushOut_keepsFn _)).comp (hshow _)

/-! ## A state whose table of elements is not canonical -/

/-- A number beyond the 20 tiles, at which the bit `EVT_PEND` of the tile's load refusals would stand at `TILE_LP_FN` of tile 0. -/
def strayTile : Nat := (R.TILE_LP_FN 0 - 0x800120) / 8

/-- An element of that tile, listed below in the group of the elements of tile 0. -/
def strayKey : Nat := strayTile * 4096

/-- Its outcome, due at the edge: a PIN code, for a channel whose range is not the one in use. -/
def strayElem : Elem :=
  { Elem.reset with lowlight := true, out := some { Elem.reset.toElemRec with lowlight := true, pinCode := some 1 } }

/-- The reset state out of its resets, with that element and a channel whose load is refused for its range (R306). -/
def strayTable : State :=
  { State.reset with
      svc.por := true, svc.fwRuns := true, svc.ctrlReset := false,
      fab.elems := [(0, [(strayKey, strayElem)]), (strayKey / 256, [(strayKey, strayElem)])],
      drv.fd := [(fdKey strayTile 0 / 256, [(fdKey strayTile 0, ⟨0, 0, 1, 0, none⟩)])] }

/-- The same with an alert on those refusals. -/
def strayState : State := strayTable.put (R.EVT_SRC_ALERT (Ev.rangeLoadRefused strayTile)) 1

theorem strayState_live : strayState.Live := ⟨rfl, rfl⟩

/-- The frame edge counts FN up from 0 to 1, and the refused load of the listed element then sets bit 21 of the same word. -/
theorem strayState_fn : strayState.rd (R.TILE_LP_FN 0) = 0 ∧ (doFrameEdge 0 [] strayState).rd (R.TILE_LP_FN 0) = 0x200001#32 := by
  decide +kernel

/-- Refutes O32: no hypothesis keeps the table of elements canonical (`Grp.wf s.fab.elems`). In `strayState` the group of tile 0 lists an
element of a tile that does not exist; its transfer at the frame edge is refused, and the pending bit of that refusal stands at
`TILE_LP_FN` of tile 0, which reads 0x200001 where the statement asks for 1. -/
theorem not_frameEdgesAdvanceTheTile : ¬ Obligations.FrameEdgesAdvanceTheTile := by
  unfold Obligations.FrameEdgesAdvanceTheTile
  intro h
  obtain ⟨t, hexec, -, -, hfn, -⟩ := h strayState 0 [] strayState_live
  obtain ⟨hbefore, hafter⟩ := strayState_fn
  have hrun : exec (.frameEdge 0 []) strayState = .next (doFrameEdge 0 [] strayState).settle := run_live _ strayState_live
  have hsettle : t.settle = (doFrameEdge 0 [] strayState).settle := by
    exact Host.Outcome.next.inj (hexec.symm.trans hrun)
  have hsame : t.rd (R.TILE_LP_FN 0) = (doFrameEdge 0 [] strayState).rd (R.TILE_LP_FN 0) :=
    (t.settle_keepsFn.symm.trans (congrArg (State.rd · _) hsettle)).trans (State.settle_keepsFn _)
  have hfn' : t.rd (R.TILE_LP_FN 0) = strayState.rd (R.TILE_LP_FN 0) + 1 := hfn
  rw [hsame, hafter, hbefore] at hfn'
  exact absurd hfn' (by decide)

end Sys2Proof.Machine
end

section
/-!
PROOFS. Entries of the library: writing one entry, and loads, erasures and placements (R107, R147 to R150, R412), and O28.
-/
namespace Sys2Proof.Machine

/-! ## Tables written item by item -/

/-- Items written in turn: a key of none reads as before. -/
theorem Tbl.look_foldl_put_other {α β : Type} {key : β → Nat} {v : β → α} {i : Nat} (l : List β) (m : Tbl α)
    (h : ∀ b, b ∈ l → i ≠ key b) : Tbl.look (l.foldl (fun m b => Tbl.put m (key b) (v b)) m) i = Tbl.look m i :=
  List.foldlRecOn l _ (motive := fun t => Tbl.look t i = Tbl.look m i) rfl fun _ ht b hb => (Tbl.look_put_other _ (h b hb) _).trans ht

/-- Items written in turn under keys that differ: each key reads its item. -/
theorem Tbl.look_foldl_put {α β : Type} {key : β → Nat} {v : β → α} {l : List β} (m : Tbl α) (hn : (l.map key).Nodup) {b : β}
    (hb : b ∈ l) : Tbl.look (l.foldl (fun m b => Tbl.put m (key b) (v b)) m) (key b) = some (v b) := by
  induction l generalizing m with
  | nil => cases hb
  | cons a l ih =>
    obtain ⟨ha, hn⟩ := List.nodup_cons.1 (List.map_cons ▸ hn)
    rw [List.foldl_cons]
    rcases List.mem_cons.1 hb with rfl | hb
    · rw [Tbl.look_foldl_put_other l _ fun c hc e => ha (List.mem_map.2 ⟨c, hc, e.symm⟩), Tbl.look_put_self]
    · exact ih _ hn hb

/-! ## One entry written -/

/-- From `s` to `t` the library entry `n` becomes `x`, no other entry changes, and nothing is touched but `ps` and `rs`. -/
structure State.Enters (ps : List Part) (rs : List Nat) (s t : State) (n : Nat) (x : LibEntry) : Prop where
  self : t.entry n = x
  other : ∀ j, j ≠ n → t.entry j = s.entry j
  touches : s.Touches t ps rs

namespace State.Enters

variable {ps qs : List Part} {rs qr : List Nat} {s t v : State} {n : Nat} {x y : LibEntry}

theorem setEntry (s : State) (n : Nat) (x : LibEntry) (h : Part.sch ∈ ps) : State.Enters ps rs s (s.setEntry n x) n x :=
  ⟨s.entry_setEntry_self n x, fun _ hj => s.entry_setEntry_other x hj, .with_sch s _ h⟩

theorem comp (h : State.Enters ps rs s t n x) (g : State.Enters ps rs t v n y) : State.Enters ps rs s v n y :=
  ⟨g.self, fun j hj => (g.other j hj).trans (h.other j hj), h.touches.trans g.touches⟩

/-- What does not touch the library may follow. -/
theorem followed (h : State.Enters ps rs s t n x) (g : t.Touches v qs qr) (hs : Part.sch ∉ qs) (hp : ∀ p, p ∈ qs → p ∈ ps)
    (hr : ∀ r, r ∈ qr → r ∈ rs) : State.Enters ps rs s v n x :=
  have hk : t.KeepsSched v := .ofEq (g.same .sch hs)
  ⟨(hk.entry n).trans h.self, fun j hj => (hk.entry j).trans (h.other j hj), h.touches.trans (g.mono hp hr)⟩

/-- What does not touch the library may come before. -/
theorem after (h : State.Enters ps rs t v n x) (g : s.Touches t qs qr) (hs : Part.sch ∉ qs) (hp : ∀ p, p ∈ qs → p ∈ ps)
    (hr : ∀ r, r ∈ qr → r ∈ rs) : State.Enters ps rs s v n x :=
  have hk : s.KeepsSched t := .ofEq (g.same .sch hs)
  ⟨h.self, fun j hj => (h.other j hj).trans (hk.entry j), (g.mono hp hr).trans h.touches⟩

end State.Enters

theorem State.setEntry_keepsClients (s : State) (n : Nat) (x : LibEntry) : s.KeepsClients (s.setEntry n x) :=
  ⟨.ofEq rfl, fun _ => rfl, rfl, rfl⟩

/-! ## Entries that may not be replaced (R149) -/

theorem State.entryBusy_iff (s : State) (n : Nat) :
    s.entryBusy n = true ↔ (s.entry n).lstate = Ls.active ∨ ∃ x, s.sch.swap = some x ∧ x.target = some n := by
  unfold State.entryBusy
  cases s.sch.swap <;> simp

/-! ## The end of a load (R107, R148) -/

/-- A load ends with its entry, its event and the completion of its SCH_LOAD_END. -/
def State.endLoad (s : State) (n : Nat) (x : LibEntry) (src evCode : Nat) (req : Option Requester) (code : Nat) : State :=
  ((s.setEntry n x).ev src evCode).completeOpt req true code []

theorem State.loadFails_eq (s : State) (n code : Nat) : s.loadFails n code =
    s.endLoad n { s.entry n with lstate := Ls.failed, reason := code, req := none } Ev.scheduleLoadFailed code (s.entry n).req code := rfl

/-- The parts that the end of a load touches. -/
abbrev Part.load : List Part := [.sch, .cmd, .frames, .recorder]

theorem State.endLoad_enters (s : State) (n : Nat) (x : LibEntry) {src : Nat} (h : src < 1536) (evCode : Nat) (req : Option Requester)
    (code : Nat) : State.Enters Part.load [R.CMD_CNT 5] s (s.endLoad n x src evCode req code) n x :=
  ((State.Enters.setEntry s n x (.head _)).followed (.ev _ src evCode (ps := Part.occ) (rs := []) h (by decide) (by decide)) (by decide)
    (by decide) (by simp)).followed (State.completeOpt_touches _ req true code []) (by decide) (by decide) (by simp)

theorem State.endLoad_completed {s : State} {r : Requester} (hl : s.sessionLive r = true) (n : Nat) (x : LibEntry) {src : Nat}
    (h : src < 1536) (evCode code : Nat) : (s.endLoad n x src evCode (some r) code).Completed r code :=
  State.complete_completed
    ((((s.setEntry_keepsClients n x).comp (State.raise_keepsClients _ _ h)).sessionLive r).trans hl) code []

theorem State.loadFails_enters (s : State) (n code : Nat) : State.Enters Part.load [R.CMD_CNT 5] s (s.loadFails n code) n
    { s.entry n with lstate := Ls.failed, reason := code, req := none } := by
  rw [State.loadFails_eq]
  exact s.endLoad_enters n _ (by decide) code _ code

theorem State.loadFails_completed {s : State} {n : Nat} {r : Requester} (hr : (s.entry n).req = some r) (hl : s.sessionLive r = true)
    (code : Nat) : (s.loadFails n code).Completed r code := by
  rw [State.loadFails_eq, hr]
  exact State.endLoad_completed hl n _ (by decide) code code

theorem State.slotInfeasible_touches (s : State) (code : Nat) (why : Option (Nat × Nat)) : s.Touches (s.slotInfeasible code why) Part.occ [] := by
  unfold State.slotInfeasible
  split
  · exact .refl s _ _
  · exact .raise s _ (show Ev.schedulePlacementFailed < 1536 by decide) (by decide) (by decide)

theorem State.slotInfeasible_sessionLive (s : State) (code : Nat) (why : Option (Nat × Nat)) (r : Requester) :
    (s.slotInfeasible code why).sessionLive r = s.sessionLive r := by
  unfold State.slotInfeasible
  split
  · rfl
  · exact (s.raise_keepsClients _ (show Ev.schedulePlacementFailed < 1536 by decide)).sessionLive r

/-- A load replaced or erased tells its requester, and an entry is written in its place. -/
theorem State.dropLoad_enters (s : State) (n : Nat) (x : LibEntry) :
    State.Enters Part.load [R.CMD_CNT 5] s ((s.dropLoad n).setEntry n x) n x :=
  (State.Enters.setEntry _ n x (.head _)).after (s.completeOpt_touches _ true Code.SCH_NOT_READY []) (by decide) (by decide) (by simp)

/-! ## SCH_LOAD_BEGIN and SCH_ERASE (R147, R149) -/

theorem schLoadBegin_serves (s : State) (f : Frame) (hs : s.Live) : Serves (.schLoadBegin f) opSchLoadBegin f s fun w r v code params =>
    let n := u f.params 0 1
    let busy : Prop := (w.entry n).lstate = Ls.active ∨ ∃ x, w.sch.swap = some x ∧ x.target = some n
    params = [] ∧ (w.flag R.SCHD_CTL_ENABLE = false → code = Code.SCH_DISABLED ∧ v = w) ∧
    (w.flag R.SCHD_CTL_ENABLE = true → busy → code = Code.SCH_ENTRY_BUSY ∧ v = w) ∧
    (w.flag R.SCHD_CTL_ENABLE = true → ¬ busy → code = Code.DONE ∧
      v.entry n = { LibEntry.empty with lstate := Ls.loading, durs := (List.range (u f.params 1 1 + 1)).map fun k => u f.params (4 + 4 * k) 4,
                                        touched := r.stamp } ∧
      (∀ j, j ≠ n → v.entry j = w.entry j) ∧ w.Touches v [.sch, .cmd, .frames, .recorder] [R.CMD_CNT 5]) := by
  refine serves_of rfl hs fun r _ w _ => ?_
  simp only [← State.entryBusy_iff]
  by_cases hen : w.flag R.SCHD_CTL_ENABLE = true
  · by_cases hb : w.entryBusy (u f.params 0 1) = true
    · simp [opSchLoadBegin, opSched, hen, hb]
    · obtain ⟨hself, hother, ht⟩ := w.dropLoad_enters (u f.params 0 1)
        { LibEntry.empty with
            lstate := Ls.loading, durs := (List.range (u f.params 1 1 + 1)).map fun k => u f.params (4 + 4 * k) 4, touched := r.stamp }
      simp only [opSchLoadBegin, opSched, hen, hb]
      exact ⟨rfl, by simp, by simp, fun _ _ => ⟨rfl, hself, hother, ht⟩⟩
  · simp [opSchLoadBegin, opSched, hen]

theorem schErase_serves (s : State) (f : Frame) (hs : s.Live) : Serves (.schErase f) opSchErase f s fun w _ v code params =>
    let n := u f.params 0 1
    let busy : Prop := (w.entry n).lstate = Ls.active ∨ ∃ x, w.sch.swap = some x ∧ x.target = some n
    params = [] ∧ (busy → code = Code.SCH_ENTRY_BUSY ∧ v = w) ∧
    (¬ busy → code = Code.DONE ∧ v.entry n = LibEntry.empty ∧ (∀ j, j ≠ n → v.entry j = w.entry j) ∧
      w.Touches v [.sch, .cmd, .frames, .recorder] [R.CMD_CNT 5]) := by
  refine serves_of rfl hs fun r _ w _ => ?_
  simp only [← State.entryBusy_iff]
  by_cases hb : w.entryBusy (u f.params 0 1) = true
  · simp [opSchErase, opSched, hb]
  · obtain ⟨hself, hother, ht⟩ := w.dropLoad_enters (u f.params 0 1) LibEntry.empty
    simp only [opSchErase, opSched, hb]
    exact ⟨rfl, by simp, fun _ => ⟨rfl, hself, hother, ht⟩⟩

/-! ## SCH_LOAD_SLOT (R412) -/

theorem opSchLoadSlot_refused (q : Req) (s : State) (h : ¬ ((s.entry (u q.p 0 1)).lstate = Ls.loading ∧
    u q.p 1 1 < (s.entry (u q.p 0 1)).durs.length ∧ u q.p 2 2 + u q.p 4 2 ≤ 1_024)) :
    opSchLoadSlot.body q s = (s, Code.SES_BAD_PARAM, []) := by
  refine if_pos ?_
  simp only [Bool.or_eq_true, bne_iff_ne, decide_eq_true_eq]
  omega

/-- The records of a slot frame, written in turn. -/
def slotFrameRecs (p : List Byte) (recs : Tbl SchRec) : Tbl SchRec :=
  (List.range (u p 4 2)).foldl (fun m k => Tbl.put m (u p 1 1 * 1024 + u p 2 2 + k) (schRec (u p (8 + 4 * k) 4))) recs

theorem opSchLoadSlot_done (q : Req) (s : State) (h : (s.entry (u q.p 0 1)).lstate = Ls.loading ∧
    u q.p 1 1 < (s.entry (u q.p 0 1)).durs.length ∧ u q.p 2 2 + u q.p 4 2 ≤ 1_024) :
    opSchLoadSlot.body q s = (s.setEntry (u q.p 0 1) { s.entry (u q.p 0 1) with
      recs := slotFrameRecs q.p (s.entry (u q.p 0 1)).recs, touched := q.at_ }, Code.DONE, []) := by
  refine if_neg ?_
  simp only [Bool.or_eq_true, bne_iff_ne, decide_eq_true_eq]
  omega

/-- A later record at a position replaces the earlier one. -/
theorem look_slotFrameRecs (p : List Byte) (recs : Tbl SchRec) {k : Nat} (hk : k < u p 4 2) :
    Tbl.look (slotFrameRecs p recs) (u p 1 1 * 1024 + u p 2 2 + k) = some (schRec (u p (8 + 4 * k) 4)) :=
  Tbl.look_foldl_put (key := fun k => u p 1 1 * 1024 + u p 2 2 + k) (v := fun k => schRec (u p (8 + 4 * k) 4)) recs
    (List.nodup_range.map fun _ _ => Nat.add_left_cancel) (List.mem_range.2 hk)

theorem look_slotFrameRecs_other (p : List Byte) (recs : Tbl SchRec) {j : Nat} (h : ∀ k, k < u p 4 2 → j ≠ u p 1 1 * 1024 + u p 2 2 + k) :
    Tbl.look (slotFrameRecs p recs) j = Tbl.look recs j :=
  Tbl.look_foldl_put_other (key := fun k => u p 1 1 * 1024 + u p 2 2 + k) (v := fun k => schRec (u p (8 + 4 * k) 4)) _ recs
    fun k hk => h k (List.mem_range.1 hk)

theorem schLoadSlot_serves (s : State) (f : Frame) (hs : s.Live) : Serves (.schLoadSlot f) opSchLoadSlot f s fun w r v code params =>
    let n := u f.params 0 1
    let key (k : Nat) : Nat := u f.params 1 1 * 1_024 + u f.params 2 2 + k
    let word (k : Nat) : Nat := u f.params (8 + 4 * k) 4
    let x := w.entry n
    let ok : Prop := x.lstate = Ls.loading ∧ u f.params 1 1 < x.durs.length ∧ u f.params 2 2 + u f.params 4 2 ≤ 1_024
    params = [] ∧ (¬ ok → code = Code.SES_BAD_PARAM ∧ v = w) ∧
    (ok → code = Code.DONE ∧ (v.entry n).lstate = Ls.loading ∧ (v.entry n).touched = r.stamp ∧ (v.entry n).durs = x.durs ∧
      (∀ k, k < u f.params 4 2 → Tbl.look (v.entry n).recs (key k) =
        some ⟨word k / 2 ^ 22, word k / 2 ^ 12 % 2 ^ 10, word k / 2 ^ 6 % 2 ^ 6, word k / 2 ^ 5 % 2 == 1⟩) ∧
      (∀ j, (∀ k, k < u f.params 4 2 → j ≠ key k) → Tbl.look (v.entry n).recs j = Tbl.look x.recs j) ∧
      (∀ j, j ≠ n → v.entry j = w.entry j) ∧ w.Touches v [.sch] []) := by
  refine serves_of rfl hs fun r _ w _ => ?_
  by_cases hok : (w.entry (u f.params 0 1)).lstate = Ls.loading ∧ u f.params 1 1 < (w.entry (u f.params 0 1)).durs.length ∧
      u f.params 2 2 + u f.params 4 2 ≤ 1_024
  case neg =>
    rw [opSchLoadSlot_refused ⟨r, f.params, r.stamp⟩ w hok]
    exact ⟨rfl, fun _ => ⟨rfl, rfl⟩, fun h => absurd h hok⟩
  case pos =>
    obtain ⟨hself, hother, ht⟩ := State.Enters.setEntry (ps := [.sch]) (rs := []) w (u f.params 0 1) { w.entry (u f.params 0 1) with
      recs := slotFrameRecs f.params (w.entry (u f.params 0 1)).recs, touched := r.stamp } (.head _)
    rw [opSchLoadSlot_done ⟨r, f.params, r.stamp⟩ w hok]
    refine ⟨rfl, fun h => absurd hok h, fun ⟨hloading, _, _⟩ => ⟨rfl, ?_⟩⟩
    dsimp only
    rw [hself]
    exact ⟨hloading, rfl, rfl, fun k hk => look_slotFrameRecs f.params _ hk, fun j hj => look_slotFrameRecs_other f.params _ hj, hother, ht⟩

/-! ## A load that is abandoned (R412) -/

theorem schLoadTimeout_leaves (s : State) (n : Fin 64) (hs : s.Live) (h : (s.entry n).lstate = Ls.loading) :
    Leaves (.schLoadTimeout n) s fun t =>
      t.t = max s.t (((s.entry n).touched + 10_000_000_000) * 2 ^ 32) ∧ t.entry n = LibEntry.empty ∧
      (∀ j, j ≠ n.val → t.entry j = s.entry j) ∧ s.Touches t [.time, .sch] [] := by
  refine leaves_live _ rfl hs ?_
  obtain ⟨hself, hother, ht⟩ := (State.Enters.setEntry (ps := [.time, .sch]) (rs := []) (s.advanceTo ((s.entry n).touched + 10_000_000_000)) n
    LibEntry.empty (by decide)).after (.advanceTo s _ (ps := [.time]) (rs := []) (.head _)) (by decide) (by decide) (by simp)
  rw [doSchLoadTimeout, if_pos h]
  exact ⟨rfl, hself, hother, ht⟩

/-! ## SCH_LOAD_END (R148, R412) -/

/-- The entry as SCH_LOAD_END sends it to placement. -/
def LibEntry.sent (x : LibEntry) (r : Requester) : LibEntry := { x with lstate := Ls.placing, circuits := x.loaded, req := some r }

/-- The entry as the first failing check of SCH_LOAD_END leaves it. -/
def LibEntry.refused (x : LibEntry) (r : Requester) (code : Nat) : LibEntry :=
  { x.sent r with lstate := Ls.failed, reason := code, req := none }

/-- Checks 1 to 3 of R148: the code of the first that fails. -/
def State.loadCheck (s : State) (x : LibEntry) (count : Nat) : Option Nat :=
  if !(x.formed && count == x.recs.length) then some Code.SCH_FORMAT
  else if !s.schPortsOk x.durs.length x.loaded then some Code.CIR_PORT_BUSY
  else if !s.schOwnersOk x.loaded then some Code.CIR_NOT_OWNER
  else none

/-- The entry goes to placement, or fails with the code of the first failing check. -/
def State.sendLoad (s : State) (n : Nat) (r : Requester) (count : Nat) : State :=
  let t := s.setEntry n ((s.entry n).sent r)
  match t.loadCheck (s.entry n) count with
  | none => t
  | some code => t.loadFails n code

/-- The library is no part of the checks. -/
theorem State.loadCheck_setEntry (s : State) (n : Nat) (x y : LibEntry) (count : Nat) :
    (s.setEntry n y).loadCheck x count = s.loadCheck x count := rfl

theorem opSchLoadEnd_body (q : Req) (s : State) : opSchLoadEnd.body q s =
    if (s.entry (u q.p 0 1)).lstate != Ls.loading then (s, Code.SES_BAD_PARAM, [])
    else (s.sendLoad (u q.p 0 1) q.r (u q.p 4 4), Code.ACCEPTED, []) := by
  simp only [opSchLoadEnd, opSched, State.sendLoad, State.loadCheck, LibEntry.sent, bne, Bool.not_and]
  split_ifs <;> simp only [*, if_true, Bool.false_eq_true, if_false]

section
variable {s : State} {n count : Nat} {r : Requester}

theorem State.sendLoad_sent (h : s.loadCheck (s.entry n) count = none) :
    State.Enters [.sch] [] s (s.sendLoad n r count) n ((s.entry n).sent r) := by
  rw [State.sendLoad, State.loadCheck_setEntry, h]
  exact .setEntry s n _ (.head _)

theorem State.sendLoad_refused {code : Nat} (h : s.loadCheck (s.entry n) count = some code) :
    State.Enters Part.load [R.CMD_CNT 5] s (s.sendLoad n r count) n ((s.entry n).refused r code) := by
  have hfails := (s.setEntry n ((s.entry n).sent r)).loadFails_enters n code
  rw [State.entry_setEntry_self] at hfails
  rw [State.sendLoad, State.loadCheck_setEntry, h]
  exact (State.Enters.setEntry s n _ (.head _)).comp hfails

theorem State.sendLoad_other {j : Nat} (hj : j ≠ n) : (s.sendLoad n r count).entry j = s.entry j := by
  cases h : s.loadCheck (s.entry n) count with
  | none => exact (State.sendLoad_sent h).other j hj
  | some code => exact (State.sendLoad_refused h).other j hj

end

theorem schLoadEnd_serves (s : State) (f : Frame) (hs : s.Live) : Serves (.schLoadEnd f) opSchLoadEnd f s fun w r v code params =>
    let n := u f.params 0 1
    let x := w.entry n
    let well : Bool := x.formed && u f.params 4 4 == x.recs.length
    params = [] ∧ (x.lstate ≠ Ls.loading → code = Code.SES_BAD_PARAM ∧ v = w) ∧
    (x.lstate = Ls.loading → code = Code.ACCEPTED ∧ (∀ j, j ≠ n → v.entry j = w.entry j) ∧
      (well = false → (v.entry n).lstate = Ls.failed ∧ (v.entry n).reason = Code.SCH_FORMAT) ∧
      (well = true → w.schPortsOk x.durs.length x.loaded = false → (v.entry n).lstate = Ls.failed ∧ (v.entry n).reason = Code.CIR_PORT_BUSY) ∧
      (well = true → w.schPortsOk x.durs.length x.loaded = true → w.schOwnersOk x.loaded = false →
        (v.entry n).lstate = Ls.failed ∧ (v.entry n).reason = Code.CIR_NOT_OWNER) ∧
      (well = true → w.schPortsOk x.durs.length x.loaded = true → w.schOwnersOk x.loaded = true →
        v.entry n = { x with lstate := Ls.placing, circuits := x.loaded, req := some r } ∧ w.Touches v [.sch] [])) := by
  refine serves_of rfl hs fun r _ w _ => ?_
  rw [opSchLoadEnd_body]
  by_cases hx : (w.entry (u f.params 0 1)).lstate = Ls.loading
  case neg =>
    rw [if_pos (bne_iff_ne.2 hx)]
    exact ⟨rfl, fun _ => ⟨rfl, rfl⟩, fun h => absurd h hx⟩
  case pos =>
    have refused {code : Nat} (h : w.loadCheck (w.entry (u f.params 0 1)) (u f.params 4 4) = some code) :
        ((w.sendLoad (u f.params 0 1) r (u f.params 4 4)).entry (u f.params 0 1)).lstate = Ls.failed ∧
          ((w.sendLoad (u f.params 0 1) r (u f.params 4 4)).entry (u f.params 0 1)).reason = code := by
      rw [(State.sendLoad_refused h).self]
      exact ⟨rfl, rfl⟩
    rw [if_neg (by simpa using hx)]
    refine ⟨rfl, fun h => absurd hx h, fun _ => ⟨rfl, fun _ hj => State.sendLoad_other hj, fun hw => refused ?_, fun hw hp => refused ?_,
      fun hw hp ho => refused ?_, fun hw hp ho => ?_⟩⟩
    · simp only [State.loadCheck, hw, Bool.not_false, if_true]
    · simp only [State.loadCheck, hw, hp, Bool.not_true, Bool.not_false, Bool.false_eq_true, if_false, if_true]
    · simp only [State.loadCheck, hw, hp, ho, Bool.not_true, Bool.not_false, Bool.false_eq_true, if_false, if_true]
    · obtain ⟨hself, -, ht⟩ := State.sendLoad_sent (s := w) (n := u f.params 0 1) (count := u f.params 4 4) (r := r)
        (by simp only [State.loadCheck, hw, hp, ho, Bool.not_true, Bool.false_eq_true, if_false])
      exact ⟨hself, ht⟩

/-! ## Placement of a load (R105 to R107, R148) -/

/-- The entry of a load that has been placed. -/
def LibEntry.placedAs (x : LibEntry) (cs : List SchCir) : LibEntry :=
  { x with lstate := Ls.ready, circuits := cs, reason := 0, req := none, recs := [] }

section
variable {s : State} {n : Fin 64} (hup : s.ctrlUp = true) (hx : (s.entry n).lstate = Ls.placing)
include hup hx

theorem doSchedulePlacementDone_ok {cs : List SchCir} (h : s.placeEntry (s.entry n).durs.length (s.entry n).circuits = .ok cs) :
    doSchedulePlacementDone n s = s.endLoad n ((s.entry n).placedAs cs) Ev.scheduleReady 0 (s.entry n).req Code.DONE := by
  rw [doSchedulePlacementDone, if_pos ⟨hup, hx⟩, h]
  rfl

theorem doSchedulePlacementDone_error {code : Nat} {why : Option (Nat × Nat)}
    (h : s.placeEntry (s.entry n).durs.length (s.entry n).circuits = .error (code, why)) :
    doSchedulePlacementDone n s = (s.slotInfeasible code why).loadFails n code := by
  rw [doSchedulePlacementDone, if_pos ⟨hup, hx⟩, h]

end

/-- A placement that fails writes the entry as a failed load. -/
theorem State.placementFails_enters (s : State) (n code : Nat) (why : Option (Nat × Nat)) :
    State.Enters Part.load [R.CMD_CNT 5] s ((s.slotInfeasible code why).loadFails n code) n
      { s.entry n with lstate := Ls.failed, reason := code, req := none } := by
  have ht := s.slotInfeasible_touches code why
  have hk : s.KeepsSched (s.slotInfeasible code why) := .ofEq (ht.same .sch (by decide))
  rw [← hk.entry n]
  exact ((s.slotInfeasible code why).loadFails_enters n code).after ht (by decide) (by decide) (by simp)

theorem State.placementFails_completed {s : State} {n : Nat} {r : Requester} (hr : (s.entry n).req = some r) (hl : s.sessionLive r = true)
    (code : Nat) (why : Option (Nat × Nat)) : ((s.slotInfeasible code why).loadFails n code).Completed r code := by
  have hk : s.KeepsSched (s.slotInfeasible code why) := .ofEq ((s.slotInfeasible_touches code why).same .sch (by decide))
  exact State.loadFails_completed ((congrArg LibEntry.req (hk.entry n)).trans hr) ((s.slotInfeasible_sessionLive code why r).trans hl) code

theorem schedulePlacementDone_leaves (s : State) (n : Fin 64) (hs : s.Live) (hup : s.ctrlUp = true) (hx : (s.entry n).lstate = Ls.placing) :
    Leaves (.schedulePlacementDone n) s fun t =>
    let x := s.entry n
    let told (code : Nat) : Prop := ∀ r, x.req = some r → s.sessionLive r = true →
      ∃ m, m ∈ t.cmd.outQ ∧ m.kind = .completion ∧ m.final = true ∧ m.reqId = r.reqId ∧ m.code = code
    (match s.placeEntry x.durs.length x.circuits with
      | .ok cs => (t.entry n).lstate = Ls.ready ∧ (t.entry n).circuits = cs ∧ (t.entry n).reason = 0 ∧ told Code.DONE
      | .error (code, _) => (t.entry n).lstate = Ls.failed ∧ (t.entry n).reason = code ∧ told code) ∧
    (t.entry n).durs = x.durs ∧ (∀ j, j ≠ n.val → t.entry j = s.entry j) ∧ s.Touches t [.sch, .cmd, .frames, .recorder] [R.CMD_CNT 5] := by
  refine leaves_live _ rfl hs ?_
  cases h : s.placeEntry (s.entry n).durs.length (s.entry n).circuits with
  | ok cs =>
    obtain ⟨hself, hother, ht⟩ := s.endLoad_enters n ((s.entry n).placedAs cs) (src := Ev.scheduleReady) (by decide) 0 (s.entry n).req Code.DONE
    rw [doSchedulePlacementDone_ok hup hx h]
    dsimp only
    rw [h, hself]
    refine ⟨⟨rfl, rfl, rfl, fun r hr hl => ?_⟩, rfl, hother, ht⟩
    rw [hr]
    exact State.endLoad_completed hl n _ (by decide) 0 Code.DONE
  | error e =>
    obtain ⟨code, why⟩ := e
    obtain ⟨hself, hother, ht⟩ := s.placementFails_enters n code why
    rw [doSchedulePlacementDone_error hup hx h]
    dsimp only
    rw [h, hself]
    exact ⟨⟨rfl, rfl, fun r hr hl => State.placementFails_completed hr hl code why⟩, rfl, hother, ht⟩

/-! ## Placement of a stale entry again (R108, R150) -/

/-- A background placement that fails raises EV 51. -/
def State.stalePlacementFails (s : State) (code : Nat) (why : Option (Nat × Nat)) : State :=
  match why with
  | none => s.ev Ev.schedulePlacementFailed code
  | some _ => s.slotInfeasible code why

theorem State.stalePlacementFails_touches (s : State) (code : Nat) (why : Option (Nat × Nat)) :
    s.Touches (s.stalePlacementFails code why) Part.occ [] := by
  cases why with
  | none => exact .ev s _ code (by decide) (by decide) (by decide)
  | some e => exact s.slotInfeasible_touches code (some e)

section
variable {s : State} {n : Fin 64} (hup : s.ctrlUp = true) (hx : (s.entry n).lstate = Ls.stale)
  (hfirst : ∀ e, e ∈ s.sch.lib → e.1 < n → e.2.lstate = Ls.stale → e.2.reason ≠ 0)
include hup hx hfirst

/-- No entry that comes first waits to be placed again, so this one is placed. -/
theorem doStaleReplacementDone_eq : doStaleReplacementDone n s =
    match s.placeEntry (s.entry n).durs.length (s.entry n).circuits with
    | .error (code, why) => (s.setEntry n { s.entry n with reason := code }).stalePlacementFails code why
    | .ok cs => s.setEntry n { s.entry n with lstate := Ls.ready, circuits := cs, reason := 0 } := by
  have hahead : (s.sch.lib.any fun e => decide (e.1 < n.val) && e.2.lstate == Ls.stale && e.2.reason == 0) = false := by
    simp only [List.any_eq_false, Bool.and_eq_true, decide_eq_true_eq, beq_iff_eq]
    rintro e he ⟨⟨hlt, hst⟩, hr⟩
    exact hfirst e he hlt hst hr
  rw [doStaleReplacementDone, if_pos ⟨hup, hx, hahead⟩]
  rfl

end

theorem staleReplacementDone_leaves (s : State) (n : Fin 64) (hs : s.Live) (hup : s.ctrlUp = true) (hx : (s.entry n).lstate = Ls.stale)
    (hfirst : ∀ e, e ∈ s.sch.lib → e.1 < n → e.2.lstate = Ls.stale → e.2.reason ≠ 0) : Leaves (.staleReplacementDone n) s fun t =>
      let x := s.entry n
      (match s.placeEntry x.durs.length x.circuits with
        | .ok cs => t.entry n = { x with lstate := Ls.ready, circuits := cs, reason := 0 }
        | .error (code, _) => t.entry n = { x with reason := code }) ∧
      (∀ j, j ≠ n.val → t.entry j = s.entry j) ∧ s.Touches t [.sch, .frames, .recorder] [] := by
  refine leaves_live _ rfl hs ?_
  have written (x : LibEntry) : State.Enters [.sch, .frames, .recorder] [] s (s.setEntry n x) n x := .setEntry s n x (.head _)
  rw [doStaleReplacementDone_eq hup hx hfirst]
  cases h : s.placeEntry (s.entry n).durs.length (s.entry n).circuits with
  | ok cs =>
    obtain ⟨hself, hother, ht⟩ := written { s.entry n with lstate := Ls.ready, circuits := cs, reason := 0 }
    dsimp only
    rw [h]
    exact ⟨hself, hother, ht⟩
  | error e =>
    obtain ⟨code, why⟩ := e
    obtain ⟨hself, hother, ht⟩ := (written { s.entry n with reason := code }).followed (State.stalePlacementFails_touches _ code why)
      (by decide) (by decide) (by simp)
    dsimp only
    rw [h]
    exact ⟨hself, hother, ht⟩

/-- Settles O28: the requests by their rows, and the timeout and the two placements each by its own lemma. -/
theorem libraryEntriesLoadAndBecomeReady : Obligations.LibraryEntriesLoadAndBecomeReady :=
  ⟨⟨schLoadBegin_serves, schLoadSlot_serves, schErase_serves, schLoadTimeout_leaves⟩,
    schLoadEnd_serves, schedulePlacementDone_leaves, staleReplacementDone_leaves⟩

end Sys2Proof.Machine
end

section
/-!
PROOFS. The refutation of O25: a speculative position of an element that no tile has, whose refused load is reported at a switch strobe.
-/
namespace Sys2Proof.Machine

/-! ## A speculative position beyond the 20 tiles -/

/-- The stray element as a PIN preload whose home is its cell's state: its reach set holds output 0, and its committed PIN code is 0. -/
def strayPreload : Elem := { Elem.reset with prov := some ⟨.circuit 0, true, false, 0, 0, 0, 0, false⟩ }

/-- A transition of the grid that has blanked output 0 and touches no cell. -/
def strayTrans : Trans :=
  { slotClass := false, e := persGrid, gb := 1_200, phase := 1, lights := [], stage := none, swap := false, ports := [portKey true 0],
    loads := [], refused := [], notReady := [], dark := false, selfs := [], undo := [] }

/-- The reset state out of its resets, with that transition, a persistent circuit lit from input 0 to output 0, that element in its own
group, and a code on its first channel that stands on the range which no load of R186 takes. -/
def strayLight : State :=
  { State.reset with
      svc.por := true, svc.fwRuns := true, svc.ctrlReset := false,
      cir.ctxs := [(0, { Ctx.idle with state := Cs.lit, route := some 0 })],
      fab.elems := [(strayKey / 256, [(strayKey, strayPreload)])], fab.trans := [strayTrans],
      drv.fd := [(fdKey strayTile 0 / 256, [(fdKey strayTile 0, ⟨0, 0, 1, 0, none⟩)])] }

/-- The same with an alert on the load refusals of the stray tile. -/
def strayStrobe : State := strayLight.put (R.EVT_SRC_ALERT (Ev.rangeLoadRefused strayTile)) 1

theorem strayStrobe_live : strayStrobe.Live := ⟨rfl, rfl⟩

/-- The strobe reverts the position, since output 0 is to be released (R223), and the refusal of its load sets bit 21 of `TILE_LP_FN`. -/
theorem strayStrobe_fn : strayStrobe.rd (R.TILE_LP_FN 0) = 0 ∧
    (doSwitchStrobe false persGrid strayStrobe).rd (R.TILE_LP_FN 0) = 0x20_0000#32 := by
  decide +kernel

/-- The frame number of tile 0 stands in no register that a switch strobe or an occurrence may change. -/
theorem fn_outside_strobe : (∀ n, R.TILE_LP_FN 0 ≠ R.TILE_FD_CNT n 0 ∧ R.TILE_LP_FN 0 ≠ R.TILE_LP_PRB_STS n) ∧
    R.TILE_LP_FN 0 ≠ R.TRV_SPEC_CNT 2 ∧ ¬ evtReg (R.TILE_LP_FN 0) := by
  refine ⟨fun n => ?_, by decide, by decide⟩
  simp only [R.TILE_LP_FN, R.TILE_FD_CNT, R.TILE_LP_PRB_STS, tileBase]
  omega

/-- What a command of a live module leaves reads, at the frame number of tile 0, as the command's own effect does. -/
theorem Leaves.effect_fn {s : State} {i : Instr} {P : State → Prop} {f : State → State} (h : Leaves i s P)
    (hi : exec i s = run (live f) s) (hl : s.Live) : ∃ t, P t ∧ t.rd (R.TILE_LP_FN 0) = (f s).rd (R.TILE_LP_FN 0) := by
  obtain ⟨t, hexec, hp⟩ := h
  have hsettle : t.settle = (f s).settle := Host.Outcome.next.inj (hexec.symm.trans (hi.trans (run_live f hl)))
  exact ⟨t, hp, (t.settle_keepsFn.symm.trans (congrArg (State.rd · _) hsettle)).trans (State.settle_keepsFn _)⟩

/-- Refutes O25: no hypothesis of its first clause keeps the listed elements within the 20 tiles. In `strayStrobe` a speculative position of
an element of a tile that does not exist is reverted at the switch strobe; its load is refused, and the pending bit of that refusal stands at
`TILE_LP_FN` of tile 0, which the clause says no strobe changes. -/
theorem not_cellsSwitchAndPortsAreReleased : ¬ Obligations.CellsSwitchAndPortsAreReleased := by
  unfold Obligations.CellsSwitchAndPortsAreReleased
  rintro ⟨⟨hswitch, -⟩, -⟩
  have hleaves := hswitch strayStrobe false persGrid strayTrans strayStrobe_live (by decide) rfl (by decide) (by decide)
  obtain ⟨t, ⟨-, -, -, -, -, -, -, -, -, -, -, -, -, -, hframe⟩, hfn⟩ := hleaves.effect_fn rfl strayStrobe_live
  obtain ⟨htile, hspec, hevt⟩ := fn_outside_strobe
  obtain ⟨hbefore, hafter⟩ := strayStrobe_fn
  have hkept : t.rd (R.TILE_LP_FN 0) = strayStrobe.rd (R.TILE_LP_FN 0) := hframe _ htile hspec hevt
  rw [hfn, hafter, hbefore] at hkept
  exact absurd hkept (by decide)

end Sys2Proof.Machine
end

section
/-!
PROOFS. The listed elements of a tile: which they are, and that each is listed once.
-/
namespace Sys2Proof

/-- A canonical table lists each key once. -/
theorem Tbl.nodup_of_wf {α : Type} {m : List (Nat × α)} (h : Tbl.wf m = true) : (m.map Prod.fst).Nodup := by
  induction m with
  | nil => exact List.nodup_nil
  | cons x r ih =>
    simp only [Tbl.wf, Bool.and_eq_true, List.all_eq_true, decide_eq_true_eq] at h
    obtain ⟨hlt, hr⟩ := h
    refine List.nodup_cons.2 ⟨fun hx => ?_, ih hr⟩
    obtain ⟨y, hy, hxy⟩ := List.mem_map.1 hx
    exact absurd (hlt y hy) (by omega)

end Sys2Proof

namespace Sys2Proof.Machine

section
variable {s : State} (hw : Grp.wf s.fab.elems = true)
include hw

/-- In a canonical table every key stands in its group, and every group is canonical. -/
theorem State.elemGroup_wf {g : Nat × List (Nat × Elem)} (hg : g ∈ s.fab.elems) : Tbl.wf g.2 = true ∧ ∀ y, y ∈ g.2 → y.1 / 256 = g.1 := by
  simp only [Grp.wf, Bool.and_eq_true, List.all_eq_true, beq_iff_eq] at hw
  obtain ⟨-, hgroups⟩ := hw
  obtain ⟨⟨hwf, -⟩, hkeys⟩ := hgroups g hg
  exact ⟨hwf, hkeys⟩

theorem State.mem_elemsOf {n : Nat} {y : Nat × Elem} : y ∈ s.elemsOf n ↔ y ∈ s.elems ∧ tileOf y.1 = n := by
  have inGroup {g : Nat × List (Nat × Elem)} (hg : g ∈ s.fab.elems) (hy : y ∈ g.2) : g.1 / 16 = tileOf y.1 := by
    rw [← (State.elemGroup_wf hw hg).2 y hy, tileOf, Nat.div_div_eq_div_mul]
  simp only [State.elemsOf, State.elems, Grp.entries, List.mem_flatMap, List.mem_filter, beq_iff_eq]
  constructor
  · rintro ⟨g, ⟨hg, hn⟩, hy⟩
    exact ⟨⟨g, hg, hy⟩, (inGroup hg hy).symm.trans hn⟩
  · rintro ⟨⟨g, hg, hy⟩, hn⟩
    exact ⟨g, ⟨hg, (inGroup hg hy).trans hn⟩, hy⟩

/-- An element listed reads as it is listed. -/
theorem State.elem_of_mem {y : Nat × Elem} (h : y ∈ s.elems) : s.elem y.1 = y.2 := by
  rw [State.elem, Grp.getD, Tbl.getD, (Grp.mem_entries s.fab.elems hw y.1 y.2).1 h, Option.getD_some]

/-- An element that does not read as POR_N leaves it is listed. -/
theorem State.mem_elems_of_ne {e : Nat} (h : s.elem e ≠ Elem.reset) : (e, s.elem e) ∈ s.elems := by
  obtain ⟨x, hx⟩ := Option.ne_none_iff_exists'.1 fun hn : Tbl.look (Tbl.getD s.fab.elems (e / 256) []) e = none =>
    h (by rw [State.elem, Grp.getD, Tbl.getD, hn, Option.getD_none])
  have hread : s.elem e = x := by rw [State.elem, Grp.getD, Tbl.getD, hx, Option.getD_some]
  exact (Grp.mem_entries s.fab.elems hw e _).2 (hread ▸ hx)

theorem State.elemsOf_nodup (n : Nat) : ((s.elemsOf n).map Prod.fst).Nodup := by
  have hgroups : (s.fab.elems.map Prod.fst).Nodup := by
    simp only [Grp.wf, Bool.and_eq_true] at hw
    exact Tbl.nodup_of_wf hw.1
  rw [State.elemsOf, Grp.entries, List.map_flatMap, List.nodup_flatMap]
  constructor
  · intro g hg
    exact Tbl.nodup_of_wf (State.elemGroup_wf hw (List.mem_filter.1 hg).1).1
  · refine (List.Pairwise.imp_of_mem (fun ha hb hab => ?_) (List.pairwise_map.1 hgroups)).filter _
    refine List.disjoint_left.2 fun e hea heb => hab ?_
    obtain ⟨y, hy, rfl⟩ := List.mem_map.1 hea
    obtain ⟨z, hz, hzy⟩ := List.mem_map.1 heb
    rw [← (State.elemGroup_wf hw ha).2 y hy, ← (State.elemGroup_wf hw hb).2 z hz, hzy]

end

end Sys2Proof.Machine
end

section
/-!
PROOFS. What a load of an element's fast-drive channels does (R186, R306, R313), and the belay sub-steps of a tile (R189).
-/
namespace Sys2Proof.Machine

/-! ## One load -/

/-- The load counters of a tile. -/
def loadCnts (n : Nat) : List Nat := [R.TILE_FD_CNT n 0, R.TILE_FD_CNT n 1, R.TILE_FD_CNT n 2]

/-- From `s` to `t` nothing changes but the channels, the PIN phases and the load counters that loads of elements `l` of tile `n` change. -/
structure State.LoadsOnly (n : Nat) (l : List Nat) (s t : State) : Prop where
  touches : s.Touches t [.fab, .drv, .recorder, .frames] (loadCnts n)
  cells : t.fab.cells = s.fab.cells
  trans : t.fab.trans = s.fab.trans
  elem : ∀ x, x ∉ l → t.elem x = s.elem x
  fdch : ∀ k, k / 2 ∉ l → t.fdch k = s.fdch k

namespace State.LoadsOnly

theorem refl (n : Nat) (l : List Nat) (s : State) : s.LoadsOnly n l s := ⟨.refl s _ _, rfl, rfl, fun _ _ => rfl, fun _ _ => rfl⟩

theorem comp {n : Nat} {l : List Nat} {a b c : State} (h : State.LoadsOnly n l a b) (g : State.LoadsOnly n l b c) : State.LoadsOnly n l a c :=
  ⟨h.touches.trans g.touches, g.cells.trans h.cells, g.trans.trans h.trans, fun x hx => (g.elem x hx).trans (h.elem x hx),
   fun k hk => (g.fdch k hk).trans (h.fdch k hk)⟩

theorem mono {n : Nat} {l m : List Nat} {a b : State} (h : State.LoadsOnly n l a b) (hl : ∀ x, x ∈ l → x ∈ m) : State.LoadsOnly n m a b :=
  ⟨h.touches, h.cells, h.trans, fun x hx => h.elem x fun c => hx (hl x c), fun k hk => h.fdch k fun c => hk (hl _ c)⟩

/-- Loads of elements one by one are loads of them all. -/
theorem foldl {n : Nat} {f : State → Nat → State} {l : List Nat} (h : ∀ (s : State) e, e ∈ l → s.LoadsOnly n [e] (f s e)) (s : State) :
    s.LoadsOnly n l (l.foldl f s) :=
  List.foldlRecOn l f (motive := State.LoadsOnly n l s) (refl n l s) fun t ht e he =>
    ht.comp ((h t e he).mono fun _ hx => List.mem_singleton.1 hx ▸ he)

theorem count {n e : Nat} (s : State) {f : Fld} (h : f.addr ∈ loadCnts n) : s.LoadsOnly n [e] (s.count f) :=
  ⟨.count s f h, rfl, rfl, fun _ _ => rfl, fun _ _ => rfl⟩

theorem ofRecorded {n : Nat} {l : List Nat} {s t : State} (h : s.Recorded t) : s.LoadsOnly n l t :=
  ⟨.ofRecorded h (by decide) (by decide), by rw [h.fab], by rw [h.fab], fun _ _ => by rw [State.elem, State.elem, h.fab],
   fun _ _ => by rw [State.fdch, State.fdch, h.drv]⟩

theorem setFd {n e k : Nat} (s : State) (hk : k / 2 = e) (x : FdCh) : s.LoadsOnly n [e] (s.setFd k x) :=
  ⟨.with_drv s _ (by decide), rfl, rfl, fun _ _ => rfl, fun j hj =>
    Grp.getD_set_other _ _ (show j ≠ k from fun c => hj (List.mem_singleton.2 (c ▸ hk))) _⟩

theorem setElem {n e : Nat} (s : State) (x : Elem) : s.LoadsOnly n [e] (s.setElem e x) :=
  ⟨.with_fab s _ (by decide), rfl, rfl, fun _ hj => s.elem_setElem_other x fun c => hj (c ▸ List.mem_singleton.2 rfl), fun _ _ => rfl⟩

end State.LoadsOnly

/-- The channels of an element, by arm. -/
theorem fdKey_elem (e : Nat) : fdKey (tileOf e) (e % 4096 * 2) = 2 * e ∧ fdKey (tileOf e) (e % 4096 * 2 + 1) = 2 * e + 1 := by
  simp only [fdKey, tileOf]
  omega

theorem rangeLoadRefused_lt {n : Nat} (h : n < 20) : Ev.rangeLoadRefused n < 1536 := by
  unfold Ev.rangeLoadRefused
  omega

theorem State.fdLoad_loadsOnly (s : State) {n e k : Nat} (hn : n < 20) (ht : tileOf e = n) (hk : k / 2 = e) (code range : Nat) :
    s.LoadsOnly n [e] (s.fdLoad k code range).1 := by
  have htile : k / 8192 = n := by
    rw [← ht, ← hk, tileOf]
    omega
  unfold State.fdLoad
  extract_lets x t
  split
  · have hcount : (s.setFd k { x with pend := none }).LoadsOnly n [e] ((s.setFd k { x with pend := none }).count (whole (R.TILE_FD_CNT t 0))) :=
      .count _ (htile ▸ List.mem_cons_self)
    exact ((State.LoadsOnly.setFd s hk _).comp hcount).comp (.ofRecorded (State.ev_recorded _ _ _ (rangeLoadRefused_lt (lt_of_eq_of_lt htile hn))))
  · exact .setFd s hk _

/-- A channel on the range asked takes the code (R306). -/
theorem State.fdLoad_active (s : State) (k code : Nat) {range : Nat} (h : (s.fdch k).rangeUse = range) :
    ((s.fdLoad k code range).1.fdch k).active = code := by
  rw [State.fdLoad, h, bne_self_eq_false, Bool.false_and, if_neg Bool.false_ne_true, State.fdch_setFd_self]

/-- The other channel keeps what it has. -/
theorem State.fdLoad_other (s : State) {k j : Nat} (hk : k / 8192 < 20) (h : j ≠ k) (code range : Nat) :
    (s.fdLoad k code range).1.fdch j = s.fdch j := by
  have hset (x : FdCh) : (s.setFd k x).fdch j = s.fdch j := Grp.getD_set_other _ _ h _
  unfold State.fdLoad
  extract_lets x t
  split
  · rw [State.fdch, State.ev_drv _ _ _ (rangeLoadRefused_lt hk)]
    exact hset { x with pend := none }
  · exact hset _

/-- Both channels of an element loaded on the 8 mA range, arm A first. -/
def State.loadArms (s : State) (e : Nat) (codes : Nat × Nat) : State := ((s.fdLoad (2 * e) codes.1 1).1.fdLoad (2 * e + 1) codes.2 1).1

theorem State.loadPin_eq (s : State) (e : Nat) (ph trim : Int) :
    ∃ x, (s.loadPin e ph trim).1 = (s.loadArms e (s.pinCodes e ph trim)).setElem e x ∧ x.pinPh = ph := by
  obtain ⟨ha, hb⟩ := fdKey_elem e
  unfold State.loadPin State.loadArms
  obtain ⟨ca, cb⟩ := s.pinCodes e ph trim
  simp only [ha, hb]
  generalize s.fdLoad (2 * e) ca 1 = p
  obtain ⟨u, a⟩ := p
  generalize u.fdLoad (2 * e + 1) cb 1 = q
  obtain ⟨v, b⟩ := q
  exact ⟨_, rfl, rfl⟩

theorem State.loadPin_loadsOnly (s : State) {n e : Nat} (hn : n < 20) (ht : tileOf e = n) (ph trim : Int) :
    s.LoadsOnly n [e] (s.loadPin e ph trim).1 := by
  obtain ⟨x, hx, -⟩ := s.loadPin_eq e ph trim
  rw [hx]
  exact ((s.fdLoad_loadsOnly hn ht (by omega) _ 1).comp (State.fdLoad_loadsOnly _ hn ht (by omega) _ 1)).comp (.setElem _ x)

theorem State.loadPin_pinPh (s : State) (e : Nat) (ph trim : Int) : ((s.loadPin e ph trim).1.elem e).pinPh = ph := by
  obtain ⟨x, hx, hph⟩ := s.loadPin_eq e ph trim
  rw [hx, State.elem_setElem_self, hph]

/-- Channels on the 8 mA range take the codes of the phase (R186). -/
theorem State.loadPin_active (s : State) {e : Nat} (he : tileOf e < 20) (ph trim : Int) (h0 : (s.fdch (2 * e)).rangeUse = 1)
    (h1 : (s.fdch (2 * e + 1)).rangeUse = 1) :
    ((s.loadPin e ph trim).1.fdch (2 * e)).active = (s.pinCodes e ph trim).1 ∧
      ((s.loadPin e ph trim).1.fdch (2 * e + 1)).active = (s.pinCodes e ph trim).2 := by
  have hkey : 2 * e / 8192 < 20 ∧ (2 * e + 1) / 8192 < 20 := by
    unfold tileOf at he
    omega
  have harm : 2 * e ≠ 2 * e + 1 := by omega
  obtain ⟨x, hx, -⟩ := s.loadPin_eq e ph trim
  have harms (k : Nat) : (s.loadPin e ph trim).1.fdch k = (s.loadArms e (s.pinCodes e ph trim)).fdch k := by rw [hx]; rfl
  rw [harms, harms, State.loadArms]
  constructor
  · rw [State.fdLoad_other _ hkey.2 harm]
    exact s.fdLoad_active _ _ h0
  · exact State.fdLoad_active _ _ _ (by rwa [s.fdLoad_other hkey.1 harm.symm])

/-! ## A loop write at a sub-step -/

/-- A loop write of an element that no transition touches and whose bank is not direct is a load; any other is counted (R309, R185). -/
theorem State.loopPin_loads {s : State} {e : Nat} (hsrc : s.flag (R.TILE_FD_BCTL_SRC (tileOf e) (e % 4096 / 256)) = false)
    (ht : s.touchedNow e = false) (ph : Int) : s.loopPin e ph = (s.loadPin e ph 0).1 := by
  rw [State.loopPin, hsrc, ht, if_neg Bool.false_ne_true, if_neg Bool.false_ne_true]

theorem State.loopPin_loadsOnly (s : State) {n e : Nat} (hn : n < 20) (ht : tileOf e = n) (ph : Int) : s.LoadsOnly n [e] (s.loopPin e ph) := by
  unfold State.loopPin
  extract_lets t
  split
  · exact .count s (ht ▸ by simp [loadCnts, whole, t])
  · split
    · exact .count s (ht ▸ by simp [loadCnts, whole, t])
    · exact s.loadPin_loadsOnly hn ht ph 0

end Sys2Proof.Machine
end

section
/-!
PROOFS. The belay sub-steps of a tile (R185, R189, R243): each element in belay takes its commanded phase once.
-/
namespace Sys2Proof.Machine

/-! ## The phase of a sub-step -/

/-- The PIN phase of an element at a sub-step of a frame of `p` ns: its commanded phase less the modelled heater phase at the midpoint, with
the correction of its belay (R189, R243). -/
def State.substepPhase (s : State) (p e : Nat) (b : Belay) : Int :=
  s.phiNow e (s.cell (posOf e)) - roundDiv (s.hmodAt e (s.now + p / 32)) 65_536 + b.corr

/-- The phase of an element reads its own record, its cell, the calibrated tables, its sensors and device time. -/
theorem State.substepPhase_congr {s t : State} {e : Nat} (ht : t.t = s.t) (htiles : t.tiles = s.tiles) (hcal : t.cal = s.cal)
    (hcells : t.fab.cells = s.fab.cells) (he : t.elem e = s.elem e) (p : Nat) (b : Belay) : t.substepPhase p e b = s.substepPhase p e b := by
  simp only [State.substepPhase, State.phiNow, State.phi, State.elemTemp, State.sensorNow, State.hmodAt, State.tau, State.tblWord, State.cell,
    State.tile, State.now, ht, htiles, hcal, hcells, he]

theorem State.fdCode_congr {s t : State} (hcal : t.cal = s.cal) : t.fdCode = s.fdCode := by
  funext n q current
  rw [State.fdCode, State.fdCode, State.fdEntry, State.fdEntry, hcal]

theorem State.pinCurrent_congr {s t : State} (hcal : t.cal = s.cal) : t.pinCurrent = s.pinCurrent := by
  have htable : t.tblWord = s.tblWord := by
    funext e w
    rw [State.tblWord, State.tblWord, hcal]
  funext e ph
  rw [State.pinCurrent, State.pinCurrent, htable]

theorem State.pinCodes_congr {s t : State} (hcal : t.cal = s.cal) (e : Nat) (ph trim : Int) : t.pinCodes e ph trim = s.pinCodes e ph trim := by
  rw [State.pinCodes, State.pinCodes, State.fdCode_congr hcal, State.pinCurrent_congr hcal]

/-- The control register of a fast-drive bank is no load counter of its tile, and no register of occurrences. -/
theorem bctl_not_loadCnts (n k : Nat) : (R.TILE_FD_BCTL_SRC n k).addr ∉ loadCnts n := by
  simp only [loadCnts, R.TILE_FD_BCTL_SRC, R.TILE_FD_BCTL, R.TILE_FD_CNT, List.mem_cons, List.not_mem_nil, or_false]
  omega

theorem bctl_not_evtReg (n k : Nat) : ¬ evtReg (R.TILE_FD_BCTL_SRC n k).addr := by
  simp only [evtReg, R.TILE_FD_BCTL_SRC, R.TILE_FD_BCTL, tileBase, R.EVT_HEAD, R.EVT_FLUSHED, R.EVT_LOST, R.EVT_TILE_LOST, R.EVT_PEND]
  omega

/-! ## Every element of the tile in belay -/

/-- An element in belay loaded at a sub-step. -/
def State.substep (p : Nat) (s : State) (e : Nat) : State := match (s.elem e).belay with
  | none => s
  | some b => s.loopPin e (s.substepPhase p e b)

/-- The elements of a tile that are past the capture frame of a belay. -/
def State.belaying (s : State) (n : Nat) : List Nat :=
  ((s.elemsOf n).filter fun y => match y.2.belay with
    | none => false
    | some b => decide (0 < b.frames)).map (·.1)

theorem doBelaySubstep_eq {s : State} {n : Fin 20} (hserves : s.engineServes n = true) (hd : (s.tile n).drives = true) (j : Fin 16) :
    doBelaySubstep n j s = (s.belaying n).foldl (State.substep (s.period n)) (s.advanceTo ((s.tile n).edge + j * s.period n / 16)) := by
  rw [doBelaySubstep, hserves, hd]
  rfl

theorem State.substep_loadsOnly (s : State) {n e : Nat} (hn : n < 20) (ht : tileOf e = n) (p : Nat) : s.LoadsOnly n [e] (s.substep p e) := by
  unfold State.substep
  split
  · exact .refl n _ s
  · exact s.loopPin_loadsOnly hn ht _

section
variable {s : State} (hw : Grp.wf s.fab.elems = true)
include hw

theorem State.mem_belaying {n e : Nat} : e ∈ s.belaying n ↔ tileOf e = n ∧ ∃ b, (s.elem e).belay = some b ∧ 0 < b.frames := by
  rw [State.belaying, List.mem_map]
  constructor
  · rintro ⟨y, hy, rfl⟩
    obtain ⟨hmem, hbelay⟩ := List.mem_filter.1 hy
    obtain ⟨hlisted, htile⟩ := (State.mem_elemsOf hw).1 hmem
    rw [State.elem_of_mem hw hlisted]
    cases hb : y.2.belay with
    | none => simp [hb] at hbelay
    | some b => exact ⟨htile, b, rfl, by simpa [hb] using hbelay⟩
  · rintro ⟨htile, b, hb, hframes⟩
    have hlisted : (e, s.elem e) ∈ s.elems := State.mem_elems_of_ne hw fun h => by simp [h, Elem.reset] at hb
    exact ⟨(e, s.elem e), List.mem_filter.2 ⟨(State.mem_elemsOf hw).2 ⟨hlisted, htile⟩, by simpa [hb] using hframes⟩, rfl⟩

theorem State.belaying_nodup (n : Nat) : (s.belaying n).Nodup :=
  (State.elemsOf_nodup hw n).sublist (List.filter_sublist.map _)

end

/-- What an element holds after loads: its PIN phase, and the codes of that phase where its channels were on the 8 mA range (R186, R313). -/
def State.Pinned (s t : State) (e : Nat) (ph : Int) : Prop :=
  (t.elem e).pinPh = ph ∧ ((s.fdch (2 * e)).rangeUse = 1 → (s.fdch (2 * e + 1)).rangeUse = 1 →
    (t.fdch (2 * e)).active = (s.pinCodes e ph 0).1 ∧ (t.fdch (2 * e + 1)).active = (s.pinCodes e ph 0).2)

theorem State.loadPin_pinned (s : State) {e : Nat} (he : tileOf e < 20) (ph : Int) : s.Pinned (s.loadPin e ph 0).1 e ph :=
  ⟨s.loadPin_pinPh e ph 0, s.loadPin_active he ph 0⟩

/-- Loads of other elements, before and after, leave what a load has put. -/
theorem State.Pinned.among {s u v t : State} {n e : Nat} {l m : List Nat} {ph : Int} (h : u.Pinned v e ph) (hl : e ∉ l) (hm : e ∉ m)
    (before : s.LoadsOnly n l u) (after : v.LoadsOnly n m t) : s.Pinned t e ph := by
  obtain ⟨hph, hcodes⟩ := h
  have harms (k : Nat) (hk : k / 2 = e) : u.fdch k = s.fdch k ∧ t.fdch k = v.fdch k :=
    ⟨before.fdch k (hk ▸ hl), after.fdch k (hk ▸ hm)⟩
  obtain ⟨hu0, ht0⟩ := harms (2 * e) (by omega)
  obtain ⟨hu1, ht1⟩ := harms (2 * e + 1) (by omega)
  rw [hu0, hu1, State.pinCodes_congr (before.touches.same .cal (by decide))] at hcodes
  exact ⟨by rw [after.elem e hm, hph], by rwa [ht0, ht1]⟩

/-- Sub-steps of different elements of a tile: each takes the phase it has at the start, unless the load is discarded. -/
theorem State.substeps_pinned {s : State} {n e p : Nat} {b : Belay} {l : List Nat} (hn : n < 20) (hl : ∀ x, x ∈ l → tileOf x = n)
    (hnodup : l.Nodup) (he : e ∈ l) (hb : (s.elem e).belay = some b) (ht : s.touchedNow e = false)
    (hsrc : s.flag (R.TILE_FD_BCTL_SRC n (e % 4096 / 256)) = false) :
    s.Pinned (l.foldl (State.substep p) s) e (s.substepPhase p e b) := by
  obtain ⟨l1, l2, rfl⟩ := List.append_of_mem he
  rw [List.nodup_append, List.nodup_cons] at hnodup
  obtain ⟨-, ⟨he2, -⟩, hdisj⟩ := hnodup
  have he1 : e ∉ l1 := fun h => hdisj e h e List.mem_cons_self rfl
  have htile : tileOf e = n := hl e he
  rw [List.foldl_append, List.foldl_cons]
  have before : s.LoadsOnly n l1 (l1.foldl (State.substep p) s) :=
    .foldl (fun t x hx => t.substep_loadsOnly hn (hl x (List.mem_append_left _ hx)) p) s
  generalize l1.foldl (State.substep p) s = u at before ⊢
  have after : (u.substep p e).LoadsOnly n l2 (l2.foldl (State.substep p) (u.substep p e)) :=
    .foldl (fun t x hx => t.substep_loadsOnly hn (hl x (List.mem_append_right _ (List.mem_cons_of_mem _ hx))) p) _
  have hphase : u.substepPhase p e b = s.substepPhase p e b :=
    State.substepPhase_congr (before.touches.same .time (by decide)) (before.touches.same .tiles (by decide))
      (before.touches.same .cal (by decide)) before.cells (before.elem e he1) p b
  have hsrcu : u.flag (R.TILE_FD_BCTL_SRC (tileOf e) (e % 4096 / 256)) = false := by
    rw [htile, before.touches.flag (bctl_not_loadCnts n _) (bctl_not_evtReg n _), hsrc]
  have htouchedu : u.touchedNow e = false := by rw [State.touchedNow, before.trans]; exact ht
  have hstep : u.substep p e = (u.loadPin e (s.substepPhase p e b) 0).1 := by
    rw [State.substep, before.elem e he1, hb]
    exact (State.loopPin_loads hsrcu htouchedu _).trans (by rw [hphase])
  exact (hstep ▸ u.loadPin_pinned (htile ▸ hn) _ : u.Pinned (u.substep p e) e _).among he1 he2 before after

/-! ## The sub-step as a command -/

theorem belaySubstep_leaves (s : State) (n : Fin 20) (j : Fin 16) (hl : s.Live) (hserves : s.engineServes n = true)
    (hd : (s.tile n).drives = true) (hw : Grp.wf s.fab.elems = true) : Leaves (.belaySubstep n j) s fun t =>
      let u := s.advanceTo ((s.tile n).edge + j * s.period n / 16)
      t.t = u.t ∧
      (∀ e b, tileOf e = n.val → (s.elem e).belay = some b → 0 < b.frames → s.touchedNow e = false →
        s.flag (R.TILE_FD_BCTL_SRC n (e % 4096 / 256)) = false →
        let k := fdKey n (e % 4096 * 2)
        let ph := u.phiNow e (s.cell (posOf e)) - roundDiv (u.hmodAt e (u.now + s.period n / 32)) 65_536 + b.corr
        (t.elem e).pinPh = ph ∧
        ((s.fdch k).rangeUse = 1 → (s.fdch (k + 1)).rangeUse = 1 →
          (t.fdch k).active = (u.pinCodes e ph 0).1 ∧ (t.fdch (k + 1)).active = (u.pinCodes e ph 0).2)) ∧
      (∀ e, tileOf e = n.val → (s.elem e).belay = none → t.elem e = s.elem e) ∧ (∀ e, tileOf e ≠ n.val → t.elem e = s.elem e) ∧
      t.fab.cells = s.fab.cells ∧
      s.Touches t [.time, .fab, .drv, .recorder, .frames] [R.TILE_FD_CNT n 0, R.TILE_FD_CNT n 1, R.TILE_FD_CNT n 2] := by
  refine leaves_live _ rfl hl ?_
  rw [doBelaySubstep_eq hserves hd]
  intro u
  have hmem {e : Nat} : e ∈ s.belaying n ↔ tileOf e = n ∧ ∃ b, (s.elem e).belay = some b ∧ 0 < b.frames := State.mem_belaying hw
  have hloads : u.LoadsOnly n (s.belaying n) ((s.belaying n).foldl (State.substep (s.period n)) u) :=
    .foldl (fun t e he => t.substep_loadsOnly n.isLt (hmem.1 he).1 _) u
  refine ⟨hloads.touches.same .time (by decide), fun e b htile hb hframes htouched hsrc => ?_, fun e _ hb => ?_, fun e htile => ?_, hloads.cells, ?_⟩
  · have hpinned : u.Pinned _ e (u.substepPhase (s.period n) e b) := State.substeps_pinned n.isLt (fun x hx => (hmem.1 hx).1)
      (State.belaying_nodup hw n) (hmem.2 ⟨htile, b, hb, hframes⟩) hb htouched hsrc
    have hkey : fdKey n (e % 4096 * 2) = 2 * e := htile ▸ (fdKey_elem e).1
    rw [hkey]
    exact hpinned
  · refine hloads.elem e fun he => ?_
    obtain ⟨-, b, hsome, -⟩ := hmem.1 he
    exact Option.some_ne_none b (hsome.symm.trans hb)
  · exact hloads.elem e fun he => htile (hmem.1 he).1
  · exact (State.Touches.advanceTo s _ (by decide)).trans (hloads.touches.mono (by decide) fun _ h => h)

end Sys2Proof.Machine
end

section
/-!
PROOFS. A fault report of an element whose cell is clear (R484): the automatic source then watches the cell, and nothing is fenced.
-/
namespace Sys2Proof.Machine

/-! ## What the crevasse map reads -/

/-- Registers whose bits fence a bank transiently (R295, R309, R351). -/
def bankReg (a : Nat) : Prop := ∃ t b, b < 16 ∧ (a = R.TILE_PW_BCTL t b ∨ a = R.TILE_FD_BCTL t b ∨ a = R.TILE_MC_CTL t)

theorem bankReg_not_evtReg {a : Nat} (h : bankReg a) : ¬ evtReg a := by
  obtain ⟨t, b, hb, h⟩ := h
  simp only [R.TILE_PW_BCTL, R.TILE_FD_BCTL, R.TILE_MC_CTL, tileBase] at h
  simp only [evtReg, R.EVT_HEAD, R.EVT_FLUSHED, R.EVT_LOST, R.EVT_TILE_LOST, R.EVT_PEND]
  omega

theorem State.bankFenced_congr {s t : State} (h : ∀ a, bankReg a → t.rd a = s.rd a) (n : Nat) {b : Nat} (hb : b < 16) :
    t.bankFenced n b = s.bankFenced n b := by
  have hpw : t.rd (R.TILE_PW_BCTL n b) = s.rd (R.TILE_PW_BCTL n b) := h _ ⟨n, b, hb, .inl rfl⟩
  have hfd : t.rd (R.TILE_FD_BCTL n b) = s.rd (R.TILE_FD_BCTL n b) := h _ ⟨n, b, hb, .inr (.inl rfl)⟩
  have hmc : t.rd (R.TILE_MC_CTL n) = s.rd (R.TILE_MC_CTL n) := h _ ⟨n, b, hb, .inr (.inr rfl)⟩
  simp only [State.bankFenced, State.flag, State.get, R.TILE_PW_BCTL_ENABLE, R.TILE_PW_BCTL_SRC, R.TILE_FD_BCTL_ENABLE, R.TILE_FD_BCTL_SRC,
    R.TILE_MC_CTL_SRC, hpw, hfd, hmc]

/-- The bank of a cell entry. -/
theorem entryBank_lt (n : Nat) : n * 4 % 4096 / 256 < 16 := by omega

theorem State.crv_congr {s t : State} (hsvc : t.svc = s.svc) (h : ∀ a, bankReg a → t.rd a = s.rd a) (n : Nat) : t.crv n = s.crv n := by
  rw [State.crv, State.crv, State.bankFenced_congr h _ (entryBank_lt n), hsvc]

/-- An update that leaves the service state and the bank registers leaves the map. -/
theorem State.Touches.crv {s t : State} {ps : List Part} {rs : List Nat} (h : s.Touches t ps rs) (hp : Part.svc ∉ ps)
    (hr : ∀ a, bankReg a → a ∉ rs) (n : Nat) : t.crv n = s.crv n := by
  have hsvc : t.svc = s.svc := h.same .svc hp
  obtain ⟨-, -, hrd⟩ := h
  exact State.crv_congr hsvc (fun a ha => hrd a (hr a ha) fun c => bankReg_not_evtReg ha c.2) n

/-- A clear cell is named by no source, and its bank is not fenced (R482). -/
theorem State.crv_eq_zero {s : State} {n : Nat} (h : s.crv n = 0) :
    Tbl.getD s.svc.crvHost n 0 = 0 ∧ Tbl.getD s.svc.crvAuto n 0 = 0 ∧ s.bankFenced (tileOf (n * 4)) (n * 4 % 4096 / 256) = false := by
  unfold State.crv at h
  extract_lets m e at h
  split at h
  · omega
  · split at h
    · omega
    · rename_i hf
      exact ⟨by omega, by omega, Bool.not_eq_true _ ▸ hf⟩

/-! ## Watching a cell -/

/-- A cell entry watched by the automatic source, and the change of the map told (R483). -/
def State.watch (s : State) (n : Nat) : State := { s with svc.crvAuto := Tbl.put s.svc.crvAuto n 1 }.crvChanged

theorem State.watch_recorded (s : State) (n : Nat) : { s with svc.crvAuto := Tbl.put s.svc.crvAuto n 1 }.Recorded (s.watch n) :=
  State.ev_recorded _ _ _ (by decide)

theorem State.watch_touches (s : State) (n : Nat) : s.Touches (s.watch n) [.svc, .recorder, .frames] [] :=
  (State.Touches.with_svc s _ (by decide)).trans (.ofRecorded (s.watch_recorded n) (by decide) (by decide))

theorem State.watch_auto (s : State) (n : Nat) : Tbl.getD (s.watch n).svc.crvAuto n 0 = 1 := by
  rw [(s.watch_recorded n).svc, Tbl.getD, Tbl.look_put_self, Option.getD_some]

theorem State.watch_crv {s : State} {n : Nat} (h : s.crv n = 0) : (s.watch n).crv n = 1 := by
  obtain ⟨hhost, -, hbank⟩ := State.crv_eq_zero h
  have hrd (a : Nat) (ha : bankReg a) : (s.watch n).rd a = s.rd a := (s.watch_recorded n).rd a (bankReg_not_evtReg ha)
  have hsame : (s.watch n).svc.crvHost = s.svc.crvHost := by rw [(s.watch_recorded n).svc]
  rw [State.crv, State.bankFenced_congr hrd _ (entryBank_lt n), hbank, hsame, hhost, State.watch_auto]
  rfl

/-- A report on a clear cell makes it watched, and failed repairs are retried; a watched cell fences nothing (R110, R483, R484). -/
theorem State.autoReports_clear {s : State} {n : Nat} (h : s.crv n = 0) : s.autoReports [n] = (s.watch n).retrySoon := by
  obtain ⟨-, hauto, -⟩ := State.crv_eq_zero h
  have hput : Tbl.put s.svc.crvAuto n 1 ≠ s.svc.crvAuto := fun hsame => by
    have hone : Tbl.getD s.svc.crvAuto n 0 = 1 := by rw [← hsame, Tbl.getD, Tbl.look_put_self, Option.getD_some]
    omega
  have hnone : ([n].filter fun m => decide (s.crv m < 2) && decide (2 ≤ (s.watch n).crv m)) = [] := by
    simp [State.watch_crv h]
  rw [State.autoReports, List.foldl_cons, List.foldl_nil, if_pos hauto, if_neg hput, State.crvChange]
  exact congrArg (List.foldl _ _) hnone

/-! ## A counted report -/

/-- A fault of an element counted, raised and reported (R192, R240). -/
def State.reportFault (s : State) (cnt : Fld) (src e code : Nat) : State := ((s.count cnt).evElem src e code).reportElem e

section
variable {s : State} {cnt : Fld} {src e : Nat} (code : Nat) (hsrc : src < 1536) (hcnt : ¬ bankReg cnt.addr) (h : s.crv (e / 4) = 0)
include hsrc hcnt h

theorem State.reportFault_eq : ∃ u, (s.count cnt).Recorded u ∧ s.reportFault cnt src e code = (u.watch (e / 4)).retrySoon := by
  have hrec : (s.count cnt).Recorded (((s.count cnt).evElem src e code).evElem Ev.faultReport e) :=
    (State.evElem_recorded _ src e code hsrc).trans (State.evElem_recorded _ _ e 0 (by decide))
  have htold : s.Touches (((s.count cnt).evElem src e code).evElem Ev.faultReport e) Part.occ [cnt.addr] :=
    (State.Touches.count s cnt (by simp)).trans (.ofRecorded hrec (by decide) (by decide))
  have hbank (a : Nat) (ha : bankReg a) : a ∉ [cnt.addr] := fun c => hcnt (List.mem_singleton.1 c ▸ ha)
  exact ⟨_, hrec, State.autoReports_clear ((htold.crv (by decide) hbank _).trans h)⟩

theorem State.reportFault_touches : s.Touches (s.reportFault cnt src e code) [.cir, .svc, .recorder, .frames] [cnt.addr] := by
  obtain ⟨u, hrec, hu⟩ := State.reportFault_eq code hsrc hcnt h
  rw [hu]
  exact (((State.Touches.count s cnt (by simp)).trans (.ofRecorded hrec (by decide) (by decide))).trans
    ((u.watch_touches _).mono (by decide) (by simp))).trans ((State.retrySoon_touches _).mono (by decide) (by simp))

theorem State.reportFault_auto : Tbl.getD (s.reportFault cnt src e code).svc.crvAuto (e / 4) 0 = 1 := by
  obtain ⟨u, -, hu⟩ := State.reportFault_eq code hsrc hcnt h
  have hsvc : (u.watch (e / 4)).retrySoon.svc = (u.watch (e / 4)).svc := (State.retrySoon_touches _).same .svc (by decide)
  rw [hu, hsvc, State.watch_auto]

theorem State.reportFault_ctx (i : Nat) : (s.reportFault cnt src e code).ctx i = s.ctx i := by
  obtain ⟨u, hrec, hu⟩ := State.reportFault_eq code hsrc hcnt h
  have hcir : (u.watch (e / 4)).cir = s.cir := ((u.watch_touches _).same .cir (by decide)).trans hrec.cir
  rw [hu, State.retrySoon_ctx, State.ctx, hcir, State.ctx]

theorem State.reportFault_get (hok : cnt.ok) (hevt : ¬ evtReg cnt.addr) :
    (s.reportFault cnt src e code).get cnt = satInc (cnt.hi + 1 - cnt.lo) (s.get cnt) := by
  obtain ⟨u, hrec, hu⟩ := State.reportFault_eq code hsrc hcnt h
  rw [hu, (State.retrySoon_touches _).get (by simp) hevt, (u.watch_touches _).get (by simp) hevt, hrec.get cnt hevt, State.get_count_self s cnt hok]

end

end Sys2Proof.Machine
end

section
/-!
PROOFS. Belay overruns and heater clamps that last (R192, R240): each is counted once and reported.
-/
namespace Sys2Proof.Machine

/-! ## Overruns -/

theorem State.elem_congr {s t : State} (h : t.fab = s.fab) (e : Nat) : t.elem e = s.elem e := by rw [State.elem, State.elem, h]

/-- The REASON of every lit circuit whose path holds an element tells the overrun of its belay (R192). -/
def State.markOverrun (s : State) (e : Nat) : State :=
  s.cir.ctxs.foldl (fun s c => if c.2.lit && (pathAll c.2.hops).contains e then
    s.setCtx c.1 { s.ctx c.1 with reason := Code.EPO_BELAY_OVERRUN } else s) s

theorem State.markOverrun_touches (s : State) (e : Nat) : s.Touches (s.markOverrun e) [.cir] [] :=
  .foldl (fun u c _ => by
    split
    · exact .with_cir u _ (by decide)
    · exact .refl u _ _) s

theorem State.markOverrun_state (s : State) (e i : Nat) : ((s.markOverrun e).ctx i).state = (s.ctx i).state := by
  refine List.foldlRecOn _ _ (motive := fun t : State => (t.ctx i).state = (s.ctx i).state) rfl fun t ht c _ => ?_
  split
  · by_cases hi : i = c.1
    · rw [← ht, hi, State.ctx_setCtx_self]
    · rw [State.ctx_setCtx_other _ _ hi, ht]
  · exact ht

theorem State.markOverrun_reason {s : State} {e i : Nat} (hlit : (s.ctx i).lit = true) (he : e ∈ pathAll (s.ctx i).hops) :
    ((s.markOverrun e).ctx i).reason = Code.EPO_BELAY_OVERRUN := by
  have hlisted : (i, s.ctx i) ∈ s.cir.ctxs := by
    cases hc : Tbl.look s.cir.ctxs i with
    | none => simp [State.ctx, Tbl.getD, hc, Ctx.idle, Ctx.lit] at hlit
    | some c => exact Tbl.mem_of_look (by rw [State.ctx, Tbl.getD, hc, Option.getD_some])
  refine foldl_establishes
    (P := fun (c : Nat × Ctx) (t : State) => c.2.lit = true → e ∈ pathAll c.2.hops → (t.ctx c.1).reason = Code.EPO_BELAY_OVERRUN)
    (fun t c hl hc => ?_) (fun t c d hd hl hc => ?_) hlisted s hlit he
  · rw [if_pos (by simp [hl, hc]), State.ctx_setCtx_self]
  · split
    · by_cases hi : d.1 = c.1
      · rw [hi, State.ctx_setCtx_self]
      · rw [State.ctx_setCtx_other _ _ hi]
        exact hd hl hc
    · exact hd hl hc

/-- An element's belay marked as overrun, and its circuits told. -/
def State.noteOverrun (s : State) (e : Nat) (b : Belay) : State :=
  (s.setElem e { s.elem e with belay := some { b with overrun := true } }).markOverrun e

theorem State.noteOverrun_touches (s : State) (e : Nat) (b : Belay) : s.Touches (s.noteOverrun e b) [.fab, .cir] [] :=
  (State.Touches.with_fab s _ (by decide)).trans ((State.markOverrun_touches _ e).mono (by decide) (by simp))

theorem State.noteOverrun_elem (s : State) (e : Nat) (b : Belay) :
    (s.noteOverrun e b).elem e = { s.elem e with belay := some { b with overrun := true } } := by
  rw [State.noteOverrun, State.elem_congr ((State.markOverrun_touches _ e).same .fab (by decide)), State.elem_setElem_self]

theorem doBelayOverrun_eq {s : State} {e : Fin 81920} {b : Belay} (hb : (s.elem e).belay = some b) (ho : b.overrun = false)
    (hlim : b.limit < b.frames) : doBelayOverrun e s =
      (s.noteOverrun e b).reportFault (whole (R.EPO_XCNT 3)) Ev.belayOverrun e Code.EPO_BELAY_OVERRUN := by
  simp only [doBelayOverrun, hb]
  exact if_pos ⟨ho, hlim⟩

theorem xcnt_not_bankReg : ¬ bankReg (whole (R.EPO_XCNT 3)).addr := by
  rintro ⟨t, b, -, h⟩
  simp only [whole, R.EPO_XCNT, R.TILE_PW_BCTL, R.TILE_FD_BCTL, R.TILE_MC_CTL, tileBase] at h
  omega

theorem belayOverrun_leaves (s : State) (e : Fin 81920) (b : Belay) (hl : s.Live) (hb : (s.elem e).belay = some b) (ho : b.overrun = false)
    (hlim : b.limit < b.frames) (hclear : s.crv (e / 4) = 0) : Leaves (.belayOverrun e) s fun t =>
      t.elem e = { s.elem e with belay := some { b with overrun := true } } ∧
      t.get (whole (R.EPO_XCNT 3)) = satInc 32 (s.get (whole (R.EPO_XCNT 3))) ∧
      (∀ i, (s.ctx i).lit = true → e.val ∈ pathAll (s.ctx i).hops → (t.ctx i).reason = Code.EPO_BELAY_OVERRUN ∧ (t.ctx i).state = (s.ctx i).state) ∧
      Tbl.getD t.svc.crvAuto (e / 4) 0 = 1 ∧ s.Touches t [.fab, .cir, .svc, .recorder, .frames] [R.EPO_XCNT 3] := by
  refine leaves_live _ rfl hl ?_
  rw [doBelayOverrun_eq hb ho hlim]
  have hnote := s.noteOverrun_touches e b
  have hcrv : (s.noteOverrun e b).crv (e / 4) = 0 := (hnote.crv (by decide) (by simp) _).trans hclear
  have hreport := State.reportFault_touches (src := Ev.belayOverrun) Code.EPO_BELAY_OVERRUN (by decide) xcnt_not_bankReg hcrv
  refine ⟨?_, ?_, fun i hlit he => ?_, ?_, (hnote.mono (by decide) (by simp)).trans (hreport.mono (by decide) (by simp [whole]))⟩
  · rw [State.elem_congr (hreport.same .fab (by decide)), State.noteOverrun_elem]
  · rw [State.reportFault_get _ (by decide) xcnt_not_bankReg hcrv (whole_ok _) (by decide), hnote.get (by simp) (by decide)]
    rfl
  · rw [State.reportFault_ctx _ (by decide) xcnt_not_bankReg hcrv]
    exact ⟨State.markOverrun_reason hlit he, State.markOverrun_state _ e i⟩
  · exact State.reportFault_auto _ (by decide) xcnt_not_bankReg hcrv

/-! ## Clamps -/

theorem doHeaterClampReport_eq {s : State} {e : Fin 81920} (hc : (s.elem e).clamp = true) (ht : (s.elem e).clampTold = false)
    (hrun : bits (s.tile (tileOf e)).use.clamp 31 16 ≤ (s.elem e).clampRun) : doHeaterClampReport e s =
      (s.setElem e { s.elem e with clampTold := true }).reportFault (whole (R.TILE_LP_CNT (tileOf e) 3)) (Ev.heaterClamp (tileOf e)) e 0 :=
  if_pos ⟨hc, ht, hrun⟩

theorem lpCnt_not_bankReg (n k : Nat) (hk : k < 8) : ¬ bankReg (whole (R.TILE_LP_CNT n k)).addr := by
  rintro ⟨t, b, hb, h⟩
  simp only [whole, R.TILE_LP_CNT, R.TILE_PW_BCTL, R.TILE_FD_BCTL, R.TILE_MC_CTL, tileBase] at h
  omega

theorem lpCnt_not_evtReg (n k : Nat) : ¬ evtReg (whole (R.TILE_LP_CNT n k)).addr := by
  simp only [evtReg, whole, R.TILE_LP_CNT, tileBase, R.EVT_HEAD, R.EVT_FLUSHED, R.EVT_LOST, R.EVT_TILE_LOST, R.EVT_PEND]
  omega

theorem heaterClampReport_leaves (s : State) (e : Fin 81920) (hl : s.Live) (hc : (s.elem e).clamp = true) (ht : (s.elem e).clampTold = false)
    (hrun : bits (s.tile (tileOf e)).use.clamp 31 16 ≤ (s.elem e).clampRun) (hclear : s.crv (e / 4) = 0) :
    Leaves (.heaterClampReport e) s fun t =>
      let cnt := whole (R.TILE_LP_CNT (tileOf e) 3)
      t.elem e = { s.elem e with clampTold := true } ∧ t.get cnt = satInc 32 (s.get cnt) ∧ Tbl.getD t.svc.crvAuto (e / 4) 0 = 1 ∧
      s.Touches t [.fab, .cir, .svc, .recorder, .frames] [R.TILE_LP_CNT (tileOf e) 3] := by
  refine leaves_live _ rfl hl ?_
  rw [doHeaterClampReport_eq hc ht hrun]
  intro cnt
  have hsrc : Ev.heaterClamp (tileOf e) < 1536 := by
    have := e.isLt
    unfold Ev.heaterClamp tileOf
    omega
  have hcnt : ¬ bankReg cnt.addr := lpCnt_not_bankReg _ 3 (by decide)
  have hreport := State.reportFault_touches (s := s.setElem e { s.elem e with clampTold := true }) 0 hsrc hcnt hclear
  refine ⟨?_, ?_, State.reportFault_auto _ hsrc hcnt hclear, ?_⟩
  · rw [State.elem_congr (hreport.same .fab (by decide)), State.elem_setElem_self]
  · exact State.reportFault_get _ hsrc hcnt hclear (whole_ok _) (lpCnt_not_evtReg _ _)
  · exact (State.Touches.with_fab s _ (by decide)).trans (hreport.mono (by decide) fun _ h => h)

end Sys2Proof.Machine
end

section
/-!
PROOFS. The end of the tenth overrunning frame in a row (R251, R252).
-/
namespace Sys2Proof.Machine

/-! ## Elements held -/

theorem State.hold_touches (s : State) (es : List Nat) : s.Touches (s.hold es) [.fab] [] :=
  .foldl (fun u _ _ => .with_fab u _ (by decide)) s

theorem State.hold_stale (s : State) {es : List Nat} {e : Nat} (h : e ∈ es) : ((s.hold es).elem e).stale = true := by
  refine foldl_establishes (P := fun (x : Nat) (t : State) => (t.elem x).stale = true)
    (fun t x => by rw [State.elem_setElem_self]) (fun t x y hy => ?_) h s
  by_cases hxy : y = x
  · rw [hxy, State.elem_setElem_self]
  · rw [State.elem_setElem_other _ _ hxy, hy]

theorem State.hold_other (s : State) {es : List Nat} {e : Nat} (h : e ∉ es) : (s.hold es).elem e = s.elem e :=
  List.foldlRecOn es _ (motive := fun t : State => t.elem e = s.elem e) rfl fun t ht x hx =>
    (t.elem_setElem_other _ (show e ≠ x from fun c => h (c ▸ hx))).trans ht

/-! ## The parts of a frame's end -/

/-- The elements of a frame whose outputs were not written held, and the list of them cleared. -/
def State.holdMissed (s : State) (n : Nat) (missed : List Nat) : State := (s.hold missed).setTile n { s.tile n with missed := [] }

/-- The tenth overrunning frame in a row counted and told (R251, R252). -/
def State.tenthOverrun (s : State) (n k : Nat) : State :=
  (((s.count (whole (R.TILE_LP_CNT n 0))).countN (whole (R.TILE_LP_CNT n 1)) k).put (R.TILE_LP_STS_OVR_RUN n) 0).ev (Ev.frameBudget n)
    Code.CFG_FRAME_BUDGET

/-- A period lengthened where STRETCH_EN allows it, up to 8 (R252). -/
def State.stretch (s : State) (n : Nat) : State :=
  if s.flag (R.TILE_LP_CTL_STRETCH_EN n) && decide (s.get (R.TILE_LP_PERIOD_P_USE n) < 8) then
    (s.put (R.TILE_LP_PERIOD_P_USE n) (s.get (R.TILE_LP_PERIOD_P_USE n) + 1)).count (whole (R.TILE_LP_CNT n 2))
  else s

theorem State.endFrame_tenth {s : State} {n : Nat} {missed : List Nat} (hm : missed ≠ []) (hrun : s.get (R.TILE_LP_STS_OVR_RUN n) = 9) :
    s.endFrame n missed = ((s.holdMissed n missed).tenthOverrun n missed.length).stretch n := by
  have hread : (s.holdMissed n missed).get (R.TILE_LP_STS_OVR_RUN n) = 9 := by
    rw [← hrun]
    exact (s.hold_touches missed).get (f := R.TILE_LP_STS_OVR_RUN n) (by simp) (lpSts_not_evtReg n)
  unfold State.endFrame
  extract_lets _ u run v w x p
  have htenth : run = 10 := congrArg (· + 1) hread
  have hfirst : w = v := if_neg (by omega)
  have htold : x = u.tenthOverrun n missed.length := congrArg (fun y : State => (y.put _ 0).ev _ _) hfirst
  rw [if_neg (by simpa using hm), if_neg (by omega)]
  exact congrArg (State.stretch · n) htold

/-! ## The registers of a frame's end -/

/-- The registers that the end of an overrunning frame may change. -/
def frameRegs (n : Nat) : List Nat := [R.TILE_LP_STS n, R.TILE_LP_PERIOD n, R.TILE_LP_CNT n 0, R.TILE_LP_CNT n 1, R.TILE_LP_CNT n 2]

/-- Those of its count and of its run. -/
def overrunRegs (n : Nat) : List Nat := [R.TILE_LP_CNT n 0, R.TILE_LP_CNT n 1, R.TILE_LP_STS n]

theorem lpReg_not_evtReg {n a : Nat} (h : a = R.TILE_LP_PERIOD n ∨ a = R.TILE_LP_CTL n) : ¬ evtReg a := by
  simp only [R.TILE_LP_PERIOD, R.TILE_LP_CTL, tileBase] at h
  simp only [evtReg, R.EVT_HEAD, R.EVT_FLUSHED, R.EVT_LOST, R.EVT_TILE_LOST, R.EVT_PEND]
  omega

theorem lpReg_not_overrunReg {n a : Nat} (h : a = R.TILE_LP_PERIOD n ∨ a = R.TILE_LP_CTL n) : a ∉ overrunRegs n := by
  simp only [R.TILE_LP_PERIOD, R.TILE_LP_CTL] at h
  simp only [overrunRegs, R.TILE_LP_STS, R.TILE_LP_CNT, List.mem_cons, List.not_mem_nil, or_false]
  omega

theorem sts_not_stretchReg (n : Nat) : R.TILE_LP_STS n ∉ [R.TILE_LP_PERIOD n, R.TILE_LP_CNT n 2] := by
  simp only [R.TILE_LP_STS, R.TILE_LP_PERIOD, R.TILE_LP_CNT, List.mem_cons, List.not_mem_nil, or_false]
  omega

theorem frameBudget_lt {n : Nat} (h : n < 20) : Ev.frameBudget n < 1536 := by
  unfold Ev.frameBudget
  omega

theorem ovrRun_ok (n : Nat) : (R.TILE_LP_STS_OVR_RUN n).ok := ⟨by simp [R.TILE_LP_STS_OVR_RUN], by simp [R.TILE_LP_STS_OVR_RUN]⟩

theorem State.holdMissed_touches (s : State) (n : Nat) (missed : List Nat) : s.Touches (s.holdMissed n missed) [.fab, .tiles] [] :=
  ((s.hold_touches missed).mono (by decide) (by simp)).trans (.with_tiles _ _ (by decide))

section
variable (s : State) {n : Nat} (hn : n < 20) (k : Nat)
include hn

theorem State.tenthOverrun_touches : s.Touches (s.tenthOverrun n k) [.recorder, .frames] (overrunRegs n) :=
  (((State.Touches.count s _ (by simp [overrunRegs, whole])).trans (.put _ _ _ (by simp [overrunRegs, whole]))).trans
    (.put _ _ _ (by simp [overrunRegs, R.TILE_LP_STS_OVR_RUN]))).trans (.ev _ _ _ (frameBudget_lt hn) (by decide) (by decide))

theorem State.tenthOverrun_run : (s.tenthOverrun n k).get (R.TILE_LP_STS_OVR_RUN n) = 0 := by
  rw [State.tenthOverrun, State.ev_get _ _ _ (frameBudget_lt hn) (lpSts_not_evtReg _), State.get_put_self _ _ _ (ovrRun_ok n)]
  rfl

end

theorem State.stretch_touches (s : State) (n : Nat) : s.Touches (s.stretch n) [] [R.TILE_LP_PERIOD n, R.TILE_LP_CNT n 2] := by
  unfold State.stretch
  split
  · exact (State.Touches.put s _ _ (by simp [R.TILE_LP_PERIOD_P_USE])).trans (.count _ _ (by simp [whole]))
  · exact .refl s _ _

/-- The period in force after a stretch: one more, up to 8, where STRETCH_EN is set (R252). -/
theorem State.stretch_period (s : State) (n : Nat) : (s.stretch n).get (R.TILE_LP_PERIOD_P_USE n) =
    if s.flag (R.TILE_LP_CTL_STRETCH_EN n) = true ∧ s.get (R.TILE_LP_PERIOD_P_USE n) < 8 then s.get (R.TILE_LP_PERIOD_P_USE n) + 1
    else s.get (R.TILE_LP_PERIOD_P_USE n) := by
  have hok : (R.TILE_LP_PERIOD_P_USE n).ok := ⟨by simp [R.TILE_LP_PERIOD_P_USE], by simp [R.TILE_LP_PERIOD_P_USE]⟩
  have hapart : (whole (R.TILE_LP_CNT n 2)).apart (R.TILE_LP_PERIOD_P_USE n) := .inl (by
    simp only [whole, R.TILE_LP_PERIOD_P_USE, R.TILE_LP_PERIOD, R.TILE_LP_CNT]
    omega)
  unfold State.stretch
  simp only [Bool.and_eq_true, decide_eq_true_eq]
  split
  · rename_i h
    rw [State.get_count_apart _ _ _ (whole_ok _) hok hapart, State.get_put_fits _ _ _ hok]
    exact (by omega : s.get (R.TILE_LP_PERIOD_P_USE n) + 1 < 16)
  · rfl

/-! ## The last frame before an edge -/

/-- A frame that ends at an instant. -/
def State.noteEnd (s : State) (n at_ : Nat) : State := s.setTile n { s.tile n with endAt := some at_ }

/-- The frame's own end, before its instant is noted. -/
def State.lastFrame (s : State) (n : Nat) (missed : List Nat) : State := ((s.holdMissed n missed).tenthOverrun n missed.length).stretch n

theorem doFrameStretch_eq {s : State} {n : Fin 20} (hm : (s.tile n).missed ≠ []) (hrun : s.get (R.TILE_LP_STS_OVR_RUN n) = 9)
    (he : (s.tile n).endAt = none) : doFrameStretch n s =
      ((s.advanceTo (s.nextEdge n)).lastFrame n (s.tile n).missed).noteEnd n (s.advanceTo (s.nextEdge n)).now := by
  have hcond : (s.tile n).missed.isEmpty = false ∧ s.get (R.TILE_LP_STS_OVR_RUN n) = 9 ∧ (s.tile n).endAt = none := ⟨by simpa using hm, hrun, he⟩
  rw [State.lastFrame, ← State.endFrame_tenth (s := s.advanceTo (s.nextEdge n)) hm hrun]
  exact if_pos hcond

section
variable (s : State) {n : Nat} (hn : n < 20) (missed : List Nat)
include hn

theorem State.lastFrame_after_hold : (s.holdMissed n missed).Touches (s.lastFrame n missed) [.recorder, .frames] (frameRegs n) :=
  ((State.tenthOverrun_touches _ hn _).mono (by decide) (by simp [overrunRegs, frameRegs])).trans
    ((State.stretch_touches _ n).mono (by decide) (by simp [frameRegs]))

theorem State.lastFrame_touches : s.Touches (s.lastFrame n missed) [.fab, .tiles, .recorder, .frames] (frameRegs n) :=
  ((s.holdMissed_touches n missed).mono (by decide) (by simp)).trans ((s.lastFrame_after_hold hn missed).mono (by decide) fun _ h => h)

theorem State.lastFrame_tile : (s.lastFrame n missed).tile n = { s.tile n with missed := [] } := by
  rw [State.tile_congr ((s.lastFrame_after_hold hn missed).same .tiles (by decide)), State.holdMissed, State.tile_setTile_self]

theorem State.lastFrame_elem (e : Nat) : (s.lastFrame n missed).elem e = (s.hold missed).elem e :=
  State.elem_congr (s := s.holdMissed n missed) ((s.lastFrame_after_hold hn missed).same .fab (by decide)) e

theorem State.lastFrame_run : (s.lastFrame n missed).get (R.TILE_LP_STS_OVR_RUN n) = 0 := by
  rw [State.lastFrame, (State.stretch_touches _ n).get (sts_not_stretchReg n) (lpSts_not_evtReg _), State.tenthOverrun_run _ hn]

theorem State.lastFrame_period : (s.lastFrame n missed).get (R.TILE_LP_PERIOD_P_USE n) =
    if s.flag (R.TILE_LP_CTL_STRETCH_EN n) = true ∧ s.get (R.TILE_LP_PERIOD_P_USE n) < 8 then s.get (R.TILE_LP_PERIOD_P_USE n) + 1
    else s.get (R.TILE_LP_PERIOD_P_USE n) := by
  have hover : s.Touches ((s.holdMissed n missed).tenthOverrun n missed.length) [.fab, .tiles, .recorder, .frames] (overrunRegs n) :=
    ((s.holdMissed_touches n missed).mono (by decide) (by simp)).trans
      ((State.tenthOverrun_touches _ hn _).mono (by decide) fun _ h => h)
  rw [State.lastFrame, State.stretch_period, hover.flag (lpReg_not_overrunReg (.inr rfl)) (lpReg_not_evtReg (.inr rfl)),
    hover.get (lpReg_not_overrunReg (.inl rfl)) (lpReg_not_evtReg (.inl rfl))]

end

theorem frameStretch_leaves (s : State) (n : Fin 20) (hl : s.Live) (hm : (s.tile n).missed ≠ []) (hrun : s.get (R.TILE_LP_STS_OVR_RUN n) = 9)
    (he : (s.tile n).endAt = none) : Leaves (.frameStretch n) s fun t =>
      let p := s.get (R.TILE_LP_PERIOD_P_USE n)
      t.t = max s.t (s.nextEdge n * 2 ^ 32) ∧ t.get (R.TILE_LP_STS_OVR_RUN n) = 0 ∧ (t.tile n).missed = [] ∧ (t.tile n).endAt = some t.now ∧
      (∀ e, e ∈ (s.tile n).missed → (t.elem e).stale = true) ∧ (∀ e, e ∉ (s.tile n).missed → t.elem e = s.elem e) ∧
      t.get (R.TILE_LP_PERIOD_P_USE n) = (if s.flag (R.TILE_LP_CTL_STRETCH_EN n) = true ∧ p < 8 then p + 1 else p) ∧
      s.Touches t [.time, .fab, .tiles, .recorder, .frames]
        [R.TILE_LP_STS n, R.TILE_LP_PERIOD n, R.TILE_LP_CNT n 0, R.TILE_LP_CNT n 1, R.TILE_LP_CNT n 2] := by
  refine leaves_live _ rfl hl ?_
  rw [doFrameStretch_eq hm hrun he]
  have hadv : s.Touches (s.advanceTo (s.nextEdge n)) [.time] [] := .advanceTo s _ (by decide)
  have hlast := (s.advanceTo (s.nextEdge n)).lastFrame_touches n.isLt (s.tile n).missed
  have htime : ((s.advanceTo (s.nextEdge n)).lastFrame n (s.tile n).missed).t = (s.advanceTo (s.nextEdge n)).t := hlast.same .time (by decide)
  refine ⟨htime, State.lastFrame_run _ n.isLt _, ?_, ?_, fun e h => ?_, fun e h => ?_, State.lastFrame_period _ n.isLt _, ?_⟩
  · rw [State.noteEnd, State.tile_setTile_self, State.lastFrame_tile _ n.isLt]
  · rw [State.noteEnd, State.tile_setTile_self]
    exact congrArg (fun x => some (x / 2 ^ 32)) htime.symm
  · exact (congrArg Elem.stale (State.lastFrame_elem _ n.isLt _ e)).trans (State.hold_stale _ h)
  · exact (State.lastFrame_elem _ n.isLt _ e).trans (State.hold_other _ h)
  · exact ((hadv.mono (by decide) (by simp)).trans (hlast.mono (by decide) fun _ h => h)).trans (.with_tiles _ _ (by decide))

end Sys2Proof.Machine
end

section
/-!
PROOFS. The streams of a tile into the hub's mirror (R255, R256), and O34.
-/
namespace Sys2Proof.Machine

/-! ## Mirror streams -/

/-- What the hub keeps of a tile from a good stream (R255). -/
def State.takeStream (s : State) (n : Nat) : State :=
  (s.setTile n { s.tile n with mirror := s.elemsOf n, mirrorK := s.get (whole (R.TILE_LP_FN n)) + 1, streamFails := 0 }).put
    (R.TILE_LP_STS_MIRROR_OK n) 1

/-- A stream that failed, counted. -/
def State.loseStream (s : State) (n : Nat) : State :=
  (s.setTile n { s.tile n with mirrorK := s.get (whole (R.TILE_LP_FN n)) + 1, streamFails := (s.tile n).streamFails + 1 }).put
    (R.TILE_LP_STS_MIRROR_OK n) 0

/-- The third failure in a row told (R256). -/
def State.tellStreams (s : State) (n fails : Nat) : State := if fails = 3 then s.ev (Ev.mirrorFailure n) else s

theorem State.tellStreams_recorded (s : State) {n : Nat} (hn : n < 20) (fails : Nat) : s.Recorded (s.tellStreams n fails) := by
  have hsrc : Ev.mirrorFailure n < 1536 := by
    unfold Ev.mirrorFailure
    omega
  unfold State.tellStreams
  split
  · exact State.ev_recorded s _ _ hsrc
  · exact .refl s

theorem State.takeStream_touches (s : State) (n : Nat) : s.Touches (s.takeStream n) [.tiles] [R.TILE_LP_STS n] :=
  (State.Touches.with_tiles s _ (by decide)).trans (.put _ _ _ (by simp [R.TILE_LP_STS_MIRROR_OK]))

theorem State.loseStream_touches (s : State) (n : Nat) : s.Touches (s.loseStream n) [.tiles] [R.TILE_LP_STS n] :=
  (State.Touches.with_tiles s _ (by decide)).trans (.put _ _ _ (by simp [R.TILE_LP_STS_MIRROR_OK]))

theorem State.takeStream_tile (s : State) (n : Nat) : (s.takeStream n).tile n =
    { s.tile n with mirror := s.elemsOf n, mirrorK := s.get (whole (R.TILE_LP_FN n)) + 1, streamFails := 0 } := by
  rw [State.takeStream, State.put_tile, State.tile_setTile_self]

theorem State.loseStream_tile (s : State) (n : Nat) : (s.loseStream n).tile n =
    { s.tile n with mirrorK := s.get (whole (R.TILE_LP_FN n)) + 1, streamFails := (s.tile n).streamFails + 1 } := by
  rw [State.loseStream, State.put_tile, State.tile_setTile_self]

section
variable {s : State} {n : Fin 20} (hh : s.hubIn = true) (hd : (s.tile n).drives = true) (hserves : s.engineServes n = true)
  (hk : (s.tile n).mirrorK ≠ s.get (whole (R.TILE_LP_FN n)) + 1)
include hh hd hserves hk

theorem doMirrorStreamEnd_good : doMirrorStreamEnd n true s = (s.advanceTo ((s.tile n).edge + 2_000)).takeStream n :=
  if_pos (by simp [hh, hd, hserves, hk])

theorem doMirrorStreamEnd_bad : doMirrorStreamEnd n false s =
    ((s.advanceTo ((s.tile n).edge + 2_000)).loseStream n).tellStreams n ((s.tile n).streamFails + 1) :=
  if_pos (by simp [hh, hd, hserves, hk])

end

theorem mirrorStreamEnd_leaves (s : State) (n : Fin 20) (ok : Bool) (hl : s.Live) (hh : s.hubIn = true) (hd : (s.tile n).drives = true)
    (hserves : s.engineServes n = true) (hk : (s.tile n).mirrorK ≠ s.get (whole (R.TILE_LP_FN n)) + 1) :
    Leaves (.mirrorStreamEnd n ok) s fun t =>
      t.t = max s.t (((s.tile n).edge + 2_000) * 2 ^ 32) ∧ t.flag (R.TILE_LP_STS_MIRROR_OK n) = ok ∧
      (ok = true → (t.tile n).mirror = s.elemsOf n ∧ (t.tile n).streamFails = 0) ∧
      (ok = false → (t.tile n).mirror = (s.tile n).mirror ∧ (t.tile n).streamFails = (s.tile n).streamFails + 1) ∧
      s.Touches t [.time, .tiles, .recorder, .frames] [R.TILE_LP_STS n] := by
  have hadv : s.Touches (s.advanceTo ((s.tile n).edge + 2_000)) [.time, .tiles, .recorder, .frames] [R.TILE_LP_STS n] := .advanceTo s _ (by decide)
  refine leaves_live _ rfl hl ?_
  cases ok with
  | true =>
    rw [doMirrorStreamEnd_good hh hd hserves hk]
    exact ⟨rfl, State.flag_put_one _ _ (mirrorOk_ok n) rfl, fun _ => by rw [State.takeStream_tile]; exact ⟨rfl, rfl⟩, nofun,
      hadv.trans ((State.takeStream_touches _ n).mono (by decide) fun _ h => h)⟩
  | false =>
    rw [doMirrorStreamEnd_bad hh hd hserves hk]
    have htold := ((s.advanceTo ((s.tile n).edge + 2_000)).loseStream n).tellStreams_recorded n.isLt ((s.tile n).streamFails + 1)
    refine ⟨htold.time, ?_, nofun, fun _ => ?_, ?_⟩
    · rw [htold.flag _ (lpSts_not_evtReg _)]
      exact State.flag_put_zero _ _ (mirrorOk_ok n) rfl
    · rw [State.tile_congr htold.tiles, State.loseStream_tile]
      exact ⟨rfl, rfl⟩
    · exact (hadv.trans ((State.loseStream_touches _ n).mono (by decide) fun _ h => h)).trans (.ofRecorded htold (by decide) (by decide))

/-- Settles O34, clause by clause. -/
theorem belaysOverrunsAndMirrorStreams : Obligations.BelaysOverrunsAndMirrorStreams :=
  ⟨belaySubstep_leaves, belayOverrun_leaves, heaterClampReport_leaves, frameStretch_leaves, mirrorStreamEnd_leaves⟩

end Sys2Proof.Machine
end

section
/-!
PROOFS. The records of telemetry (R226, R415): their bytes, what they show to whom, and O45.
-/
namespace Sys2Proof

/-! ## Bytes of a number -/

/-- Big-endian bytes read back as the number, as far as they hold it (R8). -/
theorem beNat_natBe (n v : Nat) : beNat (natBe n v) = v % 256 ^ n := by
  induction n generalizing v with
  | zero => rw [pow_zero, Nat.mod_one]; rfl
  | succ n ih =>
    have hstep : beNat (natBe (n + 1) v) = beNat (natBe n (v / 256)) * 256 + v % 256 := by
      simp [beNat, natBe, List.foldl_append, BitVec.toNat_ofNat]
    rw [hstep, ih, pow_succ', Nat.mod_mul]
    omega

end Sys2Proof

namespace Sys2Proof.Machine

/-- A field read past bytes that stand before it. -/
theorem u_append {a : List Byte} {m : Nat} (h : a.length = m) (b : List Byte) (o n : Nat) : u (a ++ b) (m + o) n = u b o n := by
  rw [u, u, ← h, List.drop_length_add_append]

/-- The first field reads the number written there. -/
theorem u_natBe (n v : Nat) (b : List Byte) : u (natBe n v ++ b) 0 n = v % 256 ^ n := by
  rw [u, List.drop_zero, List.take_left' (natBe_length n v), beNat_natBe]

/-- The bytes of a TEL_ELEMENT record: two of one byte, two fields of two bytes, and two bytes of zero. -/
def elementRecord (a b c d : Nat) : List Byte := natBe 1 a ++ natBe 1 b ++ natBe 2 c ++ natBe 2 d ++ [0, 0]

theorem elementRecord_fields (a b c d : Nat) : u (elementRecord a b c d) 0 1 = a % 256 ∧ u (elementRecord a b c d) 1 1 = b % 256 ∧
    u (elementRecord a b c d) 2 2 = c % 65_536 ∧ u (elementRecord a b c d) 6 2 = 0 := by
  refine ⟨?_, ?_, ?_, rfl⟩ <;> simp only [elementRecord, List.append_assoc]
  · exact u_natBe 1 a _
  · exact (u_append (natBe_length 1 a) _ 0 1).trans (u_natBe 1 b _)
  · exact (u_append (natBe_length 1 a) _ 1 2).trans ((u_append (natBe_length 1 b) _ 0 2).trans (u_natBe 2 c _))

/-- The bytes of a TEL_PORT record: a field of two bytes, one byte, and a byte of zero. -/
def portRecord (a b : Nat) : List Byte := natBe 2 a ++ natBe 1 b ++ [0]

theorem portRecord_fields (a b : Nat) : u (portRecord a b) 0 2 = a % 65_536 ∧ u (portRecord a b) 2 1 = b % 256 ∧
    u (portRecord a b) 3 1 = 0 := by
  refine ⟨?_, ?_, rfl⟩ <;> simp only [portRecord, List.append_assoc]
  · exact u_natBe 2 a _
  · exact (u_append (natBe_length 2 a) _ 0 1).trans (u_natBe 1 b _)

/-- The bytes of a TEL_STATUS reply: four of one byte, and a schedule time. -/
def statusReply (a b c d n : Nat) : List Byte := natBe 1 a ++ natBe 1 b ++ natBe 1 c ++ natBe 1 d ++ be48 n

theorem statusReply_fields (a b c d n : Nat) : u (statusReply a b c d n) 0 1 = a % 256 ∧ u (statusReply a b c d n) 1 1 = b % 256 ∧
    u (statusReply a b c d n) 2 1 = c % 256 ∧ u (statusReply a b c d n) 3 1 = d % 256 ∧ u (statusReply a b c d n) 4 8 = n % 2 ^ 48 := by
  have htime : u (be48 n) 0 8 = n % 2 ^ 48 := by
    rw [← List.append_nil (be48 n), be48, u_natBe, sched, Nat.mod_mod_of_dvd' (by norm_num)]
  have hlen (v : Nat) := natBe_length 1 v
  refine ⟨?_, ?_, ?_, ?_, ?_⟩ <;> simp only [statusReply, List.append_assoc]
  · exact u_natBe 1 a _
  · exact (u_append (hlen a) _ 0 1).trans (u_natBe 1 b _)
  · exact (u_append (hlen a) _ 1 1).trans ((u_append (hlen b) _ 0 1).trans (u_natBe 1 c _))
  · exact (u_append (hlen a) _ 2 1).trans ((u_append (hlen b) _ 1 1).trans ((u_append (hlen c) _ 0 1).trans (u_natBe 1 d _)))
  · exact (u_append (hlen a) _ 3 8).trans ((u_append (hlen b) _ 2 8).trans ((u_append (hlen c) _ 1 8).trans
      ((u_append (hlen d) _ 0 8).trans htime)))

/-! ## What an element shows (R226, R415) -/

theorem State.status_le (s : State) (e : Nat) : s.status e ≤ 6 := by
  unfold State.status
  dsimp only
  split_ifs <;> decide

/-- STATUS 1 tells of a speculative position, and the hidden status has none. -/
theorem State.statusHidden_ne_one (s : State) (e : Nat) : s.statusHidden e ≠ 1 := by
  unfold State.statusHidden State.status
  rw [State.elem_setElem_self]
  simp only [Option.isSome_none, Bool.false_eq_true, if_false]
  split_ifs <;> decide

/-- A position that a circuit is the source of is shown to that circuit's tenant (R226). -/
theorem State.provSeen_circuit {s : State} {e tenant i : Nat} {v : Prov} (hv : (s.elem e).prov = some v) (hs : v.source = .circuit i)
    (h0 : tenant ≠ 0) : s.provSeen e tenant = true ↔ (s.ctx i).tenant = tenant := by
  simp [State.provSeen, hv, hs, h0]

theorem State.elemVisible_iff (s : State) (e tenant : Nat) : s.elemVisible e tenant = true ↔
    tenant = 0 ∨ ∃ c, c ∈ s.cir.ctxs ∧ c.2.state ≠ Cs.idle ∧ c.2.tenant = tenant ∧ e ∈ pathAll c.2.hops := by
  simp [State.elemVisible, and_assoc]

/-- The flags of an element's record. -/
def State.elemFlags (s : State) (e : Nat) : Nat :=
  b2n (s.elem e).home * 128 + b2n (s.cell (posOf e)) * 64 + b2n (s.elem e).lowlight * 32 + b2n (s.elem e).clamp * 16 + b2n (s.elem e).trimmed * 8

theorem b2n_le_one (b : Bool) : b2n b ≤ 1 := by cases b <;> decide

theorem State.elemFlags_lt (s : State) (e : Nat) : s.elemFlags e < 256 := by
  have h1 := b2n_le_one (s.elem e).home
  have h2 := b2n_le_one (s.cell (posOf e))
  have h3 := b2n_le_one (s.elem e).lowlight
  have h4 := b2n_le_one (s.elem e).clamp
  have h5 := b2n_le_one (s.elem e).trimmed
  unfold State.elemFlags
  omega

theorem State.telElement_hidden {s : State} {tenant e : Nat} (h : s.elemVisible e tenant = false) :
    s.telElement tenant e = 0xF :: List.replicate 7 0 := if_pos h

theorem State.telElement_shown {s : State} {tenant e : Nat} (h : s.elemVisible e tenant = true) : s.telElement tenant e =
    elementRecord (if s.provSeen e tenant then s.status e else s.statusHidden e) (s.elemFlags e)
      (if (s.elem e).prov.isSome then 0 else (s.elem e).wLast) (s.pinSeen e (s.provSeen e tenant) / 4) :=
  if_neg (by simp [h])

theorem State.telElement_length (s : State) (tenant e : Nat) : (s.telElement tenant e).length = 8 := by
  cases h : s.elemVisible e tenant with
  | false => rw [State.telElement_hidden h]; rfl
  | true => rw [State.telElement_shown h]; rfl

theorem State.telElement_fields {s : State} {tenant e : Nat} (h : s.elemVisible e tenant = true) :
    u (s.telElement tenant e) 0 1 = (if s.provSeen e tenant then s.status e else s.statusHidden e) ∧
    u (s.telElement tenant e) 1 1 = s.elemFlags e ∧
    u (s.telElement tenant e) 2 2 = (if (s.elem e).prov.isSome then 0 else (s.elem e).wLast % 2 ^ 16) ∧ u (s.telElement tenant e) 6 2 = 0 := by
  rw [State.telElement_shown h]
  obtain ⟨hstatus, hflags, hlast, hzero⟩ := elementRecord_fields (if s.provSeen e tenant then s.status e else s.statusHidden e)
    (s.elemFlags e) (if (s.elem e).prov.isSome then 0 else (s.elem e).wLast) (s.pinSeen e (s.provSeen e tenant) / 4)
  have hle : (if s.provSeen e tenant then s.status e else s.statusHidden e) < 256 := by
    split
    · exact Nat.lt_of_le_of_lt (s.status_le e) (by decide)
    · exact Nat.lt_of_le_of_lt (State.status_le _ e) (by decide)
  refine ⟨hstatus.trans (Nat.mod_eq_of_lt hle), hflags.trans (Nat.mod_eq_of_lt (s.elemFlags_lt e)), hlast.trans ?_, hzero⟩
  split <;> rfl

theorem telElement_serves (s : State) (f : Frame) (hl : s.Live) : Serves (.telElement f) opTelElement f s fun w r v code params =>
    let first := u f.params 0 4
    let n := u f.params 4 2
    code = Code.DONE ∧ v = w ∧ params.length = 8 * n ∧ ∀ k, k < n →
      let e := first + k
      let x := w.elem e
      let p := (params.drop (8 * k)).take 8
      let visible : Prop := r.tenant = 0 ∨ ∃ c, c ∈ w.cir.ctxs ∧ c.2.state ≠ Cs.idle ∧ c.2.tenant = r.tenant ∧ e ∈ pathAll c.2.hops
      (¬ visible → p = 0xF :: List.replicate 7 0) ∧
      (visible → u p 0 1 = (if w.provSeen e r.tenant then w.status e else w.statusHidden e) ∧
        u p 1 1 = b2n x.home * 128 + b2n (w.cell (posOf e)) * 64 + b2n x.lowlight * 32 + b2n x.clamp * 16 + b2n x.trimmed * 8 ∧
        u p 2 2 = (if x.prov.isSome then 0 else x.wLast % 2 ^ 16) ∧ u p 6 2 = 0) := by
  refine serves_of rfl hl fun r key w _ => ?_
  obtain ⟨hlen, hblock⟩ := flatMap_blocks (g := fun k => w.telElement r.tenant (u f.params 0 4 + k)) (m := 8)
    (fun k => w.telElement_length _ _) (u f.params 4 2)
  refine ⟨rfl, rfl, hlen, fun k hk => ?_⟩
  intro e x p visible
  have hp : p = w.telElement r.tenant e := hblock k hk
  have hvisible : w.elemVisible e r.tenant = true ↔ visible := w.elemVisible_iff e r.tenant
  rw [hp, ← hvisible]
  exact ⟨fun h => State.telElement_hidden (Bool.not_eq_true _ ▸ h), State.telElement_fields⟩

/-! ## What a port shows (R415) -/

theorem portKey_eq (out : Bool) (p : Nat) : portKey out p = if out then 1_024 + p else p := by
  cases out <;> simp [portKey, b2n]

theorem tc_lt (n : Nat) (v : Int) : tc n v < 2 ^ n := by
  have h0 : 0 ≤ v % 2 ^ n := Int.emod_nonneg v (by positivity)
  have h1 : v % 2 ^ n < 2 ^ n := Int.emod_lt_of_pos v (by positivity)
  unfold tc
  zify
  rw [Int.toNat_of_nonneg h0]
  exact h1

/-- The power of a tap as a record gives it; 0x8000 where there is none. -/
def State.tapShown (s : State) (k : Nat) : Nat := ((s.tapPower k).map (tc 16)).getD 0x8000

theorem State.tapShown_lt (s : State) (k : Nat) : s.tapShown k < 65_536 := by
  unfold State.tapShown
  cases s.tapPower k with
  | none => decide
  | some v => exact tc_lt 16 v

/-- The flags of a port's record with the state of its latch. -/
def State.portFlags (s : State) (k : Nat) : Nat := 128 + b2n (s.blanked k) * 64 + (s.port k).lstate * 8 + b2n (s.guardLatched k) * 4

theorem State.portFlags_lt {s : State} {k : Nat} (h : (s.port k).lstate < 8) : s.portFlags k < 256 := by
  have h1 := b2n_le_one (s.blanked k)
  have h2 := b2n_le_one (s.guardLatched k)
  unfold State.portFlags
  omega

theorem State.telPort_hidden {s : State} {tenant at_ p : Nat} {out : Bool} (h : ¬ (tenant = 0 ∨ s.right out p tenant at_ ≠ none)) :
    s.telPort tenant at_ out p = [0, 0, 0, 0] := if_neg (by rwa [Option.isSome_iff_ne_none])

theorem State.telPort_shown {s : State} {tenant at_ p : Nat} {out : Bool} (h : tenant = 0 ∨ s.right out p tenant at_ ≠ none) :
    s.telPort tenant at_ out p = portRecord (s.tapShown (portKey out p)) (s.portFlags (portKey out p)) := by
  unfold State.telPort State.tapShown
  rw [if_pos (by rwa [Option.isSome_iff_ne_none])]
  dsimp only
  cases s.tapPower (portKey out p) <;> rfl

theorem State.telPort_length (s : State) (tenant at_ : Nat) (out : Bool) (p : Nat) : (s.telPort tenant at_ out p).length = 4 := by
  by_cases h : tenant = 0 ∨ s.right out p tenant at_ ≠ none
  · rw [State.telPort_shown h]; rfl
  · rw [State.telPort_hidden h]; rfl

theorem State.telPort_fields {s : State} {tenant at_ p : Nat} {out : Bool} (h : tenant = 0 ∨ s.right out p tenant at_ ≠ none) :
    u (s.telPort tenant at_ out p) 0 2 = s.tapShown (portKey out p) ∧ u (s.telPort tenant at_ out p) 3 1 = 0 ∧
    ((s.port (portKey out p)).lstate < 8 → u (s.telPort tenant at_ out p) 2 1 = s.portFlags (portKey out p)) := by
  rw [State.telPort_shown h]
  obtain ⟨htap, hflags, hzero⟩ := portRecord_fields (s.tapShown (portKey out p)) (s.portFlags (portKey out p))
  exact ⟨htap.trans (Nat.mod_eq_of_lt (s.tapShown_lt _)), hzero, fun hs => hflags.trans (Nat.mod_eq_of_lt (State.portFlags_lt hs))⟩

theorem telPort_serves (s : State) (f : Frame) (hl : s.Live) : Serves (.telPort f) opTelPort f s fun w r v code params =>
    let out := u f.params 0 1 == 1
    let n := u f.params 4 2
    code = Code.DONE ∧ v = w ∧ params.length = 4 * n ∧ ∀ k, k < n →
      let p := u f.params 2 2 + k
      let key := if out then 1_024 + p else p
      let visible : Prop := r.tenant = 0 ∨ w.right out p r.tenant r.stamp ≠ none
      let q := (params.drop (4 * k)).take 4
      (¬ visible → q = [0, 0, 0, 0]) ∧
      (visible → u q 0 2 = ((w.tapPower key).map (tc 16)).getD 0x8000 ∧ u q 3 1 = 0 ∧
        ((w.port key).lstate < 8 → u q 2 1 = 128 + b2n (w.blanked key) * 64 + (w.port key).lstate * 8 + b2n (w.guardLatched key) * 4)) := by
  refine serves_of rfl hl fun r _ w _ => ?_
  intro out n
  obtain ⟨hlen, hblock⟩ := flatMap_blocks (g := fun k => w.telPort r.tenant r.stamp out (u f.params 2 2 + k)) (m := 4)
    (fun k => w.telPort_length _ _ _ _) n
  refine ⟨rfl, rfl, hlen, fun k hk => ?_⟩
  intro p key visible q
  have hq : q = w.telPort r.tenant r.stamp out p := hblock k hk
  have hkey : key = portKey out p := (portKey_eq out p).symm
  rw [hq, hkey]
  exact ⟨State.telPort_hidden, State.telPort_fields⟩

/-! ## The state of the device (R415) -/

theorem State.get_lt (s : State) (f : Fld) : s.get f < 2 ^ (f.hi + 1 - f.lo) := bits_lt _ _ _

/-- A field of one bit reads as the number of its flag. -/
theorem State.b2n_flag (s : State) {f : Fld} (h : f.hi = f.lo) : b2n (s.flag f) = s.get f := by
  have hlt := s.get_lt f
  rw [h, Nat.add_sub_cancel_left, pow_one] at hlt
  have hcases : s.get f = 0 ∨ s.get f = 1 := by omega
  rcases hcases with hv | hv <;> simp [State.flag, hv, b2n]

/-- The flags that TEL_STATUS shows of the schedule, of bivouac and of a shutdown. -/
def State.statusFlags (s : State) : Nat :=
  b2n s.sch.active.isSome * 128 + b2n (s.sch.active.any (·.frozen.isSome)) * 64 + s.get R.GLB_STS_BIVOUAC * 32 + s.get R.THM_STS_SHUTDOWN * 16

theorem State.statusFlags_lt (s : State) : s.statusFlags < 256 := by
  have h1 := b2n_le_one s.sch.active.isSome
  have h2 := b2n_le_one (s.sch.active.any (·.frozen.isSome))
  have h3 : s.get R.GLB_STS_BIVOUAC < 2 := s.get_lt _
  have h4 : s.get R.THM_STS_SHUTDOWN < 2 := s.get_lt _
  unfold State.statusFlags
  omega

theorem opTelStatus_body (q : Req) (s : State) : opTelStatus.body q s = (s, Code.DONE,
    statusReply s.level (s.get R.TIME_STS_VALID * 128 + s.get R.TIME_STS_SRV_STATE) s.statusFlags
      ((s.sch.active.map s.slotShown).getD 0) s.now) := by
  have hbivouac : b2n s.bivouac = s.get R.GLB_STS_BIVOUAC := s.b2n_flag rfl
  rw [State.statusFlags, ← hbivouac]
  unfold opTelStatus opAny
  cases h : s.sch.active <;> simp only [h] <;> rfl

theorem telStatus_serves (s : State) (f : Frame) (hl : s.Live) : Serves (.telStatus f) opTelStatus f s fun w _ v code params =>
    let a := w.sch.active
    code = Code.DONE ∧ v = w ∧ params.length = 12 ∧ u params 0 1 = w.level ∧
    u params 1 1 = w.get R.TIME_STS_VALID * 128 + w.get R.TIME_STS_SRV_STATE ∧
    u params 2 1 = b2n a.isSome * 128 + b2n (a.any (·.frozen.isSome)) * 64 + w.get R.GLB_STS_BIVOUAC * 32 + w.get R.THM_STS_SHUTDOWN * 16 ∧
    u params 3 1 = (a.map w.slotShown).getD 0 % 256 ∧ u params 4 8 = w.now % 2 ^ 48 := by
  refine serves_of rfl hl fun r _ w _ => ?_
  intro a
  rw [opTelStatus_body]
  obtain ⟨hlevel, htime, hflags, hslot, hnow⟩ := statusReply_fields w.level
    (w.get R.TIME_STS_VALID * 128 + w.get R.TIME_STS_SRV_STATE) w.statusFlags ((w.sch.active.map w.slotShown).getD 0) w.now
  have h1 : w.level < 8 := w.get_lt _
  have h2 : w.get R.TIME_STS_VALID < 2 := w.get_lt _
  have h3 : w.get R.TIME_STS_SRV_STATE < 4 := w.get_lt _
  exact ⟨rfl, rfl, rfl, hlevel.trans (Nat.mod_eq_of_lt (by omega)), htime.trans (Nat.mod_eq_of_lt (by omega)),
    hflags.trans (Nat.mod_eq_of_lt w.statusFlags_lt), hslot, hnow⟩

/-- Settles O45: each request by its own lemma, and the hidden status and the circuit's tenant by theirs. -/
theorem telemetryShowsWhatTheTenantMaySee : Obligations.TelemetryShowsWhatTheTenantMaySee :=
  ⟨telElement_serves, State.statusHidden_ne_one, fun _ _ _ _ _ hv hs h0 => State.provSeen_circuit hv hs h0, telPort_serves, telStatus_serves⟩

end Sys2Proof.Machine
end

section
/-!
PROOFS. The timing of traverses (R199, R202): grid points, what timing leaves of a traverse, and the instants it gives.
-/
namespace Sys2Proof.Machine

/-! ## Grid points (R125) -/

/-- The first grid point at or after an instant lies on the grid, at or after it. -/
theorem gridFrom_spec {p : Nat} (hp : 0 < p) (n : Nat) : isGrid p (gridFrom p n) = true ∧ n ≤ gridFrom p n := by
  have hbase : n / 2 ^ 48 * 2 ^ 48 + n % 2 ^ 48 = n := Nat.div_add_mod' n _
  have hlt : n % 2 ^ 48 < 2 ^ 48 := Nat.mod_lt _ (by positivity)
  have hwrap : isGrid p (n / 2 ^ 48 * 2 ^ 48 + 2 ^ 48) = true ∧ n ≤ n / 2 ^ 48 * 2 ^ 48 + 2 ^ 48 :=
    ⟨by simp [isGrid], by omega⟩
  unfold gridFrom
  extract_lets base k
  have hk : n - base ≤ k := by
    have hround := Nat.lt_div_mul_add hp (a := n - base + p - 1)
    change n - base ≤ (n - base + p - 1) / p * p
    omega
  split_ifs with hover hgrid
  · exact hwrap
  · have hmod : (base + k) % 2 ^ 48 = k % 2 ^ 48 := Nat.mul_add_mod' _ _ _
    refine ⟨?_, by omega⟩
    rw [isGrid, hmod]
    exact hgrid
  · exact hwrap

theorem persFrom_isGrid (n : Nat) : isGrid persGrid (persFrom n) = true := (gridFrom_spec (by decide) n).1

theorem le_persFrom (n : Nat) : n ≤ persFrom n := (gridFrom_spec (by decide) n).2

theorem State.stageFrom_persistent (s : State) {t : Trav} (h : t.slotScope = false) (x : Nat) : s.stageFrom t x = persFrom x := by
  simp [State.stageFrom, h]

/-! ## A traverse but for its instants -/

/-- A stage but for its instant. -/
def Stage.untimed (g : Stage) : Stage := { g with e := 0 }

/-- A traverse but for the instants of its stages and their last. -/
def Trav.untimed (t : Trav) : Trav := { t with stages := t.stages.map Stage.untimed, elast := 0 }

theorem Trav.stage_untimed (t : Trav) (k : Nat) : t.untimed.stage k = (t.stage k).untimed :=
  List.getD_map t.stages ⟨[], 0, 0, 0⟩ Stage.untimed

theorem Trav.stage_of_lt {t : Trav} {k : Nat} (h : k < t.stages.length) : t.stage k = t.stages[k] := List.getD_eq_getElem _ _ h

theorem Trav.setStage_stage (t : Trav) (k : Nat) : t.setStage k (t.stage k) = t := by
  by_cases h : k < t.stages.length
  · simp [Trav.setStage, Trav.stage_of_lt h]
  · simp [Trav.setStage, List.set_eq_of_length_le (Nat.not_lt.1 h)]

/-- A stage given an instant changes nothing else. -/
theorem Trav.untimed_setStage (t : Trav) (k e l : Nat) : Trav.untimed { t.setStage k { t.stage k with e := e } with elast := l } = t.untimed := by
  have hstage : Stage.untimed { t.stage k with e := e } = t.untimed.stage k := (t.stage_untimed k).symm
  have hkept : (t.untimed.setStage k (t.untimed.stage k)).stages = t.untimed.stages := congrArg Trav.stages (t.untimed.setStage_stage k)
  have hset : (t.stages.set k { t.stage k with e := e }).map Stage.untimed = t.stages.map Stage.untimed := by
    rw [List.map_set, hstage]
    exact hkept
  simp only [Trav.untimed, Trav.setStage, hset]

section
variable {t t' : Trav} (h : t'.untimed = t.untimed)
include h

theorem Trav.length_of_untimed : t'.stages.length = t.stages.length := by
  simpa [Trav.untimed] using congrArg (fun x : Trav => x.stages.length) h

theorem Trav.stage_of_untimed (k : Nat) : (t'.stage k).untimed = (t.stage k).untimed := by
  rw [← Trav.stage_untimed, h, Trav.stage_untimed]

theorem Trav.newCtx_of_untimed : t'.newCtx = t.newCtx := by
  have hmap (x : Trav) : x.untimed.newCtx = x.newCtx := List.findSome?_map
  rw [← hmap t', h, hmap t]

end

/-! ## Instants given to stages (R202) -/

/-- The stage `k` of a traverse given the instant `e`, its last so far. -/
def Trav.give (t : Trav) (k e : Nat) : Trav := { t.setStage k { t.stage k with e := e } with elast := e }

theorem State.assign_cons (s : State) (t : Trav) (k : Nat) (ks : List Nat) (e : Nat) : s.assign t (k :: ks) e =
    s.assign (t.give k e) ks (s.stageFrom (t.give k e) (e + s.get R.TRV_CTL_STAGE_GAP * 50_000)) := rfl

/-- Timing changes instants only. -/
theorem State.assign_untimed (s : State) (t : Trav) (ks : List Nat) (e : Nat) : (s.assign t ks e).untimed = t.untimed := by
  induction ks generalizing t e with
  | nil => rfl
  | cons k ks ih => rw [State.assign_cons, ih, Trav.give, Trav.untimed_setStage]

theorem Trav.give_stage_self {t : Trav} {k : Nat} (h : k < t.stages.length) (e : Nat) : ((t.give k e).stage k).e = e := by
  simp [Trav.give, Trav.setStage, Trav.stage, h]

theorem Trav.give_stage_other (t : Trav) {j k : Nat} (h : j ≠ k) (e : Nat) : (t.give k e).stage j = t.stage j := by
  simp [Trav.give, Trav.setStage, Trav.stage, List.getElem?_set_ne h.symm]

/-- A stage that is not named keeps its instant. -/
theorem State.assign_other (s : State) {t : Trav} {ks : List Nat} {j : Nat} (h : j ∉ ks) (e : Nat) : (s.assign t ks e).stage j = t.stage j := by
  induction ks generalizing t e with
  | nil => rfl
  | cons k ks ih =>
    rw [State.assign_cons, ih fun hj => h (.tail _ hj), Trav.give_stage_other t (List.ne_of_not_mem_cons h)]

/-- The last instant is no earlier than an instant that bounds those given and the last one before. -/
theorem State.assign_elast (s : State) {t : Trav} (hs : t.slotScope = false) {x e : Nat} (ks : List Nat) (hx : x ≤ t.elast) (he : x ≤ e) :
    x ≤ (s.assign t ks e).elast := by
  induction ks generalizing t e with
  | nil => exact hx
  | cons k ks ih =>
    rw [State.assign_cons, State.stageFrom_persistent s (t := t.give k e) hs]
    exact ih (t := t.give k e) hs he (he.trans ((Nat.le_add_right _ _).trans (le_persFrom _)))

/-- The persistent stages named get grid points from the first on, of which E_LAST is the last (R199, R202). -/
theorem State.assign_instants (s : State) {t : Trav} (hs : t.slotScope = false) {ks : List Nat} (hk : ∀ k, k ∈ ks → k < t.stages.length)
    {e : Nat} (he : isGrid persGrid e = true) {j : Nat} (hj : j ∈ ks) :
    isGrid persGrid ((s.assign t ks e).stage j).e = true ∧ e ≤ ((s.assign t ks e).stage j).e ∧
      ((s.assign t ks e).stage j).e ≤ (s.assign t ks e).elast := by
  induction ks generalizing t e with
  | nil => cases hj
  | cons k ks ih =>
    rw [State.assign_cons, State.stageFrom_persistent s (t := t.give k e) hs]
    set x := persFrom (e + s.get R.TRV_CTL_STAGE_GAP * 50_000)
    have hex : e ≤ x := (Nat.le_add_right _ _).trans (le_persFrom _)
    by_cases hmem : j ∈ ks
    · have hlen : (t.give k e).stages.length = t.stages.length := List.length_set
      obtain ⟨hgrid, hfrom, hlast⟩ := ih (t := t.give k e) hs (fun i hi => hlen ▸ hk i (.tail _ hi)) (persFrom_isGrid _) hmem
      exact ⟨hgrid, hex.trans hfrom, hlast⟩
    · obtain rfl : j = k := (List.mem_cons.1 hj).resolve_right hmem
      rw [State.assign_other s hmem, Trav.give_stage_self (hk j (.head _))]
      exact ⟨he, le_rfl, s.assign_elast (t := t.give j e) hs ks le_rfl hex⟩

/-! ## The remaining stages -/

theorem mem_range_zip {α : Type} {l : List α} {x : Nat × α} : x ∈ (List.range l.length).zip l ↔ l[x.1]? = some x.2 := by
  rw [List.mem_iff_getElem?]
  constructor
  · rintro ⟨i, hi⟩
    obtain ⟨hr, hl⟩ := List.getElem?_zip_eq_some.1 hi
    have hix : i = x.1 := by
      obtain ⟨hlt, hix⟩ := List.getElem?_eq_some_iff.1 hr
      rwa [List.getElem_range] at hix
    exact hix ▸ hl
  · intro h
    obtain ⟨hlt, -⟩ := List.getElem?_eq_some_iff.1 h
    exact ⟨x.1, List.getElem?_zip_eq_some.2 ⟨List.getElem?_range hlt, h⟩⟩

/-- SSTATE of the stages that are still to commit. -/
def Trav.todo (t : Trav) : Nat := if t.back then Ss.committed else Ss.planned

theorem Trav.mem_remaining {t : Trav} {k : Nat} : k ∈ t.remaining ↔ ∃ g, t.stages[k]? = some g ∧ g.sstate = t.todo := by
  have hmem (x : Nat) : k ∈ ((((List.range t.stages.length).zip t.stages).filter fun y => y.2.sstate == x).map (·.1)) ↔
      ∃ g, t.stages[k]? = some g ∧ g.sstate = x := by
    simp only [List.mem_map, List.mem_filter, mem_range_zip, beq_iff_eq, Prod.exists]
    constructor
    · rintro ⟨i, g, ⟨hg, hx⟩, rfl⟩
      exact ⟨g, hg, hx⟩
    · rintro ⟨g, hg, hx⟩
      exact ⟨k, g, ⟨hg, hx⟩, rfl⟩
  unfold Trav.remaining Trav.todo
  dsimp only
  split
  · rw [List.mem_reverse, hmem]
  · exact hmem _

theorem Trav.lt_of_mem_remaining {t : Trav} {k : Nat} (h : k ∈ t.remaining) : k < t.stages.length := by
  obtain ⟨g, hg, -⟩ := Trav.mem_remaining.1 h
  obtain ⟨hlt, -⟩ := List.getElem?_eq_some_iff.1 hg
  exact hlt

theorem Trav.remaining_isEmpty {t : Trav} : t.remaining.isEmpty = true ↔ ∀ g, g ∈ t.stages → g.sstate ≠ t.todo := by
  rw [List.isEmpty_iff, List.eq_nil_iff_forall_not_mem]
  constructor
  · intro h g hg hs
    obtain ⟨k, hk⟩ := List.mem_iff_getElem?.1 hg
    exact h k (Trav.mem_remaining.2 ⟨g, hk, hs⟩)
  · intro h k hk
    obtain ⟨g, hg, hs⟩ := Trav.mem_remaining.1 hk
    exact h g (List.mem_of_getElem? hg) hs

/-! ## A traverse timed (R199, R202) -/

/-- The remaining stages are timed from an instant at least 100 µs off and no earlier than the target. -/
theorem State.timeStages_eq (s : State) (t : Trav) (a : Nat) :
    ∃ x, a + 100_000 ≤ x ∧ t.target.getD 0 ≤ x ∧ s.timeStages t a = s.assign t t.remaining (s.stageFrom t x) := by
  unfold State.timeStages
  extract_lets ports lead hold from_
  refine ⟨from_, ?_, ?_, rfl⟩
  · have hlead : 100_000 ≤ lead := by
      unfold lead
      split <;> decide
    have hfrom : max (a + lead) (t.target.getD 0) ≤ from_ := Nat.le_max_right _ _
    omega
  · exact (Nat.le_max_right _ _).trans (Nat.le_max_right _ _)

theorem State.timeStages_untimed (s : State) (t : Trav) (a : Nat) : (s.timeStages t a).untimed = t.untimed := by
  obtain ⟨x, -, -, h⟩ := s.timeStages_eq t a
  rw [h, State.assign_untimed]

theorem State.timeStages_instants (s : State) {t : Trav} (hs : t.slotScope = false) (a : Nat) {k : Nat} (hk : k ∈ t.remaining) :
    isGrid persGrid ((s.timeStages t a).stage k).e = true ∧ a + 100_000 ≤ ((s.timeStages t a).stage k).e ∧
      ((s.timeStages t a).stage k).e ≤ (s.timeStages t a).elast ∧ t.target.getD 0 ≤ ((s.timeStages t a).stage k).e := by
  obtain ⟨x, hlead, htarget, h⟩ := s.timeStages_eq t a
  rw [h, State.stageFrom_persistent s hs]
  obtain ⟨hgrid, hfrom, hlast⟩ := s.assign_instants hs (fun _ => Trav.lt_of_mem_remaining) (persFrom_isGrid x) hk
  have hx := (le_persFrom x).trans hfrom
  exact ⟨hgrid, hlead.trans hx, hlast, htarget.trans hx⟩

/-- A new circuit planned for E_LAST is all that planning changes. -/
theorem State.planNew_touches (s : State) (t : Trav) : s.Touches (s.planNew t) [.cir] [] := by
  unfold State.planNew
  split
  · exact .refl s _ _
  · split
    · exact .refl s _ _
    · exact .with_cir s _ (.head _)

theorem State.planNew_eplan (s : State) {t : Trav} {m : Move} (hm : t.newCtx = some m) (hb : t.back = false) :
    ((s.planNew t).ctx m.ctx).eplan = t.elast := by
  simp [State.planNew, hm, hb]

theorem State.setHead_touches (s : State) (t : Trav) : s.Touches (s.setHead t) [.trv] [] := by
  unfold State.setHead
  split
  · exact .refl s _ _
  · exact .with_trv s _ (.head _)

/-- The journal and the frame of a traverse that goes on as timed. -/
theorem State.setHead_planNew {s : State} {h : Trav} {rest : List Trav} (hj : s.trv.journal = h :: rest) (t : Trav) :
    ((s.setHead t).planNew t).trv.journal = t :: rest ∧ s.Touches ((s.setHead t).planNew t) [.trv, .cir] [] := by
  obtain ⟨hset, -, -⟩ := State.setHead_journal hj t
  have hplan := (s.setHead t).planNew_touches t
  have htrv : ((s.setHead t).planNew t).trv = (s.setHead t).trv := hplan.same .trv (by decide)
  exact ⟨by rw [htrv, hset], ((s.setHead_touches t).mono (by decide) fun _ hr => hr).trans (hplan.mono (by decide) fun _ hr => hr)⟩

/-- The head of the journal as its timing leaves it. -/
def State.timedHead (s : State) (h : Trav) : Trav := s.timeStages { h with state := Ts.running, timed := true } s.now

theorem doTraverseTimed_eq {s : State} {h : Trav} {rest : List Trav} (hr : s.ready = true) (hh : s.hubIn = true) (hb : s.bivouac = false)
    (hj : s.trv.journal = h :: rest) (hq : h.state = Ts.queued) : doTraverseTimed s =
      ((s.setHead (s.timedHead h)).planNew (s.timedHead h)).raise { occ Ev.traverseTimed with tenant := (s.timedHead h).tenant } := by
  unfold doTraverseTimed
  rw [hj]
  exact if_pos (by simp [hr, hh, hb, hq])

theorem traverseTimed_leaves (s : State) (h : Trav) (rest : List Trav) (hl : s.Live) (hr : s.ready = true) (hh : s.hubIn = true)
    (hb : s.bivouac = false) (hj : s.trv.journal = h :: rest) (hq : h.state = Ts.queued) (hf : h.back = false) :
    Leaves .traverseTimed s fun t =>
      ∃ h', t.trv.journal = h' :: rest ∧ h'.state = Ts.running ∧ h'.timed = true ∧ h'.id = h.id ∧ h'.stages.length = h.stages.length ∧
        (∀ k, (h'.stage k).moves = (h.stage k).moves ∧ (h'.stage k).sstate = (h.stage k).sstate) ∧
        (h.slotScope = false → ∀ k, k ∈ h.remaining →
          isGrid persGrid (h'.stage k).e = true ∧ s.now + 100_000 ≤ (h'.stage k).e ∧ (h'.stage k).e ≤ h'.elast ∧ h.target.getD 0 ≤ (h'.stage k).e) ∧
        (∀ m, h.newCtx = some m → (t.ctx m.ctx).eplan = h'.elast) ∧ s.Touches t [.trv, .cir, .recorder, .frames] [] := by
  refine leaves_live doTraverseTimed rfl hl ?_
  rw [doTraverseTimed_eq hr hh hb hj hq]
  set h' := s.timedHead h
  have hsame : h'.untimed = Trav.untimed { h with state := Ts.running, timed := true } := s.timeStages_untimed _ _
  have hstage (k : Nat) : (h'.stage k).untimed = (h.stage k).untimed := Trav.stage_of_untimed hsame k
  have hback : h'.back = false := (congrArg Trav.back hsame :).trans hf
  obtain ⟨hjournal, hframe⟩ := State.setHead_planNew hj h'
  have hraise := State.raise_steady ((s.setHead h').planNew h') { occ Ev.traverseTimed with tenant := h'.tenant }
  refine ⟨h', by rw [hraise.trv, hjournal], (congrArg Trav.state hsame :), (congrArg Trav.timed hsame :), (congrArg Trav.id hsame :),
    Trav.length_of_untimed (t := { h with state := Ts.running, timed := true }) hsame,
    fun k => ⟨(congrArg Stage.moves (hstage k) :), (congrArg Stage.sstate (hstage k) :)⟩,
    fun hs k hk => s.timeStages_instants (t := { h with state := Ts.running, timed := true }) hs s.now hk, fun m hm => ?_, ?_⟩
  · have hnew : h'.newCtx = some m := (Trav.newCtx_of_untimed (t := { h with state := Ts.running, timed := true }) hsame).trans hm
    rw [hraise.ctx, State.planNew_eplan _ hnew hback]
  · exact (hframe.mono (by decide) fun _ hr => hr).trans (.raise _ _ (show Ev.traverseTimed < 1536 by decide) (by decide) (by decide))

end Sys2Proof.Machine
end

section
/-!
PROOFS. A suspended traverse that is resumed or rolled back (R213, R413), and O31.
-/
namespace Sys2Proof.Machine

/-! ## The suspended traverse -/

theorem State.suspendedHead_eq_none {s : State} (h : ∀ t rest, s.trv.journal = t :: rest → t.suspended = false) : s.suspendedHead = none := by
  unfold State.suspendedHead
  cases hj : s.trv.journal with
  | nil => rfl
  | cons t rest => simp [h t rest hj]

theorem State.suspendedHead_eq_some {s : State} {t : Trav} {rest : List Trav} (hj : s.trv.journal = t :: rest) (h : t.suspended = true) :
    s.suspendedHead = some t := by
  simp [State.suspendedHead, hj, h]

/-! ## TRV_RESUME -/

/-- What is left of a suspended traverse can still be done: its moved circuits' elements serve, and forward a new circuit verifies (R213). -/
def State.PlanStands (s : State) (t : Trav) : Prop :=
  (∀ k m, k ∈ t.remaining → m ∈ (t.stage k).moved → s.moveOk t m = true) ∧
    (t.back = false → ∀ m, t.newCtx = some m →
      s.verified (s.ctx m.ctx).input (ctxOut m.ctx) (path (s.ctx m.ctx).input m.new) = true)

/-- The verification of a new circuit, where the traverse has one. -/
def State.newOk (s : State) (t : Trav) : Bool := match t.newCtx with
  | none => true
  | some m => s.verified (s.ctx m.ctx).input (ctxOut m.ctx) (path (s.ctx m.ctx).input m.new)

theorem State.newOk_iff {s : State} {t : Trav} : s.newOk t = true ↔ ∀ m, t.newCtx = some m →
    s.verified (s.ctx m.ctx).input (ctxOut m.ctx) (path (s.ctx m.ctx).input m.new) = true := by
  unfold State.newOk
  cases t.newCtx with
  | none => simp
  | some m => simp

theorem State.planStands_iff {s : State} {t : Trav} :
    ((t.remaining.all fun k => (t.stage k).moved.all (s.moveOk t)) && (t.back || s.newOk t)) = true ↔ s.PlanStands t := by
  have hnew : (t.back || s.newOk t) = true ↔ (t.back = false → ∀ m, t.newCtx = some m →
      s.verified (s.ctx m.ctx).input (ctxOut m.ctx) (path (s.ctx m.ctx).input m.new) = true) := by
    rw [← State.newOk_iff]
    cases t.back <;> simp
  rw [Bool.and_eq_true, hnew]
  simp only [List.all_eq_true, State.PlanStands]
  exact and_congr_left fun _ => ⟨fun h k m hk hm => h k hk m hm, fun h k hk m hm => h k m hk hm⟩

/-- The traverse that TRV_RESUME lets run on. -/
def State.resumed (s : State) (t : Trav) (r : Requester) : Trav :=
  s.timeStages { t with state := if t.back then Ts.rolling else Ts.running, progress := some r } s.now

theorem opTrvResume_none {q : Req} {s : State} (h : s.suspendedHead = none) : opTrvResume.body q s = (s, Code.TRV_NOT_SUSPENDED, []) := by
  simp only [opTrvResume, opWarden, h]

theorem opTrvResume_some {q : Req} {s : State} {t : Trav} (h : s.suspendedHead = some t) : opTrvResume.body q s =
    if s.level = 4 then (s, Code.THM_THROTTLED, [])
    else if t.back && t.code != Code.TRV_ROLLED_BACK then (s, Code.TRV_ABORTED, [])
    else if !((t.remaining.all fun k => (t.stage k).moved.all (s.moveOk t)) && (t.back || s.newOk t)) then (s, Code.TRV_PLAN_INVALID, [])
    else ((s.setHead (s.resumed t q.r)).planNew (s.resumed t q.r), Code.ACCEPTED, []) := by
  simp only [opTrvResume, opWarden, h]
  rfl

theorem opTrvResume_params (q : Req) (s : State) : (opTrvResume.body q s).2.2 = [] := by
  cases h : s.suspendedHead with
  | none => rw [opTrvResume_none h]
  | some t =>
    rw [opTrvResume_some h]
    split_ifs <;> rfl

theorem trvResume_serves (s : State) (f : Frame) (hl : s.Live) : Serves (.trvResume f) opTrvResume f s fun w r v code params =>
    params = [] ∧
    ((∀ h rest, w.trv.journal = h :: rest → h.suspended = false) → code = Code.TRV_NOT_SUSPENDED ∧ v = w) ∧
    (∀ h rest, w.trv.journal = h :: rest → h.suspended = true →
      let plan : Prop := (∀ k m, k ∈ h.remaining → m ∈ (h.stage k).moved → w.moveOk h m = true) ∧
        (h.back = false → ∀ m, h.newCtx = some m →
          w.verified (w.ctx m.ctx).input (ctxOut m.ctx) (path (w.ctx m.ctx).input m.new) = true)
      (w.level = 4 → code = Code.THM_THROTTLED ∧ v = w) ∧
      (w.level ≠ 4 → h.back = true → h.code ≠ Code.TRV_ROLLED_BACK → code = Code.TRV_ABORTED ∧ v = w) ∧
      (w.level ≠ 4 → (h.back = false ∨ h.code = Code.TRV_ROLLED_BACK) → ¬ plan → code = Code.TRV_PLAN_INVALID ∧ v = w) ∧
      (w.level ≠ 4 → (h.back = false ∨ h.code = Code.TRV_ROLLED_BACK) → plan → code = Code.ACCEPTED ∧
        ∃ h', v.trv.journal = h' :: rest ∧ h'.id = h.id ∧ h'.state = (if h.back then Ts.rolling else Ts.running) ∧ h'.progress = some r ∧
          h'.back = h.back ∧ w.Touches v [.trv, .cir] [])) := by
  refine serves_of rfl hl fun r _ w _ => ⟨opTrvResume_params _ w, fun hnone => ?_, fun h rest hj hs => ?_⟩
  · rw [opTrvResume_none (State.suspendedHead_eq_none hnone)]
    exact ⟨rfl, rfl⟩
  intro plan
  have hplan : _ ↔ plan := w.planStands_iff (t := h)
  have hgoing : (h.back = false ∨ h.code = Code.TRV_ROLLED_BACK) → (h.back && h.code != Code.TRV_ROLLED_BACK) = false := by
    rintro (hb | hc)
    · simp [hb]
    · simp [hc]
  rw [opTrvResume_some (State.suspendedHead_eq_some hj hs)]
  refine ⟨fun h4 => ?_, fun h4 hb hc => ?_, fun h4 hgo hp => ?_, fun h4 hgo hp => ?_⟩
  · rw [if_pos h4]
    exact ⟨rfl, rfl⟩
  · rw [if_neg h4, if_pos (by simp [hb, hc])]
    exact ⟨rfl, rfl⟩
  · rw [← hplan, Bool.not_eq_true] at hp
    rw [if_neg h4, hgoing hgo, hp]
    exact ⟨rfl, rfl⟩
  · rw [← hplan] at hp
    rw [if_neg h4, hgoing hgo, hp]
    have hsame : (w.resumed h r).untimed = _ := w.timeStages_untimed _ _
    obtain ⟨hjournal, hframe⟩ := State.setHead_planNew hj (w.resumed h r)
    exact ⟨rfl, w.resumed h r, hjournal, (congrArg Trav.id hsame :), (congrArg Trav.state hsame :), (congrArg Trav.progress hsame :),
      (congrArg Trav.back hsame :), hframe⟩

/-! ## The end of a traverse (R207) -/

theorem State.releaseLatches_trv (s : State) (i goal : Nat) : (s.releaseLatches i goal).trv = s.trv := by
  unfold State.releaseLatches
  split
  · exact (s.dropOpens_steady i).trv
  · exact (s.closeOpened_steady i).trv

theorem State.freePlaced_trv (s : State) (i : Nat) : (s.freePlaced i).trv = s.trv := by
  unfold State.freePlaced
  split <;> rfl

theorem State.unplaced_trv (s : State) (i goal reason : Nat) : (s.unplaced i goal reason).trv = s.trv := by
  unfold State.unplaced
  split <;> rfl

theorem State.retrySoon_trv (s : State) : s.retrySoon.trv = s.trv := by
  rcases s.retrySoon_cases with h | ⟨n, h⟩ <;> rw [h]

/-- A circuit that leaves its wait leaves the journal. -/
theorem State.leaveWait_trv (s : State) (i goal reason : Nat) : (s.leaveWait i goal reason).trv = s.trv := by
  rw [State.leaveWait_eq, State.retrySoon_trv, State.unplaced_trv, State.releaseLatches_trv, State.freePlaced_trv]

theorem State.endLight_trv (s : State) (i code : Nat) : (s.endLight i code).trv = s.trv :=
  (State.completeOpt_steady (s.setCtx i { s.ctx i with req := none }) _ _ _ _).trv

/-- The journal drops a traverse that ends, and the sender of ROLLBACK is told once the journal is empty (R207, R213). -/
theorem State.endTrav_trv (s : State) (t : Trav) (code : Nat) :
    (s.endTrav t code).trv.journal = s.trv.journal.filter (·.id != t.id) ∧
    (s.endTrav t code).trv.rollback = if (s.trv.journal.filter (·.id != t.id)).isEmpty then none else s.trv.rollback := by
  unfold State.endTrav
  extract_lets t' _ s1 s2 s3 s4 _ s5 params s6 s7
  have h2 : s2.trv = s1.trv := by
    unfold s2
    split_ifs <;> rfl
  have h3 : s3.trv = s2.trv := List.foldlRecOn _ _ (motive := fun u : State => u.trv = s2.trv) rfl fun u hu m _ => by
    split <;> exact hu
  have h4 : s4.trv = s3.trv := by
    unfold s4
    split
    · rfl
    · split
      · rw [State.leaveWait_trv, State.endLight_trv]
      · rfl
  have h5 : s5.trv = s4.trv := (s4.raise_steady _).trv
  have h6 : s6.trv = s5.trv := by
    unfold s6
    split
    · exact (s5.completeOpt_steady _ _ _ _).trv
    · rfl
  have h7 : s7.trv = s6.trv := by
    unfold s7
    split
    · rfl
    · exact (s6.completeOpt_steady _ _ _ _).trv
  have h : s7.trv = s1.trv := by rw [h7, h6, h5, h4, h3, h2]
  have hjournal : s7.trv.journal = s.trv.journal.filter (·.id != t.id) := congrArg TrvSt.journal h
  have hroll : s7.trv.rollback = s.trv.rollback := (congrArg TrvSt.rollback h :)
  rw [← hjournal, ← hroll]
  cases hr : s7.trv.rollback with
  | none => simp [hr]
  | some r =>
    dsimp only
    split
    · have hdone := State.completeOpt_steady { s7 with trv.rollback := none } (some r) true Code.DONE params
      have htrv : (State.complete { s7 with trv.rollback := none } r true Code.DONE params).trv = { s7.trv with rollback := none } := hdone.trv
      rw [htrv]
      exact ⟨rfl, rfl⟩
    · exact ⟨rfl, hr⟩

/-! ## TRV_ROLLBACK -/

/-- The queued traverses end one after the other. -/
def State.endQueued (s : State) (l : List Trav) : State := l.foldl (fun s x => s.endTrav x Code.TRV_ROLLED_BACK) s

/-- Ids that name one traverse each: what is left of the journal is its head. -/
theorem State.endQueued_journal {s : State} {t : Trav} {l : List Trav} (hj : s.trv.journal = t :: l) (hn : ((t :: l).map (·.id)).Nodup) :
    (s.endQueued l).trv.journal = [t] := by
  induction l generalizing s with
  | nil => exact hj
  | cons x l ih =>
    simp only [List.map_cons, List.nodup_cons, List.mem_cons, List.mem_map, not_or, not_exists, not_and] at hn
    obtain ⟨⟨htx, htl⟩, hxl, hl⟩ := hn
    have hkept : (t :: x :: l).filter (·.id != x.id) = t :: l := by
      have hrest : l.filter (·.id != x.id) = l := List.filter_eq_self.2 fun y hy => by simpa using fun h => hxl y hy h
      simp [htx, hrest]
    obtain ⟨hjournal, -⟩ := s.endTrav_trv x Code.TRV_ROLLED_BACK
    refine ih (s := s.endTrav x Code.TRV_ROLLED_BACK) ?_ ?_
    · rw [hjournal, hj, hkept]
    · simp only [List.map_cons, List.nodup_cons, List.mem_map, not_exists, not_and]
      exact ⟨htl, hl⟩

/-- The traverse as it reverses, with the code it ends with. -/
def Trav.reversing (t : Trav) (code : Nat) : Trav := { t with back := true, code := code, state := Ts.rolling, abortDue := false }

theorem Trav.reversing_remaining_isEmpty {t : Trav} {code : Nat} :
    (t.reversing code).remaining.isEmpty = true ↔ ∀ g, g ∈ t.stages → g.sstate ≠ Ss.committed := Trav.remaining_isEmpty

theorem State.reverse_eq (s : State) (t : Trav) (a code : Nat) : s.reverse t a code =
    if (t.reversing code).remaining.isEmpty then s.endTrav (t.reversing code) code
    else s.setHead (s.timeStages (t.reversing code) a) := rfl

section
variable {s : State} {t : Trav} (hj : s.trv.journal = [t]) (a code : Nat)
include hj

/-- With nothing committed, the reversal of the only traverse ends it, and the rollback with it. -/
theorem State.reverse_ends (hc : ∀ g, g ∈ t.stages → g.sstate ≠ Ss.committed) :
    (s.reverse t a code).trv.journal = [] ∧ (s.reverse t a code).trv.rollback = none := by
  have hempty : s.trv.journal.filter (·.id != (t.reversing code).id) = [] := by
    rw [hj]
    simp [Trav.reversing]
  obtain ⟨hjournal, hroll⟩ := s.endTrav_trv (t.reversing code) code
  rw [State.reverse_eq, if_pos (Trav.reversing_remaining_isEmpty.2 hc), hjournal, hroll, hempty]
  exact ⟨rfl, rfl⟩

/-- Committed stages are reversed: the only traverse runs back toward the code. -/
theorem State.reverse_rolls (hc : ∃ g, g ∈ t.stages ∧ g.sstate = Ss.committed) : (s.reverse t a code).trv.rollback = s.trv.rollback ∧
    ∃ h', (s.reverse t a code).trv.journal = [h'] ∧ h'.id = t.id ∧ h'.back = true ∧ h'.state = Ts.rolling ∧ h'.code = code := by
  have hleft : ¬ (t.reversing code).remaining.isEmpty = true := fun he => by
    obtain ⟨g, hg, hs⟩ := hc
    exact Trav.reversing_remaining_isEmpty.1 he g hg hs
  have hsame : (s.timeStages (t.reversing code) a).untimed = (t.reversing code).untimed := s.timeStages_untimed _ a
  obtain ⟨hjournal, -, -⟩ := State.setHead_journal hj (s.timeStages (t.reversing code) a)
  rw [State.reverse_eq, if_neg hleft]
  refine ⟨?_, _, hjournal, (congrArg Trav.id hsame :), (congrArg Trav.back hsame :), (congrArg Trav.state hsame :), (congrArg Trav.code hsame :)⟩
  rw [State.setHead, hj]

end

/-- A rollback begun: the queued traverses have ended, and its sender waits for the last one. -/
def State.rollbackBegun (s : State) (r : Requester) : State := { s.endQueued s.trv.journal.tail with trv.rollback := some r }

theorem State.rollbackBegun_journal {s : State} {t : Trav} {rest : List Trav} (hj : s.trv.journal = t :: rest)
    (hn : (s.trv.journal.map (·.id)).Nodup) (r : Requester) : (s.rollbackBegun r).trv.journal = [t] := by
  rw [hj] at hn
  have hqueued : (s.endQueued s.trv.journal.tail).trv.journal = [t] := by
    rw [hj]
    exact State.endQueued_journal hj hn
  exact hqueued

/-- What TRV_ROLLBACK does to a suspended traverse. -/
def State.rolledBack (s : State) (t : Trav) (r : Requester) : State :=
  (s.rollbackBegun r).reverse t (s.rollbackBegun r).now Code.TRV_ROLLED_BACK

theorem opTrvRollback_none {q : Req} {s : State} (h : s.suspendedHead = none) : opTrvRollback.body q s = (s, Code.TRV_NOT_SUSPENDED, []) := by
  simp only [opTrvRollback, opWarden, h]

theorem opTrvRollback_some {q : Req} {s : State} {t : Trav} (h : s.suspendedHead = some t) : opTrvRollback.body q s =
    if s.level = 4 then (s, Code.THM_THROTTLED, []) else (s.rolledBack t q.r, Code.ACCEPTED, []) := by
  simp only [opTrvRollback, opWarden, h]
  rfl

theorem opTrvRollback_params (q : Req) (s : State) : (opTrvRollback.body q s).2.2 = [] := by
  cases h : s.suspendedHead with
  | none => rw [opTrvRollback_none h]
  | some t =>
    rw [opTrvRollback_some h]
    split <;> rfl

theorem trvRollback_serves (s : State) (f : Frame) (hl : s.Live) : Serves (.trvRollback f) opTrvRollback f s fun w r v code params =>
    params = [] ∧
    ((∀ h rest, w.trv.journal = h :: rest → h.suspended = false) → code = Code.TRV_NOT_SUSPENDED ∧ v = w) ∧
    (∀ h rest, w.trv.journal = h :: rest → h.suspended = true →
      (w.level = 4 → code = Code.THM_THROTTLED ∧ v = w) ∧
      (w.level ≠ 4 → (w.trv.journal.map (·.id)).Nodup → code = Code.ACCEPTED ∧
        ((∀ g, g ∈ h.stages → g.sstate ≠ Ss.committed) → v.trv.journal = [] ∧ v.trv.rollback = none) ∧
        ((∃ g, g ∈ h.stages ∧ g.sstate = Ss.committed) → v.trv.rollback = some r ∧
          ∃ h', v.trv.journal = [h'] ∧ h'.id = h.id ∧ h'.back = true ∧ h'.state = Ts.rolling ∧ h'.code = Code.TRV_ROLLED_BACK))) := by
  refine serves_of rfl hl fun r _ w _ => ⟨opTrvRollback_params _ w, fun hnone => ?_, fun h rest hj hs => ?_⟩
  · rw [opTrvRollback_none (State.suspendedHead_eq_none hnone)]
    exact ⟨rfl, rfl⟩
  rw [opTrvRollback_some (State.suspendedHead_eq_some hj hs)]
  refine ⟨fun h4 => ?_, fun h4 hn => ?_⟩
  · rw [if_pos h4]
    exact ⟨rfl, rfl⟩
  · have hhead := State.rollbackBegun_journal hj hn r
    rw [if_neg h4]
    exact ⟨rfl, State.reverse_ends hhead _ _, State.reverse_rolls hhead _ _⟩

/-- Settles O31: timing, resumption and rollback, each by its own lemma. -/
theorem traversesAreTimedResumedAndRolledBack : Obligations.TraversesAreTimedResumedAndRolledBack :=
  ⟨traverseTimed_leaves, trvResume_serves, trvRollback_serves⟩

end Sys2Proof.Machine
end

section
/-!
PROOFS. The element law of a frame: pairs, the closed loop and PIN_TRIM (R236 to R242), and O33.
-/
namespace Sys2Proof.Machine

/-! ## Pairs (R236, R238) -/

/-- A record a frame later, before its pair is looked at: both stored pairs have aged (R236). -/
def ElemRec.older (r : ElemRec) : ElemRec := { r with ageH := min 255 (r.ageH + 1), ageP := min 255 (r.ageP + 1) }

section
variable {cx : LawCx} {h : Nat} {pin neg : Bool} {p : Pair} {r : ElemRec}

theorem takePair_missing (hm : p.missing = true) : takePair cx h pin neg p r = ({ r.older with lowlight := r.lowlight || p.low }, none) :=
  if_pos hm

theorem takePair_pin (hm : p.missing = false) : (takePair cx h true neg p r).1 =
    { r.older with lowlight := false, wLast := p.rawW, ageP := 0, ratPin := p.ratio, psign := neg } := by
  simp only [takePair, hm, Bool.false_eq_true, if_false, if_true]
  rfl

theorem takePair_home (hm : p.missing = false) : (takePair cx h false neg p r).1 =
    { r.older with lowlight := false, wLast := p.rawW, ageH := 0, ratHome := p.ratio, hsign := neg } := by
  simp only [takePair, hm, Bool.false_eq_true, if_false]
  rfl

/-- An error needs dither and a stored pair of the other sign (R238). -/
theorem takePair_error (hm : p.missing = false) (he : (takePair cx h pin neg p r).2.isSome = true) :
    cx.dithEn = true ∧ (if pin then r.psign else r.hsign) ≠ neg := by
  simp only [takePair, hm, Bool.false_eq_true, if_false, Option.isSome_ite, Bool.and_eq_true, bne_iff_ne] at he
  obtain ⟨⟨⟨hdith, -⟩, hsign⟩, -⟩ := he
  exact ⟨hdith, hsign⟩

end

theorem takePair_stores (cx : LawCx) (h : Nat) (pin neg : Bool) (p : Pair) (r : ElemRec) :
    let x := takePair cx h pin neg p r
    (p.missing = true → x.2 = none ∧ x.1.ratHome = r.ratHome ∧ x.1.ratPin = r.ratPin ∧ x.1.hsign = r.hsign ∧ x.1.psign = r.psign ∧
      x.1.ageH = min 255 (r.ageH + 1) ∧ x.1.ageP = min 255 (r.ageP + 1) ∧ x.1.integ = r.integ ∧ x.1.lowlight = (r.lowlight || p.low)) ∧
    (p.missing = false → x.1.lowlight = false ∧
      (pin = true → x.1.ratPin = p.ratio ∧ x.1.psign = neg ∧ x.1.ageP = 0 ∧ x.1.ratHome = r.ratHome ∧ x.1.ageH = min 255 (r.ageH + 1)) ∧
      (pin = false → x.1.ratHome = p.ratio ∧ x.1.hsign = neg ∧ x.1.ageH = 0 ∧ x.1.ratPin = r.ratPin ∧ x.1.ageP = min 255 (r.ageP + 1)) ∧
      (x.2.isSome = true → cx.dithEn = true ∧ (if pin then r.psign else r.hsign) ≠ neg)) := by
  refine ⟨fun hm => ?_, fun hm => ⟨?_, ?_, ?_, takePair_error hm⟩⟩
  · rw [takePair_missing hm]
    exact ⟨rfl, rfl, rfl, rfl, rfl, rfl, rfl, rfl, rfl⟩
  · cases pin with
    | true => rw [takePair_pin hm]
    | false => rw [takePair_home hm]
  · rintro rfl
    rw [takePair_pin hm]
    exact ⟨rfl, rfl, rfl, rfl, rfl⟩
  · rintro rfl
    rw [takePair_home hm]
    exact ⟨rfl, rfl, rfl, rfl, rfl⟩

/-! ## The closed loop (R239, R240) -/

/-- INTEG with the error of a frame taken in. -/
def State.integrated (s : State) (cx : LawCx) (e : Nat) (errH : Int) : Int := (s.elem e).integ + roundDiv (cx.ki * errH) 4096

/-- The heater target that the law asks for. -/
def State.asked (s : State) (cx : LawCx) (e : Nat) (errH ffx : Int) : Int :=
  s.phiNow e (s.elem e).home + s.integrated cx e errH + roundDiv (cx.kp * errH) 4096 + ffx

/-- A target as far as the span of the element and STEP_MAX allow. -/
def State.limited (s : State) (cx : LawCx) (e : Nat) (u : Int) : Int :=
  max ((s.elem e).htr - cx.step) (min ((s.elem e).htr + cx.step) (s.toSpan e u))

theorem State.limited_within_step (s : State) (cx : LawCx) (e : Nat) (u : Int) :
    s.limited cx e u - (s.elem e).htr ≤ cx.step ∧ (s.elem e).htr - s.limited cx e u ≤ cx.step := by
  unfold State.limited
  omega

/-- A target is clamped exactly where it lies outside the span or further than STEP_MAX away. -/
theorem State.limited_ne_iff (s : State) (cx : LawCx) (e : Nat) (u : Int) : ¬ (s.toSpan e u = u ∧ s.limited cx e u = u) ↔
    s.toSpan e u ≠ u ∨ u < (s.elem e).htr - cx.step ∨ (s.elem e).htr + cx.step < u := by
  unfold State.limited
  omega

section
variable {s : State} {cx : LawCx} {e : Nat} {errH ffx : Int}

theorem State.closedLoop_eq : s.closedLoop cx e errH ffx false =
    let u := s.asked cx e errH ffx
    let w := s.toSpan e u
    let v := s.limited cx e u
    if w = u ∧ v = u then (s.integrated cx e errH, u, false)
    else (if ((v < u ∨ w < u) ∧ 0 < errH) ∨ ((u < v ∨ u < w) ∧ errH < 0) then (s.elem e).integ else s.integrated cx e errH, v, true) := rfl

theorem State.closedLoop_clamped : (s.closedLoop cx e errH ffx false).2.2 = true ↔
    ¬ (s.toSpan e (s.asked cx e errH ffx) = s.asked cx e errH ffx ∧ s.limited cx e (s.asked cx e errH ffx) = s.asked cx e errH ffx) := by
  rw [State.closedLoop_eq]
  dsimp only
  split
  next h => exact ⟨nofun, fun hc => absurd h hc⟩
  next h => exact ⟨fun _ => h, fun _ => rfl⟩

theorem State.closedLoop_target : (s.closedLoop cx e errH ffx false).2.1 = s.limited cx e (s.asked cx e errH ffx) := by
  rw [State.closedLoop_eq]
  dsimp only
  split
  next h => exact h.2.symm
  next => rfl

theorem State.closedLoop_free (h : (s.closedLoop cx e errH ffx false).2.2 = false) :
    (s.closedLoop cx e errH ffx false).1 = s.integrated cx e errH ∧ (s.closedLoop cx e errH ffx false).2.1 = s.asked cx e errH ffx := by
  rw [State.closedLoop_eq] at h ⊢
  dsimp only at h ⊢
  split at h
  next hfree => rw [if_pos hfree]; exact ⟨rfl, rfl⟩
  next => cases h

/-- An error that pushes beyond the clamp leaves INTEG (R240). -/
theorem State.closedLoop_holds_integ (hc : (s.closedLoop cx e errH ffx false).2.2 = true)
    (hpush : 0 < errH ∧ s.limited cx e (s.asked cx e errH ffx) < s.asked cx e errH ffx ∨
      errH < 0 ∧ s.asked cx e errH ffx < s.limited cx e (s.asked cx e errH ffx)) :
    (s.closedLoop cx e errH ffx false).1 = (s.elem e).integ := by
  rw [State.closedLoop_eq]
  dsimp only
  rw [if_neg (State.closedLoop_clamped.1 hc), if_pos (hpush.imp (fun h => ⟨.inl h.2, h.1⟩) fun h => ⟨.inl h.2, h.1⟩)]

end

theorem closedLoop_clamps (s : State) (cx : LawCx) (e : Nat) (errH ffx : Int) :
    let x := s.elem e
    let r := s.closedLoop cx e errH ffx false
    let u := s.phiNow e x.home + (x.integ + roundDiv (cx.ki * errH) 4096) + roundDiv (cx.kp * errH) 4096 + ffx
    (r.2.1 - x.htr ≤ cx.step ∧ x.htr - r.2.1 ≤ cx.step) ∧ (r.2.2 = false → r.2.1 = u) ∧
    (r.2.2 = true ↔ s.toSpan e u ≠ u ∨ u < x.htr - cx.step ∨ x.htr + cx.step < u) ∧
    (r.2.2 = true → (0 < errH ∧ r.2.1 < u ∨ errH < 0 ∧ u < r.2.1) → r.1 = x.integ) ∧
    (r.2.2 = false → r.1 = x.integ + roundDiv (cx.ki * errH) 4096) := by
  intro x r u
  have htarget : r.2.1 = s.limited cx e u := State.closedLoop_target
  refine ⟨?_, fun h => (State.closedLoop_free h).2, State.closedLoop_clamped.trans (s.limited_ne_iff cx e u), fun hc hpush => ?_,
    fun h => (State.closedLoop_free h).1⟩
  · rw [htarget]
    exact s.limited_within_step cx e u
  · rw [htarget] at hpush
    exact State.closedLoop_holds_integ hc hpush

/-! ## PIN_TRIM (R242) -/

theorem nextTrim_within_max (s : State) (cx : LawCx) (e : Nat) (r : ElemRec) (v : Int) :
    let x := s.nextTrim cx e r (some v)
    0 ≤ x.1 + cx.trimMax ∧ x.1 ≤ cx.trimMax ∧ (r.trimmed = true → x.2.2 = true) := by
  refine ⟨?_, ?_, fun h => ?_⟩
  · simp only [State.nextTrim]
    omega
  · simp only [State.nextTrim]
    omega
  · simp only [State.nextTrim, h, Bool.true_or]

/-- Settles O33, clause by clause. -/
theorem loopLawHoldsClampsAndTrims : Obligations.LoopLawHoldsClampsAndTrims :=
  ⟨takePair_stores, closedLoop_clamps, nextTrim_within_max, fun _ _ _ _ => rfl⟩

end Sys2Proof.Machine
end

section
/-!
PROOFS. What the loop registers of a tile hold after a write, and the start of its loops (R237, R257).
-/
namespace Sys2Proof.Machine

/-! ## Fields of `TILE_LP_CTL` and `TILE_LP_PERIOD` -/

section
variable (n : Nat)

theorem lpEnable_ok : (R.TILE_LP_CTL_ENABLE n).ok := ⟨Nat.le_refl 0, show 0 < 32 by decide⟩

theorem lpRefuse_ok : (R.TILE_LP_CTL_REFUSE n).ok := ⟨show 16 ≤ 31 by decide, show 31 < 32 by decide⟩

theorem pUse_ok : (R.TILE_LP_PERIOD_P_USE n).ok := ⟨show 16 ≤ 19 by decide, show 19 < 32 by decide⟩

theorem pSet_ok : (R.TILE_LP_PERIOD_P_SET n).ok := ⟨Nat.zero_le 3, show 3 < 32 by decide⟩

theorem lpRefuse_apart_lpEnable : (R.TILE_LP_CTL_REFUSE n).apart (R.TILE_LP_CTL_ENABLE n) := .inr (.inr (show 0 < 16 by decide))

theorem pUse_apart_pSet : (R.TILE_LP_PERIOD_P_USE n).apart (R.TILE_LP_PERIOD_P_SET n) := .inr (.inr (show 3 < 16 by decide))

theorem pSet_apart_pUse : (R.TILE_LP_PERIOD_P_SET n).apart (R.TILE_LP_PERIOD_P_USE n) := .inr (.inl (show 3 < 16 by decide))

theorem lpPeriod_ne_lpCtl : R.TILE_LP_PERIOD n ≠ R.TILE_LP_CTL n := by
  unfold R.TILE_LP_PERIOD R.TILE_LP_CTL
  omega

theorem lpPeriod_ne_lpFn : R.TILE_LP_PERIOD n ≠ R.TILE_LP_FN n := by
  unfold R.TILE_LP_PERIOD R.TILE_LP_FN
  omega

theorem lpCtl_not_mem_start : R.TILE_LP_CTL n ∉ [R.TILE_LP_PERIOD n, R.TILE_LP_FN n] := by
  simp only [R.TILE_LP_CTL, R.TILE_LP_PERIOD, R.TILE_LP_FN, List.mem_cons, List.not_mem_nil, or_false]
  omega

end

/-! ## Writes taken -/

theorem lpCtl_fields : ∀ n : Fin 20, fieldsAt (R.TILE_LP_CTL n) =
    [⟨31, 16, .ro, 0⟩, ⟨12, 8, .rw, 0x10⟩, ⟨4, 4, .rw, 0⟩, ⟨3, 3, .rw, 1⟩, ⟨2, 2, .rw, 1⟩, ⟨1, 1, .rw, 1⟩, ⟨0, 0, .rw, 0⟩] := by
  decide +kernel

theorem lpPeriod_fields : ∀ n : Fin 20, fieldsAt (R.TILE_LP_PERIOD n) = [⟨19, 16, .ro, 2⟩, ⟨3, 0, .rw, 2⟩] := by decide +kernel

/-- ENABLE is the last field that a write of `TILE_LP_CTL` takes. -/
theorem State.take_lpEnable (s : State) (n : Fin 20) (v : Word) : (s.take (R.TILE_LP_CTL n) v).flag (R.TILE_LP_CTL_ENABLE n) = bit v 0 := by
  rw [State.flag, State.get, show R.TILE_LP_CTL_ENABLE n = ⟨R.TILE_LP_CTL n, 0, 0⟩ from rfl, State.rd_take_self, lpCtl_fields]
  simp only [writeFields, List.foldl_cons, List.foldl_nil]
  rw [bits_setBits_self _ _ _ _ (by decide) (by decide), Nat.mod_eq_of_lt (bits_lt v 0 0)]
  rfl

/-- P_SET is the one field of `TILE_LP_PERIOD` that a write takes. -/
theorem State.take_lpPeriod (s : State) (n : Fin 20) (v : Word) :
    s.take (R.TILE_LP_PERIOD n) v = s.put (R.TILE_LP_PERIOD_P_SET n) (bits v 3 0) := by
  rw [State.take, lpPeriod_fields]
  rfl

/-! ## REFUSE (R259) -/

theorem State.lpTaken_touches (s : State) (n : Nat) {ps : List Part} {rs : List Nat} (h : R.TILE_LP_CTL n ∈ rs) : s.Touches (s.lpTaken n) ps rs :=
  .put s _ _ h

theorem State.lpTaken_elem (s : State) (n e : Nat) : (s.lpTaken n).elem e = s.elem e := s.put_elem _ _ _

theorem State.lpTaken_tile (s : State) (n k : Nat) : (s.lpTaken n).tile k = s.tile k := s.put_tile _ _ _

theorem State.lpTaken_cell (s : State) (n pos : Nat) : (s.lpTaken n).cell pos = s.cell pos := s.put_cell _ _ _

theorem State.lpTaken_refuse (s : State) (n : Nat) : (s.lpTaken n).get (R.TILE_LP_CTL_REFUSE n) = 0 :=
  s.get_put_self _ _ (lpRefuse_ok n)

theorem State.lpTaken_enable (s : State) (n : Nat) : (s.lpTaken n).flag (R.TILE_LP_CTL_ENABLE n) = s.flag (R.TILE_LP_CTL_ENABLE n) :=
  s.flag_put_apart _ _ _ (lpRefuse_ok n) (lpEnable_ok n) (lpRefuse_apart_lpEnable n)

/-! ## Elements that start (R237) -/

/-- An element starts in DARKHOLD: home as its cell stands, no belay, no output computed. -/
def State.startElem (s : State) (e : Nat) : State :=
  s.setElem e { s.elem e with home := s.cell (posOf e), dflip := false, belay := none, belayDue := false, out := none, stale := false }

def State.startElems (s : State) (n : Nat) : State := (tileElems n).foldl State.startElem s

/-- What holds of an element that has started. -/
def State.Started (e : Nat) (s : State) : Prop :=
  (s.elem e).home = s.cell (posOf e) ∧ (s.elem e).belay = none ∧ (s.elem e).stale = false ∧ (s.elem e).dflip = false

theorem State.startElem_own (s : State) (e : Nat) : (s.startElem e).Started e := by
  rw [State.Started, State.startElem, State.elem_setElem_self]
  exact ⟨rfl, rfl, rfl, rfl⟩

theorem State.startElem_other (s : State) {x e : Nat} (h : e ≠ x) : (s.startElem x).elem e = s.elem e := s.elem_setElem_other _ h

theorem State.startElem_kept (s : State) (x e : Nat) (h : s.Started e) : (s.startElem x).Started e := by
  by_cases hx : e = x
  · exact hx ▸ s.startElem_own x
  · unfold State.Started
    rw [s.startElem_other hx]
    exact h

theorem mem_tileElems {n e : Nat} : e ∈ tileElems n ↔ tileOf e = n := by
  simp only [tileElems, tileFirst, tileOf, List.mem_map, List.mem_range]
  constructor
  · rintro ⟨l, hl, rfl⟩
    omega
  · exact fun h => ⟨e % 4096, by omega, by omega⟩

section
variable (s : State) (n : Nat)

theorem State.startElems_touches : s.Touches (s.startElems n) [.fab] [] := .foldl (fun u _ _ => .with_fab u _ (by decide)) s

theorem State.startElems_cell (pos : Nat) : (s.startElems n).cell pos = s.cell pos :=
  List.foldlRecOn (tileElems n) State.startElem (motive := fun t : State => t.cell pos = s.cell pos) rfl fun _ ht _ _ => ht

theorem State.startElems_started {e : Nat} (h : tileOf e = n) : (s.startElems n).Started e :=
  foldl_establishes State.startElem_own State.startElem_kept (mem_tileElems.2 h) s

theorem State.startElems_other {e : Nat} (h : tileOf e ≠ n) : (s.startElems n).elem e = s.elem e :=
  List.foldlRecOn (tileElems n) State.startElem (motive := fun t : State => t.elem e = s.elem e) rfl fun t ht x hx =>
    (t.startElem_other (show e ≠ x from fun c => h (mem_tileElems.1 (c ▸ hx)))).trans ht

/-! ## Loops that start (R257) -/

/-- P_USE takes P_SET, and FN starts again. -/
def State.startPeriod : State := (s.put (R.TILE_LP_PERIOD_P_USE n) (s.get (R.TILE_LP_PERIOD_P_SET n))).wr (R.TILE_LP_FN n) 0

theorem State.startPeriod_elem (e : Nat) : (s.startPeriod n).elem e = s.elem e := by rw [State.startPeriod, State.wr_elem, State.put_elem]

theorem State.startPeriod_cell (pos : Nat) : (s.startPeriod n).cell pos = s.cell pos := by rw [State.startPeriod, State.wr_cell, State.put_cell]

/-- The tile with no frame behind it, its dither signs in force. -/
def State.freshTile : State := s.setTile n { s.tile n with missed := [], mirrorK := 0, signed := true }

theorem State.freshTile_elem (e : Nat) : (s.freshTile n).elem e = s.elem e := rfl

theorem State.startLoops_eq : s.startLoops n = ((s.startPeriod n).startElems n).freshTile n := rfl

theorem State.startPeriod_touches : s.Touches (s.startPeriod n) [] [R.TILE_LP_PERIOD n, R.TILE_LP_FN n] :=
  (State.Touches.put s _ _ (.head _)).trans (.wr _ _ _ (.tail _ (.head _)))

theorem State.startLoops_after_period : (s.startPeriod n).Touches (s.startLoops n) [.fab, .tiles] [] :=
  (((s.startPeriod n).startElems_touches n).mono (by decide) (by simp)).trans (.setTile _ _ _ (by decide))

theorem State.startLoops_touches : s.Touches (s.startLoops n) [.fab, .tiles] [R.TILE_LP_PERIOD n, R.TILE_LP_FN n] :=
  ((s.startPeriod_touches n).mono (by simp) fun _ h => h).trans ((s.startLoops_after_period n).mono (fun _ h => h) (by simp))

theorem State.startLoops_period : (s.startLoops n).get (R.TILE_LP_PERIOD_P_USE n) = s.get (R.TILE_LP_PERIOD_P_SET n) := by
  have hfn : (s.startPeriod n).rd (R.TILE_LP_PERIOD n) = _ := State.rd_wr_other _ _ (lpPeriod_ne_lpFn n)
  rw [(s.startLoops_after_period n).get (by simp) (lpReg_not_evtReg (.inl rfl))]
  calc (s.startPeriod n).get (R.TILE_LP_PERIOD_P_USE n)
      = (s.put (R.TILE_LP_PERIOD_P_USE n) (s.get (R.TILE_LP_PERIOD_P_SET n))).get (R.TILE_LP_PERIOD_P_USE n) :=
        congrArg (fun w => bits w 19 16) hfn
    _ = s.get (R.TILE_LP_PERIOD_P_SET n) := s.get_put_fits _ _ (pUse_ok n) (s.get_lt (R.TILE_LP_PERIOD_P_SET n))

theorem lpFn_not_evtReg : ¬ evtReg (R.TILE_LP_FN n) := by
  simp only [evtReg, R.TILE_LP_FN, tileBase, R.EVT_HEAD, R.EVT_FLUSHED, R.EVT_LOST, R.EVT_TILE_LOST, R.EVT_PEND]
  omega

theorem State.startLoops_fn : (s.startLoops n).rd (R.TILE_LP_FN n) = 0 := by
  obtain ⟨-, -, hrd⟩ := s.startLoops_after_period n
  rw [hrd _ (by simp) fun c => lpFn_not_evtReg n c.2]
  exact State.rd_wr_self _ _ _

theorem State.startLoops_elem (e : Nat) : (s.startLoops n).elem e = ((s.startPeriod n).startElems n).elem e := by
  rw [State.startLoops_eq, State.freshTile_elem]

theorem State.startLoops_elem_other {e : Nat} (h : tileOf e ≠ n) : (s.startLoops n).elem e = s.elem e := by
  rw [State.startLoops_elem, State.startElems_other _ n h, State.startPeriod_elem]

/-- An element of the tile starts with the dither sign of its index (R237). -/
theorem State.startLoops_started {e : Nat} (h : tileOf e = n) : ((s.startLoops n).elem e).home = s.cell (posOf e) ∧
    ((s.startLoops n).elem e).belay = none ∧ ((s.startLoops n).elem e).stale = false ∧ (s.startLoops n).dsign e = (e % 2 == 1) := by
  obtain ⟨hhome, hbelay, hstale, hflip⟩ := (s.startPeriod n).startElems_started n h
  rw [State.startElems_cell, State.startPeriod_cell] at hhome
  have hsigned : ((s.startLoops n).tile (tileOf e)).signed = true := by
    rw [h, State.startLoops_eq, State.freshTile, State.tile_setTile_self]
  rw [State.dsign, hsigned, State.startLoops_elem, hflip, Bool.true_and, Bool.bne_false]
  exact ⟨hhome, hbelay, hstale, rfl⟩

end

end Sys2Proof.Machine
end

section
/-!
PROOFS. Writes of `TILE_LP_CTL`, `TILE_LP_PERIOD`, the loop parameters and the crosstalk table (R248, R250, R257 to R259, R340, R538): the
clauses of O35, with the elements of a tile numbered in `Nat`.
-/
namespace Sys2Proof.Machine

/-! ## Writes of `TILE_LP_CTL` (R250, R257, R258) -/

/-- Something on the tile keeps its loops from being turned off (R258). -/
def State.lpBusy (s : State) (n : Nat) : Bool :=
  s.flag R.EPO_CTL_ENABLE || s.anyElem n 0 4096 fun s e => s.carries e || s.status e == 1 || s.status e == 4

theorem State.lpBusy_iff (s : State) (n : Nat) : s.lpBusy n = true ↔ s.flag R.EPO_CTL_ENABLE = true ∨ ∃ l, l < 4_096 ∧
    (s.carries (n * 4_096 + l) = true ∨ s.status (n * 4_096 + l) = 1 ∨ s.status (n * 4_096 + l) = 4) := by
  simp only [State.lpBusy, State.anyElem, Bool.or_eq_true, List.any_eq_true, List.mem_range, beq_iff_eq, Nat.add_zero, or_assoc]

/-- The conditions of R257 with their codes, in order. -/
def State.enableChecks (s : State) (n nb : Nat) : List (Bool × Nat) :=
  let p := s.get (R.TILE_LP_PERIOD_P_SET n)
  [(!(decide (1 ≤ p) && decide (p ≤ 8)), Code.CFG_PERIOD_RANGE),
   (!(s.tblValid n && lawId (s.image n true) (s.get (R.TILE_LP_UCODE_LAW_SET n)) != 0), Code.CFG_LOOP_TABLES),
   (!s.budget250 n p nb 0, Code.CFG_FRAME_BUDGET)]

/-- The first of three conditions that fails decides. -/
theorem find?_three_elim {α : Type} (a b c : Bool) (x y z : Nat) (d : α) (f : Bool × Nat → α) : ([(a, x), (b, y), (c, z)].find? (·.1)).elim d f =
    if a then f (a, x) else if b then f (b, y) else if c then f (c, z) else d := by
  cases a <;> cases b <;> cases c <;> rfl

theorem periodInRange_not (p : Nat) : (!(decide (1 ≤ p) && decide (p ≤ 8))) = true ↔ p < 1 ∨ 8 < p := by
  simp only [Bool.not_eq_true', Bool.and_eq_false_iff, decide_eq_false_iff_not, Nat.not_le]

theorem State.lpEnableCheck_eq (s : State) (n nb : Nat) : s.lpEnableCheck n nb =
    ((s.enableChecks n nb).find? (·.1)).elim none fun x => some x.2 := by
  rw [State.enableChecks, find?_three_elim, State.lpEnableCheck]
  refine if_congr (periodInRange_not _).symm rfl (if_congr ?_ rfl ?_)
  · simp only [Bool.not_eq_true', Bool.and_eq_false_iff, bne_eq_false_iff_eq]
  · cases s.budget250 n (s.get (R.TILE_LP_PERIOD_P_SET n)) nb 0 <;> rfl

section
variable {s : State} {n : Fin 20} {v : Word}

theorem doTileLpCtlWrite_inUse (h : s.flag (R.TILE_LP_CTL_ENABLE n) = true ∧ bit v 0 = false ∧ s.lpBusy n = true) :
    doTileLpCtlWrite n v s = s.lpRefuse n Code.CFG_TILE_IN_USE := by
  obtain ⟨hwas, hon, hbusy⟩ := h
  exact if_pos (by rw [hwas, hon]; exact hbusy)

/-- A write that does not turn off a tile in use is judged by its NB and its checks (R250, R257). -/
theorem doTileLpCtlWrite_judged (h : ¬ (s.flag (R.TILE_LP_CTL_ENABLE n) = true ∧ bit v 0 = false ∧ s.lpBusy n = true)) :
    doTileLpCtlWrite n v s =
      let sets := !s.flag (R.TILE_LP_CTL_ENABLE n) && bit v 0
      if 16 < bits v 12 8 then s.lpRefuse n Code.CFG_LOOP_PARAM
      else if sets then
        (s.lpEnableCheck n (bits v 12 8)).elim (((s.take (R.TILE_LP_CTL n) v).lpTaken n).startLoops n)
          (((s.take (R.TILE_LP_CTL n) v).put (R.TILE_LP_CTL_ENABLE n) 0).lpRefuse n)
      else if bits v 12 8 != s.get (R.TILE_LP_CTL_NB n) && !s.budget250 n (s.get (R.TILE_LP_PERIOD_P_SET n)) (bits v 12 8) 0 then
        s.lpRefuse n Code.CFG_FRAME_BUDGET
      else (s.take (R.TILE_LP_CTL n) v).lpTaken n := by
  have hfree : (s.flag (R.TILE_LP_CTL_ENABLE n) && !bit v 0 && s.lpBusy n) ≠ true := by
    simpa only [ne_eq, Bool.and_eq_true, Bool.not_eq_true', and_assoc] using h
  dsimp only [doTileLpCtlWrite]
  refine (if_neg hfree).trans (if_congr Iff.rfl rfl ?_)
  cases (!s.flag (R.TILE_LP_CTL_ENABLE n) && bit v 0) with
  | true => cases s.lpEnableCheck n (bits v 12 8) <;> simp only [if_true, Option.elim]
  | false =>
    cases bits v 12 8 != s.get (R.TILE_LP_CTL_NB n) && !s.budget250 n (s.get (R.TILE_LP_PERIOD_P_SET n)) (bits v 12 8) 0 <;>
      simp only [Bool.false_eq_true, if_false, if_true]

theorem doTileLpCtlWrite_badNb (h : ¬ (s.flag (R.TILE_LP_CTL_ENABLE n) = true ∧ bit v 0 = false ∧ s.lpBusy n = true)) (hnb : 16 < bits v 12 8) :
    doTileLpCtlWrite n v s = s.lpRefuse n Code.CFG_LOOP_PARAM := (doTileLpCtlWrite_judged h).trans (if_pos hnb)

theorem doTileLpCtlWrite_sets (hnb : bits v 12 8 ≤ 16) (hwas : s.flag (R.TILE_LP_CTL_ENABLE n) = false) (hon : bit v 0 = true) :
    doTileLpCtlWrite n v s = ((s.enableChecks n (bits v 12 8)).find? (·.1)).elim (((s.take (R.TILE_LP_CTL n) v).lpTaken n).startLoops n)
      fun x => ((s.take (R.TILE_LP_CTL n) v).put (R.TILE_LP_CTL_ENABLE n) 0).lpRefuse n x.2 := by
  rw [doTileLpCtlWrite_judged (by simp [hwas])]
  dsimp only
  rw [if_neg hnb.not_gt, hwas, hon, State.lpEnableCheck_eq]
  cases (s.enableChecks n (bits v 12 8)).find? (·.1) <;> rfl

theorem doTileLpCtlWrite_keeps (h : ¬ (s.flag (R.TILE_LP_CTL_ENABLE n) = true ∧ bit v 0 = false ∧ s.lpBusy n = true))
    (hnb : bits v 12 8 ≤ 16) (hsets : s.flag (R.TILE_LP_CTL_ENABLE n) = true ∨ bit v 0 = false) : doTileLpCtlWrite n v s =
      if bits v 12 8 ≠ s.get (R.TILE_LP_CTL_NB n) ∧ s.budget250 n (s.get (R.TILE_LP_PERIOD_P_SET n)) (bits v 12 8) 0 = false then
        s.lpRefuse n Code.CFG_FRAME_BUDGET
      else (s.take (R.TILE_LP_CTL n) v).lpTaken n := by
  have hno : (!s.flag (R.TILE_LP_CTL_ENABLE n) && bit v 0) = false := by
    rcases hsets with h | h <;> simp [h]
  rw [doTileLpCtlWrite_judged h]
  dsimp only
  rw [if_neg hnb.not_gt, hno, if_neg Bool.false_ne_true]
  simp only [Bool.and_eq_true, bne_iff_ne, Bool.not_eq_true']

end

theorem lpStart_leaves (s : State) (n : Fin 20) (v : Word) (hon : bit v 0 = true) :
    let t := ((s.take (R.TILE_LP_CTL n) v).lpTaken n).startLoops n
    t.flag (R.TILE_LP_CTL_ENABLE n) = true ∧ t.get (R.TILE_LP_CTL_REFUSE n) = 0 ∧
    t.get (R.TILE_LP_PERIOD_P_USE n) = s.get (R.TILE_LP_PERIOD_P_SET n) ∧ t.rd (R.TILE_LP_FN n) = 0 ∧
    (∀ l : Nat, l < 4_096 → let e := n * 4_096 + l
      (t.elem e).home = s.cell (posOf e) ∧ (t.elem e).belay = none ∧ (t.elem e).stale = false ∧ t.dsign e = (l % 2 == 1)) ∧
    (∀ e, tileOf e ≠ n.val → t.elem e = s.elem e) ∧ s.Touches t [.fab, .tiles] [R.TILE_LP_CTL n, R.TILE_LP_PERIOD n, R.TILE_LP_FN n] := by
  set u := (s.take (R.TILE_LP_CTL n) v).lpTaken n with hu
  have htaken : s.Touches u [] [R.TILE_LP_CTL n] := (State.Touches.take s _ _ (.head _)).trans (State.lpTaken_touches _ _ (.head _))
  have hstart := u.startLoops_touches n
  have hctl : ¬ evtReg (R.TILE_LP_CTL n) := lpReg_not_evtReg (.inr rfl)
  intro t
  refine ⟨?_, ?_, ?_, u.startLoops_fn n, fun l hl => ?_, fun e he => ?_, ?_⟩
  · rw [hstart.flag (lpCtl_not_mem_start n) hctl, hu, State.lpTaken_enable, State.take_lpEnable, hon]
  · rw [hstart.get (lpCtl_not_mem_start n) hctl]
    exact State.lpTaken_refuse _ _
  · exact (u.startLoops_period n).trans
      (htaken.get (f := R.TILE_LP_PERIOD_P_SET n) (fun h => lpPeriod_ne_lpCtl n (List.mem_singleton.1 h)) (lpReg_not_evtReg (.inl rfl)))
  · have htile : tileOf (n * 4_096 + l) = n := by
      unfold tileOf
      omega
    obtain ⟨hhome, hbelay, hstale, hsign⟩ := u.startLoops_started n htile
    refine ⟨?_, hbelay, hstale, ?_⟩
    · rw [hhome, hu, State.lpTaken_cell, State.take_cell]
    · rw [hsign, show (n * 4_096 + l) % 2 = l % 2 by omega]
  · rw [u.startLoops_elem_other n he, hu, State.lpTaken_elem, State.take_elem]
  · exact (htaken.mono (by simp) (by simp)).trans (hstart.mono (fun _ h => h) (by simp))

/-- As O35 has it but for the type of `l`, which its text leaves to be inferred. -/
theorem tileLpCtlWrite_leaves (s : State) (n : Fin 20) (v : Word) (hs : s.Served) : Leaves (.tileLpCtlWrite n v) s fun t =>
    let was := s.flag (R.TILE_LP_CTL_ENABLE n)
    let on := bit v 0
    let nb := bits v 12 8
    let p := s.get (R.TILE_LP_PERIOD_P_SET n)
    let no (u : State) (code : Nat) : State := u.refuse (R.TILE_LP_CTL_REFUSE n) (Ev.loopConfigurationRefused n) code
    let fits : Bool := decide ((4_096 * (32 + 2 * nb) + 24_000) * 20 ≤
      19 * (240_000 * p - if s.get (R.TILE_OWNER_OWNER n) = 1 ∨ s.get (R.TILE_OWNER_OWNER n) = 2 then 19_200 else 0))
    let busy : Prop := s.flag R.EPO_CTL_ENABLE = true ∨ ∃ l, l < 4_096 ∧
      (s.carries (n * 4_096 + l) = true ∨ s.status (n * 4_096 + l) = 1 ∨ s.status (n * 4_096 + l) = 4)
    let checks : List (Bool × Nat) := [(!(decide (1 ≤ p) && decide (p ≤ 8)), Code.CFG_PERIOD_RANGE),
      (!(s.tblValid n && lawId (s.image n true) (s.get (R.TILE_LP_UCODE_LAW_SET n)) != 0), Code.CFG_LOOP_TABLES), (!fits, Code.CFG_FRAME_BUDGET)]
    let inUse : Prop := was = true ∧ on = false ∧ busy
    (inUse → t = no s Code.CFG_TILE_IN_USE) ∧ (¬ inUse → 16 < nb → t = no s Code.CFG_LOOP_PARAM) ∧
    (nb ≤ 16 → was = false → on = true →
      (∀ x, checks.find? (·.1) = some x → t = no ((s.take (R.TILE_LP_CTL n) v).put (R.TILE_LP_CTL_ENABLE n) 0) x.2) ∧
      (checks.find? (·.1) = none → t.flag (R.TILE_LP_CTL_ENABLE n) = true ∧ t.get (R.TILE_LP_CTL_REFUSE n) = 0 ∧
        t.get (R.TILE_LP_PERIOD_P_USE n) = p ∧ t.rd (R.TILE_LP_FN n) = 0 ∧
        (∀ l : Nat, l < 4_096 → let e := n * 4_096 + l
          (t.elem e).home = s.cell (posOf e) ∧ (t.elem e).belay = none ∧ (t.elem e).stale = false ∧ t.dsign e = (l % 2 == 1)) ∧
        (∀ e, tileOf e ≠ n.val → t.elem e = s.elem e) ∧ s.Touches t [.fab, .tiles] [R.TILE_LP_CTL n, R.TILE_LP_PERIOD n, R.TILE_LP_FN n])) ∧
    (¬ inUse → nb ≤ 16 → (was = true ∨ on = false) →
      if nb ≠ s.get (R.TILE_LP_CTL_NB n) ∧ fits = false then t = no s Code.CFG_FRAME_BUDGET
      else t = (s.take (R.TILE_LP_CTL n) v).put (R.TILE_LP_CTL_REFUSE n) 0) := by
  refine leaves_bar _ rfl hs ?_
  intro was on nb p no fits busy checks inUse
  have hfits : fits = s.budget250 n p nb 0 := rfl
  have hchecks : checks = s.enableChecks n nb := rfl
  have hinUse : inUse ↔ was = true ∧ on = false ∧ s.lpBusy n = true := and_congr_right' (and_congr_right' (s.lpBusy_iff n).symm)
  rw [hchecks, hfits]
  refine ⟨fun h => doTileLpCtlWrite_inUse (hinUse.1 h), fun h hnb => doTileLpCtlWrite_badNb (mt hinUse.2 h) hnb, fun hnb hwas hon => ?_,
    fun h hnb hsets => ?_⟩
  · rw [doTileLpCtlWrite_sets hnb hwas hon]
    refine ⟨fun x hx => ?_, fun hnone => ?_⟩
    · rw [hx, Option.elim_some, State.lpRefuse]
    · rw [hnone, Option.elim_none]
      exact lpStart_leaves s n v hon
  · rw [doTileLpCtlWrite_keeps (mt hinUse.2 h) hnb hsets]
    split
    · rfl
    · rfl

/-! ## Writes of `TILE_LP_PERIOD` (R231, R250, R340) -/

/-- The conditions on a period with their codes, in order. -/
def State.periodChecks (s : State) (n p : Nat) : List (Bool × Nat) :=
  [(!(decide (1 ≤ p) && decide (p ≤ 8)), Code.CFG_PERIOD_RANGE),
   (!s.budget250 n p (s.get (R.TILE_LP_CTL_NB n)) 0, Code.CFG_FRAME_BUDGET), (!s.seqFits n (s.activeList n) p, Code.MC_SEQ_BUDGET)]

/-- A period accepted: in force from the next frame edge, or at once while ENABLE reads 0 (R231). -/
def State.takePeriod (s : State) (n p : Nat) (v : Word) : State :=
  let u := (s.take (R.TILE_LP_PERIOD n) v).lpTaken n
  if u.flag (R.TILE_LP_CTL_ENABLE n) then u.setTile n { u.tile n with periodDue := true } else u.put (R.TILE_LP_PERIOD_P_USE n) p

theorem doLpPeriodWrite_eq (n : Fin 20) (v : Word) (s : State) : doLpPeriodWrite n v s =
    ((s.periodChecks n (bits v 3 0)).find? (·.1)).elim (s.takePeriod n (bits v 3 0) v) fun x => s.lpRefuse n x.2 := by
  rw [State.periodChecks, find?_three_elim, doLpPeriodWrite]
  exact if_congr (periodInRange_not _).symm rfl (if_congr (by rw [Bool.not_eq_true']) rfl (if_congr (by rw [Bool.not_eq_true']) rfl rfl))

section
variable (s : State) (n : Fin 20) (v : Word)

theorem State.lpPeriodTaken_enable : ((s.take (R.TILE_LP_PERIOD n) v).lpTaken n).flag (R.TILE_LP_CTL_ENABLE n) = s.flag (R.TILE_LP_CTL_ENABLE n) := by
  have htaken : s.Touches (s.take (R.TILE_LP_PERIOD n) v) [] [R.TILE_LP_PERIOD n] := .take s _ v (.head _)
  rw [State.lpTaken_enable]
  exact htaken.flag (f := R.TILE_LP_CTL_ENABLE n) (fun h => lpPeriod_ne_lpCtl n (List.mem_singleton.1 h).symm) (lpReg_not_evtReg (.inr rfl))

/-- P_SET as written and P_USE as it was, whatever else the write changes. -/
theorem State.lpPeriodTaken_reads : ((s.take (R.TILE_LP_PERIOD n) v).lpTaken n).get (R.TILE_LP_PERIOD_P_SET n) = bits v 3 0 ∧
    ((s.take (R.TILE_LP_PERIOD n) v).lpTaken n).get (R.TILE_LP_PERIOD_P_USE n) = s.get (R.TILE_LP_PERIOD_P_USE n) := by
  have htaken : (s.take (R.TILE_LP_PERIOD n) v).Touches ((s.take (R.TILE_LP_PERIOD n) v).lpTaken n) [] [R.TILE_LP_CTL n] :=
    State.lpTaken_touches _ _ (.head _)
  have hother : R.TILE_LP_PERIOD n ∉ [R.TILE_LP_CTL n] := fun h => lpPeriod_ne_lpCtl n (List.mem_singleton.1 h)
  have hevt : ¬ evtReg (R.TILE_LP_PERIOD n) := lpReg_not_evtReg (.inl rfl)
  rw [htaken.get (f := R.TILE_LP_PERIOD_P_SET n) hother hevt, htaken.get (f := R.TILE_LP_PERIOD_P_USE n) hother hevt, State.take_lpPeriod]
  exact ⟨s.get_put_fits _ _ (pSet_ok n) (bits_lt v 3 0), s.get_put_apart _ _ _ (pSet_ok n) (pUse_ok n) (pSet_apart_pUse n)⟩

theorem State.lpPeriodTaken_touches : s.Touches ((s.take (R.TILE_LP_PERIOD n) v).lpTaken n) [.tiles] [R.TILE_LP_PERIOD n, R.TILE_LP_CTL n] :=
  (State.Touches.take s _ v (.head _)).trans (State.lpTaken_touches _ _ (.tail _ (.head _)))

end

theorem takePeriod_leaves (s : State) (n : Fin 20) (v : Word) :
    let p := bits v 3 0
    let t := s.takePeriod n p v
    t.get (R.TILE_LP_PERIOD_P_SET n) = p ∧ t.get (R.TILE_LP_CTL_REFUSE n) = 0 ∧
      (s.flag (R.TILE_LP_CTL_ENABLE n) = true →
        t.get (R.TILE_LP_PERIOD_P_USE n) = s.get (R.TILE_LP_PERIOD_P_USE n) ∧ t.tile n = { s.tile n with periodDue := true }) ∧
      (s.flag (R.TILE_LP_CTL_ENABLE n) = false → t.get (R.TILE_LP_PERIOD_P_USE n) = p ∧ t.tile n = s.tile n) ∧
      s.Touches t [.tiles] [R.TILE_LP_PERIOD n, R.TILE_LP_CTL n] := by
  intro p t
  obtain ⟨hset, huse⟩ := s.lpPeriodTaken_reads n v
  have henable := s.lpPeriodTaken_enable n v
  have hrefuse := (s.take (R.TILE_LP_PERIOD n) v).lpTaken_refuse n
  have htaken := s.lpPeriodTaken_touches n v
  have htile : ((s.take (R.TILE_LP_PERIOD n) v).lpTaken n).tile n = s.tile n := by rw [State.lpTaken_tile, State.take_tile]
  have ht : t = if s.flag (R.TILE_LP_CTL_ENABLE n) then ((s.take (R.TILE_LP_PERIOD n) v).lpTaken n).setTile n { s.tile n with periodDue := true }
      else ((s.take (R.TILE_LP_PERIOD n) v).lpTaken n).put (R.TILE_LP_PERIOD_P_USE n) p := by
    rw [← henable, ← htile]
    rfl
  rw [ht]
  cases hen : s.flag (R.TILE_LP_CTL_ENABLE n) with
  | true =>
    rw [if_pos rfl, State.setTile_get, State.setTile_get, State.setTile_get]
    exact ⟨hset, hrefuse, fun _ => ⟨huse, State.tile_setTile_self _ _ _⟩, nofun, htaken.trans (.setTile _ _ _ (.head _))⟩
  | false =>
    rw [if_neg Bool.false_ne_true]
    refine ⟨?_, ?_, nofun, fun _ => ⟨?_, ?_⟩, htaken.trans (.put _ _ _ (.head _))⟩
    · rw [State.get_put_apart _ _ _ _ (pUse_ok n) (pSet_ok n) (pUse_apart_pSet n), hset]
    · rw [State.get_put_apart _ _ _ _ (pUse_ok n) (lpRefuse_ok n) (.inl (lpPeriod_ne_lpCtl n).symm), hrefuse]
    · exact State.get_put_fits _ _ _ (pUse_ok n) (bits_lt v 3 0)
    · rw [State.put_tile, htile]

theorem lpPeriodWrite_leaves (s : State) (n : Fin 20) (v : Word) (hs : s.Served) : Leaves (.lpPeriodWrite n v) s fun t =>
    let p := bits v 3 0
    let checks : List (Bool × Nat) := [(!(decide (1 ≤ p) && decide (p ≤ 8)), Code.CFG_PERIOD_RANGE),
      (!s.budget250 n p (s.get (R.TILE_LP_CTL_NB n)) 0, Code.CFG_FRAME_BUDGET), (!s.seqFits n (s.activeList n) p, Code.MC_SEQ_BUDGET)]
    (∀ x, checks.find? (·.1) = some x → t = s.refuse (R.TILE_LP_CTL_REFUSE n) (Ev.loopConfigurationRefused n) x.2) ∧
    (checks.find? (·.1) = none → t.get (R.TILE_LP_PERIOD_P_SET n) = p ∧ t.get (R.TILE_LP_CTL_REFUSE n) = 0 ∧
      (s.flag (R.TILE_LP_CTL_ENABLE n) = true →
        t.get (R.TILE_LP_PERIOD_P_USE n) = s.get (R.TILE_LP_PERIOD_P_USE n) ∧ t.tile n = { s.tile n with periodDue := true }) ∧
      (s.flag (R.TILE_LP_CTL_ENABLE n) = false → t.get (R.TILE_LP_PERIOD_P_USE n) = p ∧ t.tile n = s.tile n) ∧
      s.Touches t [.tiles] [R.TILE_LP_PERIOD n, R.TILE_LP_CTL n]) := by
  refine leaves_bar _ rfl hs ?_
  intro p checks
  have hchecks : checks = s.periodChecks n p := rfl
  rw [hchecks, doLpPeriodWrite_eq]
  refine ⟨fun x hx => ?_, fun hnone => ?_⟩
  · rw [hx, Option.elim_some, State.lpRefuse]
  · rw [hnone, Option.elim_none]
    exact takePeriod_leaves s n v

/-! ## Writes of the loop parameters (R259) -/

/-- The limits of R259 on a parameter register, by number. -/
theorem State.lpParamOk_iff (s : State) (n : Nat) (k : Fin 6) (v : Word) : s.lpParamOk n k v = true ↔
    [bits v 31 16 ≤ 0x2000 ∧ bits v 15 0 ≤ 0x1000,
      0x41 ≤ bits v 15 0 ∧ bits v 15 0 ≤ 0x831 ∧ 1 ≤ bits v 31 24 ∧ 2 * bits v 15 0 ≤ s.get (R.TILE_LP_CLAMP_STEP_MAX n),
      1 ≤ bits v 31 16 ∧ 2 * s.get (R.TILE_LP_DITH_DITH_AMP n) ≤ bits v 15 0, bits v 31 16 ≤ 0x1000,
      0x8CA ≤ bits v 15 0 ∧ bits v 15 0 ≤ 0xABE, True].getD k True := by
  fin_cases k <;> simp [State.lpParamOk, and_assoc]

theorem lpParamWrite_leaves (s : State) (n : Fin 20) (k : Fin 6) (v : Word) (hs : s.Served) : Leaves (.lpParamWrite n k v) s fun t =>
    let hi := bits v 31 16
    let lo := bits v 15 0
    let a := [R.TILE_LP_GAIN n, R.TILE_LP_DITH n, R.TILE_LP_CLAMP n, R.TILE_LP_PIN n, R.TILE_LP_VHTR n, R.TILE_LP_LOW n].getD k 0
    let ok : Prop := [hi ≤ 0x2000 ∧ lo ≤ 0x1000,
      0x41 ≤ lo ∧ lo ≤ 0x831 ∧ 1 ≤ bits v 31 24 ∧ 2 * lo ≤ s.get (R.TILE_LP_CLAMP_STEP_MAX n),
      1 ≤ hi ∧ 2 * s.get (R.TILE_LP_DITH_DITH_AMP n) ≤ lo, hi ≤ 0x1000, 0x8CA ≤ lo ∧ lo ≤ 0xABE, True].getD k True
    (ok → t = (s.take a v).put (R.TILE_LP_CTL_REFUSE n) 0) ∧
    (¬ ok → t = s.refuse (R.TILE_LP_CTL_REFUSE n) (Ev.loopConfigurationRefused n) Code.CFG_LOOP_PARAM) := by
  refine leaves_bar _ rfl hs ?_
  intro hi lo a ok
  exact ⟨fun h => if_pos ((s.lpParamOk_iff n k v).2 h), fun h => if_neg (mt (s.lpParamOk_iff n k v).1 h)⟩

/-! ## Writes to the crosstalk table (R248) -/

theorem doXtTableWrite_locked {s : State} {e : Fin 81920} (h : s.flag (R.TILE_LP_CTL_XT_EN (tileOf e)) = true) (j : Fin 16) (v : Word) :
    doXtTableWrite e j v s = s.lpRefuse (tileOf e) Code.CFG_XT_LOCKED := if_pos h

theorem doXtTableWrite_taken {s : State} {e : Fin 81920} (h : s.flag (R.TILE_LP_CTL_XT_EN (tileOf e)) ≠ true) (j : Fin 16) (v : Word) :
    doXtTableWrite e j v s = (s.setTile (tileOf e) { s.tile (tileOf e) with
      xt := Tbl.set 0 (s.tile (tileOf e)).xt (e.val % 4_096 * 16 + j.val) (v &&& 0xCFFF_FFFF) }).lpTaken (tileOf e) := if_neg h

theorem xtTableWrite_leaves (s : State) (e : Fin 81920) (j : Fin 16) (v : Word) (hs : s.Served) : Leaves (.xtTableWrite e j v) s fun t =>
    let n := tileOf e
    let key := e.val % 4_096 * 16 + j.val
    if s.flag (R.TILE_LP_CTL_XT_EN n) = true then
      t = s.refuse (R.TILE_LP_CTL_REFUSE n) (Ev.loopConfigurationRefused n) Code.CFG_XT_LOCKED
    else
      Tbl.getD (t.tile n).xt key 0 = v &&& 0xCFFF_FFFF ∧ (∀ k, k ≠ key → Tbl.getD (t.tile n).xt k 0 = Tbl.getD (s.tile n).xt k 0) ∧
      t.tile n = { s.tile n with xt := (t.tile n).xt } ∧ t.get (R.TILE_LP_CTL_REFUSE n) = 0 ∧ (∀ m, m ≠ n → t.tile m = s.tile m) ∧
      s.Touches t [.tiles] [R.TILE_LP_CTL n] := by
  refine leaves_bar _ rfl hs ?_
  intro n key
  split
  next hen => exact doXtTableWrite_locked hen j v
  next hen =>
    rw [doXtTableWrite_taken hen]
    set x : TileSt := { s.tile n with xt := Tbl.set 0 (s.tile n).xt key (v &&& 0xCFFF_FFFF) }
    have hself : ((s.setTile n x).lpTaken n).tile n = x := by rw [State.lpTaken_tile, State.tile_setTile_self]
    rw [hself]
    exact ⟨Tbl.getD_set_self _ _ _ _, fun k hk => Tbl.getD_set_other _ _ hk _, rfl, State.lpTaken_refuse _ n,
      fun m hm => by rw [State.lpTaken_tile, State.tile_setTile_other _ _ hm],
      (State.Touches.setTile s n x (.head _)).trans (State.lpTaken_touches _ n (.head _))⟩

end Sys2Proof.Machine
end

section
/-!
PROOFS. O35 refuted: the bound index `l` of its clause on elements that start has type `Fin 20`, not `Nat`.
-/
namespace Sys2Proof.Machine

/-! ## A tile whose loops may start while an element of another tile is STALE -/

/-- The reset state out of its resets, with valid tables and a law for tile 1, and element 16 of tile 0 held (R251, R257). -/
def staleNeighbour : State :=
  { State.reset with
      svc.por := true, svc.fwRuns := true, svc.ctrlReset := false, cal.loaded := true, cal.camped := [1],
      tiles := [(1, { TileSt.reset with bankA := [(9, 0x0100_0000)] })], fab.elems := [(0, [(16, { Elem.reset with stale := true })])] }

theorem staleNeighbour_served : staleNeighbour.Served := ⟨⟨rfl, rfl⟩, rfl, rfl⟩

theorem staleNeighbour_off : staleNeighbour.flag (R.TILE_LP_CTL_ENABLE 1) = false := by decide +kernel

theorem staleNeighbour_passes : (staleNeighbour.enableChecks 1 0).find? (·.1) = none := by decide +kernel

theorem staleNeighbour_stale : (staleNeighbour.elem 16).stale = true := by decide +kernel

/-- Refutes O35: `let e := n * 4_096 + l` in the clause on elements that start makes `l` a number below 20 and the sum one modulo 20. For tile 1
and `l = 0` it names element 16, of tile 0, which the clause says has started, no longer STALE, and the next clause says is as it was: both
cannot hold of `staleNeighbour`, where the write is accepted. With `l` in `Nat` the clause holds (`tileLpCtlWrite_leaves`), as do the others. -/
theorem not_loopRegistersAreChecked : ¬ Obligations.LoopRegistersAreChecked := by
  unfold Obligations.LoopRegistersAreChecked
  rintro ⟨hctl, -⟩
  obtain ⟨t, -, -, -, hsets, -⟩ := hctl staleNeighbour 1 1 staleNeighbour_served
  obtain ⟨-, hstart⟩ := hsets (by decide) staleNeighbour_off (by decide)
  obtain ⟨-, -, -, -, hstarted, hothers, -⟩ := hstart staleNeighbour_passes
  obtain ⟨-, -, hnotStale, -⟩ := hstarted 0 (by decide)
  have hkept : t.elem 16 = staleNeighbour.elem 16 := hothers 16 (by decide)
  have hclear : (t.elem 16).stale = false := hnotStale
  rw [hkept, staleNeighbour_stale] at hclear
  exact Bool.noConfusion hclear

end Sys2Proof.Machine
end

section
/-!
PROOFS. What the proofs on microcode, probes and learning runs share: fields of one register, registers of one tile, and the first of several
conditions that fails.
-/
namespace Sys2Proof.Machine

/-! ## Fields -/

/-- A field is well placed in its word, as a check that computes. -/
def Fld.formed (f : Fld) : Bool := decide (f.lo ≤ f.hi) && decide (f.hi < 32)

/-- Two fields that share no bit wherever they lie, as a check that computes. -/
def Fld.beside (f g : Fld) : Bool := f.formed && g.formed && (decide (f.hi < g.lo) || decide (g.hi < f.lo))

theorem Fld.ok_of_formed {f : Fld} (h : f.formed = true) : f.ok := by
  simpa only [Fld.formed, Bool.and_eq_true, decide_eq_true_eq] using h

theorem State.get_put_beside {f g : Fld} (s : State) (v : Nat) (h : f.beside g = true) : (s.put f v).get g = s.get g := by
  simp only [Fld.beside, Bool.and_eq_true, Bool.or_eq_true, decide_eq_true_eq] at h
  obtain ⟨⟨hf, hg⟩, hbits⟩ := h
  exact s.get_put_apart f g v (Fld.ok_of_formed hf) (Fld.ok_of_formed hg) (.inr hbits)

theorem State.get_put_elsewhere {f g : Fld} (s : State) (v : Nat) (h : g.addr ≠ f.addr) : (s.put f v).get g = s.get g := by
  rw [State.get, State.get, State.rd_put_other s f v h]

theorem State.flag_congr {s t : State} {f : Fld} (h : t.get f = s.get f) : t.flag f = s.flag f := by rw [State.flag, State.flag, h]

/-! ## Registers of a tile -/

/-- No register of a tile is among those that an occurrence may change. -/
theorem tileReg_not_evtReg {n a : Nat} (h : tileBase n ≤ a) : ¬ evtReg a := by
  simp only [tileBase] at h
  simp only [evtReg, R.EVT_HEAD, R.EVT_FLUSHED, R.EVT_LOST, R.EVT_TILE_LOST, R.EVT_PEND]
  omega

theorem tileReg_ne {a b : Nat} (h : a ≠ b) (n : Nat) : tileBase n + a ≠ tileBase n + b := fun c => h (Nat.add_left_cancel c)

/-! ## The first condition that fails -/

/-- The code of the first condition that holds in a list of conditions with their codes. -/
def firstCode (l : List (Bool × Nat)) : Option Nat := (l.find? (·.1)).map (·.2)

@[simp] theorem firstCode_nil : firstCode [] = none := rfl

@[simp] theorem firstCode_cons (b : Bool) (c : Nat) (l : List (Bool × Nat)) : firstCode ((b, c) :: l) = if b then some c else firstCode l := by
  cases b <;> rfl

theorem firstCode_append (l m : List (Bool × Nat)) : firstCode (l ++ m) = (firstCode l).elim (firstCode m) some := by
  induction l with
  | nil => rfl
  | cons x l ih =>
    obtain ⟨b, c⟩ := x
    rw [List.cons_append, firstCode_cons, firstCode_cons, ih]
    cases b <;> rfl

theorem firstCode_of_some {l : List (Bool × Nat)} {x : Bool × Nat} (h : l.find? (·.1) = some x) : firstCode l = some x.2 := by
  rw [firstCode, h, Option.map_some]

theorem firstCode_of_none {l : List (Bool × Nat)} (h : l.find? (·.1) = none) : firstCode l = none := by rw [firstCode, h, Option.map_none]

end Sys2Proof.Machine
end

section
/-!
PROOFS. The banks of microcode images under BANK, and writes of `TILE_LP_UCODE` (R267, R268, R270): LAW_SET judged, COMMIT and CANCEL taken.
-/
namespace Sys2Proof.Machine

/-! ## Banks -/

section
variable {s t : State} {n : Nat}

/-- The images are those of the two banks under BANK. -/
theorem State.image_congr (hA : (t.tile n).bankA = (s.tile n).bankA) (hB : (t.tile n).bankB = (s.tile n).bankB)
    (hbank : t.get (R.TILE_LP_UCODE_BANK n) = s.get (R.TILE_LP_UCODE_BANK n)) (active : Bool) : t.image n active = s.image n active := by
  simp only [State.image, hA, hB, State.flag_congr hbank]

theorem State.image_congr_tile (h : t.tile n = s.tile n) (hbank : t.get (R.TILE_LP_UCODE_BANK n) = s.get (R.TILE_LP_UCODE_BANK n))
    (active : Bool) : t.image n active = s.image n active := State.image_congr (by rw [h]) (by rw [h]) hbank active

end

section
variable (s : State) (n : Nat) (b : Tbl Word) (pass : Bool)

theorem State.setStandby_get (g : Fld) : (s.setStandby n b pass).get g = s.get g := rfl

theorem State.setStandby_flag (g : Fld) : (s.setStandby n b pass).flag g = s.flag g := rfl

theorem State.setStandby_touches {ps : List Part} {rs : List Nat} (h : Part.tiles ∈ ps) : s.Touches (s.setStandby n b pass) ps rs :=
  .setTile s n _ h

theorem State.setStandby_checking : ((s.setStandby n b pass).tile n).checking = (s.tile n).checking := by
  rw [State.setStandby, State.tile_setTile_self]
  split <;> rfl

theorem State.setStandby_standby : (s.setStandby n b pass).image n false = b := by
  rw [State.image, State.setStandby_flag, State.setStandby, State.tile_setTile_self]
  cases s.flag (R.TILE_LP_UCODE_BANK n) <;> rfl

theorem State.setStandby_active : (s.setStandby n b pass).image n true = s.image n true := by
  rw [State.image, State.setStandby_flag, State.setStandby, State.tile_setTile_self, State.image]
  cases s.flag (R.TILE_LP_UCODE_BANK n) <;> rfl

theorem State.setStandby_passed : (s.setStandby n b pass).passed n false = pass := by
  rw [State.passed, State.setStandby_flag, State.setStandby, State.tile_setTile_self]
  cases s.flag (R.TILE_LP_UCODE_BANK n) <;> rfl

end

/-! ## Registers -/

theorem ucode_ne_lpCtl (n : Nat) : R.TILE_LP_UCODE n ≠ R.TILE_LP_CTL n := tileReg_ne (by decide) n

/-- The registers that orders 1, 4 and 5 of R267 read beside `TILE_LP_UCODE`. -/
theorem commitReg_ne_ucode (n : Nat) : R.TILE_OWNER n ≠ R.TILE_LP_UCODE n ∧ R.TILE_LP_PERIOD n ≠ R.TILE_LP_UCODE n ∧
    R.TILE_LP_CTL n ≠ R.TILE_LP_UCODE n := ⟨tileReg_ne (by decide) n, tileReg_ne (by decide) n, tileReg_ne (by decide) n⟩

theorem ucode_not_evtReg (n : Nat) : ¬ evtReg (R.TILE_LP_UCODE n) := tileReg_not_evtReg (Nat.le_add_right _ _)

theorem commitEvent_lt (n : Fin 20) : Ev.commitRefused n < 1_536 := by
  unfold Ev.commitRefused
  omega

section
variable (s : State) (n : Nat)

theorem State.lpTaken_ucode {g : Fld} (hg : g.addr = R.TILE_LP_UCODE n) : (s.lpTaken n).get g = s.get g :=
  s.get_put_elsewhere (f := R.TILE_LP_CTL_REFUSE n) 0 (hg ▸ ucode_ne_lpCtl n)

end

section
variable (s : State) (n : Fin 20)

theorem State.ucodeRefuse_get {g : Fld} (code : Nat) (hg : g.addr = R.TILE_LP_UCODE n) : (s.ucodeRefuse n code).get g = s.get g := by
  rw [State.ucodeRefuse, State.refuse, State.ev_get _ _ _ (commitEvent_lt n) (hg ▸ ucode_not_evtReg n)]
  exact s.get_put_elsewhere (f := R.TILE_LP_CTL_REFUSE n) code (hg ▸ ucode_ne_lpCtl n)

theorem State.ucodeRefuse_code {code : Nat} (h : code < 2 ^ 16) : (s.ucodeRefuse n code).get (R.TILE_LP_CTL_REFUSE n) = code := by
  rw [State.ucodeRefuse, State.get_refuse _ _ _ _ (commitEvent_lt n) (lpReg_not_evtReg (.inr rfl)) (lpRefuse_ok n)]
  exact Nat.mod_eq_of_lt h

theorem State.ucodeRefuse_tile (code k : Nat) : (s.ucodeRefuse n code).tile k = s.tile k := by
  rw [State.ucodeRefuse, State.refuse, State.tile_congr (State.ev_tiles _ _ _ (commitEvent_lt n)), State.put_tile]

end

/-! ## Orders 4 and 5 of R267 -/

/-- Orders 4 and 5 of R267 with their codes, for a law slot of an image. -/
def State.lawFails (s : State) (n : Nat) (b : Tbl Word) (law : Nat) : List (Bool × Nat) :=
  let cap := 240_000 * s.get (R.TILE_LP_PERIOD_P_SET n) - if s.get (R.TILE_OWNER_OWNER n) = 1 ∨ s.get (R.TILE_OWNER_OWNER n) = 2 then 19_200 else 0
  [(decide (nMain b ≤ law), Code.CFG_UCODE_INVALID),
   (!decide ((4_096 * (lawCost b law 1 + 2 * s.get (R.TILE_LP_CTL_NB n)) + lawCost b law 0) * 20 ≤ 19 * cap), Code.CFG_FRAME_BUDGET)]

theorem State.lawCheck_eq (s : State) (n : Nat) (b : Tbl Word) (law : Nat) : s.lawCheck n b law = firstCode (s.lawFails n b law) := by
  rw [State.lawCheck, State.lawFails, firstCode_cons, firstCode_cons, firstCode_nil]
  refine if_congr decide_eq_true_iff.symm rfl ?_
  rw [State.budgetOk, Nat.add_zero]
  cases hfits : decide ((4_096 * (lawCost b law 1 + 2 * s.get (R.TILE_LP_CTL_NB n)) + lawCost b law 0) * 20 ≤
    19 * s.capacity n (s.get (R.TILE_LP_PERIOD_P_SET n)))
  all_goals
    rw [State.capacity, State.tileOwner] at hfits
    rw [hfits]
    rfl

/-! ## A write of `TILE_LP_UCODE` (R267, R268, R270) -/

/-- A pending commit cancelled where a write of `TILE_LP_UCODE` sets CANCEL. -/
def State.cancelAsked (s : State) (n : Nat) (v : Word) : State := if bit v 1 then s.put (R.TILE_LP_UCODE_PENDING n) 0 else s

/-- The checks of R267 begun where a write of `TILE_LP_UCODE` sets COMMIT. -/
def State.commitAsked (s : State) (n : Nat) (v : Word) : State :=
  if bit v 0 then s.setTile n { s.tile n with checking := some s.now } else s

/-- A write of `TILE_LP_UCODE` taken: LAW_SET, then CANCEL and COMMIT. -/
def State.ucodeTaken (s : State) (n : Nat) (v : Word) : State :=
  (((s.put (R.TILE_LP_UCODE_LAW_SET n) (bits v 5 4)).lpTaken n).cancelAsked n v).commitAsked n v

section
variable (s : State) (n : Nat) (v : Word)

theorem State.cancelAsked_get {g : Fld} (h : (R.TILE_LP_UCODE_PENDING n).beside g = true ∨ g.addr ≠ R.TILE_LP_UCODE n) :
    (s.cancelAsked n v).get g = s.get g := by
  rw [State.cancelAsked]
  split
  · exact h.elim (s.get_put_beside _) (s.get_put_elsewhere (f := R.TILE_LP_UCODE_PENDING n) _)
  · rfl

theorem State.cancelAsked_pending :
    (s.cancelAsked n v).flag (R.TILE_LP_UCODE_PENDING n) = (s.flag (R.TILE_LP_UCODE_PENDING n) && !bit v 1) := by
  rw [State.cancelAsked]
  cases bit v 1 with
  | true => rw [if_pos rfl, s.flag_put_zero _ (Fld.ok_of_formed rfl) rfl, Bool.not_true, Bool.and_false]
  | false => rw [if_neg Bool.false_ne_true, Bool.not_false, Bool.and_true]

theorem State.cancelAsked_t : (s.cancelAsked n v).t = s.t := by
  rw [State.cancelAsked]
  split
  · rw [State.put_t]
  · rfl

theorem State.cancelAsked_tile (k : Nat) : (s.cancelAsked n v).tile k = s.tile k := by
  rw [State.cancelAsked]
  split
  · rw [State.put_tile]
  · rfl

theorem State.cancelAsked_touches {ps : List Part} {rs : List Nat} (h : R.TILE_LP_UCODE n ∈ rs) : s.Touches (s.cancelAsked n v) ps rs := by
  rw [State.cancelAsked]
  split
  · exact .put s _ _ h
  · exact .refl s _ _

theorem State.commitAsked_get (g : Fld) : (s.commitAsked n v).get g = s.get g := by
  rw [State.commitAsked]
  split
  · rw [State.setTile_get]
  · rfl

theorem State.commitAsked_tile :
    (s.commitAsked n v).tile n = { s.tile n with checking := if bit v 0 then some s.now else (s.tile n).checking } := by
  rw [State.commitAsked]
  cases bit v 0 with
  | true => rw [if_pos rfl, if_pos rfl, State.tile_setTile_self]
  | false => rw [if_neg Bool.false_ne_true, if_neg Bool.false_ne_true]

theorem State.commitAsked_touches {ps : List Part} {rs : List Nat} (h : Part.tiles ∈ ps) : s.Touches (s.commitAsked n v) ps rs := by
  rw [State.commitAsked]
  split
  · exact .setTile s n _ h
  · exact .refl s _ _

end

section
variable {s : State} {n : Nat} {v : Word}

theorem ucodeWrite_refused {c : Nat} (hnew : bits v 5 4 ≠ s.get (R.TILE_LP_UCODE_LAW_SET n))
    (hc : firstCode (s.lawFails n (s.image n true) (bits v 5 4)) = some c) : ucodeWrite n v s = s.ucodeRefuse n c := by
  rw [← State.lawCheck_eq] at hc
  simp only [ucodeWrite, if_neg hnew, hc]

theorem ucodeWrite_taken (h : bits v 5 4 ≠ s.get (R.TILE_LP_UCODE_LAW_SET n) → firstCode (s.lawFails n (s.image n true) (bits v 5 4)) = none) :
    ucodeWrite n v s = s.ucodeTaken n v := by
  have hnone : (if bits v 5 4 = s.get (R.TILE_LP_UCODE_LAW_SET n) then none else s.lawCheck n (s.image n true) (bits v 5 4)) = none := by
    split
    · rfl
    next hnew => rw [State.lawCheck_eq, h hnew]
  simp only [ucodeWrite, hnone]
  rfl

end

/-- The three rows that write `TILE_LP_UCODE` have one effect. -/
theorem ucodeRow_runs {s : State} {n : Fin 20} {v : Word} {i : Instr} {P : State → Prop} (hs : s.Served)
    (hi : i = .ucodeCommit n v ∧ bit v 0 = true ∨ i = .ucodeCancel n v ∧ bit v 1 = true ∨ i = .lawSetWrite n v) (hp : P (ucodeWrite n v s)) :
    Leaves i s P := by
  rcases hi with ⟨rfl, hcommit⟩ | ⟨rfl, hcancel⟩ | rfl
  · have hrow : doUcodeCommit n v s = ucodeWrite n v s := if_pos hcommit
    exact leaves_bar (doUcodeCommit n v) rfl hs (hrow ▸ hp)
  · have hrow : doUcodeCancel n v s = ucodeWrite n v s := if_pos hcancel
    exact leaves_bar (doUcodeCancel n v) rfl hs (hrow ▸ hp)
  · exact leaves_bar (doLawSetWrite n v) rfl hs hp

section
variable (s : State) (n : Nat) (v : Word)

theorem State.ucodeTaken_get {g : Fld} (h : (R.TILE_LP_UCODE_PENDING n).beside g = true ∨ g.addr ≠ R.TILE_LP_UCODE n) :
    (s.ucodeTaken n v).get g = ((s.put (R.TILE_LP_UCODE_LAW_SET n) (bits v 5 4)).lpTaken n).get g := by
  rw [State.ucodeTaken, State.commitAsked_get, State.cancelAsked_get _ _ _ h]

theorem State.ucodeTaken_lawSet : (s.ucodeTaken n v).get (R.TILE_LP_UCODE_LAW_SET n) = bits v 5 4 := by
  rw [s.ucodeTaken_get n v (.inl rfl), State.lpTaken_ucode _ n rfl]
  exact s.get_put_fits _ _ (Fld.ok_of_formed rfl) (bits_lt v 5 4)

theorem State.ucodeTaken_lawUse : (s.ucodeTaken n v).get (R.TILE_LP_UCODE_LAW_USE n) = s.get (R.TILE_LP_UCODE_LAW_USE n) := by
  rw [s.ucodeTaken_get n v (.inl rfl), State.lpTaken_ucode _ n rfl]
  exact s.get_put_beside _ rfl

theorem State.ucodeTaken_refuse : (s.ucodeTaken n v).get (R.TILE_LP_CTL_REFUSE n) = 0 := by
  rw [s.ucodeTaken_get n v (.inr (ucode_ne_lpCtl n).symm)]
  exact State.lpTaken_refuse _ n

theorem State.ucodeTaken_pending :
    (s.ucodeTaken n v).flag (R.TILE_LP_UCODE_PENDING n) = (s.flag (R.TILE_LP_UCODE_PENDING n) && !bit v 1) := by
  have hput : ((s.put (R.TILE_LP_UCODE_LAW_SET n) (bits v 5 4)).lpTaken n).get (R.TILE_LP_UCODE_PENDING n) = s.get (R.TILE_LP_UCODE_PENDING n) :=
    (State.lpTaken_ucode _ n rfl).trans (s.get_put_beside _ rfl)
  rw [State.ucodeTaken, State.flag_congr (State.commitAsked_get _ n v _), State.cancelAsked_pending, State.flag_congr hput]

theorem State.ucodeTaken_tile : (s.ucodeTaken n v).tile n =
    { s.tile n with checking := if bit v 0 then some s.now else (s.tile n).checking } := by
  rw [State.ucodeTaken, State.commitAsked_tile, State.cancelAsked_tile, State.now, State.cancelAsked_t, State.lpTaken_tile, State.put_tile,
    State.lpTaken, State.put_t, State.put_t, ← State.now]

theorem State.ucodeTaken_touches : s.Touches (s.ucodeTaken n v) [.tiles] [R.TILE_LP_UCODE n, R.TILE_LP_CTL n] :=
  (((State.Touches.put s _ _ (.head _)).trans (State.lpTaken_touches _ n (.tail _ (.head _)))).trans
    (State.cancelAsked_touches _ n v (.head _))).trans (State.commitAsked_touches _ n v (.head _))

end

theorem ucodeWrite_leaves (s : State) (n : Fin 20) (v : Word) (i : Instr) (hs : s.Served)
    (hi : i = .ucodeCommit n v ∧ bit v 0 = true ∨ i = .ucodeCancel n v ∧ bit v 1 = true ∨ i = .lawSetWrite n v) : Leaves i s fun t =>
      let law := bits v 5 4
      let fails := s.lawFails n (s.image n true) law
      let new : Prop := law ≠ s.get (R.TILE_LP_UCODE_LAW_SET n)
      (∀ x, new → fails.find? (·.1) = some x → t = s.refuse (R.TILE_LP_CTL_REFUSE n) (Ev.commitRefused n) x.2) ∧
      ((new → fails.find? (·.1) = none) →
        t.get (R.TILE_LP_UCODE_LAW_SET n) = law ∧ t.get (R.TILE_LP_UCODE_LAW_USE n) = s.get (R.TILE_LP_UCODE_LAW_USE n) ∧
        t.get (R.TILE_LP_CTL_REFUSE n) = 0 ∧
        t.flag (R.TILE_LP_UCODE_PENDING n) = (s.flag (R.TILE_LP_UCODE_PENDING n) && !bit v 1) ∧
        t.tile n = { s.tile n with checking := if bit v 0 then some s.now else (s.tile n).checking } ∧
        s.Touches t [.tiles] [R.TILE_LP_UCODE n, R.TILE_LP_CTL n]) := by
  refine ucodeRow_runs hs hi ?_
  intro law fails new
  refine ⟨fun x hnew hx => ucodeWrite_refused hnew (firstCode_of_some hx), fun hnone => ?_⟩
  rw [ucodeWrite_taken fun hnew => firstCode_of_none (hnone hnew)]
  exact ⟨s.ucodeTaken_lawSet n v, s.ucodeTaken_lawUse n v, s.ucodeTaken_refuse n v, s.ucodeTaken_pending n v, s.ucodeTaken_tile n v,
    s.ucodeTaken_touches n v⟩

end Sys2Proof.Machine
end

section
/-!
PROOFS. The commit check (R267): its conditions in order, and what it leaves when it refuses a commit or lets it wait for the exchange.
-/
namespace Sys2Proof.Machine

/-! ## The conditions of R267 -/

/-- The conditions of R267 with their codes, in order, for the standby image. -/
def State.commitFails (s : State) (n : Nat) (sigOk : Bool) : List (Bool × Nat) :=
  let b := s.image n false
  let owner := s.get (R.TILE_OWNER_OWNER n)
  [(s.flag (R.TILE_LP_UCODE_PENDING n) || (s.tile n).probe.isSome || (s.tile n).learn.isSome || owner == 1 || owner == 2, Code.CFG_UCODE_BUSY),
   (!imageFormed b, Code.CFG_UCODE_INVALID), (!imageCrc b || !sigOk, Code.CFG_UCODE_INVALID)] ++ s.lawFails n b (s.get (R.TILE_LP_UCODE_LAW_SET n))

/-- The code with which the commit check refuses an image (R267). -/
def State.commitCode (s : State) (n : Nat) (b : Tbl Word) (crc sigOk : Bool) : Option Nat :=
  if s.flag (R.TILE_LP_UCODE_PENDING n) || s.probing n || s.tileOwner n == 1 || s.tileOwner n == 2 then some Code.CFG_UCODE_BUSY
  else if imageFormed b = false ∨ crc = false ∨ sigOk = false then some Code.CFG_UCODE_INVALID
  else s.lawCheck n b (s.get (R.TILE_LP_UCODE_LAW_SET n))

theorem State.commitCode_eq (s : State) (n : Nat) (sigOk : Bool) :
    s.commitCode n (s.image n false) (imageCrc (s.image n false)) sigOk = firstCode (s.commitFails n sigOk) := by
  simp only [State.commitFails, List.cons_append, List.nil_append, firstCode_cons, ← State.lawCheck_eq]
  rw [State.commitCode, State.probing, State.tileOwner, ← Bool.or_assoc]
  refine if_congr Iff.rfl rfl ?_
  cases imageFormed (s.image n false) <;> cases imageCrc (s.image n false) <;> cases sigOk <;> simp

theorem State.commitFails_lt {s : State} {n : Nat} {sigOk : Bool} {x : Bool × Nat} (h : (s.commitFails n sigOk).find? (·.1) = some x) :
    x.2 < 2 ^ 16 := by
  have hall : ∀ y ∈ s.commitFails n sigOk, y.2 < 2 ^ 16 := by
    simp [State.commitFails, State.lawFails, Code.CFG_UCODE_BUSY, Code.CFG_UCODE_INVALID, Code.CFG_FRAME_BUDGET]
  exact hall x (List.mem_of_find?_eq_some h)

/-! ## The results of both checks noted -/

/-- CRC_OK and SIG_OK take the results of the checks, which are over. -/
def State.checksIn (s : State) (n : Nat) (crc sigOk : Bool) : State :=
  ((s.setTile n { s.tile n with checking := none }).put (R.TILE_LP_UCODE_CRC_OK n) (b2n crc)).put (R.TILE_LP_UCODE_SIG_OK n) (b2n sigOk)

section
variable (s : State) (n : Nat) (crc sigOk : Bool)

theorem State.checksIn_crc : (s.checksIn n crc sigOk).flag (R.TILE_LP_UCODE_CRC_OK n) = crc := by
  rw [State.checksIn, State.flag_congr (State.get_put_beside (g := R.TILE_LP_UCODE_CRC_OK n) _ _ rfl)]
  exact State.flag_put_self _ _ _ (Fld.ok_of_formed rfl) rfl

theorem State.checksIn_sig : (s.checksIn n crc sigOk).flag (R.TILE_LP_UCODE_SIG_OK n) = sigOk :=
  State.flag_put_self _ _ _ (Fld.ok_of_formed rfl) rfl

theorem State.checksIn_get {g : Fld} (hcrc : (R.TILE_LP_UCODE_CRC_OK n).beside g = true) (hsig : (R.TILE_LP_UCODE_SIG_OK n).beside g = true) :
    (s.checksIn n crc sigOk).get g = s.get g := by
  rw [State.checksIn, State.get_put_beside _ _ hsig, State.get_put_beside _ _ hcrc, State.setTile_get]

theorem State.checksIn_tile : (s.checksIn n crc sigOk).tile n = { s.tile n with checking := none } := by
  rw [State.checksIn, State.put_tile, State.put_tile, State.tile_setTile_self]

theorem State.checksIn_touches : s.Touches (s.checksIn n crc sigOk) [.tiles] [R.TILE_LP_UCODE n] := by
  have hput (u : State) (f : Fld) (v : Nat) (hf : f.addr = R.TILE_LP_UCODE n) : u.Touches (u.put f v) [.tiles] [R.TILE_LP_UCODE n] :=
    .put u f v (hf ▸ .head _)
  rw [State.checksIn]
  exact ((State.Touches.setTile s n _ (.head _)).trans (hput _ _ _ rfl)).trans (hput _ _ _ rfl)

theorem State.checksIn_image (active : Bool) : (s.checksIn n crc sigOk).image n active = s.image n active :=
  State.image_congr (by rw [State.checksIn_tile]) (by rw [State.checksIn_tile]) (s.checksIn_get n crc sigOk rfl rfl) active

theorem State.checksIn_pending : (s.checksIn n crc sigOk).flag (R.TILE_LP_UCODE_PENDING n) = s.flag (R.TILE_LP_UCODE_PENDING n) :=
  State.flag_congr (s.checksIn_get n crc sigOk rfl rfl)

/-- The conditions of R267 are the same with the results noted. -/
theorem State.checksIn_commitCode (b : Tbl Word) : (s.checksIn n crc sigOk).commitCode n b crc sigOk = s.commitCode n b crc sigOk := by
  obtain ⟨howner, hperiod, hctl⟩ := commitReg_ne_ucode n
  have hread {g : Fld} (h : g.addr ≠ R.TILE_LP_UCODE n) (hevt : ¬ evtReg g.addr) : (s.checksIn n crc sigOk).get g = s.get g :=
    (s.checksIn_touches n crc sigOk).get (fun c => h (List.mem_singleton.1 c)) hevt
  have hlaw (law : Nat) : (s.checksIn n crc sigOk).lawFails n b law = s.lawFails n b law := by
    rw [State.lawFails, hread (g := R.TILE_LP_PERIOD_P_SET n) hperiod (lpReg_not_evtReg (.inl rfl)),
      hread (g := R.TILE_OWNER_OWNER n) howner (tileReg_not_evtReg (Nat.le_add_right _ _)),
      hread (g := R.TILE_LP_CTL_NB n) hctl (lpReg_not_evtReg (.inr rfl)), ← State.lawFails]
  rw [State.commitCode, State.checksIn_pending, State.probing, State.checksIn_tile, State.tileOwner,
    hread (g := R.TILE_OWNER_OWNER n) howner (tileReg_not_evtReg (Nat.le_add_right _ _)),
    s.checksIn_get n crc sigOk (g := R.TILE_LP_UCODE_LAW_SET n) rfl rfl, State.lawCheck_eq, hlaw, ← State.lawCheck_eq, ← State.tileOwner]
  rfl

end

/-! ## A commit refused -/

/-- A commit refused: its code, and the standby bank no longer passed, unless the check could not run. -/
def State.commitDenied (s : State) (n : Nat) (b : Tbl Word) (code : Nat) : State :=
  (if code = Code.CFG_UCODE_BUSY then s else s.setStandby n b false).ucodeRefuse n code

section
variable (s : State) (n : Fin 20) (b : Tbl Word) (code : Nat)

theorem State.commitDenied_get {g : Fld} (hg : g.addr = R.TILE_LP_UCODE n) : (s.commitDenied n b code).get g = s.get g := by
  rw [State.commitDenied, State.ucodeRefuse_get _ n code hg]
  split
  · rfl
  · rw [State.setStandby_get]

theorem State.commitDenied_checking : ((s.commitDenied n b code).tile n).checking = (s.tile n).checking := by
  rw [State.commitDenied, State.ucodeRefuse_tile]
  split
  · rfl
  · rw [State.setStandby_checking]

theorem State.ucodeRefuse_image (active : Bool) : (s.ucodeRefuse n code).image n active = s.image n active :=
  State.image_congr_tile (s.ucodeRefuse_tile n code n) (s.ucodeRefuse_get n code rfl) active

theorem State.commitDenied_standby (h : s.image n false = b) : (s.commitDenied n b code).image n false = b := by
  rw [State.commitDenied, State.ucodeRefuse_image]
  split
  · exact h
  · rw [State.setStandby_standby]

theorem State.commitDenied_active : (s.commitDenied n b code).image n true = s.image n true := by
  rw [State.commitDenied, State.ucodeRefuse_image]
  split
  · rfl
  · rw [State.setStandby_active]

theorem State.ucodeRefuse_touches {ps : List Part} {rs : List Nat} (hrec : Part.recorder ∈ ps) (hframes : Part.frames ∈ ps)
    (hctl : R.TILE_LP_CTL n ∈ rs) : s.Touches (s.ucodeRefuse n code) ps rs := .refuse s _ _ _ (commitEvent_lt n) hrec hframes hctl

theorem State.commitDenied_touches : s.Touches (s.commitDenied n b code) [.tiles, .recorder, .frames] [R.TILE_LP_UCODE n, R.TILE_LP_CTL n] := by
  have hrefuse (u : State) : u.Touches (u.ucodeRefuse n code) [.tiles, .recorder, .frames] [R.TILE_LP_UCODE n, R.TILE_LP_CTL n] :=
    u.ucodeRefuse_touches n code (by decide) (by decide) (.tail _ (.head _))
  rw [State.commitDenied]
  split
  · exact hrefuse s
  · exact (s.setStandby_touches n b false (.head _)).trans (hrefuse _)

end

/-! ## A commit that waits for its exchange -/

/-- The count of frames for which a commit has waited starts. -/
def State.waitsFromNow (s : State) (n : Nat) : State := s.setTile n { s.tile n with pendingFrames := 0 }

/-- A commit accepted: the standby bank passed, and PENDING. -/
def State.commitWaits (s : State) (n : Nat) (b : Tbl Word) : State :=
  (((s.setStandby n b true).put (R.TILE_LP_UCODE_PENDING n) 1).lpTaken n).waitsFromNow n

section
variable (s : State) (n : Nat) (b : Tbl Word)

theorem State.waitsFromNow_get (g : Fld) : (s.waitsFromNow n).get g = s.get g := by rw [State.waitsFromNow, State.setTile_get]

theorem State.waitsFromNow_tile : (s.waitsFromNow n).tile n = { s.tile n with pendingFrames := 0 } := by
  rw [State.waitsFromNow, State.tile_setTile_self]

theorem State.commitWaits_get_ucode {g : Fld} (hg : g.addr = R.TILE_LP_UCODE n) :
    (s.commitWaits n b).get g = ((s.setStandby n b true).put (R.TILE_LP_UCODE_PENDING n) 1).get g := by
  rw [State.commitWaits, State.waitsFromNow_get, State.lpTaken_ucode _ n hg]

theorem State.commitWaits_get {g : Fld} (hg : g.addr = R.TILE_LP_UCODE n) (h : (R.TILE_LP_UCODE_PENDING n).beside g = true) :
    (s.commitWaits n b).get g = s.get g := by
  rw [s.commitWaits_get_ucode n b hg, State.get_put_beside _ _ h, State.setStandby_get]

theorem State.commitWaits_pending : (s.commitWaits n b).flag (R.TILE_LP_UCODE_PENDING n) = true := by
  rw [State.flag_congr (s.commitWaits_get_ucode n b (g := R.TILE_LP_UCODE_PENDING n) rfl)]
  exact State.flag_put_one _ _ (Fld.ok_of_formed rfl) rfl

theorem State.commitWaits_refuse : (s.commitWaits n b).get (R.TILE_LP_CTL_REFUSE n) = 0 := by
  rw [State.commitWaits, State.waitsFromNow_get, State.lpTaken_refuse]

theorem State.commitWaits_tile : (s.commitWaits n b).tile n = { (s.setStandby n b true).tile n with pendingFrames := 0 } := by
  rw [State.commitWaits, State.waitsFromNow_tile, State.lpTaken_tile, State.put_tile]

theorem State.commitWaits_checking : ((s.commitWaits n b).tile n).checking = (s.tile n).checking := by
  rw [State.commitWaits_tile]
  exact s.setStandby_checking n b true

theorem State.commitWaits_image (active : Bool) : (s.commitWaits n b).image n active = (s.setStandby n b true).image n active :=
  State.image_congr (by rw [State.commitWaits_tile]) (by rw [State.commitWaits_tile])
    ((s.commitWaits_get n b rfl rfl).trans (s.setStandby_get n b true _).symm) active

theorem State.commitWaits_passed : (s.commitWaits n b).passed n false = true := by
  have hbank : (s.commitWaits n b).flag (R.TILE_LP_UCODE_BANK n) = (s.setStandby n b true).flag (R.TILE_LP_UCODE_BANK n) :=
    State.flag_congr (s.commitWaits_get n b rfl rfl)
  rw [State.passed, hbank, State.commitWaits_tile]
  exact s.setStandby_passed n b true

theorem State.commitWaits_touches : s.Touches (s.commitWaits n b) [.tiles, .recorder, .frames] [R.TILE_LP_UCODE n, R.TILE_LP_CTL n] :=
  (((s.setStandby_touches n b true (.head _)).trans (.put _ _ _ (.head _))).trans (State.lpTaken_touches _ n (.tail _ (.head _)))).trans
    (.setTile _ n _ (.head _))

end

/-! ## The check as a command -/

theorem match_some_eq {α β : Type} (x : α) (d b : β) : (match some x with | none => d | some _ => b) = b := rfl

/-- The check runs on the state with the results noted. The kernel evaluates the condition of a match where it compares two of them, so the
two matches of the definition are taken apart by rewriting alone. -/
theorem doUcodeCheckDone_judged {s : State} {n : Fin 20} (h : (s.tile n).checking.isSome = true) (sigOk : Bool) : doUcodeCheckDone n sigOk s =
    ((s.checksIn n (imageCrc (s.image n false)) sigOk).commitCode n (s.image n false) (imageCrc (s.image n false)) sigOk).elim
      ((s.checksIn n (imageCrc (s.image n false)) sigOk).commitWaits n (s.image n false))
      ((s.checksIn n (imageCrc (s.image n false)) sigOk).commitDenied n (s.image n false)) := by
  obtain ⟨x, hx⟩ := Option.isSome_iff_exists.1 h
  rw [doUcodeCheckDone, hx]
  refine (match_some_eq x s _).trans ?_
  split
  next c hc =>
    have hdenied : (s.checksIn n (imageCrc (s.image n false)) sigOk).commitCode n (s.image n false) (imageCrc (s.image n false)) sigOk = some c := hc
    rw [hdenied, Option.elim_some, State.commitDenied, State.checksIn]
  next hc =>
    have hpasses : (s.checksIn n (imageCrc (s.image n false)) sigOk).commitCode n (s.image n false) (imageCrc (s.image n false)) sigOk = none := hc
    rw [hpasses, Option.elim_none, State.commitWaits, State.waitsFromNow, State.checksIn]

theorem doUcodeCheckDone_eq {s : State} {n : Fin 20} (h : (s.tile n).checking.isSome = true) (sigOk : Bool) :
    doUcodeCheckDone n sigOk s = (firstCode (s.commitFails n sigOk)).elim
      ((s.checksIn n (imageCrc (s.image n false)) sigOk).commitWaits n (s.image n false))
      ((s.checksIn n (imageCrc (s.image n false)) sigOk).commitDenied n (s.image n false)) := by
  rw [doUcodeCheckDone_judged h, State.checksIn_commitCode, State.commitCode_eq]

theorem ucodeCheckDone_leaves (s : State) (n : Fin 20) (sigOk : Bool) (hl : s.Live) (h : (s.tile n).checking.isSome = true) :
    Leaves (.ucodeCheckDone n sigOk) s fun t =>
      let b := s.image n false
      let fails := s.commitFails n sigOk
      t.flag (R.TILE_LP_UCODE_CRC_OK n) = imageCrc b ∧ t.flag (R.TILE_LP_UCODE_SIG_OK n) = sigOk ∧ (t.tile n).checking = none ∧
      t.image n true = s.image n true ∧ t.image n false = b ∧
      (∀ x, fails.find? (·.1) = some x → t.get (R.TILE_LP_CTL_REFUSE n) = x.2 ∧
        t.flag (R.TILE_LP_UCODE_PENDING n) = s.flag (R.TILE_LP_UCODE_PENDING n)) ∧
      (fails.find? (·.1) = none → t.flag (R.TILE_LP_UCODE_PENDING n) = true ∧ t.get (R.TILE_LP_CTL_REFUSE n) = 0 ∧ t.passed n false = true) ∧
      s.Touches t [.tiles, .recorder, .frames] [R.TILE_LP_UCODE n, R.TILE_LP_CTL n] := by
  refine leaves_live _ rfl hl ?_
  intro b fails
  rw [doUcodeCheckDone_eq h]
  set u := s.checksIn n (imageCrc (s.image n false)) sigOk with hu
  have hu_touch : s.Touches u [.tiles, .recorder, .frames] [R.TILE_LP_UCODE n, R.TILE_LP_CTL n] :=
    (s.checksIn_touches n _ sigOk).mono (by decide) (by simp)
  have hover : (u.tile n).checking = none := by rw [hu, State.checksIn_tile]
  cases hfail : fails.find? (·.1) with
  | some x =>
    rw [firstCode_of_some hfail, Option.elim_some]
    refine ⟨?_, ?_, ?_, ?_, ?_, ?_, nofun, hu_touch.trans (u.commitDenied_touches n b x.2)⟩
    · rw [State.flag_congr (u.commitDenied_get n b x.2 (g := R.TILE_LP_UCODE_CRC_OK n) rfl), hu, State.checksIn_crc]
    · rw [State.flag_congr (u.commitDenied_get n b x.2 (g := R.TILE_LP_UCODE_SIG_OK n) rfl), hu, State.checksIn_sig]
    · rw [State.commitDenied_checking, hover]
    · rw [State.commitDenied_active, State.checksIn_image]
    · exact u.commitDenied_standby n b x.2 (s.checksIn_image n _ sigOk false)
    · rintro _ ⟨⟩
      refine ⟨State.ucodeRefuse_code _ n (State.commitFails_lt hfail), ?_⟩
      rw [State.flag_congr (u.commitDenied_get n b x.2 (g := R.TILE_LP_UCODE_PENDING n) rfl), hu, State.checksIn_pending]
  | none =>
    rw [firstCode_of_none hfail, Option.elim_none]
    refine ⟨?_, ?_, ?_, ?_, ?_, nofun, fun _ => ⟨u.commitWaits_pending n b, u.commitWaits_refuse n b, u.commitWaits_passed n b⟩,
      hu_touch.trans (u.commitWaits_touches n b)⟩
    · rw [State.flag_congr (u.commitWaits_get n b (g := R.TILE_LP_UCODE_CRC_OK n) rfl rfl), hu, State.checksIn_crc]
    · rw [State.flag_congr (u.commitWaits_get n b (g := R.TILE_LP_UCODE_SIG_OK n) rfl rfl), hu, State.checksIn_sig]
    · rw [State.commitWaits_checking, hover]
    · rw [State.commitWaits_image, State.setStandby_active, State.checksIn_image]
    · rw [State.commitWaits_image, State.setStandby_standby]

end Sys2Proof.Machine
end

section
/-!
PROOFS. The banks exchanged (R264, R268), the end of probes and learning runs in a conflict (R274, R279), the window (R269), and O36.
-/
namespace Sys2Proof.Machine

/-! ## The exchange -/

/-- BANK names the other bank. -/
def State.flipBank (s : State) (n : Nat) : State := s.put (R.TILE_LP_UCODE_BANK n) (1 - s.get (R.TILE_LP_UCODE_BANK n))

section
variable (s : State) (n : Fin 20)

theorem State.flipBank_bank : (s.flipBank n).flag (R.TILE_LP_UCODE_BANK n) = !s.flag (R.TILE_LP_UCODE_BANK n) := by
  have hlt : s.get (R.TILE_LP_UCODE_BANK n) < 2 := s.get_lt (R.TILE_LP_UCODE_BANK n)
  have hput : (s.flipBank n).get (R.TILE_LP_UCODE_BANK n) = 1 - s.get (R.TILE_LP_UCODE_BANK n) :=
    s.get_put_fits _ _ (Fld.ok_of_formed rfl) (show 1 - s.get (R.TILE_LP_UCODE_BANK n) < 2 by omega)
  rw [State.flag, State.flag, hput]
  interval_cases s.get (R.TILE_LP_UCODE_BANK n) <;> rfl

theorem State.flipBank_image (active : Bool) : (s.flipBank n).image n active = s.image n !active := by
  rw [State.image, State.image, State.flipBank_bank, State.flipBank, State.put_tile]
  cases s.flag (R.TILE_LP_UCODE_BANK n) <;> cases active <;> rfl

theorem State.exchange_eq : s.exchange n =
    ((s.flipBank n).put (R.TILE_LP_UCODE_IMG_VER n) (bankWord (s.image n false) 0 % 2 ^ 16)).ev (Ev.imageChange n) := by
  rw [← Bool.not_true, ← State.flipBank_image]
  rfl

theorem imageEvent_lt : Ev.imageChange n < 1_536 := by
  unfold Ev.imageChange
  omega

theorem State.exchange_get {g : Fld} (hg : g.addr = R.TILE_LP_UCODE n) :
    (s.exchange n).get g = ((s.flipBank n).put (R.TILE_LP_UCODE_IMG_VER n) (bankWord (s.image n false) 0 % 2 ^ 16)).get g := by
  rw [State.exchange_eq, State.ev_get _ _ _ (imageEvent_lt n) (hg ▸ ucode_not_evtReg n)]

theorem State.exchange_version : (s.exchange n).get (R.TILE_LP_UCODE_IMG_VER n) = bankWord (s.image n false) 0 % 2 ^ 16 := by
  rw [s.exchange_get n rfl]
  exact State.get_put_fits _ _ _ (Fld.ok_of_formed rfl) (Nat.mod_lt _ (by decide))

theorem State.exchange_pending : (s.exchange n).flag (R.TILE_LP_UCODE_PENDING n) = s.flag (R.TILE_LP_UCODE_PENDING n) := by
  refine State.flag_congr ?_
  rw [s.exchange_get n rfl, State.get_put_beside _ _ rfl]
  exact s.get_put_beside _ rfl

theorem State.exchange_tile (k : Nat) : (s.exchange n).tile k = s.tile k := by
  rw [State.exchange_eq, State.tile_congr (State.ev_tiles _ _ _ (imageEvent_lt n)), State.put_tile, State.flipBank, State.put_tile]

theorem State.exchange_image (active : Bool) : (s.exchange n).image n active = s.image n !active := by
  rw [← State.flipBank_image]
  refine State.image_congr_tile ?_ ?_ active
  · rw [State.exchange_tile, State.flipBank, State.put_tile]
  · rw [s.exchange_get n rfl, State.get_put_beside _ _ rfl]

theorem State.exchange_t : (s.exchange n).t = s.t := by
  rw [State.exchange_eq, State.ev_t _ _ _ (imageEvent_lt n), State.put_t, State.flipBank, State.put_t]

theorem State.exchange_touches {ps : List Part} {rs : List Nat} (hrec : Part.recorder ∈ ps) (hframes : Part.frames ∈ ps)
    (hucode : R.TILE_LP_UCODE n ∈ rs) : s.Touches (s.exchange n) ps rs := by
  rw [State.exchange_eq]
  exact ((State.Touches.put s _ _ hucode).trans (.put _ _ _ hucode)).trans (.ev _ _ _ (imageEvent_lt n) hrec hframes)

end

/-! ## The exchange as a command (R268) -/

/-- The conditions of R268 on an edge. -/
theorem doUcodeExchange_eligible {s : State} {n : Fin 20} (hpending : s.flag (R.TILE_LP_UCODE_PENDING n) = true) (howner : s.tileOwner n = 0)
    (hserves : s.engineServes n = true) (htrans : ∀ tr, tr ∈ s.fab.trans → tr.phase = 0 ∨ s.nextEdge n ≤ tr.e - tr.gb ∨ tr.e ≤ s.nextEdge n)
    (hlaw : ∀ l, l < 4_096 → s.law (n * 4_096 + l) ≠ 4 ∧ s.law (n * 4_096 + l) ≠ 1) :
    doUcodeExchange n s = ((s.advanceTo (s.nextEdge n)).put (R.TILE_LP_UCODE_PENDING n) 0).exchange n := by
  refine if_pos ?_
  have hsteady : s.anyElem n 0 4096 (fun s e => s.law e == 4 || s.law e == 1) = false := by
    simpa only [State.anyElem, Nat.add_zero, List.any_eq_false, List.mem_range, Bool.or_eq_true, beq_iff_eq, not_or] using hlaw
  have hclear : s.fab.trans.all (fun tr => tr.phase = 0 || s.nextEdge n ≤ tr.e - tr.gb || tr.e ≤ s.nextEdge n || !tr.loads.any fun l =>
      tileOfPos 0 l.1 == n.val || tileOfPos 1 l.1 == n.val) = true := by
    refine List.all_eq_true.2 fun tr htr => ?_
    simp only [Bool.or_eq_true, decide_eq_true_eq, or_assoc]
    rcases htrans tr htr with hphase | hbefore | hafter
    · exact .inl hphase
    · exact .inr (.inl hbefore)
    · exact .inr (.inr (.inl hafter))
  rw [hpending, hclear, howner, hserves, hsteady]
  rfl

theorem ucodeExchange_leaves (s : State) (n : Fin 20) (hl : s.Live) (hpending : s.flag (R.TILE_LP_UCODE_PENDING n) = true)
    (howner : s.tileOwner n = 0) (hserves : s.engineServes n = true)
    (htrans : ∀ tr, tr ∈ s.fab.trans → tr.phase = 0 ∨ s.nextEdge n ≤ tr.e - tr.gb ∨ tr.e ≤ s.nextEdge n)
    (hlaw : ∀ l, l < 4_096 → s.law (n * 4_096 + l) ≠ 4 ∧ s.law (n * 4_096 + l) ≠ 1) : Leaves (.ucodeExchange n) s fun t =>
      t.t = max s.t (s.nextEdge n * 2 ^ 32) ∧ t.flag (R.TILE_LP_UCODE_PENDING n) = false ∧
      t.image n true = s.image n false ∧ t.image n false = s.image n true ∧
      t.get (R.TILE_LP_UCODE_IMG_VER n) = bankWord (s.image n false) 0 % 2 ^ 16 ∧
      s.Touches t [.time, .recorder, .frames] [R.TILE_LP_UCODE n] := by
  refine leaves_live _ rfl hl ?_
  rw [doUcodeExchange_eligible hpending howner hserves htrans hlaw]
  set u := (s.advanceTo (s.nextEdge n)).put (R.TILE_LP_UCODE_PENDING n) 0 with hu
  have himage (active : Bool) : u.image n active = s.image n active :=
    State.image_congr_tile (State.put_tile _ _ _ _) (State.get_put_beside _ _ rfl) active
  have htouch : s.Touches u [.time, .recorder, .frames] [R.TILE_LP_UCODE n] :=
    (State.Touches.advanceTo s _ (.head _)).trans (.put _ _ _ (.head _))
  refine ⟨?_, ?_, ?_, ?_, ?_, htouch.trans (u.exchange_touches n (by decide) (by decide) (.head _))⟩
  · rw [State.exchange_t, hu, State.put_t, State.advanceTo]
  · rw [State.exchange_pending]
    exact State.flag_put_zero _ _ (Fld.ok_of_formed rfl) rfl
  · rw [State.exchange_image, himage, Bool.not_true]
  · rw [State.exchange_image, himage, Bool.not_false]
  · rw [State.exchange_version, himage]

theorem ucodeCommitTimeout_leaves (s : State) (n : Fin 20) (hl : s.Live) (hpending : s.flag (R.TILE_LP_UCODE_PENDING n) = true)
    (hframes : 2_000 ≤ (s.tile n).pendingFrames) : Leaves (.ucodeCommitTimeout n) s fun t =>
      t = (s.put (R.TILE_LP_UCODE_PENDING n) 0).refuse (R.TILE_LP_CTL_REFUSE n) (Ev.commitRefused n) Code.CFG_UCODE_TIMEOUT := by
  refine leaves_live _ rfl hl (if_pos ?_)
  rw [hpending, decide_eq_true hframes, Bool.and_self]

/-! ## The end of a probe and of a learning run (R274, R279) -/

theorem probeEvent_lt (n : Fin 20) : Ev.probeEnded n < 1_536 := by
  unfold Ev.probeEnded
  omega

theorem learnEvent_lt (n : Fin 20) : Ev.learningEnded n < 1_536 := by
  unfold Ev.learningEnded
  omega

/-- A tile without its probe. -/
def TileSt.withoutProbe (x : TileSt) : TileSt := { x with probe := none, stopDue := x.stopDue && x.probe.isNone }

theorem TileSt.withoutProbe_none {x : TileSt} (h : x.probe = none) : x.withoutProbe = x := by
  cases x
  simp_all [TileSt.withoutProbe]

theorem TileSt.withoutProbe_some {x : TileSt} {p : Probe} (h : x.probe = some p) : x.withoutProbe = { x with probe := none, stopDue := false } := by
  rw [TileSt.withoutProbe, h, Option.isNone_some, Bool.and_false]

section
variable {s : State} {n : Fin 20}

theorem State.endProbe_none (h : (s.tile n).probe = none) (code : Nat) : s.endProbe n code = s := by rw [State.endProbe, h]

theorem State.endProbe_some {p : Probe} (h : (s.tile n).probe = some p) (code : Nat) : s.endProbe n code =
    (((s.setTile n { s.tile n with probe := none, stopDue := false }).put (R.TILE_LP_PRB_STS_STATE n) 2).put
      (R.TILE_LP_PRB_STS_END n) code).ev (Ev.probeEnded n) code := by
  rw [State.endProbe, h]

theorem State.conflict_none {code : Nat} (h : ((s.endProbe n code).tile n).learn = none) :
    s.conflict n code = s.endProbe n code := by rw [State.conflict, h]

theorem State.conflict_some {code : Nat} {l : Learn} (h : ((s.endProbe n code).tile n).learn = some l) :
    s.conflict n code = (s.endProbe n code).endLearn n 3 code := by rw [State.conflict, h]

end

section
variable (s : State) (n : Fin 20)

theorem State.endProbe_tile (code : Nat) : (s.endProbe n code).tile n = (s.tile n).withoutProbe := by
  cases h : (s.tile n).probe with
  | none => rw [State.endProbe_none h, TileSt.withoutProbe_none h]
  | some p =>
    rw [State.endProbe_some h, State.tile_congr (State.ev_tiles _ _ _ (probeEvent_lt n)), State.put_tile, State.put_tile, State.tile_setTile_self,
      TileSt.withoutProbe_some h]

theorem State.endProbe_touches (code : Nat) {ps : List Part} {rs : List Nat} (htiles : Part.tiles ∈ ps) (hrec : Part.recorder ∈ ps)
    (hframes : Part.frames ∈ ps) (hsts : R.TILE_LP_PRB_STS n ∈ rs) : s.Touches (s.endProbe n code) ps rs := by
  cases h : (s.tile n).probe with
  | none =>
    rw [State.endProbe_none h]
    exact .refl s _ _
  | some p =>
    rw [State.endProbe_some h]
    exact (((State.Touches.setTile s n _ htiles).trans (.put _ _ _ hsts)).trans (.put _ _ _ hsts)).trans
      (.ev _ _ _ (probeEvent_lt n) hrec hframes)

theorem State.endLearn_tile (state code : Nat) : (s.endLearn n state code).tile n = { s.tile n with learn := none } := by
  rw [State.endLearn, State.tile_congr (State.ev_tiles _ _ _ (learnEvent_lt n)), State.put_tile, State.put_tile, State.tile_setTile_self]

theorem State.endLearn_touches (state code : Nat) {ps : List Part} {rs : List Nat} (htiles : Part.tiles ∈ ps) (hrec : Part.recorder ∈ ps)
    (hframes : Part.frames ∈ ps) (hctl : R.TILE_LP_XL_CTL n ∈ rs) : s.Touches (s.endLearn n state code) ps rs := by
  rw [State.endLearn]
  exact (((State.Touches.setTile s n _ htiles).trans (.put _ _ _ hctl)).trans (.put _ _ _ hctl)).trans (.ev _ _ _ (learnEvent_lt n) hrec hframes)

theorem State.conflict_tile (code : Nat) : (s.conflict n code).tile n = { (s.tile n).withoutProbe with learn := none } := by
  cases h : ((s.endProbe n code).tile n).learn with
  | none => rw [State.conflict_none h, ← h, State.endProbe_tile]
  | some l => rw [State.conflict_some h, State.endLearn_tile, State.endProbe_tile]

theorem State.conflict_touches (code : Nat) :
    s.Touches (s.conflict n code) [.tiles, .recorder, .frames] [R.TILE_LP_PRB_STS n, R.TILE_LP_XL_CTL n] := by
  have hprobe : s.Touches (s.endProbe n code) [.tiles, .recorder, .frames] [R.TILE_LP_PRB_STS n, R.TILE_LP_XL_CTL n] :=
    s.endProbe_touches n code (by decide) (by decide) (by decide) (.head _)
  cases h : ((s.endProbe n code).tile n).learn with
  | none =>
    rw [State.conflict_none h]
    exact hprobe
  | some l =>
    rw [State.conflict_some h]
    exact hprobe.trans ((s.endProbe n code).endLearn_touches n 3 code (by decide) (by decide) (by decide) (.tail _ (.head _)))

theorem ucode_not_mem_conflict (n : Nat) : R.TILE_LP_UCODE n ∉ [R.TILE_LP_PRB_STS n, R.TILE_LP_XL_CTL n] := by
  simp [R.TILE_LP_UCODE, R.TILE_LP_PRB_STS, R.TILE_LP_XL_CTL]

theorem State.conflict_ucode (code : Nat) {g : Fld} (hg : g.addr = R.TILE_LP_UCODE n) : (s.conflict n code).get g = s.get g :=
  (s.conflict_touches n code).get (hg ▸ ucode_not_mem_conflict n) (hg ▸ ucode_not_evtReg n)

theorem State.conflict_image (code : Nat) (active : Bool) : (s.conflict n code).image n active = s.image n active :=
  State.image_congr (by rw [State.conflict_tile]; rfl) (by rw [State.conflict_tile]; rfl) (s.conflict_ucode n code rfl) active

end

/-! ## The fallback (R264) -/

/-- The run of frames that abandon an entry is over. -/
def State.runOver (s : State) (n : Nat) : State := s.setTile n { s.tile n with abandonRun := 0 }

theorem State.runOver_tile (s : State) (n : Nat) : (s.runOver n).tile n = { s.tile n with abandonRun := 0 } := State.tile_setTile_self _ _ _

theorem State.runOver_get (s : State) (n : Nat) (g : Fld) : (s.runOver n).get g = s.get g := State.setTile_get _ _ _ _

theorem State.runOver_image (s : State) (n : Nat) (active : Bool) : (s.runOver n).image n active = s.image n active :=
  State.image_congr (by rw [State.runOver_tile]) (by rw [State.runOver_tile]) (s.runOver_get n _) active

theorem doUcodeFallback_changes {s : State} {n : Fin 20} (hrun : 10 ≤ (s.tile n).abandonRun) (hpassed : s.passed n false = true) :
    doUcodeFallback n s = (((s.advanceTo (s.nextEdge n)).runOver n).exchange n).conflict n Code.CFG_PROBE_CONFLICT := if_pos ⟨hrun, hpassed⟩

theorem ucodeFallback_leaves (s : State) (n : Fin 20) (hl : s.Live) (hrun : 10 ≤ (s.tile n).abandonRun) (hpassed : s.passed n false = true) :
    Leaves (.ucodeFallback n) s fun t =>
      t.t = max s.t (s.nextEdge n * 2 ^ 32) ∧ t.image n true = s.image n false ∧ t.image n false = s.image n true ∧
      t.get (R.TILE_LP_UCODE_IMG_VER n) = bankWord (s.image n false) 0 % 2 ^ 16 ∧
      (t.tile n).abandonRun = 0 ∧ (t.tile n).probe = none ∧ (t.tile n).learn = none ∧
      s.Touches t [.time, .tiles, .recorder, .frames] [R.TILE_LP_UCODE n, R.TILE_LP_PRB_STS n, R.TILE_LP_XL_CTL n] := by
  refine leaves_live _ rfl hl ?_
  rw [doUcodeFallback_changes hrun hpassed]
  set u := (s.advanceTo (s.nextEdge n)).runOver n with hu
  set w := u.exchange n with hw
  have htile : (w.conflict n Code.CFG_PROBE_CONFLICT).tile n = { (u.tile n).withoutProbe with learn := none } := by
    rw [State.conflict_tile, hw, State.exchange_tile]
  have himage (active : Bool) : (w.conflict n Code.CFG_PROBE_CONFLICT).image n active = s.image n !active := by
    rw [State.conflict_image, hw, State.exchange_image, hu, State.runOver_image]
    rfl
  have hstart : s.Touches u [.time, .tiles, .recorder, .frames] [R.TILE_LP_UCODE n, R.TILE_LP_PRB_STS n, R.TILE_LP_XL_CTL n] :=
    (State.Touches.advanceTo s _ (.head _)).trans (.setTile _ n _ (.tail _ (.head _)))
  have hend := w.conflict_touches n Code.CFG_PROBE_CONFLICT
  have htime : (w.conflict n Code.CFG_PROBE_CONFLICT).t = w.t := hend.same .time (by decide)
  refine ⟨?_, himage true, himage false, ?_, ?_, ?_, ?_, ?_⟩
  · rw [htime, hw, State.exchange_t, hu, State.runOver, State.setTile_t, State.advanceTo]
  · rw [State.conflict_ucode w n _ rfl, hw, State.exchange_version, hu, State.runOver_image]
    rfl
  · rw [htile, hu, State.runOver_tile]
    rfl
  · rw [htile]
    rfl
  · rw [htile]
  · exact (hstart.trans (u.exchange_touches n (by decide) (by decide) (.head _))).trans (hend.mono (by decide) (by simp))

/-! ## The window (R269) -/

/-- CRC_OK and SIG_OK cleared. -/
def State.unchecked (s : State) (n : Nat) : State := (s.put (R.TILE_LP_UCODE_CRC_OK n) 0).put (R.TILE_LP_UCODE_SIG_OK n) 0

section
variable (s : State) (n : Nat)

theorem State.unchecked_crc : (s.unchecked n).flag (R.TILE_LP_UCODE_CRC_OK n) = false := by
  rw [State.unchecked, State.flag_congr (State.get_put_beside (g := R.TILE_LP_UCODE_CRC_OK n) _ _ rfl)]
  exact State.flag_put_zero _ _ (Fld.ok_of_formed rfl) rfl

theorem State.unchecked_sig : (s.unchecked n).flag (R.TILE_LP_UCODE_SIG_OK n) = false := State.flag_put_zero _ _ (Fld.ok_of_formed rfl) rfl

theorem State.unchecked_tile (k : Nat) : (s.unchecked n).tile k = s.tile k := by rw [State.unchecked, State.put_tile, State.put_tile]

theorem State.unchecked_bank : (s.unchecked n).get (R.TILE_LP_UCODE_BANK n) = s.get (R.TILE_LP_UCODE_BANK n) :=
  (State.get_put_beside _ _ rfl).trans (s.get_put_beside _ rfl)

theorem State.unchecked_image (active : Bool) : (s.unchecked n).image n active = s.image n active :=
  State.image_congr_tile (s.unchecked_tile n n) (s.unchecked_bank n) active

theorem State.unchecked_touches {ps : List Part} {rs : List Nat} (h : R.TILE_LP_UCODE n ∈ rs) : s.Touches (s.unchecked n) ps rs :=
  (State.Touches.put s _ _ h).trans (.put _ _ _ h)

theorem State.lpTaken_image (active : Bool) : (s.lpTaken n).image n active = s.image n active :=
  State.image_congr_tile (s.lpTaken_tile n n) (s.lpTaken_ucode n rfl) active

end

theorem doUcodeWindowWrite_pending {s : State} {n : Fin 20} (h : s.flag (R.TILE_LP_UCODE_PENDING n) = true) (k : Fin 32768) (v : Word) :
    doUcodeWindowWrite n k v s = s.lpRefuse n Code.CFG_UCODE_BUSY := if_pos h

theorem doUcodeWindowWrite_taken {s : State} {n : Fin 20} (h : s.flag (R.TILE_LP_UCODE_PENDING n) ≠ true) (k : Fin 32768) (v : Word) :
    doUcodeWindowWrite n k v s = ((s.setStandby n (Tbl.set 0 (s.image n false) k v) (s.passed n false)).unchecked n).lpTaken n := if_neg h

theorem ucodeWindowWrite_leaves (s : State) (n : Fin 20) (k : Fin 32768) (v : Word) (hs : s.Served) : Leaves (.ucodeWindowWrite n k v) s fun t =>
    if s.flag (R.TILE_LP_UCODE_PENDING n) = true then
      t = s.refuse (R.TILE_LP_CTL_REFUSE n) (Ev.loopConfigurationRefused n) Code.CFG_UCODE_BUSY
    else
      Tbl.getD (t.image n false) k 0 = v ∧ (∀ j, j ≠ k.val → Tbl.getD (t.image n false) j 0 = Tbl.getD (s.image n false) j 0) ∧
      t.image n true = s.image n true ∧ t.flag (R.TILE_LP_UCODE_CRC_OK n) = false ∧ t.flag (R.TILE_LP_UCODE_SIG_OK n) = false ∧
      t.get (R.TILE_LP_CTL_REFUSE n) = 0 ∧ s.Touches t [.tiles] [R.TILE_LP_UCODE n, R.TILE_LP_CTL n] := by
  refine leaves_bar _ rfl hs ?_
  split
  next hpending => exact doUcodeWindowWrite_pending hpending k v
  next hfree =>
    rw [doUcodeWindowWrite_taken hfree]
    set b := Tbl.set 0 (s.image n false) k.val v with hb
    set u := s.setStandby n b (s.passed n false) with hu
    have hstandby : ((u.unchecked n).lpTaken n).image n false = b := by
      rw [State.lpTaken_image, State.unchecked_image, hu, State.setStandby_standby]
    refine ⟨?_, fun j hj => ?_, ?_, ?_, ?_, State.lpTaken_refuse _ n, ?_⟩
    · rw [hstandby, hb, Tbl.getD_set_self]
    · rw [hstandby, hb, Tbl.getD_set_other _ _ hj]
    · rw [State.lpTaken_image, State.unchecked_image, hu, State.setStandby_active]
    · rw [State.flag_congr (State.lpTaken_ucode _ n rfl), State.unchecked_crc]
    · rw [State.flag_congr (State.lpTaken_ucode _ n rfl), State.unchecked_sig]
    · exact ((s.setStandby_touches n b _ (.head _)).trans (State.unchecked_touches _ n (.head _))).trans
        (State.lpTaken_touches _ n (.tail _ (.head _)))

/-! ## O36 -/

/-- Settles O36: a write of `TILE_LP_UCODE`, the commit check, the exchange, its timeout, the fallback and the window, each by its own lemma. -/
theorem microcodeIsCheckedAndExchanged : Obligations.MicrocodeIsCheckedAndExchanged := by
  unfold Obligations.MicrocodeIsCheckedAndExchanged
  refine ⟨fun s n v i hs hi => ucodeWrite_leaves s n v i hs hi, fun s n sigOk hl h => ?_, ucodeExchange_leaves, ucodeCommitTimeout_leaves,
    ucodeFallback_leaves, ucodeWindowWrite_leaves⟩
  simp only [← Nat.not_le, decide_not]
  exact ucodeCheckDone_leaves s n sigOk hl h

end Sys2Proof.Machine
end

section
/-!
PROOFS. Probes (R271 to R274) and the capture buffer (R276): the conditions on START in order, what START and STOP leave, what a probe injects,
and a read of `TILE_LP_CAP_DATA`.
-/
namespace Sys2Proof.Machine

/-! ## The conditions on START (R271, R277) -/

/-- Orders 1 and 2 of R271 with their codes. -/
def State.freeFails (s : State) (n : Nat) : List (Bool × Nat) :=
  [(decide (2 ≤ s.level), Code.THM_THROTTLED),
   ((s.tile n).probe.isSome || (s.tile n).learn.isSome || s.flag (R.TILE_LP_UCODE_PENDING n) || !s.flag (R.TILE_LP_CTL_ENABLE n),
    Code.CFG_CAPTURE_BUSY)]

/-- An element that a probe may excite (order 5 of R271): lit on its heater within LIT_MAX, or dark. -/
def State.probeFits (s : State) (n : Nat) (v : Word) (e : Nat) : Bool :=
  (s.status e == 0 || s.status e == 3) &&
    (if s.carries e then !bit v 4 && decide ((sx 16 (s.get (R.TILE_LP_PRB_AMP_AMP n))).natAbs ≤ s.get (R.TILE_LP_PRB_AMP_LIT_MAX n))
     else !s.used e && s.reachDark e)

/-- The parameters of a probe are within their limits (order 3 of R271). -/
def State.probeFormed (s : State) (n : Nat) (v : Word) : Bool :=
  let set := s.probeSet n
  let amp := (sx 16 (s.get (R.TILE_LP_PRB_AMP_AMP n))).natAbs
  let f0 := s.get (R.TILE_LP_PRB_CHIRP_F0 n)
  let f1 := s.get (R.TILE_LP_PRB_CHIRP_F1 n)
  decide (1 ≤ set.length) && decide (set.length ≤ 64) && decide (1 ≤ s.get (R.TILE_LP_PRB_TIME_LEN n)) &&
    decide (s.get (R.TILE_LP_PRB_AMP_LIT_MAX n) ≤ 0x200) && decide (amp ≤ if bit v 4 then 1_023 else 16_384) &&
    (bits v 3 2 != 2 || (decide (f0 ≤ f1) && decide (f1 ≤ 0x8000)))

/-- The conditions of R271 with their codes, in order. -/
def State.probeFails (s : State) (n : Nat) (v : Word) : List (Bool × Nat) :=
  s.freeFails n ++
    [(!s.probeFormed n v, Code.CFG_PROBE_PARAM),
     (!s.budget250 n (s.get (R.TILE_LP_PERIOD_P_SET n)) (s.get (R.TILE_LP_CTL_NB n)) (32 * (s.probeSet n).length), Code.CFG_FRAME_BUDGET),
     (!(s.probeSet n).all (s.probeFits n v), Code.CFG_PROBE_CONFLICT)]

theorem State.probeFree_eq (s : State) (n : Nat) : s.probeFree n = firstCode (s.freeFails n) := by
  rw [State.freeFails, firstCode_cons, firstCode_cons, firstCode_nil, State.probeFree, State.probing]
  exact if_congr decide_eq_true_iff.symm rfl rfl

theorem State.probeFormed_iff (s : State) (n : Nat) (v : Word) : (!s.probeFormed n v) = true ↔
    (s.probeSet n).length < 1 ∨ 64 < (s.probeSet n).length ∨ s.get (R.TILE_LP_PRB_TIME_LEN n) = 0 ∨
      (bits v 3 2 == 2 && (decide (s.get (R.TILE_LP_PRB_CHIRP_F1 n) < s.get (R.TILE_LP_PRB_CHIRP_F0 n)) ||
        decide (0x8000 < s.get (R.TILE_LP_PRB_CHIRP_F1 n)))) = true ∨
      0x200 < s.get (R.TILE_LP_PRB_AMP_LIT_MAX n) ∨
      (if bit v 4 then 1_023 else 16_384) < (sx 16 (s.get (R.TILE_LP_PRB_AMP_AMP n))).natAbs := by
  generalize hlimit : (if bit v 4 then 1_023 else 16_384) = limit
  simp only [State.probeFormed, hlimit, Bool.not_eq_true', Bool.and_eq_false_iff, Bool.or_eq_false_iff, decide_eq_false_iff_not, Nat.not_le,
    Bool.and_eq_true, Bool.or_eq_true, decide_eq_true_eq, beq_iff_eq, bne_eq_false_iff_eq, Nat.lt_one_iff]
  tauto

theorem State.probeCheck_eq (s : State) (n : Nat) (v : Word) : s.probeCheck n v = firstCode (s.probeFails n v) := by
  rw [State.probeFails, firstCode_append, ← State.probeFree_eq, firstCode_cons, firstCode_cons, firstCode_cons, firstCode_nil, State.probeCheck]
  cases s.probeFree n with
  | some c => rfl
  | none =>
    refine if_congr (s.probeFormed_iff n v).symm rfl (if_congr (by rw [Bool.not_eq_true']) rfl ?_)
    show (if (s.probeSet n).all (s.probeFits n v) then none else some Code.CFG_PROBE_CONFLICT) = _
    cases (s.probeSet n).all (s.probeFits n v) <;> rfl

theorem State.probeFails_lt {s : State} {n : Nat} {v : Word} {x : Bool × Nat} (h : (s.probeFails n v).find? (·.1) = some x) : x.2 < 2 ^ 16 := by
  have hall : ∀ y ∈ s.probeFails n v, y.2 < 2 ^ 16 := by
    simp [State.probeFails, State.freeFails, Code.THM_THROTTLED, Code.CFG_CAPTURE_BUSY, Code.CFG_PROBE_PARAM, Code.CFG_FRAME_BUDGET,
      Code.CFG_PROBE_CONFLICT]
  exact hall x (List.mem_of_find?_eq_some h)

/-! ## START (R271) -/

/-- A START refused: STATE idle unless a probe runs, its code in END, and the event. -/
def State.probeRefused (s : State) (n code : Nat) : State :=
  ((if (s.tile n).probe.isSome then s else s.put (R.TILE_LP_PRB_STS_STATE n) 0).put (R.TILE_LP_PRB_STS_END n) code).ev (Ev.probeEnded n) code

/-- STATE runs, FULL and WP clear. -/
def State.probeRuns (s : State) (n : Nat) : State :=
  ((s.put (R.TILE_LP_PRB_STS_STATE n) 1).put (R.TILE_LP_PRB_STS_FULL n) 0).put (R.TILE_LP_CAP_WP_WP n) 0

/-- The probe that a START begins, by the registers of its tile. -/
def State.newProbe (s : State) (n : Nat) : Probe :=
  ⟨0, (s.probeSet n).map fun e => (e, s.carries e), s.rd (R.TILE_LP_PRB_CFG n), s.rd (R.TILE_LP_PRB_AMP n), s.rd (R.TILE_LP_PRB_TIME n),
    s.rd (R.TILE_LP_PRB_CHIRP n)⟩

/-- A START accepted. -/
def State.probeStarted (s : State) (n : Nat) (v : Word) : State :=
  let u := s.take (R.TILE_LP_PRB_CFG n) v
  (u.probeRuns n).setTile n { (u.probeRuns n).tile n with probe := some (u.newProbe n), stopDue := bit v 1 }

theorem doProbeStart_eq {n : Fin 20} {v : Word} (hstart : bit v 0 = true) (s : State) :
    doProbeStart n v s = (firstCode (s.probeFails n v)).elim (s.probeStarted n v) (s.probeRefused n) := by
  have hrow : doProbeStart n v s = probeCfgWrite n v s := if_pos hstart
  have hwrite : probeCfgWrite n v s = (s.probeCheck n v).elim (s.probeStarted n v) (s.probeRefused n) := by
    refine (if_pos hstart).trans ?_
    cases s.probeCheck n v <;> rfl
  rw [hrow, hwrite, State.probeCheck_eq]

theorem prbSts_ne_capWp (n : Nat) : R.TILE_LP_PRB_STS n ≠ R.TILE_LP_CAP_WP n := tileReg_ne (by decide) n

theorem prbSts_not_evtReg (n : Nat) : ¬ evtReg (R.TILE_LP_PRB_STS n) := tileReg_not_evtReg (Nat.le_add_right _ _)

section
variable (s : State) (n : Fin 20)

theorem State.probeRefused_end {code : Nat} (h : code < 2 ^ 16) : (s.probeRefused n code).get (R.TILE_LP_PRB_STS_END n) = code := by
  rw [State.probeRefused, State.ev_get _ _ _ (probeEvent_lt n) (prbSts_not_evtReg n)]
  exact State.get_put_fits _ _ _ (Fld.ok_of_formed rfl) h

theorem State.probeRefused_idle (code : Nat) (h : (s.tile n).probe = none) : (s.probeRefused n code).get (R.TILE_LP_PRB_STS_STATE n) = 0 := by
  rw [State.probeRefused, State.ev_get _ _ _ (probeEvent_lt n) (prbSts_not_evtReg n), State.get_put_beside _ _ rfl, h, Option.isSome_none,
    if_neg Bool.false_ne_true]
  exact State.get_put_self _ _ _ (Fld.ok_of_formed rfl)

theorem State.probeRefused_tile (code k : Nat) : (s.probeRefused n code).tile k = s.tile k := by
  rw [State.probeRefused, State.tile_congr (State.ev_tiles _ _ _ (probeEvent_lt n)), State.put_tile]
  split
  · rfl
  · rw [State.put_tile]

theorem State.probeRefused_touches (code : Nat) : s.Touches (s.probeRefused n code) [.recorder, .frames] [R.TILE_LP_PRB_STS n] := by
  have hidle : s.Touches (if (s.tile n).probe.isSome then s else s.put (R.TILE_LP_PRB_STS_STATE n) 0) [.recorder, .frames] [R.TILE_LP_PRB_STS n] := by
    split
    · exact .refl s _ _
    · exact .put s (R.TILE_LP_PRB_STS_STATE n) 0 (.head _)
  rw [State.probeRefused]
  exact (hidle.trans (.put _ (R.TILE_LP_PRB_STS_END n) code (.head _))).trans (.ev _ _ _ (probeEvent_lt n) (.head _) (.tail _ (.head _)))

end

section
variable (s : State) (n : Nat)

theorem State.probeRuns_state : (s.probeRuns n).get (R.TILE_LP_PRB_STS_STATE n) = 1 := by
  rw [State.probeRuns, State.get_put_elsewhere (f := R.TILE_LP_CAP_WP_WP n) (g := R.TILE_LP_PRB_STS_STATE n) _ _ (prbSts_ne_capWp n),
    State.get_put_beside _ _ rfl]
  exact State.get_put_self _ _ _ (Fld.ok_of_formed rfl)

theorem State.probeRuns_full : (s.probeRuns n).flag (R.TILE_LP_PRB_STS_FULL n) = false := by
  rw [State.probeRuns,
    State.flag_congr (State.get_put_elsewhere (f := R.TILE_LP_CAP_WP_WP n) (g := R.TILE_LP_PRB_STS_FULL n) _ _ (prbSts_ne_capWp n))]
  exact State.flag_put_zero _ _ (Fld.ok_of_formed rfl) rfl

theorem State.probeRuns_wp : (s.probeRuns n).get (R.TILE_LP_CAP_WP_WP n) = 0 := State.get_put_self _ _ _ (Fld.ok_of_formed rfl)

theorem State.probeRuns_touches : s.Touches (s.probeRuns n) [] [R.TILE_LP_PRB_STS n, R.TILE_LP_CAP_WP n] := by
  rw [State.probeRuns]
  exact ((State.Touches.put s (R.TILE_LP_PRB_STS_STATE n) 1 (.head _)).trans (.put _ (R.TILE_LP_PRB_STS_FULL n) 0 (.head _))).trans
    (.put _ (R.TILE_LP_CAP_WP_WP n) 0 (.tail _ (.head _)))

/-- The registers that a probe takes are not those that its start changes. -/
theorem prbCfg_not_mem_runs : R.TILE_LP_PRB_CFG n ∉ [R.TILE_LP_PRB_STS n, R.TILE_LP_CAP_WP n] := by
  simp [R.TILE_LP_PRB_CFG, R.TILE_LP_PRB_STS, R.TILE_LP_CAP_WP]

variable (v : Word)

theorem State.takePrbCfg_rd {a : Nat} (h : a ≠ R.TILE_LP_PRB_CFG n) : (s.take (R.TILE_LP_PRB_CFG n) v).rd a = s.rd a := State.rd_wr_other s _ h

theorem State.takePrbCfg_probeSet : (s.take (R.TILE_LP_PRB_CFG n) v).probeSet n = s.probeSet n := by
  have hset (k : Nat) : (s.take (R.TILE_LP_PRB_CFG n) v).rd (R.TILE_LP_PRB_SET n k) = s.rd (R.TILE_LP_PRB_SET n k) := by
    refine s.takePrbCfg_rd n v ?_
    unfold R.TILE_LP_PRB_SET R.TILE_LP_PRB_CFG
    omega
  simp only [State.probeSet, hset]

theorem State.take_carries (a : Nat) : (s.take a v).carries = s.carries := rfl

theorem State.takePrbCfg_newProbe : (s.take (R.TILE_LP_PRB_CFG n) v).newProbe n = ⟨0, (s.probeSet n).map fun e => (e, s.carries e),
    (s.take (R.TILE_LP_PRB_CFG n) v).rd (R.TILE_LP_PRB_CFG n), s.rd (R.TILE_LP_PRB_AMP n), s.rd (R.TILE_LP_PRB_TIME n),
    s.rd (R.TILE_LP_PRB_CHIRP n)⟩ := by
  have hamp : R.TILE_LP_PRB_AMP n ≠ R.TILE_LP_PRB_CFG n := tileReg_ne (by decide) n
  have htime : R.TILE_LP_PRB_TIME n ≠ R.TILE_LP_PRB_CFG n := tileReg_ne (by decide) n
  have hchirp : R.TILE_LP_PRB_CHIRP n ≠ R.TILE_LP_PRB_CFG n := tileReg_ne (by decide) n
  rw [State.newProbe, State.takePrbCfg_probeSet, State.take_carries, s.takePrbCfg_rd n v hamp, s.takePrbCfg_rd n v htime,
    s.takePrbCfg_rd n v hchirp]

theorem State.probeStarted_get (g : Fld) : (s.probeStarted n v).get g = ((s.take (R.TILE_LP_PRB_CFG n) v).probeRuns n).get g :=
  State.setTile_get _ _ _ _

theorem State.probeStarted_flag (g : Fld) : (s.probeStarted n v).flag g = ((s.take (R.TILE_LP_PRB_CFG n) v).probeRuns n).flag g :=
  State.flag_congr (s.probeStarted_get n v g)

theorem State.probeStarted_tile : (s.probeStarted n v).tile n = { ((s.take (R.TILE_LP_PRB_CFG n) v).probeRuns n).tile n with
    probe := some ((s.take (R.TILE_LP_PRB_CFG n) v).newProbe n), stopDue := bit v 1 } := State.tile_setTile_self _ _ _

theorem State.probeStarted_prbCfg : (s.probeStarted n v).rd (R.TILE_LP_PRB_CFG n) = (s.take (R.TILE_LP_PRB_CFG n) v).rd (R.TILE_LP_PRB_CFG n) := by
  obtain ⟨-, -, hrd⟩ := (s.take (R.TILE_LP_PRB_CFG n) v).probeRuns_touches n
  rw [State.probeStarted, State.setTile_rd]
  exact hrd _ (prbCfg_not_mem_runs n) fun c => absurd c.1 List.not_mem_nil

theorem State.probeStarted_touches :
    s.Touches (s.probeStarted n v) [.tiles] [R.TILE_LP_PRB_CFG n, R.TILE_LP_PRB_STS n, R.TILE_LP_CAP_WP n] :=
  ((State.Touches.take s _ v (.head _)).trans ((State.probeRuns_touches _ n).mono (by simp) (by simp))).trans (.setTile _ n _ (.head _))

/-- The probe that a START begins, by the registers before the write. -/
theorem State.probeStarted_probe : ∃ p, ((s.probeStarted n v).tile n).probe = some p ∧ p.k = 0 ∧
    p.set = (s.probeSet n).map (fun e => (e, s.carries e)) ∧ p.cfg = (s.probeStarted n v).rd (R.TILE_LP_PRB_CFG n) ∧
    p.amp = s.rd (R.TILE_LP_PRB_AMP n) ∧ p.time = s.rd (R.TILE_LP_PRB_TIME n) ∧ p.chirp = s.rd (R.TILE_LP_PRB_CHIRP n) := by
  rw [State.probeStarted_tile, s.takePrbCfg_newProbe n v]
  refine ⟨_, rfl, rfl, rfl, ?_, rfl, rfl, rfl⟩
  rw [State.probeStarted_prbCfg]

end

theorem probeStart_leaves (s : State) (n : Fin 20) (v : Word) (hs : s.Served) (hstart : bit v 0 = true) : Leaves (.probeStart n v) s fun t =>
    let fails := s.probeFails n v
    (∀ x, fails.find? (·.1) = some x → t.get (R.TILE_LP_PRB_STS_END n) = x.2 ∧ t.tile n = s.tile n ∧
      ((s.tile n).probe = none → t.get (R.TILE_LP_PRB_STS_STATE n) = 0) ∧ s.Touches t [.recorder, .frames] [R.TILE_LP_PRB_STS n]) ∧
    (fails.find? (·.1) = none → t.get (R.TILE_LP_PRB_STS_STATE n) = 1 ∧ t.flag (R.TILE_LP_PRB_STS_FULL n) = false ∧
      t.get (R.TILE_LP_CAP_WP_WP n) = 0 ∧ (t.tile n).stopDue = bit v 1 ∧
      (∃ p, (t.tile n).probe = some p ∧ p.k = 0 ∧ p.set = (s.probeSet n).map (fun e => (e, s.carries e)) ∧ p.cfg = t.rd (R.TILE_LP_PRB_CFG n) ∧
        p.amp = s.rd (R.TILE_LP_PRB_AMP n) ∧ p.time = s.rd (R.TILE_LP_PRB_TIME n) ∧ p.chirp = s.rd (R.TILE_LP_PRB_CHIRP n)) ∧
      s.Touches t [.tiles] [R.TILE_LP_PRB_CFG n, R.TILE_LP_PRB_STS n, R.TILE_LP_CAP_WP n]) := by
  refine leaves_bar _ rfl hs ?_
  intro fails
  rw [doProbeStart_eq hstart]
  refine ⟨fun x hx => ?_, fun hnone => ?_⟩
  · rw [firstCode_of_some hx, Option.elim_some]
    exact ⟨s.probeRefused_end n (State.probeFails_lt hx), s.probeRefused_tile n x.2 n, s.probeRefused_idle n x.2, s.probeRefused_touches n x.2⟩
  · rw [firstCode_of_none hnone, Option.elim_none]
    refine ⟨?_, ?_, ?_, ?_, s.probeStarted_probe n v, s.probeStarted_touches n v⟩
    · rw [State.probeStarted_get, State.probeRuns_state]
    · rw [State.probeStarted_flag, State.probeRuns_full]
    · rw [State.probeStarted_get, State.probeRuns_wp]
    · rw [State.probeStarted_tile]

/-! ## STOP (R274) -/

/-- A running probe marked to end at the next frame edge. -/
def State.stopProbe (s : State) (n : Nat) : State := if (s.tile n).probe.isSome then s.setTile n { s.tile n with stopDue := true } else s

theorem State.stopProbe_tile (s : State) (n : Nat) :
    (s.stopProbe n).tile n = if (s.tile n).probe.isSome then { s.tile n with stopDue := true } else s.tile n := by
  rw [State.stopProbe]
  split
  · rw [State.tile_setTile_self]
  · rfl

theorem State.stopProbe_touches (s : State) (n : Nat) : s.Touches (s.stopProbe n) [.tiles] [] := by
  rw [State.stopProbe]
  split
  · exact .setTile s n _ (.head _)
  · exact .refl s _ _

theorem doProbeStop_eq {n : Fin 20} {v : Word} (hstop : bit v 1 = true) (hstart : bit v 0 = false) (s : State) :
    doProbeStop n v s = (s.take (R.TILE_LP_PRB_CFG n) v).stopProbe n := by
  have hrow : doProbeStop n v s = probeCfgWrite n v s := if_pos hstop
  have hnoStart : ¬ bit v 0 = true := by rw [hstart]; exact Bool.false_ne_true
  have hwrite : probeCfgWrite n v s = if bit v 1 && ((s.take (R.TILE_LP_PRB_CFG n) v).tile n).probe.isSome then
      (s.take (R.TILE_LP_PRB_CFG n) v).setTile n { (s.take (R.TILE_LP_PRB_CFG n) v).tile n with stopDue := true }
      else s.take (R.TILE_LP_PRB_CFG n) v := if_neg hnoStart
  rw [hrow, hwrite, hstop, Bool.true_and, State.stopProbe]

theorem probeStop_leaves (s : State) (n : Fin 20) (v : Word) (hs : s.Served) (hstop : bit v 1 = true) (hstart : bit v 0 = false) :
    Leaves (.probeStop n v) s fun t =>
      t.rd (R.TILE_LP_PRB_CFG n) = (s.take (R.TILE_LP_PRB_CFG n) v).rd (R.TILE_LP_PRB_CFG n) ∧
      t.tile n = (if (s.tile n).probe.isSome then { s.tile n with stopDue := true } else s.tile n) ∧
      s.Touches t [.tiles] [R.TILE_LP_PRB_CFG n] := by
  refine leaves_bar _ rfl hs ?_
  rw [doProbeStop_eq hstop hstart]
  set u := s.take (R.TILE_LP_PRB_CFG n) v with hu
  obtain ⟨-, -, hrd⟩ := u.stopProbe_touches n
  refine ⟨hrd _ List.not_mem_nil fun c => absurd c.1 (by decide), ?_, ?_⟩
  · rw [State.stopProbe_tile, hu, State.take_tile]
  · exact (State.Touches.take s _ v (.head _)).trans ((u.stopProbe_touches n).mono (fun _ h => h) (by simp))

/-! ## What a probe injects (R272) -/

theorem Probe.inject_outside (p : Probe) (e k : Nat) (h : k < bits p.time 15 0 ∨ bits p.time 15 0 + bits p.time 31 16 ≤ k) : p.inject e k = 0 := by
  refine if_neg ?_
  dsimp only [Probe.phase]
  rcases h with hbefore | hafter
  · rw [if_pos hbefore]
    decide
  · rw [if_neg (by omega), if_neg (by omega)]
    split <;> decide

theorem Probe.inject_inside (p : Probe) (e k : Nat) (hfrom : bits p.time 15 0 ≤ k) (hto : k < bits p.time 15 0 + bits p.time 31 16) :
    p.inject e k = p.value e (k - bits p.time 15 0) := by
  refine if_pos ?_
  dsimp only [Probe.phase]
  rw [if_neg (by omega), if_pos hto]

section
variable (p : Probe) (e k : Nat)

theorem Probe.value_step (h : bits p.cfg 3 2 = 0) : p.value e k = sx 16 (bits p.amp 15 0) := by simp only [Probe.value, h]

theorem Probe.value_prbs (h : bits p.cfg 3 2 = 1) :
    p.value e k = sx 16 (bits p.amp 15 0) ∨ p.value e k = Int.neg (sx 16 (bits p.amp 15 0)) := by
  have hvalue : p.value e k = if prbsBit (bits p.cfg 31 23) (e % 4096) k then sx 16 (bits p.amp 15 0) else -sx 16 (bits p.amp 15 0) := by
    simp only [Probe.value, h]
  rw [hvalue]
  split
  · exact .inl rfl
  · exact .inr rfl

theorem Probe.value_none (h : bits p.cfg 3 2 = 3) : p.value e k = 0 := by simp only [Probe.value, h]

end

/-! ## A read of `TILE_LP_CAP_DATA` (R276) -/

theorem State.get_with_bus (s : State) (x : Word) (f : Fld) : { s with bus := x }.get f = s.get f := rfl

theorem capDataRead_leaves (s : State) (n : Fin 20) (hs : s.Served) : Leaves (.capDataRead n) s fun t =>
    let a := s.get (R.TILE_LP_CAP_ADDR_ADDR n)
    t.bus = Tbl.getD (s.tile n).cap a 0 ∧ t.get (R.TILE_LP_CAP_ADDR_ADDR n) = (a + 1) % 2 ^ 18 ∧ s.Touches t [.bus] [R.TILE_LP_CAP_ADDR n] := by
  refine leaves_bar _ rfl hs ?_
  intro a
  have hread : doCapDataRead n s = { s.put (R.TILE_LP_CAP_ADDR_ADDR n) (a + 1) with bus := Tbl.getD (s.tile n).cap a 0 } := rfl
  have hnext : (s.put (R.TILE_LP_CAP_ADDR_ADDR n) (a + 1)).get (R.TILE_LP_CAP_ADDR_ADDR n) = (a + 1) % 2 ^ 18 :=
    s.get_put_self _ _ (Fld.ok_of_formed rfl)
  rw [hread, State.get_with_bus]
  exact ⟨rfl, hnext, (State.Touches.put s (R.TILE_LP_CAP_ADDR_ADDR n) (a + 1) (.head _)).trans (.with_bus _ _ (.head _))⟩

end Sys2Proof.Machine
end

section
/-!
PROOFS. Learning runs (R277, R279): the conditions on START in order, a run begun and a run aborted, and O37.
-/
namespace Sys2Proof.Machine

/-! ## Writes of `TILE_LP_XL_CTL` -/

/-- The conditions of R277 with their codes, in order. -/
def State.learnFails (s : State) (n : Nat) : List (Bool × Nat) := s.freeFails n ++ [(s.flag (R.TILE_LP_CTL_XT_EN n), Code.CFG_XT_LOCKED)]

theorem State.learnFails_lt {s : State} {n : Nat} {x : Bool × Nat} (h : (s.learnFails n).find? (·.1) = some x) : x.2 < 2 ^ 16 := by
  have hall : ∀ y ∈ s.learnFails n, y.2 < 2 ^ 16 := by
    simp [State.learnFails, State.freeFails, Code.THM_THROTTLED, Code.CFG_CAPTURE_BUSY, Code.CFG_XT_LOCKED]
  exact hall x (List.mem_of_find?_eq_some h)

/-- A running learning run ended where a write of `TILE_LP_XL_CTL` sets ABORT. -/
def State.abortAsked (s : State) (n : Nat) (v : Word) : State := if bit v 1 && (s.tile n).learn.isSome then s.endLearn n 3 Code.DONE else s

/-- A START refused: STATE idle unless a run is in progress, its code in END, and the event. -/
def State.learnRefused (s : State) (n code : Nat) : State :=
  ((if (s.tile n).learn.isSome then s else s.put (R.TILE_LP_XL_CTL_STATE n) 0).put (R.TILE_LP_XL_CTL_END n) code).ev (Ev.learningEnded n) code

/-- STATE runs, in the first pass of the first repetition. -/
def State.learnRuns (s : State) (n : Nat) : State :=
  ((s.put (R.TILE_LP_XL_CTL_STATE n) 1).put (R.TILE_LP_XL_CTL_PASS n) 0).put (R.TILE_LP_XL_CTL_REP n) 0

/-- A START accepted. -/
def State.learnStarted (s : State) (n : Nat) (v : Word) : State :=
  let u := (s.take (R.TILE_LP_XL_CTL n) v).learnRuns n
  u.setTile n { u.tile n with learn := some ⟨0, 0, 0, [], [], []⟩ }

theorem learnCtlWrite_start {n : Nat} {v : Word} (hstart : bit v 0 = true) (s : State) : learnCtlWrite n v s =
    (firstCode ((s.abortAsked n v).learnFails n)).elim ((s.abortAsked n v).learnStarted n v) ((s.abortAsked n v).learnRefused n) := by
  rw [State.learnFails, firstCode_append, ← State.probeFree_eq, firstCode_cons, firstCode_nil]
  refine (if_pos hstart).trans ?_
  change (match (match (s.abortAsked n v).probeFree n with
    | some c => some c
    | none => if (s.abortAsked n v).flag (R.TILE_LP_CTL_XT_EN n) then some Code.CFG_XT_LOCKED else none) with
    | some c => (s.abortAsked n v).learnRefused n c
    | none => (s.abortAsked n v).learnStarted n v) = _
  generalize s.abortAsked n v = u
  cases u.probeFree n with
  | some c => rfl
  | none => cases u.flag (R.TILE_LP_CTL_XT_EN n) <;> rfl

theorem learnCtlWrite_other {n : Nat} {v : Word} (hstart : bit v 0 = false) (s : State) :
    learnCtlWrite n v s = (s.abortAsked n v).take (R.TILE_LP_XL_CTL n) v := if_neg (show ¬ bit v 0 = true by simp [hstart])

/-! ## START (R277) -/

theorem xlCtl_not_evtReg (n : Nat) : ¬ evtReg (R.TILE_LP_XL_CTL n) := tileReg_not_evtReg (Nat.le_add_right _ _)

theorem xlCtl_fields : ∀ n : Fin 20, fieldsAt (R.TILE_LP_XL_CTL n) =
    [⟨31, 16, .ro, 0⟩, ⟨15, 14, .ro, 0⟩, ⟨13, 12, .ro, 0⟩, ⟨11, 8, .ro, 0⟩, ⟨2, 2, .rw, 0⟩, ⟨1, 1, .w1s, 0⟩, ⟨0, 0, .w1s, 0⟩] := by
  decide +kernel

section
variable (s : State) (n : Fin 20)

/-- AUTO_APPLY is the one field of `TILE_LP_XL_CTL` that a write takes. -/
theorem State.take_xlCtl (v : Word) : s.take (R.TILE_LP_XL_CTL n) v = s.put (R.TILE_LP_XL_CTL_AUTO_APPLY n) (bits v 2 2) := by
  rw [State.take, xlCtl_fields]
  rfl

theorem State.abortAsked_not {v : Word} (h : bit v 1 = false) : s.abortAsked n v = s := by
  rw [State.abortAsked, h, Bool.false_and, if_neg Bool.false_ne_true]

theorem State.learnRefused_end {code : Nat} (h : code < 2 ^ 16) : (s.learnRefused n code).get (R.TILE_LP_XL_CTL_END n) = code := by
  rw [State.learnRefused, State.ev_get _ _ _ (learnEvent_lt n) (xlCtl_not_evtReg n)]
  exact State.get_put_fits _ _ _ (Fld.ok_of_formed rfl) h

theorem State.learnRefused_idle (code : Nat) (h : (s.tile n).learn = none) : (s.learnRefused n code).get (R.TILE_LP_XL_CTL_STATE n) = 0 := by
  rw [State.learnRefused, State.ev_get _ _ _ (learnEvent_lt n) (xlCtl_not_evtReg n), State.get_put_beside _ _ rfl, h, Option.isSome_none,
    if_neg Bool.false_ne_true]
  exact State.get_put_self _ _ _ (Fld.ok_of_formed rfl)

theorem State.learnRefused_tile (code k : Nat) : (s.learnRefused n code).tile k = s.tile k := by
  rw [State.learnRefused, State.tile_congr (State.ev_tiles _ _ _ (learnEvent_lt n)), State.put_tile]
  split
  · rfl
  · rw [State.put_tile]

theorem State.learnRefused_touches (code : Nat) : s.Touches (s.learnRefused n code) [.recorder, .frames] [R.TILE_LP_XL_CTL n] := by
  have hidle : s.Touches (if (s.tile n).learn.isSome then s else s.put (R.TILE_LP_XL_CTL_STATE n) 0) [.recorder, .frames] [R.TILE_LP_XL_CTL n] := by
    split
    · exact .refl s _ _
    · exact .put s (R.TILE_LP_XL_CTL_STATE n) 0 (.head _)
  rw [State.learnRefused]
  exact (hidle.trans (.put _ (R.TILE_LP_XL_CTL_END n) code (.head _))).trans (.ev _ _ _ (learnEvent_lt n) (.head _) (.tail _ (.head _)))

end

section
variable (s : State) (n : Nat)

theorem State.learnRuns_state : (s.learnRuns n).get (R.TILE_LP_XL_CTL_STATE n) = 1 := by
  rw [State.learnRuns, State.get_put_beside _ _ rfl, State.get_put_beside _ _ rfl]
  exact State.get_put_self _ _ _ (Fld.ok_of_formed rfl)

theorem State.learnRuns_pass : (s.learnRuns n).get (R.TILE_LP_XL_CTL_PASS n) = 0 := by
  rw [State.learnRuns, State.get_put_beside _ _ rfl]
  exact State.get_put_self _ _ _ (Fld.ok_of_formed rfl)

theorem State.learnRuns_rep : (s.learnRuns n).get (R.TILE_LP_XL_CTL_REP n) = 0 := State.get_put_self _ _ _ (Fld.ok_of_formed rfl)

theorem State.learnRuns_autoApply : (s.learnRuns n).get (R.TILE_LP_XL_CTL_AUTO_APPLY n) = s.get (R.TILE_LP_XL_CTL_AUTO_APPLY n) := by
  rw [State.learnRuns, State.get_put_beside _ _ rfl, State.get_put_beside _ _ rfl, State.get_put_beside _ _ rfl]

theorem State.learnRuns_touches {ps : List Part} {rs : List Nat} (h : R.TILE_LP_XL_CTL n ∈ rs) : s.Touches (s.learnRuns n) ps rs := by
  rw [State.learnRuns]
  exact ((State.Touches.put s (R.TILE_LP_XL_CTL_STATE n) 1 h).trans (.put _ (R.TILE_LP_XL_CTL_PASS n) 0 h)).trans
    (.put _ (R.TILE_LP_XL_CTL_REP n) 0 h)

theorem State.learnStarted_get (v : Word) (g : Fld) : (s.learnStarted n v).get g = ((s.take (R.TILE_LP_XL_CTL n) v).learnRuns n).get g :=
  State.setTile_get _ _ _ _

theorem State.learnStarted_learn (v : Word) : ((s.learnStarted n v).tile n).learn = some ⟨0, 0, 0, [], [], []⟩ := by
  rw [State.learnStarted, State.tile_setTile_self]

theorem State.learnStarted_touches (v : Word) : s.Touches (s.learnStarted n v) [.tiles] [R.TILE_LP_XL_CTL n] :=
  ((State.Touches.take s _ v (.head _)).trans (State.learnRuns_touches _ n (.head _))).trans (.setTile _ n _ (.head _))

end

theorem State.learnStarted_autoApply (s : State) (n : Fin 20) (v : Word) :
    (s.learnStarted n v).flag (R.TILE_LP_XL_CTL_AUTO_APPLY n) = bit v 2 := by
  have hput : (s.put (R.TILE_LP_XL_CTL_AUTO_APPLY n) (bits v 2 2)).get (R.TILE_LP_XL_CTL_AUTO_APPLY n) = bits v 2 2 :=
    s.get_put_fits _ _ (Fld.ok_of_formed rfl) (bits_lt v 2 2)
  rw [State.flag, State.learnStarted_get, State.learnRuns_autoApply, State.take_xlCtl, hput]
  rfl

theorem doLearnStart_eq {n : Fin 20} {v : Word} (hstart : bit v 0 = true) (habort : bit v 1 = false) (s : State) :
    doLearnStart n v s = (firstCode (s.learnFails n)).elim (s.learnStarted n v) (s.learnRefused n) := by
  have hrow : doLearnStart n v s = learnCtlWrite n v s := if_pos hstart
  rw [hrow, learnCtlWrite_start hstart, s.abortAsked_not n habort]

theorem learnStart_leaves (s : State) (n : Fin 20) (v : Word) (hs : s.Served) (hstart : bit v 0 = true) (habort : bit v 1 = false) :
    Leaves (.learnStart n v) s fun t =>
      let fails := s.learnFails n
      (∀ x, fails.find? (·.1) = some x → t.get (R.TILE_LP_XL_CTL_END n) = x.2 ∧ t.tile n = s.tile n ∧
        ((s.tile n).learn = none → t.get (R.TILE_LP_XL_CTL_STATE n) = 0) ∧ s.Touches t [.recorder, .frames] [R.TILE_LP_XL_CTL n]) ∧
      (fails.find? (·.1) = none → t.get (R.TILE_LP_XL_CTL_STATE n) = 1 ∧ t.get (R.TILE_LP_XL_CTL_PASS n) = 0 ∧ t.get (R.TILE_LP_XL_CTL_REP n) = 0 ∧
        t.flag (R.TILE_LP_XL_CTL_AUTO_APPLY n) = bit v 2 ∧
        (∃ l, (t.tile n).learn = some l ∧ l.k = 0 ∧ l.pass = 0 ∧ l.rep = 0 ∧ l.sums = [] ∧ l.dead = []) ∧
        s.Touches t [.tiles] [R.TILE_LP_XL_CTL n]) := by
  refine leaves_bar _ rfl hs ?_
  intro fails
  rw [doLearnStart_eq hstart habort]
  refine ⟨fun x hx => ?_, fun hnone => ?_⟩
  · rw [firstCode_of_some hx, Option.elim_some]
    exact ⟨s.learnRefused_end n (State.learnFails_lt hx), s.learnRefused_tile n x.2 n, s.learnRefused_idle n x.2, s.learnRefused_touches n x.2⟩
  · rw [firstCode_of_none hnone, Option.elim_none]
    refine ⟨?_, ?_, ?_, s.learnStarted_autoApply n v, ⟨_, s.learnStarted_learn n v, rfl, rfl, rfl, rfl, rfl⟩, s.learnStarted_touches n v⟩
    · rw [State.learnStarted_get, State.learnRuns_state]
    · rw [State.learnStarted_get, State.learnRuns_pass]
    · rw [State.learnStarted_get, State.learnRuns_rep]

/-! ## ABORT (R279) -/

theorem State.endLearn_state (s : State) (n : Fin 20) (code : Nat) : (s.endLearn n 3 code).get (R.TILE_LP_XL_CTL_STATE n) = 3 := by
  rw [State.endLearn, State.ev_get _ _ _ (learnEvent_lt n) (xlCtl_not_evtReg n), State.get_put_beside _ _ rfl]
  exact State.get_put_fits _ _ _ (Fld.ok_of_formed rfl) (show 3 < 2 ^ 2 by decide)

theorem doLearnAbort_eq {n : Fin 20} {v : Word} {s : State} (habort : bit v 1 = true) (hstart : bit v 0 = false)
    (hruns : (s.tile n).learn.isSome = true) : doLearnAbort n v s = (s.endLearn n 3 Code.DONE).take (R.TILE_LP_XL_CTL n) v := by
  have hrow : doLearnAbort n v s = learnCtlWrite n v s := if_pos habort
  rw [hrow, learnCtlWrite_other hstart, State.abortAsked, habort, hruns, Bool.and_self, if_pos rfl]

theorem learnAbort_leaves (s : State) (n : Fin 20) (v : Word) (hs : s.Served) (habort : bit v 1 = true) (hstart : bit v 0 = false)
    (hruns : (s.tile n).learn.isSome = true) : Leaves (.learnAbort n v) s fun t =>
      (t.tile n).learn = none ∧ t.get (R.TILE_LP_XL_CTL_STATE n) = 3 ∧ t.tile n = { s.tile n with learn := none } ∧
      s.Touches t [.tiles, .recorder, .frames] [R.TILE_LP_XL_CTL n] := by
  refine leaves_bar _ rfl hs ?_
  rw [doLearnAbort_eq habort hstart hruns]
  set u := s.endLearn n 3 Code.DONE with hu
  have htile : (u.take (R.TILE_LP_XL_CTL n) v).tile n = { s.tile n with learn := none } := by
    rw [State.take_tile, hu, State.endLearn_tile]
  refine ⟨?_, ?_, htile, ?_⟩
  · rw [htile]
  · rw [State.take_xlCtl, State.get_put_beside _ _ rfl, hu, State.endLearn_state]
  · exact (s.endLearn_touches n 3 Code.DONE (by decide) (by decide) (by decide) (.head _)).trans (.take u _ v (.head _))

/-! ## O37 -/

/-- Settles O37: START, STOP and ABORT, the read of the capture buffer and the injection, each by its own lemma. -/
theorem probesLearningRunsAndCapture : Obligations.ProbesLearningRunsAndCapture := by
  unfold Obligations.ProbesLearningRunsAndCapture
  refine ⟨probeStart_leaves, probeStop_leaves, capDataRead_leaves, learnStart_leaves, learnAbort_leaves, fun p e k => ?_⟩
  intro d n amp
  refine ⟨p.inject_outside e k, fun hfrom hto => ?_⟩
  rw [p.inject_inside e k hfrom hto]
  exact ⟨p.value_step e _, p.value_prbs e _, p.value_none e _⟩

end Sys2Proof.Machine
end
